-- ==== Sys2Proof/Word.lean ====
section
/-! DEFINITION. Words: the register width (R3), the 64-bit quantities of register pairs, bytes, the 64-byte line
(Table SCP-3), and the plainest arithmetic on them. -/

namespace Sys2Proof

/-- A 32-bit register (R3). -/
abbrev Word := BitVec 32

/-- A 64-bit quantity: a register pair, a datum, a line mask. -/
abbrev Quad := BitVec 64

abbrev Byte := BitVec 8

/-- The 64 bytes of one line; byte k is bits 8k+7 to 8k. -/
abbrev Line := BitVec 512

end Sys2Proof
end

