-- ==== Sys2Proof/Machine/RegMap.lean ====
section
/-! DEFINITION. The register map of BAR2 (R501 to R504, Table REG-1): every software-visible register, its offset, its
reset value, the access type of each of its bits (Table SCP-5) and the reset that clears it (Table REG-2). The tables
restate the register summaries and field tables of the chapters (PLT-18, HPT-13, STG-5, CDS-8, TRV-8, MDC, DTM-4, PWR,
PFL, IME, CKE, ENG, PST, EVR, THM, SVY, REG-3). Bits in no mask of a row are RO or RSV. -/

namespace Sys2Proof.Machine

/-- The narrowest reset that gives a register its reset value (R504, Table REG-2). `good`: supplies good only, or a
register that R291 keeps over a cold reset while supplies stay good; `cke`: every reset but function-level (R389). -/
inductive RegDom
  | warm | cold | good | cke
  deriving DecidableEq, Repr

/-- One register: offset, reset value, and the masks of its RW, W1C, W1S, RC and WO bits. `snapZero`: its word in a
snapshot area reads 0 (R467). -/
structure RegRow where
  off : Nat
  reset : Nat
  rw : Nat
  w1c : Nat
  w1s : Nat
  rc : Nat
  wo : Nat
  dom : RegDom
  snapZero : Bool
  deriving DecidableEq, Repr

def pltRows0 : List RegRow := [
  ⟨0x10000, 0x10000001, 0, 0, 0, 0, 0, .cold, false⟩,
  ⟨0x10004, 0, 0, 0, 1, 0, 2, .cold, false⟩,
  ⟨0x10008, 0, 0, 0, 0, 0, 0, .cold, false⟩,
  ⟨0x1000c, 0, 0, 0, 0, 0, 0, .cold, false⟩,
  ⟨0x10010, 0, 0, 0, 0, 0, 0, .cold, false⟩,
  ⟨0x10014, 0, 0, 0, 0, 0, 0, .cold, false⟩,
  ⟨0x10018, 0, 0, 0, 0, 0, 0, .cold, false⟩,
  ⟨0x1001c, 0, 0, 0, 0, 0, 0, .cold, false⟩,
  ⟨0x10020, 0, 0, 0, 0, 0, 0, .cold, false⟩,
  ⟨0x10024, 0, 0, 0, 0, 0, 0, .cold, false⟩,
  ⟨0x10028, 0, 0, 0, 0, 0, 0, .cold, false⟩,
  ⟨0x1002c, 0, 0, 0, 0, 0, 0, .cold, false⟩,
  ⟨0x10030, 0, 0, 0, 0, 0, 0, .cold, false⟩,
  ⟨0x10034, 0, 0, 0, 0, 0, 0, .cold, false⟩,
  ⟨0x10038, 0, 0, 0, 0, 0, 0, .cold, false⟩,
  ⟨0x1003c, 0, 0, 0, 0, 0, 0, .cold, false⟩,
  ⟨0x10040, 0, 0, 0, 0, 0, 0, .cold, false⟩,
  ⟨0x10044, 0, 0, 0, 0, 0, 0, .cold, false⟩,
  ⟨0x10048, 0, 0, 0, 0, 0, 0, .cold, false⟩,
  ⟨0x1004c, 0, 0, 0, 0, 0, 0, .cold, false⟩,
  ⟨0x10050, 0, 0, 0, 0, 0, 0, .cold, false⟩,
  ⟨0x10054, 0, 0, 0, 0, 0, 0, .cold, false⟩,
  ⟨0x10058, 0, 0, 0, 0, 0, 0, .cold, false⟩,
  ⟨0x1005c, 0, 0, 0, 0, 0, 0, .cold, false⟩]
def pltRows1 : List RegRow := [
  ⟨0x10060, 0, 0, 0, 0, 0, 0, .cold, false⟩,
  ⟨0x10064, 0, 0xf, 0, 0, 0, 0, .cold, false⟩,
  ⟨0x10068, 0, 0, 0, 0, 0, 0, .cold, false⟩,
  ⟨0x1006c, 0, 0, 0, 0, 0, 0, .cold, false⟩,
  ⟨0x10070, 0, 0, 0, 0, 0, 0, .cold, false⟩,
  ⟨0x10074, 0, 0, 0, 0, 0, 0, .cold, false⟩,
  ⟨0x10078, 0, 0, 0, 0, 0, 0, .cold, false⟩,
  ⟨0x1007c, 0, 0, 0, 0, 0, 0, .cold, true⟩,
  ⟨0x10080, 0, 0, 0x1f, 0, 0, 0, .cold, false⟩,
  ⟨0x10084, 0, 0x1f, 0, 0, 0, 0, .cold, false⟩]
/-- The PLT block. -/
def pltRows : List RegRow := pltRows0 ++ pltRows1

def hptRows0 : List RegRow := [
  ⟨0, 0x20000000, 0, 0, 0, 0, 0, .warm, false⟩,
  ⟨4, 0, 3, 0, 0, 0, 0, .warm, false⟩,
  ⟨8, 1, 0, 0, 0, 0, 0, .warm, false⟩,
  ⟨0xc, 0, 0, 0, 0, 0, 0, .warm, false⟩,
  ⟨0x10, 0, 0, 0, 0, 0, 0, .warm, false⟩,
  ⟨0x14, 0, 3, 0, 0, 0, 0, .warm, false⟩,
  ⟨0x18, 0, 0, 0, 0, 0, 0, .warm, false⟩,
  ⟨0x1c, 0, 0, 0, 0, 0xffffffff, 0, .warm, false⟩,
  ⟨0x20, 0, 0, 0, 0, 0xffffffff, 0, .warm, false⟩,
  ⟨0x24, 0, 0, 0, 0, 0, 0, .warm, false⟩,
  ⟨0x28, 0, 0, 0, 0, 0xffffffff, 0, .warm, false⟩,
  ⟨0x2c, 0, 0, 0, 1, 0, 0, .warm, false⟩,
  ⟨0x30, 0, 0, 0, 0, 0, 0, .warm, false⟩,
  ⟨0x34, 0, 0, 0, 0, 0, 0, .warm, false⟩,
  ⟨0x38, 0, 0, 0, 0, 0, 0, .warm, false⟩,
  ⟨0x3c, 0, 0, 0, 0, 0, 0, .warm, false⟩,
  ⟨0x40, 0, 3, 0, 0, 0, 0, .warm, false⟩,
  ⟨0x44, 0, 0, 0, 0, 0xffffffff, 0, .warm, false⟩,
  ⟨0x48, 0, 0, 0, 0, 0, 0, .warm, false⟩,
  ⟨0x4c, 0, 0, 0, 0, 0, 0, .warm, false⟩,
  ⟨0x50, 0, 0, 0, 0, 0, 0, .warm, false⟩,
  ⟨0x54, 0, 0, 0, 0, 0, 0, .warm, false⟩,
  ⟨0x58, 0, 0, 0, 0, 0, 0, .warm, false⟩,
  ⟨0x5c, 0, 0, 0, 0, 0, 0, .warm, false⟩]
def hptRows1 : List RegRow := [
  ⟨0x60, 0, 0, 0, 0, 0, 0, .warm, false⟩,
  ⟨0x64, 0, 0, 0, 0, 0, 0, .warm, false⟩,
  ⟨0x68, 0, 0, 0, 0, 0, 0, .warm, false⟩,
  ⟨0x6c, 0, 0, 0, 0, 0, 0, .warm, false⟩,
  ⟨0x70, 0, 0, 0, 0, 0, 0, .warm, false⟩,
  ⟨0x74, 0, 0, 0, 0, 0, 0, .warm, false⟩,
  ⟨0x78, 0, 0, 0, 0, 0, 0, .warm, false⟩,
  ⟨0x7c, 0, 0, 0, 0, 0xffffffff, 0, .warm, false⟩,
  ⟨0x80, 0, 0, 0, 0, 0xffffffff, 0, .warm, false⟩,
  ⟨0x84, 0, 0, 0, 0, 0xffffffff, 0, .warm, false⟩,
  ⟨0x88, 0, 0, 0, 0, 0, 0, .warm, false⟩,
  ⟨0x8c, 0, 0, 0, 0, 0, 0, .warm, false⟩,
  ⟨0x90, 0, 0, 0, 0, 0xffffffff, 0, .warm, false⟩,
  ⟨0x94, 0, 0, 0, 0, 0xffffffff, 0, .warm, false⟩,
  ⟨0x98, 0, 0, 0xf, 0, 0, 0, .warm, false⟩,
  ⟨0x9c, 0, 0xf, 0, 0, 0, 0, .warm, false⟩,
  ⟨0xa0, 0, 0, 0xf, 0, 0, 0, .warm, false⟩,
  ⟨0xa4, 0, 0xf, 0, 0, 0, 0, .warm, false⟩,
  ⟨0xa8, 0, 0, 0, 0, 0, 0, .warm, true⟩,
  ⟨0xac, 0, 0, 0, 0, 0, 0, .warm, true⟩,
  ⟨0xb0, 0, 0, 0, 0, 0, 0, .warm, false⟩,
  ⟨0xb4, 0, 0, 0, 0, 0xffffffff, 0, .warm, false⟩]
/-- The HPT block. -/
def hptRows : List RegRow := hptRows0 ++ hptRows1

def stgRows0 : List RegRow := [
  ⟨0x30000, 0x30000000, 0, 0, 0, 0, 0, .cold, false⟩,
  ⟨0x30004, 1, 3, 0, 4, 0, 0, .warm, false⟩,
  ⟨0x30008, 0x80000000, 0, 0, 0, 0, 0, .cold, false⟩,
  ⟨0x3000c, 0, 0, 0, 0, 0, 0, .cold, false⟩,
  ⟨0x30010, 0, 0, 0, 0, 0, 0, .cold, false⟩,
  ⟨0x30014, 0, 0, 0, 0, 0, 0, .cold, false⟩,
  ⟨0x30018, 0, 0, 0, 0, 0, 0, .cold, false⟩,
  ⟨0x3001c, 0, 0, 0, 0, 0, 0, .cold, false⟩,
  ⟨0x30020, 0, 0, 0, 0, 0, 0, .cold, false⟩,
  ⟨0x30024, 0, 0, 0, 0, 0, 0, .cold, false⟩,
  ⟨0x30028, 0, 0xffffffff, 0, 0, 0, 0, .warm, false⟩,
  ⟨0x3002c, 0, 0xffffffff, 0, 0, 0, 0, .warm, false⟩,
  ⟨0x30030, 0, 0xffffffff, 0, 0, 0, 0, .warm, false⟩,
  ⟨0x30034, 0, 0, 0, 0, 0, 0, .cold, false⟩,
  ⟨0x30038, 0, 0, 0, 0, 0, 0, .cold, false⟩,
  ⟨0x3003c, 0x4000, 0, 0, 0, 0, 0, .cold, false⟩,
  ⟨0x30040, 0, 0, 0, 0, 0, 0, .cold, false⟩,
  ⟨0x30044, 0, 0, 0, 0, 0, 0, .cold, false⟩,
  ⟨0x30048, 0, 0, 0, 0, 0xffffffff, 0, .cold, false⟩,
  ⟨0x3004c, 0, 0, 0, 0, 0, 0, .cold, false⟩,
  ⟨0x30050, 0, 0, 0, 0, 0, 0, .cold, false⟩,
  ⟨0x30054, 0, 0, 0, 0, 0, 0, .cold, false⟩,
  ⟨0x30058, 0, 0, 0, 0, 0, 0, .cold, false⟩,
  ⟨0x3005c, 0, 0, 0, 0, 0, 0, .cold, false⟩]
def stgRows1 : List RegRow := [
  ⟨0x30060, 0, 0, 0, 0, 0, 0, .cold, false⟩,
  ⟨0x30064, 0, 0, 0, 0, 0, 0, .cold, false⟩,
  ⟨0x30068, 0, 0, 0, 0, 0, 0, .cold, false⟩,
  ⟨0x3006c, 0, 0, 0, 0, 0, 0, .cold, false⟩,
  ⟨0x30070, 0, 0, 0, 0, 0, 0, .cold, false⟩,
  ⟨0x30074, 0, 0, 0, 0, 0, 0, .cold, false⟩,
  ⟨0x30078, 0, 0, 0, 0, 0, 0, .cold, false⟩,
  ⟨0x3007c, 0, 0, 0, 0, 0, 0, .cold, false⟩,
  ⟨0x30080, 0, 0, 0, 0, 0, 0, .cold, false⟩,
  ⟨0x30084, 0, 0, 0, 0, 0, 0, .cold, false⟩,
  ⟨0x30088, 0, 0, 0, 0, 0xffffffff, 0, .cold, false⟩,
  ⟨0x3008c, 0, 0, 0, 0, 0xffffffff, 0, .cold, false⟩,
  ⟨0x30090, 0, 0, 0, 0, 0xffffffff, 0, .cold, false⟩,
  ⟨0x30094, 0, 0, 0, 0, 0xffffffff, 0, .cold, false⟩,
  ⟨0x30098, 0, 0, 0, 0, 0xffffffff, 0, .cold, false⟩,
  ⟨0x3009c, 0, 0, 0, 0, 0xffffffff, 0, .cold, false⟩,
  ⟨0x300a0, 0, 0, 0, 0, 0, 0, .cold, false⟩,
  ⟨0x300a4, 0, 0, 0, 0, 0, 0, .cold, false⟩,
  ⟨0x300a8, 0, 0, 0, 0, 0, 0, .cold, false⟩,
  ⟨0x300ac, 0, 0, 0, 0, 0, 0, .cold, false⟩,
  ⟨0x300b0, 0, 0, 0, 0, 0xffffffff, 0, .cold, false⟩,
  ⟨0x300b4, 0, 0, 0, 0, 0xffffffff, 0, .cold, false⟩,
  ⟨0x300b8, 0, 0, 0, 0, 0xffffffff, 0, .cold, false⟩,
  ⟨0x300bc, 0, 0, 0, 0, 0xffffffff, 0, .cold, false⟩]
def stgRows2 : List RegRow := [
  ⟨0x300c0, 0, 0, 0, 0, 0xffffffff, 0, .cold, false⟩,
  ⟨0x300c4, 0, 0, 0, 0, 0, 0, .cold, false⟩,
  ⟨0x300c8, 0, 0, 0, 0, 0, 0, .cold, false⟩,
  ⟨0x300cc, 0, 0, 0, 0, 0xffffffff, 0, .cold, false⟩,
  ⟨0x300d0, 0, 0, 0x3f, 0, 0, 0, .cold, false⟩,
  ⟨0x300d4, 0, 0x3f, 0, 0, 0, 0, .warm, false⟩,
  ⟨0x300d8, 0, 0, 0x3f, 0, 0, 0, .cold, false⟩,
  ⟨0x300dc, 0, 0x3f, 0, 0, 0, 0, .warm, false⟩,
  ⟨0x300e0, 0, 0, 0, 0, 0, 0, .cold, true⟩,
  ⟨0x300e4, 0, 0, 0, 0, 0, 0, .cold, true⟩]
/-- The STG block. -/
def stgRows : List RegRow := stgRows0 ++ stgRows1 ++ stgRows2

def cdsRows0 : List RegRow := [
  ⟨0x40000, 0x40000000, 0, 0, 0, 0, 0, .cold, false⟩,
  ⟨0x40004, 7, 7, 0, 0x18, 0, 0, .warm, false⟩,
  ⟨0x40008, 0, 0, 0, 0, 0, 0, .cold, false⟩,
  ⟨0x4000c, 0, 0, 0, 0, 0, 0, .cold, false⟩,
  ⟨0x40010, 0, 0, 0, 0, 0, 0, .cold, false⟩,
  ⟨0x40014, 0, 0, 0, 0, 0, 0, .cold, false⟩,
  ⟨0x40018, 4, 0xffffffff, 0, 0, 0, 0, .warm, false⟩,
  ⟨0x4001c, 0, 0, 0, 0, 0, 0, .cold, false⟩,
  ⟨0x40020, 0, 0, 0, 0, 0, 0, .cold, false⟩,
  ⟨0x40024, 8, 0xffffffff, 0, 0, 0, 0, .warm, false⟩,
  ⟨0x40028, 0, 0, 0, 0, 0xffffffff, 0, .cold, false⟩,
  ⟨0x4002c, 0, 0, 0, 0, 0, 0, .cold, false⟩,
  ⟨0x40030, 0, 0, 0, 0, 0, 0, .cold, false⟩,
  ⟨0x40034, 0, 0, 0, 0, 0, 0, .cold, false⟩,
  ⟨0x40038, 0, 0, 0, 0, 0, 0, .cold, false⟩,
  ⟨0x4003c, 0, 0, 0, 0, 0, 0, .cold, false⟩,
  ⟨0x40040, 0, 0, 0, 0, 0, 0, .cold, false⟩,
  ⟨0x40044, 0, 0, 0, 0, 0, 0, .cold, false⟩,
  ⟨0x40048, 0, 0, 0, 0, 0, 0, .cold, false⟩,
  ⟨0x4004c, 0, 0, 0, 0, 0, 0, .cold, false⟩,
  ⟨0x40050, 0, 0, 0, 0, 0, 0, .cold, false⟩,
  ⟨0x40054, 0, 0, 0, 0, 0, 0, .cold, false⟩,
  ⟨0x40058, 0x22, 0, 0, 0, 0, 0, .cold, false⟩,
  ⟨0x4005c, 0, 0, 0, 0, 0, 0, .cold, false⟩]
def cdsRows1 : List RegRow := [
  ⟨0x40060, 0, 0, 0, 0, 0, 0, .cold, false⟩,
  ⟨0x40064, 0, 0, 0, 0, 0, 0, .cold, false⟩,
  ⟨0x40068, 0x1000, 0xffffffff, 0, 0, 0, 0, .warm, false⟩,
  ⟨0x4006c, 0x200, 0xffffffff, 0, 0, 0, 0, .warm, false⟩,
  ⟨0x40070, 0, 0, 0, 0, 0xffffffff, 0, .cold, false⟩,
  ⟨0x40074, 0x200, 0xffffffff, 0, 0, 0, 0, .warm, false⟩,
  ⟨0x40078, 0, 0x7f, 0, 0, 0, 0, .warm, false⟩,
  ⟨0x4007c, 0, 0, 0, 0, 0, 0, .cold, false⟩,
  ⟨0x40080, 0, 0, 0, 0, 0, 0, .cold, false⟩,
  ⟨0x40084, 0, 0, 0, 0, 0, 0, .cold, false⟩,
  ⟨0x40088, 0, 0, 0, 0, 0, 0, .cold, false⟩,
  ⟨0x4008c, 8, 0xf, 0, 0, 0, 0, .warm, false⟩,
  ⟨0x40090, 0, 0, 0, 0, 0, 0, .cold, false⟩,
  ⟨0x40094, 0x10000, 0xffffffff, 0, 0, 0, 0, .warm, false⟩,
  ⟨0x40098, 0x4000, 0xffffffff, 0, 0, 0, 0, .warm, false⟩,
  ⟨0x4009c, 0, 0, 0, 0, 0, 0, .cold, false⟩,
  ⟨0x400a0, 0, 0, 0, 0, 0, 0, .cold, false⟩,
  ⟨0x400a4, 0, 0, 0, 0, 0, 0, .cold, false⟩,
  ⟨0x400a8, 0, 0, 0, 0, 0, 0, .cold, false⟩,
  ⟨0x400ac, 0, 0, 0, 0, 0, 0, .cold, false⟩,
  ⟨0x400b0, 0, 0, 0, 0, 0, 0, .cold, false⟩,
  ⟨0x400b4, 0, 0, 0, 0, 0, 0, .cold, false⟩,
  ⟨0x400b8, 0, 0, 0, 0, 0xffffffff, 0, .cold, false⟩,
  ⟨0x400bc, 0, 0xff0001, 0, 0, 0, 0, .warm, false⟩]
def cdsRows2 : List RegRow := [
  ⟨0x400c0, 0x14000000, 0, 0, 0, 0, 0, .cold, false⟩,
  ⟨0x400c4, 0, 0, 0, 0, 0, 0, .cold, false⟩,
  ⟨0x400c8, 0, 0, 0, 0, 0xffffffff, 0, .cold, false⟩,
  ⟨0x400cc, 0, 0, 0, 0, 0xffffffff, 0, .cold, false⟩,
  ⟨0x400d0, 0, 0, 0, 0, 0, 0, .cold, false⟩,
  ⟨0x400d4, 0, 0, 0, 0, 0, 0, .cold, false⟩,
  ⟨0x400d8, 0, 0x1ffff, 0, 0, 0, 0, .warm, false⟩,
  ⟨0x400dc, 0, 0, 0, 0, 0, 0, .cold, false⟩,
  ⟨0x400e0, 0, 0, 0, 0, 0, 0, .cold, false⟩,
  ⟨0x400e4, 0, 0, 0, 0, 0, 0, .cold, false⟩,
  ⟨0x400e8, 0, 0, 0x3f, 0, 0, 0, .cold, false⟩,
  ⟨0x400ec, 0, 0x3f, 0, 0, 0, 0, .warm, false⟩,
  ⟨0x400f0, 0, 0, 0xff, 0, 0, 0, .cold, false⟩,
  ⟨0x400f4, 0, 0xff, 0, 0, 0, 0, .warm, false⟩,
  ⟨0x400f8, 0, 0, 0, 0, 0, 0, .cold, true⟩,
  ⟨0x400fc, 0, 0, 0, 0, 0, 0, .cold, true⟩]
/-- The CDS block. -/
def cdsRows : List RegRow := cdsRows0 ++ cdsRows1 ++ cdsRows2

def dtmRows0 : List RegRow := [
  ⟨0x70000, 0x70000000, 0, 0, 0, 0, 0, .cold, false⟩,
  ⟨0x70004, 0, 4, 0, 1, 0, 2, .warm, false⟩,
  ⟨0x70008, 0, 0, 0, 0, 0, 0, .cold, false⟩,
  ⟨0x7000c, 0, 0, 0, 0, 0, 0, .cold, false⟩,
  ⟨0x70010, 0, 0, 0, 0, 0, 0, .good, false⟩,
  ⟨0x70014, 0, 0, 0, 0, 0, 0, .good, false⟩,
  ⟨0x70018, 0, 0, 0, 0, 0, 0, .good, false⟩,
  ⟨0x7001c, 0, 0, 0, 0, 0, 0, .good, false⟩,
  ⟨0x70020, 0, 0, 0, 0, 0, 0, .cold, false⟩,
  ⟨0x70024, 0, 0, 0, 0, 0, 0, .cold, false⟩,
  ⟨0x70028, 0x1f4, 0xffffffff, 0, 0, 0, 0, .warm, false⟩,
  ⟨0x7002c, 0x3e8, 0xffffffff, 0, 0, 0, 0, .warm, false⟩,
  ⟨0x70030, 0, 0, 0, 0, 0, 0, .cold, false⟩,
  ⟨0x70034, 0, 0, 0, 0, 0, 0, .cold, false⟩,
  ⟨0x70038, 0, 0, 0, 0, 0, 0, .cold, false⟩,
  ⟨0x7003c, 0, 0, 0, 0, 0, 0, .cold, false⟩,
  ⟨0x70040, 0, 0, 0, 0, 0xffffffff, 0, .cold, false⟩,
  ⟨0x70044, 0, 0, 0, 0, 0xffffffff, 0, .cold, false⟩,
  ⟨0x70048, 0, 0, 0, 0, 0, 0, .cold, false⟩,
  ⟨0x7004c, 0, 0, 0, 0, 0xffffffff, 0, .cold, false⟩,
  ⟨0x70050, 0, 0, 0, 0, 0xffffffff, 0, .cold, false⟩,
  ⟨0x70054, 0, 0, 0, 0, 0, 0, .cold, false⟩,
  ⟨0x70058, 0, 0xff, 0, 0, 0, 0, .warm, false⟩,
  ⟨0x7005c, 0, 0, 0, 0, 0, 0, .cold, false⟩]
def dtmRows1 : List RegRow := [
  ⟨0x70060, 0, 0, 0, 0, 0, 0, .cold, false⟩,
  ⟨0x70064, 0x35, 0xffff003f, 0, 0, 0, 0, .warm, false⟩,
  ⟨0x70068, 0, 0, 0, 0, 0, 1, .cold, true⟩,
  ⟨0x7006c, 0, 0, 0, 0, 0, 0, .cold, false⟩,
  ⟨0x70070, 0, 0, 0, 0, 0, 0, .cold, false⟩,
  ⟨0x70074, 0, 0, 0, 0, 0, 0, .cold, false⟩,
  ⟨0x70078, 0, 0, 0, 0, 0xffffffff, 0, .cold, false⟩,
  ⟨0x7007c, 0, 0, 0, 0, 0xffffffff, 0, .cold, false⟩,
  ⟨0x70080, 0, 0, 0xf, 0, 0, 0, .cold, false⟩,
  ⟨0x70084, 0, 0xf, 0, 0, 0, 0, .warm, false⟩,
  ⟨0x70088, 0, 0, 0xf, 0, 0, 0, .cold, false⟩,
  ⟨0x7008c, 0, 0xf, 0, 0, 0, 0, .warm, false⟩]
/-- The DTM block. -/
def dtmRows : List RegRow := dtmRows0 ++ dtmRows1

def trvRows : List RegRow := [
  ⟨0x50000, 0x50000000, 0, 0, 0, 0, 0, .cold, false⟩,
  ⟨0x50004, 0xf, 0xf, 0, 0, 0, 0, .warm, false⟩,
  ⟨0x50008, 0, 0, 0, 0, 0, 0, .cold, false⟩,
  ⟨0x5000c, 0, 0, 0, 0, 0, 0, .cold, false⟩,
  ⟨0x50010, 0, 0, 0, 0, 0, 0, .cold, false⟩,
  ⟨0x50014, 0, 0, 0, 0, 0, 0, .cold, false⟩,
  ⟨0x50018, 0x258, 0xffffffff, 0, 0, 0, 0, .warm, false⟩,
  ⟨0x5001c, 0x4b00048, 0xffff0000, 0, 0, 0, 0, .warm, false⟩,
  ⟨0x50020, 0, 0, 0, 0, 0xffffffff, 0, .cold, false⟩,
  ⟨0x50024, 0, 0, 0, 0, 0xffffffff, 0, .cold, false⟩,
  ⟨0x50028, 0, 0, 0, 0, 0xffffffff, 0, .cold, false⟩,
  ⟨0x5002c, 0, 0, 0, 0, 0, 0, .cold, false⟩,
  ⟨0x50030, 0, 0, 0, 0, 0xffffffff, 0, .cold, false⟩,
  ⟨0x50034, 0, 0, 0, 0, 0xffffffff, 0, .cold, false⟩,
  ⟨0x50038, 0, 0, 0, 0, 0xffffffff, 0, .cold, false⟩,
  ⟨0x5003c, 0, 0, 0xff, 0, 0, 0, .cold, false⟩,
  ⟨0x50040, 0, 0xff, 0, 0, 0, 0, .warm, false⟩,
  ⟨0x50044, 0, 0, 0xf, 0, 0, 0, .cold, false⟩,
  ⟨0x50048, 0, 0xf, 0, 0, 0, 0, .warm, false⟩,
  ⟨0x5004c, 0, 0, 0, 0, 0, 0, .cold, true⟩]

def trvChRows : List RegRow := [
  ⟨0, 0, 2, 0, 1, 0, 0, .warm, false⟩,
  ⟨4, 0, 0, 0, 0, 0, 0, .cold, false⟩,
  ⟨8, 0, 0, 0, 0, 0, 0, .cold, false⟩,
  ⟨0xc, 0x8800, 0xffffffff, 0, 0, 0, 0, .cold, false⟩,
  ⟨0x10, 0x80808080, 0, 0, 0, 0, 0, .cold, false⟩,
  ⟨0x14, 0, 0, 0, 0, 0xffffffff, 0, .cold, false⟩,
  ⟨0x18, 0, 0, 0, 0, 0, 0, .cold, false⟩,
  ⟨0x1c, 0, 0, 0, 0, 0, 0, .cold, true⟩]

def mdcRows0 : List RegRow := [
  ⟨0x60000, 0x60000000, 0, 0, 0, 0, 0, .cold, false⟩,
  ⟨0x60004, 0xf, 0xf, 0, 0x10, 0, 0, .warm, false⟩,
  ⟨0x60008, 0, 0, 0, 0, 0, 0, .cold, false⟩,
  ⟨0x6000c, 0x438, 0xffffffff, 0, 0, 0, 0, .warm, false⟩,
  ⟨0x60010, 0x50, 0xffffffff, 0, 0, 0, 0, .warm, false⟩,
  ⟨0x60014, 0x1a, 0xffffffff, 0, 0, 0, 0, .warm, false⟩,
  ⟨0x60018, 0x37, 0xffffffff, 0, 0, 0, 0, .warm, false⟩,
  ⟨0x6001c, 7, 0xffffffff, 0, 0, 0, 0, .warm, false⟩,
  ⟨0x60020, 0, 0, 0, 0, 0, 0, .cold, false⟩,
  ⟨0x60024, 9, 0xffffffff, 0, 0, 0, 0, .warm, false⟩,
  ⟨0x60028, 0, 0x3ff, 0, 0, 0, 0, .warm, false⟩,
  ⟨0x6002c, 0, 0, 0, 0, 0, 0, .cold, false⟩,
  ⟨0x60030, 0, 0, 0, 0, 0, 0, .cold, false⟩,
  ⟨0x60034, 0, 0, 0, 0, 0, 0, .cold, false⟩,
  ⟨0x60038, 0, 0, 0, 0, 0, 0, .cold, false⟩,
  ⟨0x6003c, 0, 0, 0, 0, 0xffffffff, 0, .cold, false⟩,
  ⟨0x60040, 0, 0, 0, 0, 0xffffffff, 0, .cold, false⟩,
  ⟨0x60044, 0, 0, 0, 0, 0, 0, .cold, false⟩,
  ⟨0x60048, 0, 0, 0, 0, 0, 0, .cold, false⟩,
  ⟨0x6004c, 0, 0, 0, 0, 0xffffffff, 0, .cold, false⟩,
  ⟨0x60050, 0, 0, 0, 0, 0xffffffff, 0, .cold, false⟩,
  ⟨0x60054, 0, 0, 0, 0, 0xffffffff, 0, .cold, false⟩,
  ⟨0x60058, 0, 0, 0, 0, 0xffffffff, 0, .cold, false⟩,
  ⟨0x6005c, 0, 0, 0, 0, 0xffffffff, 0, .cold, false⟩]
def mdcRows1 : List RegRow := [
  ⟨0x60060, 0, 0, 0, 0, 0xffffffff, 0, .cold, false⟩,
  ⟨0x60064, 0, 0, 0, 0, 0, 0, .cold, false⟩,
  ⟨0x60068, 0, 0, 0, 0, 0, 0, .cold, false⟩,
  ⟨0x6006c, 0, 0, 0, 0, 0, 0, .cold, false⟩,
  ⟨0x60070, 0, 0, 0, 0, 0, 0, .cold, false⟩,
  ⟨0x60074, 0, 0, 0, 0, 0, 0, .cold, false⟩,
  ⟨0x60078, 0, 0, 0, 0, 0, 0, .cold, false⟩,
  ⟨0x6007c, 0, 0, 0, 0, 0, 0, .cold, false⟩,
  ⟨0x60080, 0, 0, 0, 0, 0, 0, .cold, false⟩,
  ⟨0x60084, 0, 0, 0, 0, 0, 0, .cold, false⟩,
  ⟨0x60088, 0, 0, 0, 0, 0, 0, .cold, false⟩,
  ⟨0x6008c, 0, 0, 0x7f, 0, 0, 0, .cold, false⟩,
  ⟨0x60090, 0, 0x7f, 0, 0, 0, 0, .warm, false⟩,
  ⟨0x60094, 0, 0, 0xf, 0, 0, 0, .cold, false⟩,
  ⟨0x60098, 0, 0xf, 0, 0, 0, 0, .warm, false⟩,
  ⟨0x6009c, 0, 0, 0, 0, 0, 0, .cold, true⟩]
/-- The MDC block. -/
def mdcRows : List RegRow := mdcRows0 ++ mdcRows1

def pwrRows0 : List RegRow := [
  ⟨0x80000, 0x80000000, 0, 0, 0, 0, 0, .cold, false⟩,
  ⟨0x80004, 3, 7, 0, 8, 0, 0x10, .warm, false⟩,
  ⟨0x80008, 1, 0, 0, 0, 0, 0, .good, false⟩,
  ⟨0x8000c, 0, 0, 0, 0, 0, 0, .good, false⟩,
  ⟨0x80010, 0, 0, 0, 0, 0, 0, .cold, false⟩,
  ⟨0x80014, 0, 0, 0, 0, 0, 0, .cold, false⟩,
  ⟨0x80018, 0, 0, 0, 0, 0, 0, .cold, false⟩,
  ⟨0x8001c, 0, 0, 0, 0, 0, 0, .cold, false⟩,
  ⟨0x80020, 0, 0, 0, 0, 0, 0, .cold, false⟩,
  ⟨0x80024, 0, 0, 0, 0, 0, 0, .cold, false⟩,
  ⟨0x80028, 0, 0, 0, 0, 0, 0, .cold, false⟩,
  ⟨0x8002c, 0, 0, 0, 0, 0, 0, .cold, false⟩,
  ⟨0x80030, 0, 0, 0, 0, 0, 0, .good, false⟩,
  ⟨0x80034, 0, 0, 0, 0, 0, 0, .cold, false⟩,
  ⟨0x80038, 0, 0, 0, 0, 0, 0, .good, false⟩,
  ⟨0x8003c, 0, 0, 0, 0, 0, 0, .cold, false⟩,
  ⟨0x80040, 0, 0, 0, 0, 0, 0, .good, false⟩,
  ⟨0x80044, 0, 0, 0, 0, 0, 0, .good, false⟩,
  ⟨0x80048, 0, 0, 0, 0, 0, 0, .cold, false⟩,
  ⟨0x8004c, 0, 0, 0, 0, 0, 0, .cold, false⟩,
  ⟨0x80050, 0, 0, 0, 0, 0, 0, .good, false⟩,
  ⟨0x80054, 0, 0, 0, 0, 0, 0, .good, false⟩,
  ⟨0x80058, 0, 0, 0, 0, 0, 0, .good, false⟩,
  ⟨0x8005c, 0, 0, 0, 0, 0, 0, .good, false⟩]
def pwrRows1 : List RegRow := [
  ⟨0x80060, 0xa, 0xffffffff, 0, 0, 0, 0, .cold, false⟩,
  ⟨0x80064, 0x18, 0xffffffff, 0, 0, 0, 0, .cold, false⟩,
  ⟨0x80068, 0, 0xffffffff, 0, 0, 0, 0, .cold, false⟩,
  ⟨0x8006c, 0, 0, 0, 0, 0, 0, .good, false⟩,
  ⟨0x80070, 0, 0, 0, 0, 0, 0, .good, false⟩,
  ⟨0x80074, 0, 0, 0, 0, 0, 0, .good, false⟩,
  ⟨0x80078, 0, 0, 0, 0, 0, 0, .good, false⟩,
  ⟨0x8007c, 0, 0, 0, 0, 0, 0, .good, false⟩,
  ⟨0x80080, 0, 0, 0, 0, 0, 0, .cold, false⟩,
  ⟨0x80084, 0, 0, 0x7f, 0, 0, 0, .cold, false⟩,
  ⟨0x80088, 0, 0x7f, 0, 0, 0, 0, .warm, false⟩,
  ⟨0x8008c, 0, 0, 0x1f, 0, 0, 0, .cold, false⟩,
  ⟨0x80090, 0, 0x1f, 0, 0, 0, 0, .warm, false⟩,
  ⟨0x80094, 0, 0, 0, 0, 0, 0, .cold, true⟩]
/-- The PWR block. -/
def pwrRows : List RegRow := pwrRows0 ++ pwrRows1

def pflRows : List RegRow := [
  ⟨0x80100, 0, 0, 0, 3, 0, 0, .warm, false⟩,
  ⟨0x80104, 0, 0, 0, 0, 0, 0, .cold, false⟩,
  ⟨0x80108, 0, 0, 0, 0, 0, 0, .cold, false⟩,
  ⟨0x8010c, 0, 0, 0, 0, 0xffffffff, 0, .cold, false⟩,
  ⟨0x80110, 0, 0, 0, 0, 0xffffffff, 0, .cold, false⟩,
  ⟨0x80114, 0x7d0, 0xffffffff, 0, 0, 0, 0, .warm, false⟩,
  ⟨0x80118, 0, 0, 0, 0, 0, 0, .cold, false⟩,
  ⟨0x8011c, 0, 0, 0, 0, 0, 0, .cold, false⟩,
  ⟨0x80120, 0, 0, 0, 0, 0, 0, .cold, false⟩,
  ⟨0x80124, 0, 0, 0, 0, 0, 0, .cold, false⟩,
  ⟨0x80128, 0, 0, 0, 0, 0, 0, .cold, false⟩,
  ⟨0x8012c, 0, 0, 0, 0, 0, 0, .cold, false⟩,
  ⟨0x80130, 0, 0, 0, 0, 0, 0, .cold, false⟩,
  ⟨0x80134, 0, 0, 0, 0, 0, 0, .cold, false⟩,
  ⟨0x80138, 0, 0, 0, 0, 0, 0, .cold, false⟩,
  ⟨0x8013c, 0, 0, 0, 0, 0, 0, .cold, false⟩,
  ⟨0x80140, 0, 0, 0, 0, 0, 0, .cold, false⟩,
  ⟨0x80144, 0, 0, 0, 0, 0, 0, .cold, false⟩,
  ⟨0x80148, 0, 0, 0, 0, 0, 0, .cold, false⟩,
  ⟨0x8014c, 0, 0, 0, 0, 0, 0, .cold, false⟩,
  ⟨0x80150, 0, 0, 0x3ff, 0, 0, 0, .cold, false⟩,
  ⟨0x80154, 0, 0x3ff, 0, 0, 0, 0, .warm, false⟩,
  ⟨0x80158, 0, 0, 0x1f, 0, 0, 0, .cold, false⟩,
  ⟨0x8015c, 0, 0x1f, 0, 0, 0, 0, .warm, false⟩]

def imeRows0 : List RegRow := [
  ⟨0x90000, 0x90000000, 0, 0, 0, 0, 0, .cold, false⟩,
  ⟨0x90004, 7, 7, 0, 0, 0, 0, .warm, false⟩,
  ⟨0x90008, 0, 0, 0, 0, 0, 0, .cold, false⟩,
  ⟨0x9000c, 0xf, 0, 0, 0, 0, 0, .cold, false⟩,
  ⟨0x90010, 0, 0, 0, 0, 0, 0, .cold, false⟩,
  ⟨0x90014, 0, 0, 0, 0, 0, 0, .cold, false⟩,
  ⟨0x90018, 0, 0, 0, 0, 0, 0, .cold, false⟩,
  ⟨0x9001c, 0, 7, 0, 0, 0, 0, .warm, false⟩,
  ⟨0x90020, 0, 0, 0, 0, 0, 0, .cold, false⟩,
  ⟨0x90024, 0, 0, 0, 0, 0, 0, .cold, false⟩,
  ⟨0x90028, 0, 0, 0, 0, 0, 0, .cold, false⟩,
  ⟨0x9002c, 0, 0, 0, 0, 0, 0, .cold, false⟩,
  ⟨0x90030, 0, 0, 0, 0, 0, 0, .cold, false⟩,
  ⟨0x90034, 0, 0, 0, 0, 0, 0, .cold, false⟩,
  ⟨0x90038, 0, 0, 0, 0, 0, 0, .cold, false⟩,
  ⟨0x9003c, 0x8000, 0xffffffff, 0, 0, 0, 0, .warm, false⟩,
  ⟨0x90040, 0, 0, 0, 0, 0, 0, .cold, false⟩,
  ⟨0x90044, 0, 0, 0, 0, 0, 0, .cold, false⟩,
  ⟨0x90048, 0, 0, 0, 0, 0xffffffff, 0, .cold, false⟩,
  ⟨0x9004c, 0, 0, 0, 0, 0, 0, .cold, false⟩,
  ⟨0x90050, 0, 0, 0, 0, 0, 0, .cold, false⟩,
  ⟨0x90054, 0, 0, 0, 0, 0xffffffff, 0, .cold, false⟩,
  ⟨0x90058, 0, 0, 0, 0, 0xffffffff, 0, .cold, false⟩,
  ⟨0x9005c, 0, 0, 0, 0, 0xffffffff, 0, .cold, false⟩]
def imeRows1 : List RegRow := [
  ⟨0x90060, 0, 0, 0, 0, 0xffffffff, 0, .cold, false⟩,
  ⟨0x90064, 0, 0, 0, 0, 0xffffffff, 0, .cold, false⟩,
  ⟨0x90068, 0, 0, 0, 0, 0xffffffff, 0, .cold, false⟩,
  ⟨0x9006c, 0, 0, 0, 0, 0xffffffff, 0, .cold, false⟩,
  ⟨0x90070, 0, 0, 0, 0, 0, 0, .cold, false⟩,
  ⟨0x90074, 0, 0, 0, 0, 0, 0, .cold, false⟩,
  ⟨0x90078, 0, 0, 0, 0, 0, 0, .cold, false⟩,
  ⟨0x9007c, 0, 0, 0, 0, 0, 0, .cold, false⟩,
  ⟨0x90080, 0, 0xff, 0, 0, 0, 0, .warm, false⟩,
  ⟨0x90084, 0, 0, 0, 0, 0, 0, .cold, false⟩,
  ⟨0x90088, 0, 0, 0, 0, 0, 0, .cold, false⟩,
  ⟨0x9008c, 0, 0, 0, 0, 0, 0, .cold, false⟩,
  ⟨0x90090, 0, 0, 0, 0, 0, 0x10f, .cold, true⟩,
  ⟨0x90094, 0, 0xf, 0, 0, 0, 0, .warm, false⟩,
  ⟨0x90098, 0, 0, 0, 0, 0, 0, .cold, false⟩,
  ⟨0x9009c, 0, 0, 0, 0, 0, 0, .cold, false⟩,
  ⟨0x900a0, 0, 0, 0, 0, 0, 0, .cold, false⟩,
  ⟨0x900a4, 0, 0, 0, 0, 0, 0, .cold, false⟩,
  ⟨0x900a8, 0, 0, 0, 0, 0, 0, .cold, false⟩,
  ⟨0x900ac, 0, 0, 0, 0, 0xffffffff, 0, .cold, false⟩,
  ⟨0x900b0, 0, 0, 0, 0, 0, 0, .cold, false⟩,
  ⟨0x900b4, 0, 0, 0, 0, 0xffffffff, 0, .cold, false⟩,
  ⟨0x900b8, 0, 0, 0, 0, 0xffffffff, 0, .cold, false⟩,
  ⟨0x900bc, 0, 0, 0x1ff, 0, 0, 0, .cold, false⟩]
def imeRows2 : List RegRow := [
  ⟨0x900c0, 0, 0x1ff, 0, 0, 0, 0, .warm, false⟩,
  ⟨0x900c4, 0, 0, 0xf, 0, 0, 0, .cold, false⟩,
  ⟨0x900c8, 0, 0xf, 0, 0, 0, 0, .warm, false⟩,
  ⟨0x900cc, 0, 0, 0xf, 0, 0, 0, .cold, false⟩,
  ⟨0x900d0, 0, 0xf, 0, 0, 0, 0, .warm, false⟩,
  ⟨0x900d4, 0, 0, 0, 0, 0, 0, .cold, true⟩]
/-- The IME block. -/
def imeRows : List RegRow := imeRows0 ++ imeRows1 ++ imeRows2

def ckeRows0 : List RegRow := [
  ⟨0xa0000, 0xa0000000, 0, 0, 0, 0, 0, .cke, false⟩,
  ⟨0xa0004, 0, 1, 0, 0, 0, 0, .cke, false⟩,
  ⟨0xa0008, 0, 0, 0, 0, 0, 0, .cke, false⟩,
  ⟨0xa000c, 0, 0xfffff1f, 0, 0, 0, 0x80000000, .cke, false⟩,
  ⟨0xa0010, 0, 0, 0, 0, 0, 0, .cke, false⟩,
  ⟨0xa0014, 0, 0xffffffff, 0, 0, 0, 0, .cke, false⟩,
  ⟨0xa0018, 0, 0xffffffff, 0, 0, 0, 0, .cke, false⟩,
  ⟨0xa001c, 0, 0xffffffff, 0, 0, 0, 0, .cke, false⟩,
  ⟨0xa0020, 0, 0xffffffff, 0, 0, 0, 0, .cke, false⟩,
  ⟨0xa0024, 0, 0xffffffff, 0, 0, 0, 0, .cke, false⟩,
  ⟨0xa0028, 0, 0xffffffff, 0, 0, 0, 0, .cke, false⟩,
  ⟨0xa002c, 0, 0xffffffff, 0, 0, 0, 0, .cke, false⟩,
  ⟨0xa0030, 0, 0xffffffff, 0, 0, 0, 0, .cke, false⟩,
  ⟨0xa0034, 0, 0xffffffff, 0, 0, 0, 0, .cke, false⟩,
  ⟨0xa0038, 0, 0xffffffff, 0, 0, 0, 0, .cke, false⟩,
  ⟨0xa003c, 0, 0xffffffff, 0, 0, 0, 0, .cke, false⟩,
  ⟨0xa0040, 0, 0, 0, 0, 0, 0xffffffff, .cke, true⟩,
  ⟨0xa0044, 0, 0, 0, 0, 0, 0x80000f0f, .cke, true⟩,
  ⟨0xa0048, 0x1f, 0, 0, 0, 0, 0, .cke, false⟩,
  ⟨0xa004c, 0, 0xf, 0, 0, 0, 0, .cke, false⟩,
  ⟨0xa0050, 0, 0, 0, 0, 0, 0, .cke, false⟩,
  ⟨0xa0054, 0, 0, 0, 0, 0, 0, .cke, false⟩,
  ⟨0xa0058, 0, 0, 0, 0, 0, 0, .cke, false⟩,
  ⟨0xa005c, 0, 0, 0, 0, 0, 0, .cke, false⟩]
def ckeRows1 : List RegRow := [
  ⟨0xa0060, 0, 0, 0, 0, 0, 0, .cke, false⟩,
  ⟨0xa0064, 0, 0, 0, 0, 0, 0, .cke, false⟩,
  ⟨0xa0068, 0, 0, 0, 0, 0, 0xc00000ff, .cke, true⟩,
  ⟨0xa006c, 0, 0, 0, 0, 0, 0, .cke, false⟩,
  ⟨0xa0070, 0, 0x1fc, 0, 0, 0, 0, .cke, false⟩,
  ⟨0xa0074, 0, 0, 0, 0, 0, 0xffffffff, .cke, true⟩,
  ⟨0xa0078, 0, 0, 0, 0, 0, 0, .cke, false⟩,
  ⟨0xa007c, 0, 0, 0, 0, 0xffffffff, 0, .cke, false⟩,
  ⟨0xa0080, 0, 0, 0, 0, 0xffffffff, 0, .cke, false⟩,
  ⟨0xa0084, 0, 0, 0, 0, 0xffffffff, 0, .cke, false⟩,
  ⟨0xa0088, 0, 0, 0, 0, 0xffffffff, 0, .cke, false⟩,
  ⟨0xa008c, 0, 0, 0xff, 0, 0, 0, .cke, false⟩,
  ⟨0xa0090, 0, 0xff, 0, 0, 0, 0, .cke, false⟩,
  ⟨0xa0094, 0, 0, 7, 0, 0, 0, .cke, false⟩,
  ⟨0xa0098, 0, 7, 0, 0, 0, 0, .cke, false⟩,
  ⟨0xa009c, 0, 0, 0, 0, 0, 0, .cke, true⟩]
/-- The CKE block. -/
def ckeRows : List RegRow := ckeRows0 ++ ckeRows1

def engRows : List RegRow := [
  ⟨0xb0000, 0xb0000000, 0, 0, 0, 0, 0, .cold, false⟩,
  ⟨0xb0004, 0, 3, 0, 0, 0, 0, .warm, false⟩,
  ⟨0xb0008, 0, 0, 0, 0, 0, 0, .cold, false⟩,
  ⟨0xb000c, 0, 0, 0, 0, 0, 0, .cold, false⟩,
  ⟨0xb0010, 0, 0, 0, 0, 0, 0, .cold, false⟩,
  ⟨0xb0014, 0, 0, 0, 0, 0, 0, .cold, false⟩,
  ⟨0xb0018, 0, 0, 0, 0, 0xffffffff, 0, .cold, false⟩,
  ⟨0xb001c, 0, 0, 0, 0, 0xffffffff, 0, .cold, false⟩,
  ⟨0xb0020, 0, 0, 0x7f, 0, 0, 0, .cold, false⟩,
  ⟨0xb0024, 0, 0x7f, 0, 0, 0, 0, .warm, false⟩,
  ⟨0xb0028, 0, 0, 0xf, 0, 0, 0, .cold, false⟩,
  ⟨0xb002c, 0, 0xf, 0, 0, 0, 0, .warm, false⟩]

def engEnRows : List RegRow := [
  ⟨0, 0, 1, 0, 2, 0, 0, .warm, false⟩,
  ⟨4, 0xffff, 0, 0, 0, 0, 0, .cold, false⟩,
  ⟨8, 0, 0, 0, 0, 0xffffffff, 0, .cold, false⟩,
  ⟨0xc, 0, 0, 0, 0, 0, 0, .cold, true⟩]

def pstRows0 : List RegRow := [
  ⟨0xc0000, 0xc0000000, 0, 0, 0, 0, 0, .cold, false⟩,
  ⟨0xc0004, 0, 0x30, 0, 3, 0, 0, .warm, false⟩,
  ⟨0xc0008, 0x1c, 0, 0, 0, 0, 0, .cold, false⟩,
  ⟨0xc000c, 0, 0xffffff, 0, 0, 0, 0, .warm, false⟩,
  ⟨0xc0010, 0x100, 0x1ff, 0, 0, 0, 0, .warm, false⟩,
  ⟨0xc0014, 0, 0, 0, 0, 0, 0x80000007, .cold, true⟩,
  ⟨0xc0018, 0, 0x3f, 0, 0, 0, 0, .warm, false⟩,
  ⟨0xc001c, 0, 0xffffffff, 0, 0, 0, 0, .cold, false⟩,
  ⟨0xc0020, 0, 0, 0, 0, 0, 0, .cold, false⟩,
  ⟨0xc0024, 0, 3, 0, 0, 0, 0, .warm, false⟩,
  ⟨0xc0028, 0, 0, 0, 0, 0, 0, .cold, false⟩,
  ⟨0xc002c, 0, 0, 0, 0, 0, 0, .cold, false⟩,
  ⟨0xc0030, 0, 0, 0, 0, 0, 0, .cold, false⟩,
  ⟨0xc0034, 0, 0xf, 0, 0, 0, 0, .warm, false⟩,
  ⟨0xc0038, 0, 0, 0, 0, 0, 0, .cold, false⟩,
  ⟨0xc003c, 0, 0, 0, 0, 0, 0, .cold, false⟩,
  ⟨0xc0040, 0, 0, 0, 0, 0xffffffff, 0, .cold, false⟩,
  ⟨0xc0044, 0, 0, 0, 0, 0xffffffff, 0, .cold, false⟩,
  ⟨0xc0048, 0, 0, 0, 0, 0xffffffff, 0, .cold, false⟩,
  ⟨0xc004c, 0, 0, 0, 0, 0xffffffff, 0, .cold, false⟩,
  ⟨0xc0050, 0, 0, 0, 0, 0xffffffff, 0, .cold, false⟩,
  ⟨0xc0054, 0, 0, 0x7f, 0, 0, 0, .cold, false⟩,
  ⟨0xc0058, 0, 0x7f, 0, 0, 0, 0, .warm, false⟩,
  ⟨0xc005c, 0, 0, 0xf, 0, 0, 0, .cold, false⟩]
def pstRows1 : List RegRow := [
  ⟨0xc0060, 0, 0xf, 0, 0, 0, 0, .warm, false⟩,
  ⟨0xc0064, 0, 0, 0, 0, 0, 0, .cold, true⟩]
/-- The PST block. -/
def pstRows : List RegRow := pstRows0 ++ pstRows1

def evrRows0 : List RegRow := [
  ⟨0xd0000, 0xd0000000, 0, 0, 0, 0, 0, .cold, false⟩,
  ⟨0xd0004, 0x22, 0x33, 0, 0, 0, 0, .warm, false⟩,
  ⟨0xd0008, 0, 0, 0, 0, 0, 0, .cold, false⟩,
  ⟨0xd000c, 0, 0, 0, 0, 0x7f0000, 0, .cold, false⟩,
  ⟨0xd0010, 0, 0, 0, 0, 0xffffffff, 0, .cold, false⟩,
  ⟨0xd0014, 0, 0, 0, 0, 0, 7, .warm, true⟩,
  ⟨0xd0018, 0, 0xffffffff, 0, 0, 0, 0, .warm, false⟩,
  ⟨0xd001c, 0, 0, 0, 0, 0, 0, .cold, false⟩,
  ⟨0xd0020, 0, 0, 0, 0, 0, 0, .cold, false⟩,
  ⟨0xd0024, 0, 0, 0, 0, 0, 0, .cold, false⟩,
  ⟨0xd0028, 0, 0, 0, 0, 0, 0, .cold, false⟩,
  ⟨0xd002c, 0, 0, 0, 0, 0, 0, .cold, false⟩,
  ⟨0xd0030, 0, 0, 0, 0, 0, 0, .cold, false⟩,
  ⟨0xd0034, 0, 0, 0, 0, 0, 0, .cold, false⟩,
  ⟨0xd0038, 0, 0, 0, 0, 0, 0, .cold, false⟩,
  ⟨0xd003c, 0, 0, 0, 0, 0, 0, .cold, false⟩,
  ⟨0xd0040, 0, 0, 0, 0, 0, 0, .good, false⟩,
  ⟨0xd0044, 0, 0, 0, 0, 0, 0, .good, false⟩,
  ⟨0xd0048, 0, 0, 0, 0, 0, 0, .good, false⟩,
  ⟨0xd004c, 0, 0, 0, 0, 0, 0, .good, false⟩,
  ⟨0xd0050, 0, 0, 0, 0, 0, 0, .good, false⟩,
  ⟨0xd0054, 0, 0, 0, 0, 0, 0, .good, false⟩,
  ⟨0xd0058, 0, 0, 0, 0, 0, 0, .good, false⟩,
  ⟨0xd005c, 0, 0, 0, 0, 0, 0, .good, false⟩]
def evrRows1 : List RegRow := [
  ⟨0xd0060, 0, 0, 0, 0, 0, 0, .good, false⟩,
  ⟨0xd0064, 0, 0, 0x3f, 0, 0, 0, .cold, false⟩,
  ⟨0xd0068, 0, 0x3f, 0, 0, 0, 0, .warm, false⟩,
  ⟨0xd006c, 0, 0, 0xf, 0, 0, 0, .cold, false⟩,
  ⟨0xd0070, 0, 0xf, 0, 0, 0, 0, .warm, false⟩,
  ⟨0xd0074, 0, 0, 0, 0, 0, 0, .cold, true⟩]
/-- The EVR block. -/
def evrRows : List RegRow := evrRows0 ++ evrRows1

def thmRows : List RegRow := [
  ⟨0xe0000, 0xe0000000, 0, 0, 0, 0, 0, .cold, false⟩,
  ⟨0xe0004, 4, 0xf07, 0, 0, 0, 0, .warm, false⟩,
  ⟨0xe0008, 0, 0, 0, 0, 0, 0, .cold, false⟩,
  ⟨0xe000c, 0, 0, 0, 0, 0, 0, .cold, false⟩,
  ⟨0xe0048, 0, 0, 0, 0, 0, 0, .cold, false⟩,
  ⟨0xe004c, 0, 0, 0, 0, 0, 0, .cold, false⟩,
  ⟨0xe0050, 0x5f00, 0, 0, 0, 0, 0, .cold, false⟩,
  ⟨0xe0054, 0, 0, 0, 0, 0, 0, .cold, false⟩,
  ⟨0xe0058, 0x55, 0xff, 0, 0, 0, 0, .warm, false⟩,
  ⟨0xe005c, 0, 0, 0, 0, 0, 0, .cold, false⟩,
  ⟨0xe0060, 0, 0, 0, 0, 0xffffffff, 0, .cold, false⟩,
  ⟨0xe0064, 0, 0, 0, 0, 0, 0, .good, false⟩,
  ⟨0xe0068, 0, 0, 0, 0, 0, 0, .cold, false⟩,
  ⟨0xe006c, 0, 0, 0, 0, 0, 0, .cold, false⟩,
  ⟨0xe0070, 0, 0, 0x1f, 0, 0, 0, .cold, false⟩,
  ⟨0xe0074, 0, 0x1f, 0, 0, 0, 0, .warm, false⟩,
  ⟨0xe0078, 0, 0, 0xf, 0, 0, 0, .cold, false⟩,
  ⟨0xe007c, 0, 0xf, 0, 0, 0, 0, .warm, false⟩,
  ⟨0xe0080, 0, 0, 0, 0, 0, 0, .cold, true⟩,
  ⟨0xe0084, 0, 0, 0, 0, 0, 0, .cold, true⟩]

def thmTsRows : List RegRow := [
  ⟨0, 0, 0, 0, 0, 0, 0, .cold, false⟩]

def svyRows : List RegRow := [
  ⟨0xf0000, 0xf0000000, 0, 0, 0, 0, 0, .cold, false⟩,
  ⟨0xf0004, 0, 1, 0, 0, 0, 0, .warm, false⟩,
  ⟨0xf0008, 0, 0, 0, 0, 0, 0, .cold, false⟩,
  ⟨0xf000c, 0, 0xf03ff, 0, 0, 0, 0, .cold, false⟩,
  ⟨0xf0010, 0, 0, 0, 0, 0, 0, .cold, false⟩,
  ⟨0xf0034, 0x80000000, 0x80000003, 0, 0, 0, 0, .warm, false⟩,
  ⟨0xf0038, 0, 0, 0xffffffff, 0, 0, 0, .cold, false⟩,
  ⟨0xf003c, 0, 0, 0xffff, 0, 0, 0, .cold, false⟩,
  ⟨0xf0040, 0, 0, 0, 0, 0, 0, .cold, false⟩,
  ⟨0xf0044, 0, 0, 0, 0, 0, 0, .cold, false⟩,
  ⟨0xf0048, 0, 0, 0, 0, 0, 0, .cold, false⟩,
  ⟨0xf004c, 0, 0, 0, 0, 0, 0, .cold, false⟩,
  ⟨0xf0050, 0, 0, 7, 0, 0, 0, .cold, false⟩,
  ⟨0xf0054, 0, 7, 0, 0, 0, 0, .warm, false⟩,
  ⟨0xf0058, 0, 0, 3, 0, 0, 0, .cold, false⟩,
  ⟨0xf005c, 0, 3, 0, 0, 0, 0, .warm, false⟩]

def svyWinRows : List RegRow := [
  ⟨0, 0, 0, 0, 0, 0, 0, .cold, true⟩]

def pmcRows : List RegRow := [
  ⟨0, 0xff0001, 0xf0ffffff, 0, 0, 0, 0, .warm, false⟩,
  ⟨4, 0, 0xffffffff, 0, 0, 0, 0, .warm, false⟩]

def sysRows0 : List RegRow := [
  ⟨0, 0x4100011, 0, 0, 0, 0, 0, .cold, false⟩,
  ⟨4, 0x1000001, 0, 0, 0, 0, 0, .cold, false⟩,
  ⟨8, 1, 3, 0, 0, 0, 0, .warm, false⟩,
  ⟨0xc, 0, 0, 0, 0, 0, 0xff000007, .cold, true⟩,
  ⟨0x10, 0, 0, 0, 0, 0, 0, .cold, false⟩,
  ⟨0x14, 0, 0, 0, 0, 0, 0, .good, false⟩,
  ⟨0x18, 0, 0, 0, 0, 0, 0, .cold, false⟩,
  ⟨0x1c, 0, 0, 0, 0, 0, 0, .cold, false⟩,
  ⟨0x20, 0, 0, 0, 0, 0, 0, .cold, false⟩,
  ⟨0x24, 0, 0, 0, 0, 0, 0, .cold, false⟩,
  ⟨0x28, 0, 0, 0, 0, 0, 0, .cold, false⟩,
  ⟨0x2c, 0, 0, 0, 0, 0, 0, .cold, false⟩,
  ⟨0x30, 0, 0, 0, 0, 0, 0, .cold, false⟩,
  ⟨0x34, 0, 0, 0, 0, 0, 0, .cold, false⟩,
  ⟨0x38, 0, 0, 0, 0, 0xffffffff, 0, .cold, false⟩,
  ⟨0x3c, 0, 0, 0, 0, 0, 0, .cold, false⟩,
  ⟨0x40, 0, 0, 0, 0, 0, 0, .cold, false⟩,
  ⟨0x44, 0, 0, 0, 0, 0, 0, .cold, false⟩,
  ⟨0x48, 0, 0xffffffff, 0, 0, 0, 0, .warm, false⟩,
  ⟨0x4c, 0, 0xffffffff, 0, 0, 0, 0, .warm, false⟩,
  ⟨0x50, 0, 0, 0, 0, 0, 0, .cold, false⟩,
  ⟨0x54, 0, 0, 0, 0, 0xffffffff, 0, .cold, false⟩,
  ⟨0x58, 0, 0, 3, 0, 0, 0, .cold, false⟩,
  ⟨0x5c, 0, 3, 0, 0, 0, 0, .warm, false⟩]
def sysRows1 : List RegRow := [
  ⟨0x60, 0, 0, 3, 0, 0, 0, .cold, false⟩,
  ⟨0x64, 0, 3, 0, 0, 0, 0, .warm, false⟩,
  ⟨0x68, 0, 0, 0, 0, 0, 0, .cold, true⟩,
  ⟨0x6c, 0, 0, 0, 0, 0, 0, .cold, true⟩]
/-- The SYS block. -/
def sysRows : List RegRow := sysRows0 ++ sysRows1

/-- The row of a list at an offset. -/
def rowAt (off : Nat) : List RegRow → Option RegRow
  | [] => none
  | r :: rest => if r.off == off then some r else rowAt off rest

/-- The first offset of register group `base`, and its stride, brought back to the group's row. -/
def rowAtGroup (base stride count off : Nat) (rows : List RegRow) : Option RegRow :=
  let rel := off - base
  if off < base then none
  else if rel / stride < count then rowAt (rel % stride) rows
  else none

/-- The rows of a 64 KiB block whose offsets are absolute. -/
def blockRows : Nat → List RegRow
  | 0x0 => sysRows | 0x1 => pltRows | 0x3 => stgRows | 0x4 => cdsRows | 0x5 => trvRows | 0x6 => mdcRows
  | 0x7 => dtmRows | 0x8 => pwrRows ++ pflRows | 0x9 => imeRows | 0xA => ckeRows | 0xB => engRows | 0xC => pstRows
  | 0xD => evrRows | 0xE => thmRows | 0xF => svyRows | _ => []

/-- The register at a BAR2 offset, none where no register is implemented (Table REG-1, R503). -/
def regRow (off : Nat) : Option RegRow :=
  match off / 0x10000 with
  | 0x2 => rowAtGroup 0x20000 0x8000 2 off hptRows
  | 0x5 => if off < 0x50400 then rowAt off trvRows else rowAtGroup 0x50400 0x800 32 off trvChRows
  | 0xB => if off < 0xB0400 then rowAt off engRows else rowAtGroup 0xB0400 0x400 24 off engEnRows
  | 0xE => if off < 0xE0010 ∨ 0xE0048 ≤ off then rowAt off thmRows else rowAtGroup 0xE0010 4 14 off thmTsRows
  | 0xF =>
    if 0xF8000 ≤ off then rowAtGroup 0xF8000 8 48 off pmcRows
    else if off < 0xF0014 ∨ 0xF0034 ≤ off then rowAt off svyRows
    else rowAtGroup 0xF0014 4 8 off svyWinRows
  | b => rowAt off (blockRows b)

/-- What a register holds after its reset; 0 where there is no register. -/
def regReset (off : Nat) : BitVec 32 :=
  match regRow off with
  | some r => BitVec.ofNat 32 r.reset
  | none => 0

/-- Whether a register lies in the reset domain that `p` accepts. -/
def regInDom (p : RegDom → Bool) (off : Nat) : Bool :=
  match regRow off with
  | some r => p r.dom
  | none => false

/-- The offsets of a block's registers in ascending order: register n of a snapshot area is the n-th (R502, R467). -/
def blockOffsets : Nat → List Nat
  | 0x2 => hptRows.map (fun r => 0x20000 + r.off) ++ hptRows.map (fun r => 0x28000 + r.off)
  | 0x5 => trvRows.map (·.off) ++ (List.range 32).flatMap fun n => trvChRows.map fun r => 0x50400 + n * 0x800 + r.off
  | 0xB => engRows.map (·.off) ++ (List.range 24).flatMap fun n => engEnRows.map fun r => 0xB0400 + n * 0x400 + r.off
  | 0xE => [0xE0000, 0xE0004, 0xE0008, 0xE000C] ++ (List.range 14).map (fun n => 0xE0010 + 4 * n) ++
      (thmRows.map (·.off)).filter (fun o => 0xE0048 ≤ o)
  | 0xF => [0xF0000, 0xF0004, 0xF0008, 0xF000C, 0xF0010] ++ (List.range 8).map (fun n => 0xF0014 + 4 * n) ++
      (svyRows.map (·.off)).filter (fun o => 0xF0034 ≤ o) ++ (List.range 96).map (fun n => 0xF8000 + 4 * n)
  | b => (blockRows b).map (·.off)

end Sys2Proof.Machine

/-! Offsets by name: `Reg.STG_CTL` and so on; a register of a port, channel, engine, sensor or counter takes its
index, modulo the number of them. -/

namespace Sys2Proof.Reg

abbrev PLT_ID : Nat := 0x10000
abbrev PLT_CTL : Nat := 0x10004
abbrev PLT_STAT : Nat := 0x10008
abbrev PLT_ERR : Nat := 0x1000c
abbrev PLT_ERR_OFFSET : Nat := 0x10010
abbrev PLT_ACTIVE : Nat := 0x10014
abbrev PLT_SERIAL_ACT : Nat := 0x10018
abbrev PLT_SERIAL_PEND : Nat := 0x1001c
abbrev PLT_SVN_ACT : Nat := 0x10020
abbrev PLT_SVN_MIN : Nat := 0x10024
abbrev PLT_FP_LO : Nat := 0x10028
abbrev PLT_FP_HI : Nat := 0x1002c
abbrev PLT_BUILD_LO : Nat := 0x10030
abbrev PLT_BUILD_HI : Nat := 0x10034
abbrev PLT_MIG_STAT : Nat := 0x10038
abbrev PLT_MIG_CURSOR : Nat := 0x1003c
abbrev PLT_MIG_TOTAL : Nat := 0x10040
abbrev PLT_BANDS_MAX : Nat := 0x10044
abbrev PLT_BANDS_HOST : Nat := 0x10048
abbrev PLT_BANDS_META : Nat := 0x1004c
abbrev PLT_BANDS_LOG : Nat := 0x10050
abbrev PLT_BANDS_RSVD : Nat := 0x10054
abbrev PLT_BANDS_EASE : Nat := 0x10058
abbrev PLT_CAP_LO : Nat := 0x1005c
abbrev PLT_CAP_HI : Nat := 0x10060
abbrev PLT_HOLD_SEL : Nat := 0x10064
abbrev PLT_HOLD_INFO : Nat := 0x10068
abbrev PLT_HOLD_BASE_LO : Nat := 0x1006c
abbrev PLT_HOLD_BASE_HI : Nat := 0x10070
abbrev PLT_HOLD_SIZE_LO : Nat := 0x10074
abbrev PLT_HOLD_SIZE_HI : Nat := 0x10078
abbrev PLT_SNAP : Nat := 0x1007c
abbrev PLT_INT_STAT : Nat := 0x10080
abbrev PLT_INT_EN : Nat := 0x10084
abbrev HPT_ID (p : Nat) : Nat := 0x20000 + p % 2 * 0x8000
abbrev HPT_CTL (p : Nat) : Nat := 0x20004 + p % 2 * 0x8000
abbrev HPT_STAT (p : Nat) : Nat := 0x20008 + p % 2 * 0x8000
abbrev HPT_LINK_CAP (p : Nat) : Nat := 0x2000c + p % 2 * 0x8000
abbrev HPT_LINK_STAT (p : Nat) : Nat := 0x20010 + p % 2 * 0x8000
abbrev HPT_LINK_CTL (p : Nat) : Nat := 0x20014 + p % 2 * 0x8000
abbrev HPT_LANE_FAIL (p : Nat) : Nat := 0x20018 + p % 2 * 0x8000
abbrev HPT_RETRAIN_CNT (p : Nat) : Nat := 0x2001c + p % 2 * 0x8000
abbrev HPT_FLIT_ERR_CNT (p : Nat) : Nat := 0x20020 + p % 2 * 0x8000
abbrev HPT_PWB_STAT (p : Nat) : Nat := 0x20024 + p % 2 * 0x8000
abbrev HPT_PWB_HWM (p : Nat) : Nat := 0x20028 + p % 2 * 0x8000
abbrev HPT_DRAIN_CTL (p : Nat) : Nat := 0x2002c + p % 2 * 0x8000
abbrev HPT_DRAIN_STAT (p : Nat) : Nat := 0x20030 + p % 2 * 0x8000
abbrev HPT_DEC_ERR (p : Nat) : Nat := 0x20034 + p % 2 * 0x8000
abbrev HPT_DEC_STAT (p : Nat) : Nat := 0x20038 + p % 2 * 0x8000
abbrev HPT_IDE_STAT (p : Nat) : Nat := 0x2003c + p % 2 * 0x8000
abbrev HPT_IDE_CTL (p : Nat) : Nat := 0x20040 + p % 2 * 0x8000
abbrev HPT_IDE_ERR_CNT (p : Nat) : Nat := 0x20044 + p % 2 * 0x8000
abbrev HPT_IDE_TX_IV_LO (p : Nat) : Nat := 0x20048 + p % 2 * 0x8000
abbrev HPT_IDE_TX_IV_HI (p : Nat) : Nat := 0x2004c + p % 2 * 0x8000
abbrev HPT_IDE_RX_IV_LO (p : Nat) : Nat := 0x20050 + p % 2 * 0x8000
abbrev HPT_IDE_RX_IV_HI (p : Nat) : Nat := 0x20054 + p % 2 * 0x8000
abbrev HPT_GPF_STAT (p : Nat) : Nat := 0x20058 + p % 2 * 0x8000
abbrev HPT_GPF_TIME (p : Nat) : Nat := 0x2005c + p % 2 * 0x8000
abbrev HPT_MBOX_STAT (p : Nat) : Nat := 0x20060 + p % 2 * 0x8000
abbrev HPT_MBOX_LAST (p : Nat) : Nat := 0x20064 + p % 2 * 0x8000
abbrev HPT_BG_STAT (p : Nat) : Nat := 0x20068 + p % 2 * 0x8000
abbrev HPT_RD_CNT_LO (p : Nat) : Nat := 0x2006c + p % 2 * 0x8000
abbrev HPT_RD_CNT_HI (p : Nat) : Nat := 0x20070 + p % 2 * 0x8000
abbrev HPT_WR_CNT_LO (p : Nat) : Nat := 0x20074 + p % 2 * 0x8000
abbrev HPT_WR_CNT_HI (p : Nat) : Nat := 0x20078 + p % 2 * 0x8000
abbrev HPT_WR_REFUSED (p : Nat) : Nat := 0x2007c + p % 2 * 0x8000
abbrev HPT_POISON_TX (p : Nat) : Nat := 0x20080 + p % 2 * 0x8000
abbrev HPT_TMO_NEAR (p : Nat) : Nat := 0x20084 + p % 2 * 0x8000
abbrev HPT_ADMIT_PAUSE (p : Nat) : Nat := 0x20088 + p % 2 * 0x8000
abbrev HPT_DEVLOAD (p : Nat) : Nat := 0x2008c + p % 2 * 0x8000
abbrev HPT_LAT_RD (p : Nat) : Nat := 0x20090 + p % 2 * 0x8000
abbrev HPT_LAT_WR (p : Nat) : Nat := 0x20094 + p % 2 * 0x8000
abbrev HPT_ERR_STAT (p : Nat) : Nat := 0x20098 + p % 2 * 0x8000
abbrev HPT_ERR_EN (p : Nat) : Nat := 0x2009c + p % 2 * 0x8000
abbrev HPT_INT_STAT (p : Nat) : Nat := 0x200a0 + p % 2 * 0x8000
abbrev HPT_INT_EN (p : Nat) : Nat := 0x200a4 + p % 2 * 0x8000
abbrev HPT_SNAP_STAT (p : Nat) : Nat := 0x200a8 + p % 2 * 0x8000
abbrev HPT_SNAP_PWB (p : Nat) : Nat := 0x200ac + p % 2 * 0x8000
abbrev HPT_EVT_PEND (p : Nat) : Nat := 0x200b0 + p % 2 * 0x8000
abbrev HPT_EVT_OVF (p : Nat) : Nat := 0x200b4 + p % 2 * 0x8000
abbrev STG_ID : Nat := 0x30000
abbrev STG_CTL : Nat := 0x30004
abbrev STG_STAT : Nat := 0x30008
abbrev STG_FRAMES : Nat := 0x3000c
abbrev STG_FREE : Nat := 0x30010
abbrev STG_DIRTY : Nat := 0x30014
abbrev STG_WB_INFLIGHT : Nat := 0x30018
abbrev STG_BUDGET : Nat := 0x3001c
abbrev STG_META_DIRTY : Nat := 0x30020
abbrev STG_DATA_LIMIT : Nat := 0x30024
abbrev STG_FREE_LOW : Nat := 0x30028
abbrev STG_FREE_HIGH : Nat := 0x3002c
abbrev STG_CLOCK_SPREAD : Nat := 0x30030
abbrev STG_CLOCK_FRONT : Nat := 0x30034
abbrev STG_CLOCK_BACK : Nat := 0x30038
abbrev STG_RSV_TOTAL : Nat := 0x3003c
abbrev STG_RSV_LEFT : Nat := 0x30040
abbrev STG_LLT_STAT : Nat := 0x30044
abbrev STG_LLT_HWM : Nat := 0x30048
abbrev STG_INV_STAT : Nat := 0x3004c
abbrev STG_RD_HIT_LO : Nat := 0x30050
abbrev STG_RD_HIT_HI : Nat := 0x30054
abbrev STG_RD_MISS_LO : Nat := 0x30058
abbrev STG_RD_MISS_HI : Nat := 0x3005c
abbrev STG_WR_HIT_LO : Nat := 0x30060
abbrev STG_WR_HIT_HI : Nat := 0x30064
abbrev STG_WR_ALLOC_LO : Nat := 0x30068
abbrev STG_WR_ALLOC_HI : Nat := 0x3006c
abbrev STG_FILL_LO : Nat := 0x30070
abbrev STG_FILL_HI : Nat := 0x30074
abbrev STG_WB_LINES_LO : Nat := 0x30078
abbrev STG_WB_LINES_HI : Nat := 0x3007c
abbrev STG_EVICT_LO : Nat := 0x30080
abbrev STG_EVICT_HI : Nat := 0x30084
abbrev STG_FORCED_WB : Nat := 0x30088
abbrev STG_BUDGET_STALL : Nat := 0x3008c
abbrev STG_MAINT_FLUSH : Nat := 0x30090
abbrev STG_MAINT_INVAL : Nat := 0x30094
abbrev STG_MAINT_ZERO : Nat := 0x30098
abbrev STG_RACE_CNT : Nat := 0x3009c
abbrev STG_TC_HIT_LO : Nat := 0x300a0
abbrev STG_TC_HIT_HI : Nat := 0x300a4
abbrev STG_TC_MISS_LO : Nat := 0x300a8
abbrev STG_TC_MISS_HI : Nat := 0x300ac
abbrev STG_TC_PAR_ERR : Nat := 0x300b0
abbrev STG_ECC_CORR : Nat := 0x300b4
abbrev STG_UE_CLEAN : Nat := 0x300b8
abbrev STG_UE_DIRTY : Nat := 0x300bc
abbrev STG_TAG_COPY_ERR : Nat := 0x300c0
abbrev STG_ERR_ADDR_LO : Nat := 0x300c4
abbrev STG_ERR_ADDR_HI : Nat := 0x300c8
abbrev STG_RO_ACCEPT : Nat := 0x300cc
abbrev STG_ERR_STAT : Nat := 0x300d0
abbrev STG_ERR_EN : Nat := 0x300d4
abbrev STG_INT_STAT : Nat := 0x300d8
abbrev STG_INT_EN : Nat := 0x300dc
abbrev STG_SNAP_STAT : Nat := 0x300e0
abbrev STG_SNAP_DIRTY : Nat := 0x300e4
abbrev CDS_ID : Nat := 0x40000
abbrev CDS_CTL : Nat := 0x40004
abbrev CDS_STAT : Nat := 0x40008
abbrev CDS_PLOTS : Nat := 0x4000c
abbrev CDS_LOG_BANDS : Nat := 0x40010
abbrev CDS_LOG_USED : Nat := 0x40014
abbrev CDS_LOG_FLOOR : Nat := 0x40018
abbrev CDS_LOG_LIVE_LO : Nat := 0x4001c
abbrev CDS_LOG_LIVE_HI : Nat := 0x40020
abbrev CDS_CHAIN_MAX : Nat := 0x40024
abbrev CDS_CHAIN_HWM : Nat := 0x40028
abbrev CDS_MERGE_ACTIVE : Nat := 0x4002c
abbrev CDS_MERGE_CNT_LO : Nat := 0x40030
abbrev CDS_MERGE_CNT_HI : Nat := 0x40034
abbrev CDS_MERGE_PARCELS_LO : Nat := 0x40038
abbrev CDS_MERGE_PARCELS_HI : Nat := 0x4003c
abbrev CDS_LOG_PARCELS_LO : Nat := 0x40040
abbrev CDS_LOG_PARCELS_HI : Nat := 0x40044
abbrev CDS_WA : Nat := 0x40048
abbrev CDS_FREE_TRACTS : Nat := 0x4004c
abbrev CDS_RESET_PEND : Nat := 0x40050
abbrev CDS_EASE_BANDS : Nat := 0x40054
abbrev CDS_MERGE_RESV : Nat := 0x40058
abbrev CDS_RETIRED : Nat := 0x4005c
abbrev CDS_WEAR_MIN : Nat := 0x40060
abbrev CDS_WEAR_MAX : Nat := 0x40064
abbrev CDS_WEAR_SPREAD : Nat := 0x40068
abbrev CDS_WEAR_HYST : Nat := 0x4006c
abbrev CDS_WEAR_MOVES : Nat := 0x40070
abbrev CDS_BIN_WIDTH : Nat := 0x40074
abbrev CDS_BIN_SEL : Nat := 0x40078
abbrev CDS_BIN_CNT_0 : Nat := 0x4007c
abbrev CDS_BIN_CNT_1 : Nat := 0x40080
abbrev CDS_BIN_CNT_2 : Nat := 0x40084
abbrev CDS_BIN_CNT_3 : Nat := 0x40088
abbrev CDS_HEAT_HOT : Nat := 0x4008c
abbrev CDS_CKPT_STAT : Nat := 0x40090
abbrev CDS_CKPT_HIGH : Nat := 0x40094
abbrev CDS_CKPT_LOW : Nat := 0x40098
abbrev CDS_META_DIRTY : Nat := 0x4009c
abbrev CDS_JRNL_FILL : Nat := 0x400a0
abbrev CDS_WT_OPEN : Nat := 0x400a4
abbrev CDS_LC_HIT_LO : Nat := 0x400a8
abbrev CDS_LC_HIT_HI : Nat := 0x400ac
abbrev CDS_LC_MISS_LO : Nat := 0x400b0
abbrev CDS_LC_MISS_HI : Nat := 0x400b4
abbrev CDS_LC_PAR_ERR : Nat := 0x400b8
abbrev CDS_BWS_CTL : Nat := 0x400bc
abbrev CDS_BWS_STAT : Nat := 0x400c0
abbrev CDS_BWS_PEND : Nat := 0x400c4
abbrev CDS_BWS_LATE : Nat := 0x400c8
abbrev CDS_BWS_GATE_WAIT : Nat := 0x400cc
abbrev CDS_REL_STAT : Nat := 0x400d0
abbrev CDS_REL_LEFT : Nat := 0x400d4
abbrev CDS_PLOT_SEL : Nat := 0x400d8
abbrev CDS_PLOT_ENT_LO : Nat := 0x400dc
abbrev CDS_PLOT_ENT_HI : Nat := 0x400e0
abbrev CDS_RO_STAT : Nat := 0x400e4
abbrev CDS_ERR_STAT : Nat := 0x400e8
abbrev CDS_ERR_EN : Nat := 0x400ec
abbrev CDS_INT_STAT : Nat := 0x400f0
abbrev CDS_INT_EN : Nat := 0x400f4
abbrev CDS_SNAP_STAT : Nat := 0x400f8
abbrev CDS_SNAP_LOG : Nat := 0x400fc
abbrev DTM_ID : Nat := 0x70000
abbrev DTM_CTL : Nat := 0x70004
abbrev DTM_STAT : Nat := 0x70008
abbrev DTM_CLK_STAT : Nat := 0x7000c
abbrev DTM_DATUM_LO : Nat := 0x70010
abbrev DTM_DATUM_HI : Nat := 0x70014
abbrev DTM_MONO_LO : Nat := 0x70018
abbrev DTM_MONO_HI : Nat := 0x7001c
abbrev DTM_OFFSET_LO : Nat := 0x70020
abbrev DTM_OFFSET_HI : Nat := 0x70024
abbrev DTM_SLEW_PPM : Nat := 0x70028
abbrev DTM_STEP_US : Nat := 0x7002c
abbrev DTM_LAST_SET_LO : Nat := 0x70030
abbrev DTM_LAST_SET_HI : Nat := 0x70034
abbrev DTM_GAP_LO : Nat := 0x70038
abbrev DTM_GAP_HI : Nat := 0x7003c
abbrev DTM_SET_CNT : Nat := 0x70040
abbrev DTM_SET_REFUSED : Nat := 0x70044
abbrev DTM_XO_FREQ : Nat := 0x70048
abbrev DTM_XO_LOSS_CNT : Nat := 0x7004c
abbrev DTM_TMO_NEAR : Nat := 0x70050
abbrev DTM_TMO_NEAR_SRC : Nat := 0x70054
abbrev DTM_TMR_SEL : Nat := 0x70058
abbrev DTM_TMR_CFG : Nat := 0x7005c
abbrev DTM_TMR_STAT : Nat := 0x70060
abbrev DTM_SVY_CTL : Nat := 0x70064
abbrev DTM_SVY_STROBE : Nat := 0x70068
abbrev DTM_SVY_SRC : Nat := 0x7006c
abbrev DTM_SVY_DATUM_LO : Nat := 0x70070
abbrev DTM_SVY_DATUM_HI : Nat := 0x70074
abbrev DTM_SVY_CNT : Nat := 0x70078
abbrev DTM_SVY_MERGED : Nat := 0x7007c
abbrev DTM_ERR_STAT : Nat := 0x70080
abbrev DTM_ERR_EN : Nat := 0x70084
abbrev DTM_INT_STAT : Nat := 0x70088
abbrev DTM_INT_EN : Nat := 0x7008c
abbrev TRV_ID : Nat := 0x50000
abbrev TRV_CTL : Nat := 0x50004
abbrev TRV_STAT : Nat := 0x50008
abbrev TRV_CH_PRESENT : Nat := 0x5000c
abbrev TRV_CH_LOST : Nat := 0x50010
abbrev TRV_MIRROR : Nat := 0x50014
abbrev TRV_WAIT_LIMIT : Nat := 0x50018
abbrev TRV_RETUNE_CFG : Nat := 0x5001c
abbrev TRV_RECON_CNT : Nat := 0x50020
abbrev TRV_SUSP_CNT : Nat := 0x50024
abbrev TRV_RACE_ODD : Nat := 0x50028
abbrev TRV_COLL_STAT : Nat := 0x5002c
abbrev TRV_COLL_HWM : Nat := 0x50030
abbrev TRV_COLL_FULL : Nat := 0x50034
abbrev TRV_TMO_NEAR : Nat := 0x50038
abbrev TRV_ERR_STAT : Nat := 0x5003c
abbrev TRV_ERR_EN : Nat := 0x50040
abbrev TRV_INT_STAT : Nat := 0x50044
abbrev TRV_INT_EN : Nat := 0x50048
abbrev TRV_SNAP_STAT : Nat := 0x5004c
abbrev TRVn_CTL (n : Nat) : Nat := 0x50400 + n % 32 * 0x800
abbrev TRVn_STAT (n : Nat) : Nat := 0x50404 + n % 32 * 0x800
abbrev TRVn_DIE (n : Nat) : Nat := 0x50408 + n % 32 * 0x800
abbrev TRVn_PHY (n : Nat) : Nat := 0x5040c + n % 32 * 0x800
abbrev TRVn_TEMP (n : Nat) : Nat := 0x50410 + n % 32 * 0x800
abbrev TRVn_ERR_CNT (n : Nat) : Nat := 0x50414 + n % 32 * 0x800
abbrev TRVn_UTIL (n : Nat) : Nat := 0x50418 + n % 32 * 0x800
abbrev TRVn_SNAP (n : Nat) : Nat := 0x5041c + n % 32 * 0x800
abbrev MDC_ID : Nat := 0x60000
abbrev MDC_CTL : Nat := 0x60004
abbrev MDC_STAT : Nat := 0x60008
abbrev MDC_RETAIN_H : Nat := 0x6000c
abbrev MDC_ANNEAL_PLAN : Nat := 0x60010
abbrev MDC_RDCNT_LOG2 : Nat := 0x60014
abbrev MDC_UNPWR_TEMP : Nat := 0x60018
abbrev MDC_PATROL_DAYS : Nat := 0x6001c
abbrev MDC_PATROL_POS : Nat := 0x60020
abbrev MDC_REFRESH_BITS : Nat := 0x60024
abbrev MDC_LVL_SEL : Nat := 0x60028
abbrev MDC_LVL : Nat := 0x6002c
abbrev MDC_AGE_MAX_LO : Nat := 0x60030
abbrev MDC_AGE_MAX_HI : Nat := 0x60034
abbrev MDC_ANNEAL_PEND : Nat := 0x60038
abbrev MDC_ANNEAL_CNT : Nat := 0x6003c
abbrev MDC_RDCNT_ANNEAL : Nat := 0x60040
abbrev MDC_CORR_LO : Nat := 0x60044
abbrev MDC_CORR_HI : Nat := 0x60048
abbrev MDC_BCH_FAIL : Nat := 0x6004c
abbrev MDC_RETRY_OK : Nat := 0x60050
abbrev MDC_PARITY_OK : Nat := 0x60054
abbrev MDC_UNRECOV : Nat := 0x60058
abbrev MDC_RECON_CNT : Nat := 0x6005c
abbrev MDC_SUSP_READ : Nat := 0x60060
abbrev MDC_STRIPE_OPEN : Nat := 0x60064
abbrev MDC_REBUILD_STAT : Nat := 0x60068
abbrev MDC_REBUILD_LEFT : Nat := 0x6006c
abbrev MDC_DEGRADED : Nat := 0x60070
abbrev MDC_DIE_LOST_0 : Nat := 0x60074
abbrev MDC_DIE_LOST_1 : Nat := 0x60078
abbrev MDC_DIE_LOST_2 : Nat := 0x6007c
abbrev MDC_DIE_LOST_3 : Nat := 0x60080
abbrev MDC_ERR_ADDR_LO : Nat := 0x60084
abbrev MDC_ERR_ADDR_HI : Nat := 0x60088
abbrev MDC_ERR_STAT : Nat := 0x6008c
abbrev MDC_ERR_EN : Nat := 0x60090
abbrev MDC_INT_STAT : Nat := 0x60094
abbrev MDC_INT_EN : Nat := 0x60098
abbrev MDC_SNAP_STAT : Nat := 0x6009c
abbrev PWR_ID : Nat := 0x80000
abbrev PWR_CTL : Nat := 0x80004
abbrev PWR_STAT : Nat := 0x80008
abbrev PWR_BANK_STAT : Nat := 0x8000c
abbrev PWR_VIN : Nat := 0x80010
abbrev PWR_HB : Nat := 0x80014
abbrev PWR_BANK_V : Nat := 0x80018
abbrev PWR_CELL_V_0 : Nat := 0x8001c
abbrev PWR_CELL_V_1 : Nat := 0x80020
abbrev PWR_CELL_V_2 : Nat := 0x80024
abbrev PWR_CELL_V_3 : Nat := 0x80028
abbrev PWR_BAL_STAT : Nat := 0x8002c
abbrev PWR_CONV_STAT : Nat := 0x80030
abbrev PWR_CONV_I : Nat := 0x80034
abbrev PWR_CHG_MA : Nat := 0x80038
abbrev PWR_CHG_MW : Nat := 0x8003c
abbrev PWR_CAP_UF : Nat := 0x80040
abbrev PWR_ESR_MOHM : Nat := 0x80044
abbrev PWR_CAP_BASE_UF : Nat := 0x80048
abbrev PWR_ESR_BASE_MOHM : Nat := 0x8004c
abbrev PWR_ASSAY_STAT : Nat := 0x80050
abbrev PWR_ASSAY_DATUM_LO : Nat := 0x80054
abbrev PWR_ASSAY_DATUM_HI : Nat := 0x80058
abbrev PWR_ASSAY_LOAD_MW : Nat := 0x8005c
abbrev PWR_C_MARGIN : Nat := 0x80060
abbrev PWR_ESR_FACTOR : Nat := 0x80064
abbrev PWR_HB_EXTRA_MW : Nat := 0x80068
abbrev PWR_USABLE_MJ : Nat := 0x8006c
abbrev PWR_BUDGET_RAW : Nat := 0x80070
abbrev PWR_BUDGET_CAP : Nat := 0x80074
abbrev PWR_SURPLUS_MJ : Nat := 0x80078
abbrev PWR_GATE_HOLD_MJ : Nat := 0x8007c
abbrev PWR_RAIL_STAT : Nat := 0x80080
abbrev PWR_ERR_STAT : Nat := 0x80084
abbrev PWR_ERR_EN : Nat := 0x80088
abbrev PWR_INT_STAT : Nat := 0x8008c
abbrev PWR_INT_EN : Nat := 0x80090
abbrev PWR_SNAP_STAT : Nat := 0x80094
abbrev PFL_CTL : Nat := 0x80100
abbrev PFL_STAT : Nat := 0x80104
abbrev PFL_LINE_STAT : Nat := 0x80108
abbrev PFL_LINE_LATE : Nat := 0x8010c
abbrev PFL_LINE_GLITCH : Nat := 0x80110
abbrev PFL_BRACE_MAX_MS : Nat := 0x80114
abbrev PFL_MON_NEED_MJ : Nat := 0x80118
abbrev PFL_TRIP_DATUM_LO : Nat := 0x8011c
abbrev PFL_TRIP_DATUM_HI : Nat := 0x80120
abbrev PFL_SEAL_US : Nat := 0x80124
abbrev PFL_DRAIN_US : Nat := 0x80128
abbrev PFL_MON_US : Nat := 0x8012c
abbrev PFL_REST_US : Nat := 0x80130
abbrev PFL_E_SEAL_DRAIN : Nat := 0x80134
abbrev PFL_E_MON_REST : Nat := 0x80138
abbrev PFL_DRAINED : Nat := 0x8013c
abbrev PFL_UNFLUSHED : Nat := 0x80140
abbrev PFL_MON_GEN : Nat := 0x80144
abbrev PFL_RECOVER_MS : Nat := 0x80148
abbrev PFL_DSC : Nat := 0x8014c
abbrev PFL_ERR_STAT : Nat := 0x80150
abbrev PFL_ERR_EN : Nat := 0x80154
abbrev PFL_INT_STAT : Nat := 0x80158
abbrev PFL_INT_EN : Nat := 0x8015c
abbrev IME_ID : Nat := 0x90000
abbrev IME_CTL : Nat := 0x90004
abbrev IME_STAT : Nat := 0x90008
abbrev IME_LANE_STAT : Nat := 0x9000c
abbrev IME_TREE_CFG : Nat := 0x90010
abbrev IME_CTR_BLOCKS_LO : Nat := 0x90014
abbrev IME_CTR_BLOCKS_HI : Nat := 0x90018
abbrev IME_ROOT_SEL : Nat := 0x9001c
abbrev IME_ROOT_LO : Nat := 0x90020
abbrev IME_ROOT_HI : Nat := 0x90024
abbrev IME_CACHE_HIT_LO : Nat := 0x90028
abbrev IME_CACHE_HIT_HI : Nat := 0x9002c
abbrev IME_CACHE_MISS_LO : Nat := 0x90030
abbrev IME_CACHE_MISS_HI : Nat := 0x90034
abbrev IME_META_DIRTY : Nat := 0x90038
abbrev IME_META_HIGH : Nat := 0x9003c
abbrev IME_TAG_CHECK_LO : Nat := 0x90040
abbrev IME_TAG_CHECK_HI : Nat := 0x90044
abbrev IME_WRAP_CNT : Nat := 0x90048
abbrev IME_CTR_WARN : Nat := 0x9004c
abbrev IME_CTR_EXH : Nat := 0x90050
abbrev IME_EXH_REFUSED : Nat := 0x90054
abbrev IME_ORPHAN_CNT : Nat := 0x90058
abbrev IME_INV_FAIL : Nat := 0x9005c
abbrev IME_LANE_RETRY : Nat := 0x90060
abbrev IME_TAMPER_CNT : Nat := 0x90064
abbrev IME_UNVERIF_CNT : Nat := 0x90068
abbrev IME_PARTIAL_REFUSED : Nat := 0x9006c
abbrev IME_SEC_ADDR_LO : Nat := 0x90070
abbrev IME_SEC_ADDR_HI : Nat := 0x90074
abbrev IME_SEC_INFO : Nat := 0x90078
abbrev IME_QUAR_COUNT : Nat := 0x9007c
abbrev IME_QUAR_SEL : Nat := 0x90080
abbrev IME_QUAR_BASE_LO : Nat := 0x90084
abbrev IME_QUAR_BASE_HI : Nat := 0x90088
abbrev IME_QUAR_INFO : Nat := 0x9008c
abbrev IME_REKEY_CTL : Nat := 0x90090
abbrev IME_REKEY_SEL : Nat := 0x90094
abbrev IME_REKEY_STAT : Nat := 0x90098
abbrev IME_REKEY_BOUND_LO : Nat := 0x9009c
abbrev IME_REKEY_BOUND_HI : Nat := 0x900a0
abbrev IME_REKEY_TOTAL_LO : Nat := 0x900a4
abbrev IME_REKEY_TOTAL_HI : Nat := 0x900a8
abbrev IME_REKEY_LOCK_HWM : Nat := 0x900ac
abbrev IME_PINNED_STAT : Nat := 0x900b0
abbrev IME_DRAM_UE : Nat := 0x900b4
abbrev IME_FETCH_HWM : Nat := 0x900b8
abbrev IME_ERR_STAT : Nat := 0x900bc
abbrev IME_ERR_EN : Nat := 0x900c0
abbrev IME_SEC_STAT : Nat := 0x900c4
abbrev IME_SEC_EN : Nat := 0x900c8
abbrev IME_INT_STAT : Nat := 0x900cc
abbrev IME_INT_EN : Nat := 0x900d0
abbrev IME_SNAP_STAT : Nat := 0x900d4
abbrev CKE_ID : Nat := 0xa0000
abbrev CKE_CTL : Nat := 0xa0004
abbrev CKE_STAT : Nat := 0xa0008
abbrev CKE_OP_CTL : Nat := 0xa000c
abbrev CKE_OP_STAT : Nat := 0xa0010
abbrev CKE_SRC : Nat := 0xa0014
abbrev CKE_DST : Nat := 0xa0018
abbrev CKE_LEN : Nat := 0xa001c
abbrev CKE_AAD_LEN : Nat := 0xa0020
abbrev CKE_IV_0 : Nat := 0xa0024
abbrev CKE_IV_1 : Nat := 0xa0028
abbrev CKE_IV_2 : Nat := 0xa002c
abbrev CKE_TAG_0 : Nat := 0xa0030
abbrev CKE_TAG_1 : Nat := 0xa0034
abbrev CKE_TAG_2 : Nat := 0xa0038
abbrev CKE_TAG_3 : Nat := 0xa003c
abbrev CKE_KEY_DATA : Nat := 0xa0040
abbrev CKE_KEY_CTL : Nat := 0xa0044
abbrev CKE_KEY_STAT : Nat := 0xa0048
abbrev CKE_NONCE_SEL : Nat := 0xa004c
abbrev CKE_NONCE_LO : Nat := 0xa0050
abbrev CKE_NONCE_HI : Nat := 0xa0054
abbrev CKE_CHAL_0 : Nat := 0xa0058
abbrev CKE_CHAL_1 : Nat := 0xa005c
abbrev CKE_CHAL_2 : Nat := 0xa0060
abbrev CKE_CHAL_3 : Nat := 0xa0064
abbrev CKE_AUTH_CTL : Nat := 0xa0068
abbrev CKE_AUTH_STAT : Nat := 0xa006c
abbrev CKE_STAGE_ADDR : Nat := 0xa0070
abbrev CKE_STAGE_DATA : Nat := 0xa0074
abbrev CKE_RNG_STAT : Nat := 0xa0078
abbrev CKE_OP_CNT : Nat := 0xa007c
abbrev CKE_TAG_FAIL_CNT : Nat := 0xa0080
abbrev CKE_MISMATCH_CNT : Nat := 0xa0084
abbrev CKE_AUTH_FAIL_CNT : Nat := 0xa0088
abbrev CKE_ERR_STAT : Nat := 0xa008c
abbrev CKE_ERR_EN : Nat := 0xa0090
abbrev CKE_INT_STAT : Nat := 0xa0094
abbrev CKE_INT_EN : Nat := 0xa0098
abbrev CKE_SNAP_STAT : Nat := 0xa009c
abbrev ENG_ID : Nat := 0xb0000
abbrev ENG_CTL : Nat := 0xb0004
abbrev ENG_STAT : Nat := 0xb0008
abbrev ENG_SPARE : Nat := 0xb000c
abbrev ENG_RETIRED : Nat := 0xb0010
abbrev ENG_FW_STAT : Nat := 0xb0014
abbrev ENG_FAILOVER_CNT : Nat := 0xb0018
abbrev ENG_FAILOVER_MAX : Nat := 0xb001c
abbrev ENG_ERR_STAT : Nat := 0xb0020
abbrev ENG_ERR_EN : Nat := 0xb0024
abbrev ENG_INT_STAT : Nat := 0xb0028
abbrev ENG_INT_EN : Nat := 0xb002c
abbrev En_CTL (n : Nat) : Nat := 0xb0400 + n % 24 * 0x400
abbrev En_STAT (n : Nat) : Nat := 0xb0404 + n % 24 * 0x400
abbrev En_WDOG (n : Nat) : Nat := 0xb0408 + n % 24 * 0x400
abbrev En_SNAP (n : Nat) : Nat := 0xb040c + n % 24 * 0x400
abbrev PST_ID : Nat := 0xc0000
abbrev PST_CTL : Nat := 0xc0004
abbrev PST_STAT : Nat := 0xc0008
abbrev PST_ADDR : Nat := 0xc000c
abbrev PST_LEN : Nat := 0xc0010
abbrev PST_CMD : Nat := 0xc0014
abbrev PST_DATA_SEL : Nat := 0xc0018
abbrev PST_DATA : Nat := 0xc001c
abbrev PST_RESULT : Nat := 0xc0020
abbrev PST_AREA_SEL : Nat := 0xc0024
abbrev PST_AREA_STAT : Nat := 0xc0028
abbrev PST_SEQ_LO : Nat := 0xc002c
abbrev PST_SEQ_HI : Nat := 0xc0030
abbrev PST_CNT_SEL : Nat := 0xc0034
abbrev PST_CNT_LO : Nat := 0xc0038
abbrev PST_CNT_HI : Nat := 0xc003c
abbrev PST_ERASE_CNT : Nat := 0xc0040
abbrev PST_PROG_CNT : Nat := 0xc0044
abbrev PST_RECOVER_CNT : Nat := 0xc0048
abbrev PST_MARGIN_FIX : Nat := 0xc004c
abbrev PST_GATE_WAIT : Nat := 0xc0050
abbrev PST_ERR_STAT : Nat := 0xc0054
abbrev PST_ERR_EN : Nat := 0xc0058
abbrev PST_INT_STAT : Nat := 0xc005c
abbrev PST_INT_EN : Nat := 0xc0060
abbrev PST_SNAP_STAT : Nat := 0xc0064
abbrev EVR_ID : Nat := 0xd0000
abbrev EVR_CTL : Nat := 0xd0004
abbrev EVR_STAT : Nat := 0xd0008
abbrev EVR_QUEUE : Nat := 0xd000c
abbrev EVR_DROP_CNT : Nat := 0xd0010
abbrev EVR_CUR_CMD : Nat := 0xd0014
abbrev EVR_CURSOR : Nat := 0xd0018
abbrev EVR_WIN_STAT : Nat := 0xd001c
abbrev EVR_WIN_0 : Nat := 0xd0020
abbrev EVR_WIN_1 : Nat := 0xd0024
abbrev EVR_WIN_2 : Nat := 0xd0028
abbrev EVR_WIN_3 : Nat := 0xd002c
abbrev EVR_WIN_4 : Nat := 0xd0030
abbrev EVR_WIN_5 : Nat := 0xd0034
abbrev EVR_WIN_6 : Nat := 0xd0038
abbrev EVR_WIN_7 : Nat := 0xd003c
abbrev EVR_LG_0 : Nat := 0xd0040
abbrev EVR_LG_1 : Nat := 0xd0044
abbrev EVR_LG_2 : Nat := 0xd0048
abbrev EVR_LG_3 : Nat := 0xd004c
abbrev EVR_LG_4 : Nat := 0xd0050
abbrev EVR_LG_5 : Nat := 0xd0054
abbrev EVR_LG_6 : Nat := 0xd0058
abbrev EVR_LG_7 : Nat := 0xd005c
abbrev EVR_LG_STAT : Nat := 0xd0060
abbrev EVR_ERR_STAT : Nat := 0xd0064
abbrev EVR_ERR_EN : Nat := 0xd0068
abbrev EVR_INT_STAT : Nat := 0xd006c
abbrev EVR_INT_EN : Nat := 0xd0070
abbrev EVR_SNAP_STAT : Nat := 0xd0074
abbrev THM_ID : Nat := 0xe0000
abbrev THM_CTL : Nat := 0xe0004
abbrev THM_STAT : Nat := 0xe0008
abbrev THM_MAX : Nat := 0xe000c
abbrev THM_TS (n : Nat) : Nat := 0xe0010 + n % 14 * 4
abbrev THM_THRESH : Nat := 0xe0048
abbrev THM_RESTART : Nat := 0xe004c
abbrev THM_LEVEL : Nat := 0xe0050
abbrev THM_RISE : Nat := 0xe0054
abbrev THM_MED_LIMIT : Nat := 0xe0058
abbrev THM_MED_MAX : Nat := 0xe005c
abbrev THM_TEMPER_TIME : Nat := 0xe0060
abbrev THM_QUENCH_CNT : Nat := 0xe0064
abbrev THM_WARMUP_STAT : Nat := 0xe0068
abbrev THM_COMP_STAT : Nat := 0xe006c
abbrev THM_ERR_STAT : Nat := 0xe0070
abbrev THM_ERR_EN : Nat := 0xe0074
abbrev THM_INT_STAT : Nat := 0xe0078
abbrev THM_INT_EN : Nat := 0xe007c
abbrev THM_SNAP_STAT : Nat := 0xe0080
abbrev THM_SNAP_MAX : Nat := 0xe0084
abbrev SVY_ID : Nat := 0xf0000
abbrev SVY_CTL : Nat := 0xf0004
abbrev SVY_STAT : Nat := 0xf0008
abbrev SVY_WIN_SEL : Nat := 0xf000c
abbrev SVY_WIN_STAT : Nat := 0xf0010
abbrev SVY_WIN (n : Nat) : Nat := 0xf0014 + n % 8 * 4
abbrev PMC_CTL : Nat := 0xf0034
abbrev PMC_OVF_0 : Nat := 0xf0038
abbrev PMC_OVF_1 : Nat := 0xf003c
abbrev PMC_SAMPLE_INFO : Nat := 0xf0040
abbrev PMC_SAMPLE_ARG : Nat := 0xf0044
abbrev PMC_SAMPLE_DATUM_LO : Nat := 0xf0048
abbrev PMC_SAMPLE_DATUM_HI : Nat := 0xf004c
abbrev SVY_ERR_STAT : Nat := 0xf0050
abbrev SVY_ERR_EN : Nat := 0xf0054
abbrev SVY_INT_STAT : Nat := 0xf0058
abbrev SVY_INT_EN : Nat := 0xf005c
abbrev PMC_CFG (n : Nat) : Nat := 0xf8000 + n % 48 * 8
abbrev PMC_CNT (n : Nat) : Nat := 0xf8004 + n % 48 * 8
abbrev SYS_ID : Nat := 0
abbrev SYS_STATE : Nat := 4
abbrev SYS_CTL : Nat := 8
abbrev SYS_RST_CTL : Nat := 0xc
abbrev SYS_RST_CAUSE : Nat := 0x10
abbrev SYS_RST_CNT : Nat := 0x14
abbrev SYS_STRAP : Nat := 0x18
abbrev SYS_CAP : Nat := 0x1c
abbrev SYS_UID_LO : Nat := 0x20
abbrev SYS_UID_HI : Nat := 0x24
abbrev SYS_FW_VER : Nat := 0x28
abbrev SYS_BOOT_MS : Nat := 0x2c
abbrev SYS_READY_MS : Nat := 0x30
abbrev SYS_STATE_TIME : Nat := 0x34
abbrev SYS_TRANS_CNT : Nat := 0x38
abbrev SYS_LAST_TRANS : Nat := 0x3c
abbrev SYS_ALERT_SRC : Nat := 0x40
abbrev SYS_HEALTH : Nat := 0x44
abbrev SYS_SCRATCH_0 : Nat := 0x48
abbrev SYS_SCRATCH_1 : Nat := 0x4c
abbrev SYS_UNIMPL_ADDR : Nat := 0x50
abbrev SYS_UNIMPL_CNT : Nat := 0x54
abbrev SYS_ERR_STAT : Nat := 0x58
abbrev SYS_ERR_EN : Nat := 0x5c
abbrev SYS_INT_STAT : Nat := 0x60
abbrev SYS_INT_EN : Nat := 0x64
abbrev SYS_SNAP_STAT : Nat := 0x68
abbrev SYS_SNAP_ALERT : Nat := 0x6c

end Sys2Proof.Reg
end

