-- ==== Sys2Proof/Machine/SMap.lean ====
section
/-! DEFINITION. Sparse storage as plain data: a list of (key, value) pairs in one canonical form, keys strictly rising
and no entry equal to what an unlisted key reads as. It holds the register file, the flash bytes, the line store of the
medium and the frames of staging. -/

namespace Sys2Proof.Machine

/-- A sparse map from Nat. -/
abbrev SMap (α : Type) := List (Nat × α)

/-- The value at a key; `d k` where the key is not listed. -/
def mapGet {α : Type} (d : Nat → α) : SMap α → Nat → α
  | [], k => d k
  | (j, v) :: m, k => if j = k then v else mapGet d m k

/-- The listed value at a key. -/
def mapFind {α : Type} : SMap α → Nat → Option α
  | [], _ => none
  | (j, v) :: m, k => if j = k then some v else mapFind m k

/-- Insert or replace, keeping the keys rising. -/
def mapInsert {α : Type} : SMap α → Nat → α → SMap α
  | [], k, v => [(k, v)]
  | (j, w) :: m, k, v => if k < j then (k, v) :: (j, w) :: m else if k = j then (k, v) :: m else (j, w) :: mapInsert m k v

/-- Remove a key. -/
def mapErase {α : Type} (m : SMap α) (k : Nat) : SMap α := m.filter fun e => e.1 != k

/-- Write a value, keeping the canonical form: the value an unlisted key reads as is not listed. -/
def mapSet {α : Type} [DecidableEq α] (d : Nat → α) (m : SMap α) (k : Nat) (v : α) : SMap α :=
  if v = d k then mapErase m k else mapInsert m k v

/-- The canonical form. -/
abbrev MapWf {α : Type} [DecidableEq α] (d : Nat → α) (m : SMap α) : Prop :=
  m.Pairwise (fun a b => a.1 < b.1) ∧ ∀ e ∈ m, e.2 ≠ d e.1

/-- Keys only: strictly rising. -/
abbrev KeysRise {α : Type} (m : SMap α) : Prop := m.Pairwise (fun a b => a.1 < b.1)

/-- A list with one entry replaced. -/
def listSet {α : Type} : List α → Nat → α → List α
  | [], _, _ => []
  | _ :: xs, 0, v => v :: xs
  | x :: xs, n + 1, v => x :: listSet xs n v

/-- Change one entry of a list. -/
def listUpd {α : Type} (l : List α) (n : Nat) (f : α → α) : List α :=
  match l[n]? with
  | some x => listSet l n (f x)
  | none => l

end Sys2Proof.Machine
end

