-- ==== Sys2Proof/Machine/Types.lean ====
section
/-! DEFINITION. The data types of the state: the named things of the spec, block by block. Plain data throughout. -/

namespace Sys2Proof.Machine

/-! SYS: top-level states, resets, requesters. -/

/-- The top-level states (R10, Table SCP-6). -/
inductive DevState
  | boot | warmup | load | recover | ready | braced | flush | safe | quench | readonly | locked | diag
  deriving DecidableEq, Repr

/-- The codes of Table SCP-6. -/
def DevState.code : DevState → Nat
  | .boot => 1 | .warmup => 2 | .load => 3 | .recover => 4 | .ready => 5 | .braced => 6 | .flush => 7 | .safe => 8
  | .quench => 9 | .readonly => 10 | .locked => 11 | .diag => 12

/-- What raises a reset: SYS_RST_CAUSE.KIND (R506). -/
inductive ResetKind
  | suppliesGood | coldReg | warmSysRst | warmPerst | warmReg | diagnostic | quenchRestart | safeResume | sanitizeDone
  deriving DecidableEq, Repr

def ResetKind.code : ResetKind → Nat
  | .suppliesGood => 0 | .coldReg => 1 | .warmSysRst => 2 | .warmPerst => 3 | .warmReg => 4 | .diagnostic => 5
  | .quenchRestart => 6 | .safeResume => 7 | .sanitizeDone => 8

/-- The reset inputs (R488). -/
inductive ResetPin
  | sysRst | perst
  deriving DecidableEq, Repr

/-- TAP instructions (R492). -/
inductive TapInstr
  | bypass | idcode | samplePreload | extest | clamp | highz
  deriving DecidableEq, Repr

def TapInstr.code : TapInstr → Nat
  | .bypass => 0 | .idcode => 1 | .samplePreload => 2 | .extest => 3 | .clamp => 4 | .highz => 5

/-- Where an access comes from: BAR2 through a port's function, or MCTP (R501). -/
inductive Via
  | bar2 (port : Fin 2)
  | mctp
  deriving DecidableEq, Repr

/-- The two requesters of R501. -/
inductive Requester
  | bar2 | mctp
  deriving DecidableEq, Repr

def Via.requester : Via → Requester
  | .bar2 _ => .bar2
  | .mctp => .mctp

/-- Per-requester state of register pairs (R4, R5) and of chained counters (R475): the offset a shadow or a held half
belongs to, and its value. -/
structure Shadow where
  readHi : Option (Nat × Word)
  heldHi : List (Nat × Word)
  pmcShadow : Option (Nat × Word)
  deriving DecidableEq, Repr

/-- Messages that leave the device. `mbox`: mailbox reply with return code, extended status and output fields in the
order of the command's output table. -/
inductive Output
  | ndrCmp (port : Fin 2) (line : Nat)
  | drs (port : Fin 2) (tag : Nat) (data : Line) (poison : Bool)
  | mbox (via : Via) (opcode : Nat) (ret : Nat) (ext : Nat) (fields : List Nat)
  | regRead (via : Via) (off : Nat) (value : Word)
  | regRead64 (via : Via) (off : Nat) (value : Quad)
  | regWriteDone (via : Via) (off : Nat)
  | unsupportedRequest (via : Via) (off : Nat)
  | doe (via : Via) (protocol : Nat) (fields : List Nat)
  | gpfDone (port : Fin 2) (phase : Nat)
  | flrDone (port : Fin 2)
  | packet (channel : Nat) (opcode : Nat) (die : Nat) (arg : Nat)
  | tap (instruction : Nat) (data : Nat)
  deriving DecidableEq, Repr

/-- SYS block state beside its registers. -/
structure Sys where
  state : DevState
  /-- SYS_STATE.PREV: the code left, 0 after a reset (R506). -/
  prev : Nat
  /-- The state before the brace (R21). -/
  braceFrom : DevState
  /-- DTM_MONO, ns, at entry to the state, at the last BOOT and at the last reset. -/
  since : Nat
  bootAt : Nat
  resetAt : Nat
  /-- A reset held under R489. -/
  held : Option ResetKind
  /-- The reset that a running reset flush will perform (R306). -/
  flushFor : Option ResetKind
  /-- The reset inputs that are low now (R488). -/
  sysRstLow : Bool
  perstLow : Bool
  /-- A warm reset performed while an input is still low holds the device in reset (R488). -/
  inReset : Bool
  /-- Supplies good (R271). -/
  supplies : Bool
  /-- QUENCH has powered down (R461). -/
  poweredDown : Bool
  /-- The quench condition arose during FLUSH (R27). -/
  quenchAfterFlush : Bool
  /-- STRAP_BOOT in bits 1:0, STRAP_SMB in bits 4:2 (R490). -/
  straps : BitVec 5
  /-- READY was entered since supplies good (R194, R420). -/
  readySeen : Bool
  /-- The TAP's instruction register and whether the boundary scan drives pins (R492). -/
  tapInstr : Nat
  tapReset : Bool
  deriving DecidableEq, Repr

/-! DTM: datum, monotonic count, strobes. -/

/-- Time is kept in units of 1/8,000,000 ns, in which a fabric cycle with any slew is a whole number (R192, R196). -/
structure Dtm where
  mono : Nat
  datum : Nat
  /-- The signed offset a slew has not yet absorbed, same units. -/
  offset : Int
  slewing : Bool
  everSet : Bool
  xoLost : Bool
  /-- Lock of PLL_F, PLL_E, PLL_T, PLL_H. -/
  pllF : Bool
  pllE : Bool
  pllT : Bool
  pllH : Bool
  restored : Bool
  /-- The always-on domain's retention mark (R194). -/
  retained : Bool
  /-- DTM_MONO, ns, of the last datum deed on the 3,600 s timer, none before the first READY. -/
  deedAt : Option Nat
  /-- A strobe raised and not latched: DTM_MONO units at its cycle, and its sources. -/
  strobe : Option (Nat × Nat)
  /-- SURVEY_OUT is high, and the DTM_MONO units at which the pulse ends. -/
  outUntil : Option Nat
  deriving DecidableEq, Repr

/-! EVR: records, flood control, cursors. -/

/-- An event record (R433, Table EVR-1). -/
structure EvrRec where
  code : Nat
  sev : Nat
  lg : Bool
  alt : Bool
  host : Bool
  state : Nat
  bank : Nat
  seq : Nat
  datum : Nat
  arg0 : Nat
  arg1 : Nat
  supp : Nat
  deriving DecidableEq, Repr

/-- A mark of two-level flash: blank, torn, or set at both levels (R414, R419). -/
inductive Mark
  | blank | torn | set
  deriving DecidableEq, Repr

/-- A record's slot in the event log: the record, whether its CRC matches, and its VALID mark (R435). -/
structure EvrSlot where
  record : EvrRec
  crcOk : Bool
  valid : Mark
  deriving DecidableEq, Repr

/-- An entry of the suppression table (R438 to R440). Times are DTM_MONO, ns; `lastDatum` is the datum of the last
suppressed event. -/
structure Supp where
  code : Nat
  tokens : Nat
  count : Nat
  raisedAt : Nat
  countSince : Nat
  lastDatum : Nat
  deriving DecidableEq, Repr

/-- One requester's cursor (R446): the SEQ named, the window words, and EVR_WIN_STAT. -/
structure Cursor where
  seq : Nat
  win : List Word
  stat : Word
  deriving DecidableEq, Repr

structure Evr where
  queue : List EvrRec
  /-- Records of EVR-block codes that wait for a free entry (R438). -/
  waiting : List EvrRec
  nextSeq : Nat
  supp : List Supp
  /-- Events not tracked since the last SUPP_TABLE_FULL record (R440). -/
  untracked : Nat
  /-- The ring of sectors 162 to 225: slot number to record; the write position. -/
  ring : SMap EvrSlot
  ringPos : Nat
  /-- Ring sectors not erased and ready for writing, by sector number (R442). -/
  unerased : List Nat
  /-- Consecutive ring sectors skipped (R443). -/
  skipRun : Nat
  alt : SMap EvrSlot
  altPos : Nat
  altActive : Bool
  ringFailed : Bool
  altFailed : Bool
  memLost : Bool
  /-- Records with an older SEQ are hidden (R448). -/
  hideBelow : Option Nat
  /-- A LOG_CLEARED record waits to become persistent (R448), with its SEQ. -/
  clearSeq : Option Nat
  /-- Sectors still to erase after a clear (R448). -/
  clearing : List Nat
  curBar2 : Cursor
  curMctp : Cursor
  /-- EVR_LG[0] to EVR_LG[7] and EVR_LG_STAT, always-on (R445). -/
  lg : List Word
  lgStat : Word
  /-- Failed token submissions before the one being accepted (LOG_CLEARED's ARG1). -/
  batchFails : Nat
  deriving DecidableEq, Repr

/-! PLT: the image and the configuration it carries. -/

/-- A TLV section of an image body (Table PLT-3): type, version, reserved byte, LENGTH, the value bytes, and whether
its padding is zero. -/
structure Tlv where
  type : Nat
  sver : Nat
  rsv : Nat
  length : Nat
  value : List Nat
  padOk : Bool
  deriving DecidableEq, Repr

/-- A signature record (SIGNATURE section): signer 0 Foaro, 1 owner; whether KEY_ID names a known, unrevoked key, and
whether the ECDSA check passes (log entry 8). -/
structure SigRec where
  signer : Nat
  keyKnown : Bool
  sigOk : Bool
  deriving DecidableEq, Repr

/-- A plat image in a slot (Tables PLT-1 and PLT-2), its body as the plaintext TLVs; the outcomes of its CRC, GCM and
signature checks are fields of the image (log entry 8). -/
structure Image where
  crcOk : Bool
  magicOk : Bool
  fmtVer : Nat
  hdrLen : Nat
  imgLen : Nat
  bodyLen : Nat
  serial : Nat
  svn : Nat
  keySel : Nat
  flags : Nat
  minStep : Nat
  rsvOk : Bool
  buildId : Nat
  fp : Nat
  sigPresent : Bool
  sigs : List SigRec
  gcmOk : Bool
  fpOk : Bool
  body : List Tlv
  deriving DecidableEq, Repr

/-- A holding record (Table PLT-6). -/
structure Holding where
  id : Nat
  integrity : Bool
  mirror : Bool
  readAlloc : Bool
  passlock : Bool
  keyRef : Nat
  qos : Nat
  units : Nat
  name : List Nat
  deriving DecidableEq, Repr

/-- The configuration an accepted image gives (Tables PLT-5 to PLT-12). -/
structure Plat where
  diesPerCh : Nat
  dieGib : Nat
  logShare : Nat
  minEase : Nat
  dumpBands : Nat
  ckptBands : Nat
  monBands : Nat
  /-- Mode of each channel: 0 normal, 1 mirror-locked, 2 disabled. -/
  channel : List Nat
  holdings : List Holding
  /-- STAGING, CADASTRE, CTR_TAG_CACHE, ENGINE, FLUSH_SCRATCH, SURVEY_TRACE, RESERVE in MiB. -/
  dram : List Nat
  /-- ROLE and ARG of each engine. -/
  roles : List (Nat × Nat)
  bifurc : Nat
  maxRate : Nat
  flit68 : Nat
  decoders : Nat
  ideModes : Nat
  port0Mask : Nat
  port1Mask : Nat
  lineTrack : Nat
  cells : Nat
  chargeMa : Nat
  cellMv : Nat
  vinTrip : Nat
  vinResume : Nat
  monReserve : Nat
  assayDays : Nat
  temper1 : Nat
  step : Nat
  crit : Nat
  quench : Nat
  quenchMs : Nat
  restart : Nat
  restartS : Nat
  rise : Nat
  bgShare : Nat
  bgCrit : Nat
  logCrit : Nat
  weights : List Nat
  evRate : Nat
  evBurst : Nat
  /-- Overrides: code, rate, burst. -/
  evOver : List (Nat × Nat × Nat)
  deriving DecidableEq, Repr

structure PlatState where
  /-- Images in slots A and B; none where the slot holds no well-formed header. -/
  slotA : Option Image
  slotB : Option Image
  /-- The configuration in force, none before a LOAD accepts an image. -/
  active : Option Plat
  /-- The image of the active configuration. -/
  image : Option Image
  /-- The pending image that passed validation, with its class and options. -/
  pend : Option (Image × Nat)
  /-- The slot whose image is in force: false A, true B. -/
  slot : Bool
  /-- Bytes of the image being written by REPLAT WRITE (R85). -/
  written : Nat
  /-- A light replat's deed is not yet persistent (R50). -/
  lightDeed : Bool
  /-- The minimum security version that an applied or pending replat raises (R54). -/
  raiseSvn : Option Nat
  /-- LOAD laid the medium out in this start (R47). -/
  fresh : Bool
  deriving DecidableEq, Repr

/-! PST: the parameter store. -/

/-- A wrapped key record (Table CKE-3): generation, wrapped under the passphrase key or the KEK, the IV, the wrapped
key and its tag. -/
structure WrapRec where
  keyRef : Nat
  gen : Nat
  underPk : Bool
  present : Bool
  iv : BitVec 96
  wrapped : BitVec 256
  tag : BitVec 128
  deriving DecidableEq, Repr

/-- What the CONFIG deed records (Table PST-4). -/
structure ConfigDeed where
  slotB : Bool
  fp : Option Nat
  pendReplat : Option Nat
  migCursor : Nat
  migTotal : Nat
  pendFw : Option Bool
  activeFw : Bool
  owner : Option (BitVec 768)
  /-- A pending owner change: some none removes, some (some k) enrols. -/
  pendOwner : Option (Option (BitVec 768))
  deriving DecidableEq, Repr

/-- A deed's payload (Table PST-4). -/
inductive DeedVal
  | config (c : ConfigDeed)
  | shutdown (dirty : Bool)
  | datum (ns : Nat) (everSet : Bool)
  | power (cMargin esrFactor hbExtra : Nat)
  | base (capUf esrMohm : Nat)
  | tallyBase (value consumed : Nat)
  | keyWrap (w : WrapRec)
  deriving DecidableEq, Repr

/-- TYPE of a deed (Table PST-4). -/
def DeedVal.type : DeedVal → Nat
  | .config _ => 1 | .shutdown _ => 2 | .datum _ _ => 3 | .power _ _ _ => 4 | .base _ _ => 5 | .tallyBase _ _ => 6
  | .keyWrap _ => 0x10

/-- LEN of a deed's payload (Table PST-4). -/
def DeedVal.len : DeedVal → Nat
  | .config _ => 176 | .shutdown _ => 8 | .datum _ _ => 16 | .power _ _ _ => 12 | .base _ _ => 8 | .tallyBase _ _ => 16
  | .keyWrap _ => 72

/-- A deed in a sector (Table PST-3); `page` and `byte` are where it starts. -/
structure Deed where
  index : Nat
  copyB : Bool
  carried : Bool
  seq : Nat
  val : DeedVal
  crcOk : Bool
  valid : Mark
  page : Nat
  byte : Nat
  deriving DecidableEq, Repr

/-- One of the two sectors of a deed area (Table PST-5). `dirt`: the sector is partly erased or its header fails. -/
structure DeedSector where
  header : Option Nat
  copied : Mark
  active : Mark
  retired : Mark
  dirt : Bool
  deeds : List Deed
  /-- The append point: page and byte; page 0 is the header. -/
  page : Nat
  byte : Nat
  deriving DecidableEq, Repr

/-- A deed area: its lower and higher sector, and whether the higher one is in force (R418, R420). -/
structure DeedArea where
  low : DeedSector
  high : DeedSector
  activeHigh : Bool
  /-- Marks and erases deferred to the first READY (R420), as step codes. -/
  deferred : List Nat
  lost : Bool
  deriving DecidableEq, Repr

inductive TallyBit
  | blank | torn | programmed
  deriving DecidableEq, Repr

/-- A tally row (one page of sectors 148 to 151): its page, COUNTER, GEN, whether the header CRC passes, and its bits
in order, unlisted bits blank. -/
structure TallyRow where
  page : Nat
  counter : Nat
  gen : Nat
  hdrOk : Bool
  bits : List TallyBit
  deriving DecidableEq, Repr

/-- A monument hint (R424). -/
structure Hint where
  gen : Nat
  set : Nat
  datum : Nat
  fp : Nat
  crcOk : Bool
  deriving DecidableEq, Repr

/-- Why a sector is erased: its owner finds the work again after a reset (R429). -/
inductive EraseFor
  | collection (area : Nat) | eventLog | hint | slot | clear | raw | tally
  deriving DecidableEq, Repr

/-- A parameter-store operation (Table PST-8, R426). -/
inductive PstOp
  | deed (index : Nat) (val : DeedVal)
  | mark (area : Nat) (step : Nat)
  | collect (area : Nat)
  | tally (counter : Nat) (by_ : Nat)
  | hint (h : Hint)
  | evrBody (count : Nat)
  | evrMark (count : Nat)
  | imagePage (addr : Nat) (bytes : List Nat)
  | erase (sector : Nat) (why : EraseFor)
  | rawProg (addr : Nat) (bytes : List Nat)
  | rawErase (sector : Nat)
  | rawRead (addr : Nat) (len : Nat)
  | rawBlank (sector : Nat)
  deriving DecidableEq, Repr

/-- The running operation: its phase (programs done), whether its last try failed, and DTM_MONO, ns, at its start. -/
structure PstRun where
  op : PstOp
  phase : Nat
  retried : Bool
  start : Nat
  deriving DecidableEq, Repr

structure Pst where
  /-- Bytes of the firmware and plat slots, the spare sectors and raw-programmed places; unlisted bytes read 0xFF. -/
  flash : SMap Byte
  /-- Bits that read differently at the margin level (R414, R422). -/
  weak : SMap Byte
  areas : List DeedArea
  tallies : List TallyRow
  tallyNext : Nat
  hints0 : List Hint
  hints1 : List Hint
  hintHigh : Bool
  hintErasing : Bool
  /-- The replacement sectors in use: replaced sector, replacement (R412). -/
  replaced : List (Nat × Nat)
  /-- The deed generation counter (R415). -/
  gen : Nat
  /-- The deeds in force, by key (R416). -/
  inForce : List (Nat × Nat × DeedVal)
  queue : List PstOp
  run : Option PstRun
  /-- The head operation waits for its gate (R425), and was counted. -/
  gateWait : Bool
  ungated : Bool
  /-- Requests that arrived before the last operation ended and are not yet answered (R427); DTM_MONO, ns, at that end. -/
  owed : Nat
  endAt : Nat
  /-- The 256-byte page buffer as 64 words. -/
  buf : SMap Word
  deriving DecidableEq, Repr

/-! THM: sensors and levels. -/

/-- A sensor (R450, R451): its last reading in 1/16 °C, conversions missed in a row, and DTM_MONO, ns, of the last jump. -/
structure Sensor where
  value : Int
  valid : Bool
  failed : Bool
  misses : Nat
  jumpAt : Option Nat
  deriving DecidableEq, Repr

structure Thm where
  sensors : List Sensor
  /-- Temperature level and boost in force (R453, R454). -/
  level : Nat
  boost : Nat
  /-- Samples of the maximum reading over the last 100 ms: DTM_MONO, ns, and value. -/
  hist : List (Nat × Int)
  rate : Int
  /-- Start of the sustained conditions, DTM_MONO, ns. -/
  fallSince : Option Nat
  overSince : Option Nat
  underSince : Option Nat
  quenchSince : Option Nat
  restartSince : Option Nat
  warmSince : Option Nat
  warmTimeout : Bool
  /-- Consecutive quenches caused by failed sensors with no READY between them (R462). -/
  sensorQuenches : Nat
  stuck : Bool
  /-- Temperature of each circuit's last compensation, °C: bandgap, oscillator (R464). -/
  bandgapAt : Int
  oscAt : Int
  /-- Refresh rate code (R465). -/
  refresh : Nat
  /-- The applied level last reported (R455, R459). -/
  applied : Nat
  /-- Time counted at an applied level above 0, ns, and DTM_MONO, ns, at the start of the running stretch. -/
  temperNs : Nat
  temperAt : Nat
  deriving DecidableEq, Repr

/-! SVY: snapshots and counters. -/

/-- A requester's read buffer (R471). -/
structure SvyBuf where
  valid : Bool
  gen : Nat
  block : Nat
  words : List Word
  word : Nat
  deriving DecidableEq, Repr

structure Svy where
  gen : Nat
  missed : Nat
  /-- The snapshot areas: block, and the words of the block's registers in ascending offset order. -/
  areas : List (Nat × List Word)
  /-- Words latched for the _SNAP registers: offset and value. -/
  snaps : SMap Word
  bufBar2 : SvyBuf
  bufMctp : SvyBuf
  /-- The condition events of Table SVY-2 that were true at the last count (edge mode). -/
  conds : List Nat
  deriving DecidableEq, Repr

end Sys2Proof.Machine
end

