-- ==== Sys2Proof/Machine/TypesMed.lean ====
section
/-! DEFINITION. The data types of the medium, the Traverse bus and medium care. A die is named by channel × 4 + die
(R239); a place on the medium by die, tract, parcel and line, as the 36-bit key of `medKey`. -/

namespace Sys2Proof.Machine

/-- KIND of a line's metadata (Table MDC-1). -/
inductive LineKind
  | host | tag | counter | device
  deriving DecidableEq, Repr

/-- Under what a line is sealed (R326, R327; log entry 9): the holding key's generation, the counter (major, minor), the
device line it was sealed for. -/
structure Seal where
  gen : Nat
  major : Nat
  minor : Nat
  line : Nat
  deriving DecidableEq, Repr

/-- A line on the medium. It is held in the clear with the seal it carries: opening it under any other seal does not
give this data (log entry 9). -/
structure MedLine where
  data : Line
  under : Seal
  poison : Bool
  kind : LineKind
  deriving DecidableEq, Repr

/-- An operation a plane or a die runs: opcode, tract, parcel, DTM_MONO, ns, at its packet, time run before a suspend, and
DTM_MONO, ns, at a SUSPEND not yet completed. -/
structure DieOp where
  opcode : Nat
  tract : Nat
  parcel : Nat
  start : Nat
  elapsed : Nat
  suspended : Bool
  suspends : Nat
  asked : Option Nat
  deriving DecidableEq, Repr

/-- A completion a die holds (Table TRV-5), and the tract and parcel of its operation. -/
structure Completion where
  op : Nat
  result : Nat
  plane : Nat
  value : Nat
  tract : Nat
  parcel : Nat
  deriving DecidableEq, Repr

structure Die where
  planes : List (Option DieOp)
  reset : Option DieOp
  completions : List Completion
  lost : Bool
  /-- Packets the die has accepted, and packets the sequencer has sent, modulo 256 (SEQ). -/
  seq : Nat
  sent : Nat
  /-- The last temperature read, 1/16 °C, and whether the read after it failed (R456). -/
  temp : Option Int
  tempBad : Bool
  /-- A command whose answer comes without a plane: READ_LINE, READ_PARCEL, READ_STATUS, READ_ID or GET_TEMP, and
  DTM_MONO, ns, at its packet (R227). -/
  answer : Option (Nat × Nat)
  /-- End of the last program burst, DTM_MONO, ns (R220). -/
  progEnd : Option Nat
  /-- A command has timed out: its opcode, status reads sent, DTM_MONO, ns, of late completions (R228). -/
  timedOut : Option (Nat × Nat)
  late : List Nat
  /-- Level-set offsets: set × 3 + threshold − 1 to signed 5 mV steps. -/
  levels : SMap Int
  /-- Resends of the oldest unanswered packet (R229). -/
  resends : Nat
  deriving DecidableEq, Repr

/-- The classes of queue entries of a sequencer (R219). -/
inductive TrvClass
  | internalHost | hostRead | internal | writeThrough | writeBack | background
  deriving DecidableEq, Repr

/-- A queued bus command. -/
structure TrvReq where
  cls : TrvClass
  opcode : Nat
  die : Nat
  tract : Nat
  parcel : Nat
  line : Nat
  arg : Nat
  deriving DecidableEq, Repr

structure Channel where
  dies : List Die
  /-- 0 normal, 1 mirror-locked, 2 disabled. -/
  mode : Nat
  dieMask : Nat
  trained : Bool
  retraining : Bool
  lost : Bool
  mirrorDegraded : Bool
  /-- Errors in the last 100 µs, DTM_MONO, ns; failed retrains in a row; end of the last retrain. -/
  errs : List Nat
  retrainFails : Nat
  retrainedAt : Option Nat
  hostQ : List TrvReq
  progQ : List TrvReq
  bgQ : List TrvReq
  intQ : List TrvReq
  /-- Bus cycles taken or booked: first CK and length, rising. -/
  booked : List (Nat × Nat)
  /-- The parcel burst of a PROG_PARCEL: its die and the first CK of each of its lines not yet sent (R218). -/
  burst : Option (Nat × List Nat)
  /-- The die of the last chip select driven low. -/
  sel : Nat
  /-- RDY_N is low. -/
  rdyLow : Bool
  /-- PHY codes waiting for the next retune (R232, R238). -/
  phyNext : Option Word
  /-- °C of the last drive and termination computation (R232). -/
  compAt : Int
  deriving DecidableEq, Repr

structure Trv where
  channels : List Channel
  /-- TRV_RST_N is low. -/
  rstLow : Bool
  training : Bool
  /-- The collector (R234, R235): outbound queues of the 40 sources, each entry DTM units when it reached the head. -/
  coll : List (List Nat)
  collPtr : Nat
  /-- Completions handed over at the last tick: source, DTM units when the entry reached the head. -/
  taken : List (Nat × Nat)
  /-- Lines programmed since the reset of their tract: parcel place to mask (R211). -/
  programmed : SMap Quad
  deriving DecidableEq, Repr

/-- Patrol state (R261). -/
structure Patrol where
  active : Bool
  pos : Nat
  startedAt : Nat
  deriving DecidableEq, Repr

structure Mdc where
  /-- Weighted clock of each die, in units of 10^-11 s at 70 °C. -/
  clocks : List Nat
  /-- Misread counts of a die, bin and threshold: key to (too high, too low). -/
  misreads : SMap (Nat × Nat)
  /-- Lines decoded in a die and bin since the last adjustment. -/
  decoded : SMap Nat
  patrol : Patrol
  /-- Open stripes: band, stripe (R245). -/
  stripes : List (Nat × Nat)
  stripeFull : Bool
  /-- Bands under rebuild: band, position. -/
  rebuild : Option (Nat × Nat)
  /-- Retired dies (R263). -/
  retired : List Nat
  /-- Recoveries and retirements of the last 24 h: tract key or die, datum ns. -/
  recoveries : List (Nat × Nat)
  retirements : List (Nat × Nat)
  /-- The sum of corrected bits is in MDC_CORR. -/
  unrecovered : List Nat
  deriving DecidableEq, Repr

/-- What becomes of a line read from the medium: decoded with corrected bits split by threshold and side; recovered at a
step of R242; lost. -/
inductive Decoded
  | ok (bits : Nat) (high low : List Nat)
  | recovered (addrChk : Bool) (step : Nat)
  | lost (addrChk : Bool)
  deriving DecidableEq, Repr

/-- The registers of R270. -/
inductive MdcParam
  | retainH | annealPlan | rdcntLog2 | unpwrTemp | patrolDays | refreshBits
  deriving DecidableEq, Repr

/-- The key of a place on the medium: die (7 bits), tract (14), parcel (9), line (6), as ADDR_CHK orders them
(Table MDC-1). -/
def medKey (die tract parcel line : Nat) : Nat := ((die * 16384 + tract) * 512 + parcel) * 64 + line

/-- The key of a parcel place. -/
def placeKey (die tract parcel : Nat) : Nat := (die * 16384 + tract) * 512 + parcel

/-- The key of a tract. -/
def tractKey (die tract : Nat) : Nat := die * 16384 + tract

end Sys2Proof.Machine
end

