-- ==== Sys2Proof/Machine/TypesHost.lean ====
section
/-! DEFINITION. The data types of the host ports, staging and the cadastre. A line is named by its device DPA divided
by 64, a parcel by its device DPA divided by 4 KiB, a plot by its device DPA divided by 32 MiB. -/

namespace Sys2Proof.Machine

/-! HPT: ports. -/

/-- Why a write is refused at admission or at install (Table HPT-12, R87). -/
inductive Refuse
  | decoder | state | holding | counter | poison | readonly | quarantine | unrecoverable
  deriving DecidableEq, Repr

/-- Where a write-through entry's line has been programmed and verified (R95, R167): the slot, its band, the lines' data and
seals, and whether it was redirected to easement (R118). -/
structure Placed where
  slot : Nat
  band : Nat
  mask : Quad
  seals : List (Nat × Seal)
  data : Line
  deriving DecidableEq, Repr

/-- A port write buffer entry (chapter Ordering, before R93). -/
structure PwbEntry where
  line : Nat
  portDpa : Nat
  data : Line
  mask : Quad
  seq : Nat
  /-- Mode in force at acceptance: true write-back, false write-through (R19). -/
  writeBack : Bool
  refused : Option Refuse
  /-- Writes merged into the entry: one completion each (R93). -/
  merged : Nat
  /-- The write of a LINE_MAINT unit or of Clear Poison: it has no completion of its own. -/
  unit : Bool
  /-- Sequence numbers of the merged writes after the first. -/
  lastSeq : Nat
  /-- DTM_MONO, ns, at acceptance of the first write. -/
  acceptedAt : Nat
  begun : Bool
  /-- Write-through: the data line has verified (R95). -/
  placed : Option Placed
  /-- Redirected to easement in write-through mode (R119). -/
  degraded : Bool
  /-- Waits for budget (R136) and was counted. -/
  stalled : Bool
  deriving DecidableEq, Repr

/-- A read-queue slot (Table ORD-1). `refused`: not admitted, answered with poison. `fetch`: the medium read is in
flight. -/
structure RdReq where
  tag : Nat
  line : Nat
  seq : Nat
  acceptedAt : Nat
  refused : Bool
  fetching : Bool
  deriving DecidableEq, Repr

/-- An HDM decoder (R65). Sizes and addresses in bytes. -/
structure Decoder where
  hpaBase : Nat
  size : Nat
  skip : Nat
  ways : Nat
  granularity : Nat
  lockOnCommit : Bool
  committed : Bool
  /-- Port DPA range of a committed decoder. -/
  dpaBase : Nat
  dpaSize : Nat
  errNotCommitted : Bool
  deriving DecidableEq, Repr

/-- The states of a link IDE stream (HPT_IDE_STAT.STATE). -/
inductive IdeState
  | insecure | secure | refreshWait | error
  deriving DecidableEq, Repr

/-- Link IDE of a port (R67 to R70): its state and counters are those of the CXL.cachemem stream; `io`: the active key set
of the PCIe link IDE stream, none while it is insecure. `keys`: the port's key store (R380), by place. -/
structure Ide where
  state : IdeState
  skid : Bool
  rxMacFail : Bool
  keySet : Bool
  txIv : Nat
  rxIv : Nat
  /-- DTM_MONO, ns, at entry to REFRESH_WAIT. -/
  waitSince : Option Nat
  waitMs : Nat
  keys : List (Nat × BitVec 256)
  io : Option Nat
  deriving DecidableEq, Repr

structure Port where
  pwb : List PwbEntry
  reads : List RdReq
  /-- The next acceptance sequence number (R92). -/
  nextSeq : Nat
  decoders : List Decoder
  ide : Ide
  linkUp : Bool
  rate : Nat
  width : Nat
  flit256 : Bool
  laneOk : Nat
  /-- Uncorrectable flit errors per lane in the running 1 ms window: lane, count, window start. -/
  laneErrs : List (Nat × Nat × Nat)
  /-- A drain's cut: the last sequence number it covers (R114). -/
  drain : Option Nat
  /-- GPF Phase 2: the cut and DTM_MONO, ns, at acceptance (R116). -/
  gpf : Option (Nat × Nat)
  /-- DTM_MONO, ns, of the last admission (R61). -/
  admitAt : Option Nat
  /-- A function-level reset waits for the accepted writes (R122). -/
  flr : Bool
  /-- Responses held while transmission is stopped in REFRESH_WAIT (R70). -/
  heldOut : List Output
  /-- The Informational, Warning, Failure and Fatal event logs (R90). -/
  logs : List (List EvrRec)
  /-- The overflow flag of each of them. -/
  logOvf : List Bool
  evtPolicy : Nat
  doorbell : Bool
  /-- The label storage area (R76), both copies. -/
  lsa : SMap Byte
  lsaCopy : SMap Byte
  deriving DecidableEq, Repr

/-- The single background operation (R72). -/
structure Background where
  via : Via
  opcode : Nat
  deriving DecidableEq, Repr

/-- A firmware slot (R406, R407, Table ENG-6): version, security version, the first check of R406 that fails as a RESULT code of
ENG_FW_STAT (0 none, 1 CRC, 2 FORMAT, 3 STEPPING, 4 SIGNATURE, 6 TAG, 7 ROLE), bytes written. -/
structure FwSlot where
  version : Nat
  svn : Nat
  check : Nat
  written : Nat
  deriving DecidableEq, Repr

/-- Persistent-memory security (R377 to R379). `pkCheck` stands for the stored passphrase check. -/
structure Security where
  passphrase : Option (BitVec 256)
  frozen : Bool
  unlocked : Bool
  fails : Nat
  /-- The passphrase is refused until cold reset (R379). -/
  exhausted : Bool
  /-- What the passphrase becomes once the rewrapped keys are persistent (Table CKE-5). -/
  next : Option (Option (BitVec 256))
  deriving DecidableEq, Repr

/-- An image chunk on its way into a slot (R85, R406): who sent it, whether a program or an erase of it failed, and what the
slot holds once it is in. -/
structure Writing where
  via : Via
  opcode : Nat
  failed : Bool
  image : Option Image
  fw : Option FwSlot
  deriving DecidableEq, Repr

/-- Mailbox services shared by the ports and MCTP. -/
structure Svc where
  writing : Option Writing
  /-- SURVEY STROBE commands that wait for their latch. -/
  strobing : List Via
  background : Option Background
  /-- Opcode and return code of the last background operation. -/
  lastBackground : Option (Nat × Nat)
  /-- Poison list (R78, R88): lines reading as poison; injected ones. -/
  poison : List Nat
  injected : List Nat
  /-- Scan media: port, start line, lines; results of the last scan. -/
  scan : Option (Via × Nat × Nat)
  scanResults : List Nat
  shutdownDirty : Bool
  /-- Sanitize or Secure Erase in progress (R79); the holdings under crypto-erase (R84, R379). -/
  erasing : Bool
  erasingHoldings : List Nat
  fwA : Option FwSlot
  fwB : Option FwSlot
  /-- The slot whose firmware runs: false A, true B; none while none runs. -/
  fwRun : Option Bool
  fwPending : Option Bool
  security : Security
  deriving DecidableEq, Repr

/-! STG: staging. -/

/-- STATE of a tag entry (Table STG-2). -/
inductive FrameSt
  | free | inUse | reserve | retired
  deriving DecidableEq, Repr

/-- A frame: its tag entry (Table STG-2) and its data lines. -/
structure Frame where
  st : FrameSt
  holding : Nat
  parcel : Nat
  valid : Quad
  dirty : Quad
  poison : Quad
  ref : Bool
  wb : Bool
  /-- An uncorrectable data error occurred in the frame (R144). -/
  ue : Bool
  /-- The frame was taken from the last-write reserve (R153, R155). -/
  fromReserve : Bool
  data : SMap Line
  deriving DecidableEq, Repr

/-- An entry of the write-back table (R131, R132): frame, parcel, line mask, REDIRTY mask, the slot
index taken in the log, its band, and whether the write-back is forced (R137) or for maintenance or a clean-all. -/
structure Wb where
  frame : Nat
  parcel : Nat
  mask : Quad
  redirty : Quad
  poison : Quad
  /-- The seal of each line, by line index. -/
  seals : List (Nat × Seal)
  slot : Nat
  band : Nat
  forced : Bool
  deriving DecidableEq, Repr

/-- A fill in flight (R126, R141): the line, its frame, what arrived during it. `install`: the fetched data are to be
installed; `merge`: bytes and mask of a partial write that waits for them. -/
structure Fill where
  line : Nat
  frame : Option Nat
  install : Bool
  merge : Option (Line × Quad)
  readers : List (Fin 2 × Nat)
  /-- Readers that arrived after an INVAL_LINE and need a fresh fetch. -/
  fresh : List (Fin 2 × Nat)
  deriving DecidableEq, Repr

/-- A LINE_MAINT in progress on a port (R83, Table HPT-9): OP, first port line or parcel, units, the unit it is at, units
completed, the first refused one, the port's acceptance sequence at the command (R113), whether the unit's writes have entered
the buffer and whether one of them was refused. -/
structure Maint where
  port : Nat
  op : Nat
  first : Nat
  count : Nat
  next : Nat
  ok : Nat
  firstFail : Option Nat
  cut : Nat
  pushed : Bool
  bad : Bool
  deriving DecidableEq, Repr

structure Stg where
  /-- Frames, reserve included; 0 before LOAD (R157). -/
  count : Nat
  frames : SMap Frame
  /-- The free list: the frames from `freeNext` up that were never given out, then the returned ones in order. -/
  freeNext : Nat
  freeTail : List Nat
  front : Nat
  back : Nat
  /-- The back hand runs (R133). -/
  backRunning : Bool
  wbt : List Wb
  fills : List Fill
  enabled : Bool
  draining : Bool
  stale : Bool
  /-- Invalidate running: 0 none, 1 tag cache, 2 staging invalidate (R150, R151). -/
  invalidating : Nat
  /-- Frames a CLEAN_ALL still covers. -/
  cleaning : List Nat
  rsvActive : Bool
  rsvSealed : Bool
  rsvLeft : Nat
  /-- The dirty budget in parcels, from the energy meter (R285). -/
  budget : Nat
  budgetStall : Bool
  /-- The LINE_MAINT of each port. -/
  maint : List Maint
  deriving DecidableEq, Repr

/-! CDS: the cadastre. -/

/-- A plot-map entry (Table CDS-2). -/
structure PlotEnt where
  valid : Bool
  logged : Bool
  merging : Bool
  stream : Bool
  heat : Nat
  logParcels : Nat
  streamBand : Nat
  band : Nat
  /-- Log parcels written since HEAT last rose (R175). -/
  heatCnt : Nat
  deriving DecidableEq, Repr

/-- A log record (Table CDS-3); NEXT is the order of its bucket's chain. -/
structure LogRec where
  mask : Quad
  live : Bool
  zero : Bool
  postCut : Bool
  parcel : Nat
  deriving DecidableEq, Repr

/-- What a band is used for (Table SCP-4, Table CDS-1). -/
inductive BandRole
  | plot | logOpen | logFull | stream | dump | monument | checkpoint | mergeTarget | moved
  deriving DecidableEq, Repr

/-- A band: 17 member tracts (channel, die, tract), the last of which holds parity, its log-space ordinal, and what it
has written. -/
structure Band where
  role : BandRole
  members : List (Nat × Nat × Nat)
  ordinal : Option Nat
  /-- Slots taken of a log, stream or dump band. -/
  used : Nat
  plot : Nat
  /-- DTM_MONO, ns, of the last write-back to it (R164). -/
  lastAt : Nat
  /-- Members lost (by position), awaiting rebuild (R263, R265). -/
  missing : List Nat
  /-- Weighted age base (R255): weighted clock of each member's die when written. -/
  bornAt : List Nat
  annealPlanned : Bool
  annealDue : Bool
  deriving DecidableEq, Repr

/-- Tract states (Table CDS-6). -/
inductive TractSt
  | free | allocated | obsolete | resetting | retired
  deriving DecidableEq, Repr

/-- A tract: its state, its reset count, its decode and program failures, read count since the last reset (R259). -/
structure Tract where
  st : TractSt
  resets : Nat
  fails : Nat
  recovered : Nat
  reads : Nat
  deriving DecidableEq, Repr

/-- An open write-through slot (R167): parcel, slot index, programmed lines, DTM_MONO, ns, of the last write. -/
structure WtSlot where
  parcel : Nat
  slot : Nat
  mask : Quad
  lastAt : Nat
  deriving DecidableEq, Repr

/-- Kinds of background work (Table CDS-5). -/
inductive WorkKind
  | rebuild (band : Nat)
  | anneal (band : Nat)
  | mergePlot (plot : Nat) (crit : Bool)
  | streamSwitch (plot band : Nat)
  | resetTract (ch die tract : Nat)
  | checkpoint (forced : Bool)
  | rekey
  | wearMove (plot : Nat)
  | migrate
  | patrol
  deriving DecidableEq, Repr

/-- A pending background task: kind, priority, deadline (DTM_MONO, ns), order of creation, whether its gate wait was
counted (R180). -/
structure Work where
  kind : WorkKind
  prio : Nat
  deadline : Option Nat
  born : Nat
  gateCounted : Bool
  lateCounted : Bool
  deriving DecidableEq, Repr

/-- A release in progress (R84, R181, R182): the command it belongs to, first parcel, parcels, secure, parcels still to
release. -/
structure Release where
  opcode : Nat
  first : Nat
  count : Nat
  secure : Bool
  left : Nat
  deriving DecidableEq, Repr

/-- A migration in progress (R53): class, the configuration it leaves, the image that will take effect, the counted plots as ranges (first plot, plots), their
total, the cursor, the plots already rebuilt (plot of the new layout, band), the new key generations of moved holdings, the
minimum security version to raise. -/
structure MigMap where
  cls : Nat
  from_ : Plat
  image : Image
  ranges : List (Nat × Nat)
  total : Nat
  cursor : Nat
  moved : List (Nat × Nat)
  gens : List (Nat × Nat)
  raiseSvn : Option Nat
  deriving DecidableEq, Repr

structure Cds where
  plots : SMap PlotEnt
  records : SMap LogRec
  /-- Bucket chains: bucket to slot indices, newest first (R160). -/
  chains : SMap (List Nat)
  bands : SMap Band
  tracts : SMap Tract
  /-- Plane pointer of each die that has given a tract: die key to plane (R175). -/
  planes : SMap Nat
  /-- Log-space ordinals free for log bands, and spare for dump adoption (R158, R184). -/
  ordinalsFree : List Nat
  ordinalsSpare : List Nat
  /-- Open ordinary log bands and the rotation among them (R164). -/
  openLogs : List Nat
  rotor : Nat
  openStreams : List Nat
  fullLogs : List Nat
  /-- The dump reservation: bands, and slots taken by a running flush (R168, R300). -/
  dumpBands : List Nat
  dumpUsed : Nat
  wtSlots : List WtSlot
  /-- Merges in progress: plot, target band, and why: 0 a merge, 1 a wear move, 2 an anneal. -/
  merges : List (Nat × Nat × Nat)
  mergeReserve : Nat
  work : List Work
  workBorn : Nat
  /-- A BWS step in progress needing a gate. -/
  release : Option Release
  /-- Releases of crypto-erased holdings that wait for their turn (R379). -/
  releases : List Release
  /-- Marked tracts of a secure release (R182). -/
  marked : List (Nat × Nat × Nat)
  /-- Dirty cadastre pages (R166) and journal lines since the last seal. -/
  dirtyPages : List Nat
  journal : Nat
  ckptBusy : Bool
  ckptAll : Bool
  mergeAll : List Nat
  floorWait : Bool
  /-- READONLY condition (R183). -/
  roCond : Bool
  wearActive : Bool
  /-- Buckets whose chain is being rebuilt (R185). -/
  rebuilding : List Nat
  /-- Log and merge parcels in the running second, and its start (R174). -/
  waLog : Nat
  waMerge : Nat
  waSince : Nat
  /-- The same of the full second before it. -/
  waLastLog : Nat
  waLastMerge : Nat
  /-- DTM_MONO, ns, of the last halving of HEAT (R175). -/
  heatAt : Nat
  mig : Option MigMap
  deriving DecidableEq, Repr

/-- The cadastre's tuning registers (R188). -/
inductive CdsParam
  | logFloor | chainMax | wearSpread | wearHyst | binWidth | ckptHigh | ckptLow | bwsCtl
  deriving DecidableEq, Repr

/-- What the inline cache or the pinned area held where the stacked DRAM gave an uncorrectable error (R350): a clean line, a
pinned or dirty node whose recomputation matches its parent or not, a dirty counter block, a dirty tag line. -/
inductive ImeUe
  | clean
  | node (level : Nat) (agrees : Bool)
  | counter
  | tagLine
  deriving DecidableEq, Repr

/-- What is lost of the metadata of a line (R346, R349): its tag line, or a counter block or tree node of a level, by
tampering or unreadable. -/
inductive MetaFault
  | tagLine
  | node (level : Nat) (tamper : Bool)
  | dram (ue : ImeUe)
  deriving DecidableEq, Repr

/-- A line as it comes from the medium: the outcome of its decode, whether its tag matches on the lane used and on the other
one (R344, R346), and a fault of its metadata. -/
structure LineRead where
  decoded : Decoded
  tagA : Bool
  tagB : Bool
  lost : Option MetaFault
  /-- On a locked pair, the line delivered came from the odd channel (R225). -/
  odd : Bool
  deriving DecidableEq, Repr

/-- A fault of the stacked DRAM met by an access to staging (R125, R142, R143). -/
inductive StgFault
  | corrected | dataUe | tagCache | tagCopy | tagDirtyLost | tagParcelLost
  deriving DecidableEq, Repr

/-- The clock registers of staging (R157). -/
inductive StgParam
  | freeLow | freeHigh | spread
  deriving DecidableEq, Repr

end Sys2Proof.Machine
end

