-- ==== Sys2Proof/Machine/TypesPwr.lean ====
section
/-! DEFINITION. The data types of the supplies, the hold-up bank, mains tracking, the flush and the monuments. -/

namespace Sys2Proof.Machine

/-! PWR: rails, converter, bank. -/

/-- Converter modes (Table PWR-2). -/
inductive ConvMode
  | off | charge | float | discharge | assay
  deriving DecidableEq, Repr

def ConvMode.code : ConvMode → Nat
  | .off => 0 | .charge => 1 | .float => 2 | .discharge => 3 | .assay => 4

/-- Bank states (R288). -/
inductive BankState
  | absent | charging | armed | degraded | discharging
  deriving DecidableEq, Repr

def BankState.code : BankState → Nat
  | .absent => 0 | .charging => 1 | .armed => 2 | .degraded => 3 | .discharging => 4

/-- DEGRADED causes (PWR_BANK_STAT.CAUSE). -/
inductive BankCause
  | none | noBank | capLow | esrHigh | cellShort | cellOpen | cellOvervolt | assayOverdue | chargeFault | overcurrent
  deriving DecidableEq, Repr

def BankCause.code : BankCause → Nat
  | .none => 0 | .noBank => 1 | .capLow => 2 | .esrHigh => 3 | .cellShort => 4 | .cellOpen => 5 | .cellOvervolt => 6
  | .assayOverdue => 7 | .chargeFault => 8 | .overcurrent => 9

/-- Phases of an assay (R281). -/
inductive AssayPhase
  | idle | waitGate | relax | step | integrate | settle
  deriving DecidableEq, Repr

/-- An assay's measurements: V0 mV, bank charge µC, step current mA, ESR mΩ, load mW; whether the gate was forced; who
asked for it in the background slot. -/
structure Assay where
  phase : AssayPhase
  v0 : Nat
  charge : Nat
  stepMa : Nat
  esr : Nat
  load : Nat
  forced : Bool
  background : Bool
  deriving DecidableEq, Repr

structure Pwr where
  /-- Measured voltages, mV, and mean inductor current, mA. -/
  vin : Nat
  hb : Nat
  bankV : Nat
  cellV : List Nat
  convI : Int
  chgMw : Nat
  /-- Rails below their warning level, by bit of PWR_RAIL_STAT. -/
  railWarn : Nat
  gdIn : Bool
  conv : ConvMode
  /-- The mode left for DISCHARGE (R277). -/
  convBefore : ConvMode
  bank : BankState
  bankBefore : BankState
  cause : BankCause
  faultCell : Nat
  /-- Latched until supplies good: NO_BANK, CHARGE_FAULT, cell causes, OVERCURRENT (R288). -/
  latched : List BankCause
  /-- CELLS, float mV and charge mA in force; none before LOAD accepts an image (R509). -/
  cells : Option Nat
  floatMv : Nat
  chargeMa : Nat
  cellMv : Nat
  /-- DTM_MONO, ns, when charging started under the image, and BANK_SNS then (R288). -/
  chargeFrom : Option Nat
  chargeV0 : Nat
  balance : Nat
  cellFault : Nat
  limitCycles : Nat
  /-- Assay results: C µF, ESR mΩ, base values, passed since supplies good, datum ns, load mW, last result. -/
  capUf : Nat
  esrMohm : Nat
  capBase : Nat
  esrBase : Nat
  assayValid : Bool
  assayDatum : Nat
  assayLoad : Nat
  assayResult : Nat
  assayForced : Bool
  assayOverdue : Bool
  /-- Datum, ns, of the last passing assay, for the ASSAY_DAYS timer. -/
  assayTimer : Nat
  assay : Assay
  /-- An assay is asked for and waits. -/
  assayWanted : Bool
  baseReset : Bool
  /-- First float after supplies good has been reached (R281). -/
  floated : Bool
  /-- Energy meter (R284): usable mJ, raw budget, cap, surplus mJ, held mJ. -/
  usable : Nat
  raw : Nat
  cap : Nat
  surplus : Int
  hold : Nat
  /-- Live estimate during discharge (R297): capacitance µF, ESR mΩ. -/
  live : Option (Nat × Nat)
  /-- The budget lowered to force an assay's gate (R282). -/
  forcedCap : Option Nat
  /-- PWRFAIL_N is asserted (R20, R296). -/
  pwrfail : Bool
  deriving DecidableEq, Repr

/-! PFL: tracking, flush, monuments. -/

/-- Tracker states (R293, R295). -/
inductive Tracker
  | unlocked | locked | fault
  deriving DecidableEq, Repr

/-- Flush phases (Table PFL-1). -/
inductive Phase
  | idle | sealing | drain | monument | rest | done
  deriving DecidableEq, Repr

def Phase.code : Phase → Nat
  | .idle => 0 | .sealing => 1 | .drain => 2 | .monument => 3 | .rest => 4 | .done => 5

/-- Monument KIND (Table PFL-4). -/
inductive MonKind
  | run | flush | quench | reset
  deriving DecidableEq, Repr

def MonKind.code : MonKind → Nat
  | .run => 1 | .flush => 2 | .quench => 3 | .reset => 4

/-- An entry of the dump index: dump band and slot, parcel, line mask, POISON marks of the lines drained (R300). The
sealed lines themselves lie on the medium. -/
structure DumpEnt where
  band : Nat
  slot : Nat
  parcel : Nat
  mask : Quad
  poison : Quad
  deriving DecidableEq, Repr

/-- Re-key state of a holding as a monument records it (Table PFL-4, R360). -/
structure RekeyRec where
  holding : Nat
  boundary : Nat
  gen : Nat
  flags : Nat
  deriving DecidableEq, Repr

/-- A monument copy's contents (Tables PFL-3, PFL-4). `bad`: the copy fails R308. -/
structure Monument where
  kind : MonKind
  gen : Nat
  short : Bool
  metaShort : Bool
  unflOvf : Bool
  wtAtTrip : Bool
  braced : Bool
  carried : Bool
  datum : Nat
  fp : Nat
  dump : List DumpEnt
  /-- Cadastre delta: page and dump slot. -/
  deltaPages : List (Nat × Nat)
  /-- Metadata left unwritten (rows of Table PFL-2), for RECOVER. -/
  lost : List Nat
  unflushed : List (Nat × Quad)
  overflow : List Nat
  rootSeq : Nat
  rekey : List RekeyRec
  sealUs : Nat
  drainUs : Nat
  monUs : Nat
  sealMj : Nat
  drainMj : Nat
  monMj : Nat
  tripDatum : Nat
  usableAtTrip : Nat
  fromState : Nat
  drained : Nat
  unflTotal : Nat
  /-- Mark lines programmed (R314), and the rest line's time and energy (R304). -/
  marks : Nat
  rest : Option (Nat × Nat)
  bad : Bool
  deriving DecidableEq, Repr

/-- A monument set (R307): its two copies, none where the copy's bands are reset. -/
structure MonSet where
  a : Option Monument
  b : Option Monument
  deriving DecidableEq, Repr

/-- The flush report (Table PFL-6). -/
structure FlushReport where
  mon : Option Monument
  restUs : Nat
  restMj : Nat
  monSkipped : Bool
  missing : Bool
  recoverMs : Nat
  /-- No valid monument on a medium that carries a layout: the DIAG state of R310. -/
  lost : Bool
  deriving DecidableEq, Repr

structure Pfl where
  tracker : Tracker
  /-- The last accepted edge and the last reference, DTM_MONO ns; intervals of the last edges, newest first. -/
  lastEdge : Option Nat
  reference : Option Nat
  intervals : List Nat
  /-- Tracked half-period, ns. -/
  half : Nat
  /-- The edge window has expired since the reference (R293). -/
  windowOut : Bool
  /-- On-time edges in a row in BRACED (R21), and DTM_MONO, ns, at entry. -/
  onTime : Nat
  braceAt : Nat
  /-- VIN_SNS below the trip level since, DTM_MONO ns. -/
  vinLowSince : Option Nat
  vinHighSince : Option Nat
  /-- The flush. -/
  phase : Phase
  kind : MonKind
  phaseAt : Nat
  /-- PWR_USABLE_MJ at the start of the phase. -/
  phaseUsable : Nat
  monNeed : Nat
  short : Bool
  metaShort : Bool
  unflOvf : Bool
  monSkipped : Bool
  wtAtTrip : Bool
  tripBraced : Bool
  tripDatum : Nat
  tripUsable : Nat
  fromState : Nat
  /-- The trip ran Rest alone, or Seal and Rest alone (R296, R321). -/
  restOnly : Bool
  dump : List DumpEnt
  delta : List (Nat × Nat)
  drainedMeta : Nat
  /-- What Drain still has to write, fixed at the end of Seal: metadata items (rows of Table PFL-2) and frames. -/
  metaLeft : List Nat
  frameLeft : List Nat
  unflushed : List (Nat × Quad)
  overflow : List Nat
  unflTotal : Nat
  /-- Datum, ns, at the start of Monument. -/
  monDatum : Nat
  sealUs : Nat
  drainUs : Nat
  monUs : Nat
  sealMj : Nat
  drainMj : Nat
  monMj : Nat
  /-- SIM_TRIP started this flush (R323). -/
  sim : Bool
  /-- Monument sets 0 and 1 on the medium (R307). -/
  set0 : MonSet
  set1 : MonSet
  /-- The set being reset, and its tracts still to reset (R315). -/
  resetSet : Option Bool
  resetLeft : List Nat
  /-- The monument selected by the last RECOVER, and the newest written. -/
  newest : Nat
  report : FlushReport
  /-- Generation covered by the latest sealed checkpoint directory (R313). -/
  ckptGen : Nat
  deriving DecidableEq, Repr

end Sys2Proof.Machine
end

