-- ==== Sys2Proof/Machine/TypesSec.lean ====
section
/-! DEFINITION. The data types of inline encryption, the cipher engine, the sessions and the engines. -/

namespace Sys2Proof.Machine

/-! IME: counters, quarantine, re-key. -/

/-- A counter block (Table IME-3); `gen` is the key generation of the group's lines, whose parity is bit 448. -/
structure CtrBlock where
  major : Nat
  minors : SMap Nat
  exh : Bool
  warn : Bool
  quar : Bool
  gen : Nat
  deriving DecidableEq, Repr

/-- An entry of the quarantine table (R351). Base and length in lines. -/
structure QuarEnt where
  base : Nat
  len : Nat
  holding : Nat
  tamper : Bool
  qgen : Nat
  large : Bool
  whole : Bool
  writeHold : Bool
  deriving DecidableEq, Repr

/-- Key generations and re-key of a holding (R355 to R359): CUR, whether a re-key runs, whether NEW's deed is
persistent, the boundary B, a queued re-key, and whether the key is locked (R378). -/
structure Rekey where
  cur : Nat
  active : Bool
  deed : Bool
  boundary : Nat
  queued : Bool
  locked : Bool
  deriving DecidableEq, Repr

structure Ime where
  /-- Write lanes 0 and 1, read lanes 0 and 1: in service; DTM_MONO, ns, of their mismatches in the last second. -/
  lanes : List Bool
  misses : List (List Nat)
  /-- Lane to use next: write, read (R343). -/
  nextWrite : Nat
  nextRead : Nat
  /-- Counter blocks by group (device DPA / 4 KiB). -/
  ctr : SMap CtrBlock
  /-- The pending counter table (R329): line, MAJOR, minor. -/
  pct : List (Nat × Nat × Nat)
  pctWait : Bool
  root : List Quad
  /-- Root writes since supplies good: orders the recorded roots. -/
  rootSeq : Nat
  /-- Dirty metadata parcels of the cache (R342), by metadata DPA / 4 KiB. -/
  metaDirty : List Nat
  quar : List QuarEnt
  rekeys : SMap Rekey
  /-- Generations loaded in the inline key store: holding, generation; and the epoch of XM1, XM2 and T (R325, R374). -/
  loaded : List (Nat × Nat)
  devKeys : Option Nat
  recomputing : Bool
  /-- Lines whose encryption the inverse check holds (R344). -/
  stuck : List Nat
  deriving DecidableEq, Repr

/-! CKE. -/

/-- A key slot (R370, R381): its key, the fixed field of its IVs and its invocation counter. -/
structure KeySlot where
  key : Option (BitVec 256)
  fixed : Word
  ctr : Nat
  deriving DecidableEq, Repr

/-- Who submitted an operation (R366). -/
inductive CkeSrc
  | engine | register
  deriving DecidableEq, Repr

/-- Operations of Table CKE-1. -/
inductive CkeCode
  | gcmEncrypt | gcmDecrypt | gmac | gmacVerify | wrap | unwrap | derive | sha384 | genKey | zeroSlot | ideMove
  deriving DecidableEq, Repr

/-- A submitted operation. Offsets in bytes of the ENGINE partition. -/
structure CkeOp where
  code : CkeCode
  src : CkeSrc
  slot : Nat
  dest : Nat
  arg : Nat
  from_ : Nat
  to_ : Nat
  len : Nat
  aadLen : Nat
  iv : BitVec 96
  tag : BitVec 128
  keyInvalid : Bool
  /-- The run ended with a core mismatch once (R365). -/
  reran : Bool
  deriving DecidableEq, Repr

/-- What an engine submits with an operation (R366): slots, ARG, offsets in bytes of the ENGINE partition, lengths, the
IV and tag, and the record of an UNWRAP. -/
structure CkeArgs where
  slot : Nat
  dest : Nat
  arg : Nat
  from_ : Nat
  to_ : Nat
  len : Nat
  aadLen : Nat
  iv : BitVec 96
  tag : BitVec 128
  deriving DecidableEq, Repr

/-- A submission: by an engine, or by a write of CKE_OP_CTL with START set (R366). -/
inductive Submit
  | engine (a : CkeArgs)
  | register (via : Via) (v : Word)
  deriving DecidableEq, Repr

/-- A slot write that waits for the running operation (R371). -/
inductive KeyWrite
  | load (slot : Nat) (key : BitVec 256)
  | zero (slot : Nat)
  deriving DecidableEq, Repr

/-- A challenge (R383): drawn at DTM_MONO, ns. -/
structure Challenge where
  value : BitVec 128
  drawnAt : Nat
  /-- Its 60 s are over; it is still there to be refused as expired (R384). -/
  expired : Bool
  deriving DecidableEq, Repr

/-- The SPDM responder of a port or of MCTP (R388): how far its connection has come, and its session. -/
structure Spdm where
  version : Bool
  caps : Bool
  algs : Bool
  session : Option Nat
  finished : Bool
  deriving DecidableEq, Repr

/-- A link key in transit (R380): slot, port, stream, direction, key set, sub-stream. -/
structure Transit where
  slot : Nat
  port : Nat
  place : Nat
  deriving DecidableEq, Repr

structure Cke where
  slots : List KeySlot
  /-- The running operation is the head; up to 4 queued entries and one of the registers. -/
  queue : List CkeOp
  /-- BUSY, DONE and STATUS of the register operation. -/
  regBusy : Bool
  regDone : Bool
  regStatus : Nat
  /-- STATUS and tag of the last operation an engine submitted. -/
  engStatus : Nat
  engTag : BitVec 128
  keyData : List Word
  loadErr : Bool
  waiting : List KeyWrite
  challenge : Option Challenge
  /-- CKE_CHAL keeps the last challenge drawn. -/
  chalReg : BitVec 128
  authLocked : Bool
  authFails : Nat
  authLastOp : Nat
  authResult : Nat
  stage : SMap Byte
  rngFail : Bool
  rngRequests : Nat
  /-- DTM_MONO, ns, of the last health test while FAIL is set (R375). -/
  rngAt : Nat
  debug : Bool
  /-- Foaro key revoke fuses (R385), burnt bits 3:0. -/
  revoked : Nat
  /-- The ENGINE partition (Table ENG-2); unlisted bytes read 0. -/
  mem : SMap Byte
  transit : List Transit
  /-- Key_Prog requests that wait for a transit slot: port, place, key. -/
  transitWait : List (Nat × Nat × BitVec 256)
  /-- KEK counter values reserved through the tallies (R381): first value not reserved. -/
  kekReserved : Nat
  spdm0 : Spdm
  spdm1 : Spdm
  spdmMctp : Spdm
  /-- The enrolled owner key, and whether a pending one is recorded (R387). -/
  owner : Option (BitVec 768)
  pendOwner : Option (Option (BitVec 768))
  deriving DecidableEq, Repr

/-! ENG. -/

/-- STATE of E[n]_STAT. -/
inductive EngState
  | off | running | spare | failingOver | selftest | retired
  deriving DecidableEq, Repr

def EngState.code : EngState → Nat
  | .off => 0 | .running => 1 | .spare => 2 | .failingOver => 3 | .selftest => 4 | .retired => 5

/-- An engine; a role is code × 32 + ARG, as ROLE1 lays it out. Times are DTM_MONO, ns. -/
structure Engine where
  st : EngState
  roles : List Nat
  kickAt : Nat
  failedAt : Option Nat
  /-- It failed twice within 3,600 s, or was retired before its self-test (R399). -/
  again : Bool
  /-- DIAG hold, and whether the SELFTEST bit is set. -/
  hold : Bool
  selftest : Bool
  deriving DecidableEq, Repr

/-- A ring entry (R391). -/
structure RingEntry where
  src : Nat
  op : Nat
  seq : Nat
  payload : List Byte
  deriving DecidableEq, Repr

/-- A role instance's area: its ring, the producers that wait, the sequence of posted entries, and the redo steps not
marked done (R393). -/
structure RoleArea where
  role : Nat
  ring : List RingEntry
  waiting : List RingEntry
  posted : Nat
  redo : Nat
  doorbell : Bool
  deriving DecidableEq, Repr

/-- A failover in progress (R396): failed engine, its roles, the target, the time origin of R395, whether it is late. -/
structure Failover where
  failed : Nat
  roles : List Nat
  target : Nat
  origin : Nat
  late : Bool
  deriving DecidableEq, Repr

structure Eng where
  engines : List Engine
  areas : List RoleArea
  failovers : List Failover
  /-- Doubled roles, the most recent first, with the engine that hosts them (R400). -/
  doubled : List (Nat × Nat)
  /-- Roles without an engine (R401, NO_RESTORE). -/
  unplaced : List Nat
  pairDown : Bool
  pairRetired : Bool
  pairOrigin : Nat
  pairFails : List Nat
  roleLost : Bool
  /-- RESULT_A, RESULT_B and FALLBACK of ENG_FW_STAT. -/
  resultA : Nat
  resultB : Nat
  fallback : Bool
  deriving DecidableEq, Repr

end Sys2Proof.Machine
end

