-- ==== Sys2Proof/Syntax.lean ====
section
/-! DEFINITION. The commands: one constructor per row of the table of operations and events, with the values that come
from outside with it. `atNs` is DTM_MONO in nanoseconds at the event (log entry 13); a measured value is the value the
sensor, the medium or the other side of the pin gives. -/

namespace Sys2Proof

open Machine

/-- A command to the block. The docstring of each constructor names the rule of spec/ that defines it. -/
inductive Instr
  /-- SUPPLIES_GOOD (R271). -/
  | suppliesGood (straps : BitVec 5) (retained : Bool) (offNs : Nat)
  /-- SUPPLY_LOSS (R271). -/
  | supplyLoss
  /-- RAIL_WARN (R272). -/
  | railWarn (rail : Fin 7)
  /-- RESET_INPUT_LOW (R488). -/
  | resetInputLow (pin : ResetPin) (atNs : Nat)
  /-- RESET_INPUT_RELEASE (R488). -/
  | resetInputRelease (pin : ResetPin) (atNs : Nat)
  /-- RESET_FLUSH_DONE (R306). -/
  | resetFlushDone (atNs : Nat)
  /-- FUNCTION_LEVEL_RESET (R122). -/
  | functionLevelReset (port : Fin 2)
  /-- HOST_LINK_TRAIN (R58). -/
  | hostLinkTrain (port : Fin 2) (rate : Fin 4) (width : Nat) (flit68 : Bool)
  /-- LANE_FAIL (R60). -/
  | laneFail (port : Fin 2) (lane : Fin 16) (lock : Bool) (atNs : Nat)
  /-- LINK_DOWN (R121). -/
  | linkDown (port : Fin 2)
  /-- IDE_RX_FLIT (R68). -/
  | ideRxFlit (port : Fin 2) (macOk : Bool)
  /-- M2S_RWD (R93). -/
  | m2sRwd (port : Fin 2) (line : Nat) (data : Line) (mask : Quad) (atNs : Nat)
  /-- M2S_REQ (R92). -/
  | m2sReq (port : Fin 2) (line : Nat) (tag : Nat) (atNs : Nat)
  /-- PWB_INSTALL (R94). -/
  | pwbInstall (port : Fin 2) (fault : Option StgFault)
  /-- READ_PERFORM (R126). -/
  | readPerform (port : Fin 2) (tag : Nat) (fault : Option StgFault)
  /-- LINE_READ_RETURN (R17). -/
  | lineReadReturn (line : Nat) (r : LineRead)
  /-- WRITE_THROUGH_VERIFY (R95). -/
  | writeThroughVerify (port : Fin 2) (seq : Nat) (src : LineRead) (redirected : Bool)
  /-- IDE_TX_MAC_FAIL_REPORT (R69). -/
  | ideTxMacFailReport (port : Fin 2)
  /-- IDE_IV_THRESHOLD (R70). -/
  | ideIvThreshold (port : Fin 2)
  /-- IDE_IV_EXHAUST (R70). -/
  | ideIvExhaust (port : Fin 2) (atNs : Nat)
  /-- IDE_REFRESH_TIMEOUT (R70). -/
  | ideRefreshTimeout (port : Fin 2) (atNs : Nat)
  /-- IDE_KM_QUERY (R67). -/
  | ideKmQuery (port : Fin 2)
  /-- IDE_KM_KEY_PROG (R380). -/
  | ideKmKeyProg (port : Fin 2) (stream dir set : Fin 2) (sub : Fin 8) (key : BitVec 256)
  /-- IDE_KM_K_SET_GO (R70). -/
  | ideKmKSetGo (port : Fin 2) (stream set : Fin 2) (skid : Bool) (atNs : Nat)
  /-- IDE_KM_K_SET_STOP (R380). -/
  | ideKmKSetStop (port : Fin 2) (stream set : Fin 2)
  /-- IDE_KM_GET_KEY (R67). -/
  | ideKmGetKey (port : Fin 2) (stream sub : Fin 2)
  /-- GPF_PHASE1 (R116). -/
  | gpfPhase1 (port : Fin 2)
  /-- GPF_PHASE2 (R71). -/
  | gpfPhase2 (port : Fin 2) (atNs : Nat)
  /-- GPF_PHASE2_TIMEOUT (R71). -/
  | gpfPhase2Timeout (port : Fin 2) (atNs : Nat)
  /-- HDM_DECODER_COMMIT (R65). -/
  | hdmDecoderCommit (port : Fin 2) (n : Fin 4) (hpa size skip ways gran : Nat) (lock : Bool)
  /-- LINK_DISABLE (R91). -/
  | linkDisable (via : Via) (port : Fin 2) (disable : Bool)
  /-- LINK_RETRAIN (R91). -/
  | linkRetrain (via : Via) (port : Fin 2)
  /-- PORT_DRAIN (R114). -/
  | portDrain (via : Via) (port : Fin 2)
  /-- DOE_DISCOVERY (R62). -/
  | doeDiscovery (port : Fin 2) (index : Fin 5)
  /-- CDAT_TABLE_ACCESS (R64). -/
  | cdatTableAccess (port : Fin 2)
  /-- SPDM_GET_VERSION (R388). -/
  | spdmGetVersion (via : Via)
  /-- SPDM_GET_CAPABILITIES (R388). -/
  | spdmGetCapabilities (via : Via)
  /-- SPDM_NEGOTIATE_ALGORITHMS (R388). -/
  | spdmNegotiateAlgorithms (via : Via)
  /-- SPDM_GET_DIGESTS (R388). -/
  | spdmGetDigests (via : Via)
  /-- SPDM_GET_CERTIFICATE (R388). -/
  | spdmGetCertificate (via : Via) (slot : Fin 8) (offset : Nat) (length : Nat)
  /-- SPDM_CHALLENGE (R388). -/
  | spdmChallenge (via : Via) (nonce : BitVec 256)
  /-- SPDM_GET_MEASUREMENTS (R388). -/
  | spdmGetMeasurements (via : Via) (index : Nat) (nonce : BitVec 256)
  /-- SPDM_KEY_EXCHANGE (R388). -/
  | spdmKeyExchange (via : Via) (session : Nat)
  /-- SPDM_FINISH (R388). -/
  | spdmFinish (via : Via)
  /-- SPDM_END_SESSION (R388). -/
  | spdmEndSession (via : Via)
  /-- IDENTIFY (R72). -/
  | identify (via : Via)
  /-- BACKGROUND_OPERATION_STATUS (R72). -/
  | backgroundOperationStatus (via : Via)
  /-- GET_EVENT_RECORDS (R90). -/
  | getEventRecords (via : Via) (log : Fin 4)
  /-- CLEAR_EVENT_RECORDS (R90). -/
  | clearEventRecords (via : Via) (log : Fin 4) (all : Bool) (seqs : List Nat)
  /-- GET_EVENT_INTERRUPT_POLICY (R90). -/
  | getEventInterruptPolicy (via : Via)
  /-- SET_EVENT_INTERRUPT_POLICY (R90). -/
  | setEventInterruptPolicy (via : Via) (policy : Word)
  /-- GET_FW_INFO (R407). -/
  | getFwInfo (via : Via)
  /-- TRANSFER_FW (R406). -/
  | transferFw (via : Via) (offset : Nat) (bytes : List Byte) (last : Bool) (fw : FwSlot)
  /-- ACTIVATE_FW (R406). -/
  | activateFw (via : Via) (slot : Fin 2)
  /-- GET_TIMESTAMP (R196). -/
  | getTimestamp (via : Via) (ago : Nat)
  /-- SET_TIMESTAMP (R195). -/
  | setTimestamp (via : Via) (t : Quad) (ago : Nat)
  /-- GET_SUPPORTED_LOGS (R72). -/
  | getSupportedLogs (via : Via)
  /-- GET_LOG (R447). -/
  | getLog (via : Via) (log : Fin 3) (offset length : Nat)
  /-- IDENTIFY_MEMORY_DEVICE (R75). -/
  | identifyMemoryDevice (via : Via)
  /-- GET_LSA (R76). -/
  | getLsa (via : Via) (offset length : Nat)
  /-- SET_LSA (R76). -/
  | setLsa (via : Via) (offset : Nat) (bytes : List Byte)
  /-- GET_HEALTH_INFO (R80). -/
  | getHealthInfo (via : Via)
  /-- GET_SHUTDOWN_STATE (R80). -/
  | getShutdownState (via : Via)
  /-- SET_SHUTDOWN_STATE (R80). -/
  | setShutdownState (via : Via) (dirty : Bool)
  /-- GET_POISON (R78). -/
  | getPoison (via : Via) (first count : Nat)
  /-- INJECT_POISON (R78). -/
  | injectPoison (via : Via) (dpa : Nat)
  /-- CLEAR_POISON (R78). -/
  | clearPoison (via : Via) (dpa : Nat) (data : Line)
  /-- GET_SCAN_MEDIA_CAPABILITIES (R78). -/
  | getScanMediaCapabilities (via : Via) (first count : Nat)
  /-- SCAN_MEDIA (R78). -/
  | scanMedia (via : Via) (first count : Nat)
  /-- SCAN_MEDIA_COMPLETE (R78). -/
  | scanMediaComplete (lost : List Nat)
  /-- GET_SCAN_MEDIA_RESULTS (R78). -/
  | getScanMediaResults (via : Via)
  /-- SANITIZE (R79). -/
  | sanitize (via : Via)
  /-- SANITIZE_COMPLETE (R310). -/
  | sanitizeComplete (atNs : Nat)
  /-- SECURE_ERASE (R79). -/
  | secureErase (via : Via)
  /-- SECURE_ERASE_COMPLETE (R79). -/
  | secureEraseComplete (atNs : Nat)
  /-- GET_SECURITY_STATE (R377). -/
  | getSecurityState (via : Via)
  /-- SET_PASSPHRASE (R377). -/
  | setPassphrase (via : Via) (master : Bool) (cur new : BitVec 256)
  /-- DISABLE_PASSPHRASE (R377). -/
  | disablePassphrase (via : Via) (cur : BitVec 256)
  /-- UNLOCK (R378). -/
  | unlock (via : Via) (pass : BitVec 256)
  /-- FREEZE_SECURITY_STATE (R378). -/
  | freezeSecurityState (via : Via)
  /-- PASSPHRASE_SECURE_ERASE (R379). -/
  | passphraseSecureErase (via : Via) (master : Bool)
  /-- RELEASE_RANGE (R181). -/
  | releaseRange (via : Via) (dpa len : Nat) (rsvOk : Bool)
  /-- RELEASE_RANGE_SECURE (R182). -/
  | releaseRangeSecure (via : Via) (dpa len : Nat) (rsvOk : Bool)
  /-- FLUSH_LINE (R140). -/
  | flushLine (via : Via) (dpa count : Nat) (rsvOk : Bool)
  /-- INVAL_LINE (R140). -/
  | invalLine (via : Via) (dpa count : Nat) (rsvOk : Bool)
  /-- ZERO_LINE (R140). -/
  | zeroLine (via : Via) (dpa count : Nat) (rsvOk : Bool)
  /-- ZERO_PARCEL (R140). -/
  | zeroParcel (via : Via) (dpa count : Nat) (rsvOk : Bool)
  /-- HOLDING_CRYPTO_ERASE (R84). -/
  | holdingCryptoErase (via : Via) (id : Nat) (rsvOk : Bool)
  /-- REPLAT_WRITE (R85). -/
  | replatWrite (via : Via) (offset : Nat) (bytes : List Byte) (last : Bool) (image : Image) (rsvOk : Bool)
  /-- REPLAT_APPLY (R48). -/
  | replatApply (via : Via) (sanitizeOk raiseSvn rsvOk : Bool)
  /-- REPLAT_ABORT (R85). -/
  | replatAbort (via : Via) (rsvOk : Bool)
  /-- ASSAY_START (R86). -/
  | assayStart (via : Via)
  /-- ASSAY_RESULT (R86). -/
  | assayResult (via : Via)
  /-- SURVEY_STROBE (R202). -/
  | surveyStrobe (via : Via)
  /-- SURVEY_READ (R472). -/
  | surveyRead (via : Via) (block start count : Nat) (rsvOk : Bool)
  /-- UNSUPPORTED_OPCODE (R74). -/
  | unsupportedOpcode (via : Via) (opcode : BitVec 16)
  /-- CLOCK_FRONT_HAND (R133). -/
  | clockFrontHand
  /-- CLOCK_BACK_HAND (R133). -/
  | clockBackHand
  /-- WRITE_BACK_COMMIT (R165). -/
  | writeBackCommit (parcel : Nat) (misses : List (Fin 64 × Fin 2)) (stuck : Option (Fin 64))
  /-- RUN_MONUMENT_WRITE (R315). -/
  | runMonumentWrite
  /-- STG_ENABLE_CLEAR (R145). -/
  | stgEnableClear (via : Via) (keep : Bool)
  /-- STG_ENABLE_SET (R148). -/
  | stgEnableSet (via : Via) (keep : Bool)
  /-- CLEAN_ALL (R156). -/
  | cleanAll (via : Via)
  /-- TAG_CACHE_INVALIDATE_DONE (R150). -/
  | tagCacheInvalidateDone
  /-- STAGING_INVALIDATE_DONE (R151). -/
  | stagingInvalidateDone
  /-- STG_CLOCK_PARAM_WRITE (R157). -/
  | stgClockParamWrite (via : Via) (p : StgParam) (v : Word)
  /-- STREAM_BAND_IDLE (R164). -/
  | streamBandIdle (band : Nat) (atNs : Nat)
  /-- WT_SLOT_IDLE (R167). -/
  | wtSlotIdle (parcel : Nat) (atNs : Nat)
  /-- BWS_DISPATCH (R180). -/
  | bwsDispatch (reads : List (Nat × Nat × Decoded)) (atNs : Nat)
  /-- MERGE_COMMIT (R170). -/
  | mergeCommit (plot : Nat) (lost : List Nat)
  /-- CHECKPOINT_SEAL (R166). -/
  | checkpointSeal
  /-- TRACT_RESET_DONE (R172). -/
  | tractResetDone (die : Fin 128) (tract : Fin 16384)
  /-- HEAT_HALVING (R175). -/
  | heatHalving (atNs : Nat)
  /-- CHAIN_REBUILD_DONE (R185). -/
  | chainRebuildDone (bucket : Nat)
  /-- CKPT_NOW (R166). -/
  | ckptNow (via : Via)
  /-- MERGE_ALL (R169). -/
  | mergeAll (via : Via)
  /-- STREAM_EN_CLEAR (R164). -/
  | streamEnClear (via : Via)
  /-- CDS_PARAM_WRITE (R188). -/
  | cdsParamWrite (via : Via) (p : CdsParam) (v : Word)
  /-- XO_LOSS (R191). -/
  | xoLoss (ppm : Int)
  /-- XO_RETURN (R191). -/
  | xoReturn (via : Via) (validNs : Nat)
  /-- DATUM_DEED_TIMER (R194). -/
  | datumDeedTimer (atNs : Nat)
  /-- SLEW_COMPLETE (R196). -/
  | slewComplete (atNs : Nat)
  /-- DTM_PARAM_WRITE (R205). -/
  | dtmParamWrite (via : Via) (step : Bool) (v : Word)
  /-- SURVEY_STROBE_WRITE (R202). -/
  | surveyStrobeWrite (via : Via)
  /-- SURVEY_IN_EDGE (R202). -/
  | surveyInEdge
  /-- SURVEY_LATCH (R203). -/
  | surveyLatch
  /-- SURVEY_OUT_END (R203). -/
  | surveyOutEnd
  /-- READ_LINE (R215). -/
  | readLine (ch : Fin 32) (die : Fin 4) (level : Fin 8) (margin : Bool) (tract : Fin 16384) (parcel : Fin 512) (line : Fin 64) (accepted : Bool)
  /-- READ_PARCEL (R215). -/
  | readParcel (ch : Fin 32) (die : Fin 4) (level : Fin 8) (margin : Bool) (tract : Fin 16384) (parcel : Fin 512) (accepted : Bool)
  /-- PROG_LINE (R211). -/
  | progLine (ch : Fin 32) (die : Fin 4) (tract : Fin 16384) (parcel : Fin 512) (line : Fin 64) (accepted : Bool)
  /-- PROG_PARCEL (R211). -/
  | progParcel (ch : Fin 32) (die : Fin 4) (tract : Fin 16384) (parcel : Fin 512) (mask : Quad) (accepted : Bool)
  /-- RESET_TRACT (R216). -/
  | resetTract (ch : Fin 32) (die : Fin 4) (tract : Fin 16384) (accepted : Bool)
  /-- SUSPEND (R217). -/
  | suspend (ch : Fin 32) (die : Fin 4) (what : Option (Fin 4)) (accepted : Bool)
  /-- RESUME (R217). -/
  | resume (ch : Fin 32) (die : Fin 4) (what : Option (Fin 4)) (accepted : Bool)
  /-- READ_STATUS (R214). -/
  | readStatus (ch : Fin 32) (die : Fin 4) (burstOk : Bool)
  /-- SET_LEVEL (R257). -/
  | setLevel (ch : Fin 32) (die : Fin 4) (set : Fin 8) (threshold : Fin 3) (offset : BitVec 8) (accepted : Bool)
  /-- GET_TEMP (R232). -/
  | getTemp (ch : Fin 32) (die : Fin 4) (accepted : Bool)
  /-- READ_ID (R230). -/
  | readId (ch : Fin 32) (die : Fin 4)
  /-- RDY_N_ASSERT (R214). -/
  | rdyNAssert (ch : Fin 32) (die : Fin 4) (op : Fin 32) (result : Fin 8) (plane : Fin 4) (value : BitVec 16) (atNs : Nat)
  /-- TRV_CMD_TIMEOUT (R227). -/
  | trvCmdTimeout (ch : Fin 32) (die : Fin 4) (op : Fin 32) (plane : Fin 4) (atNs : Nat)
  /-- STATUS_RETRY (R228). -/
  | statusRetry (ch : Fin 32) (die : Fin 4) (valid : Bool) (stillRunning : Bool) (atNs : Nat)
  /-- TRV_RETRAIN_DONE (R229). -/
  | trvRetrainDone (ch : Fin 32) (ok : Bool) (atNs : Nat)
  /-- TRAINING_DONE (R230). -/
  | trainingDone (passed : BitVec 32) (dies : List (BitVec 4)) (phy : List Word) (atNs : Nat)
  /-- RETUNE (R231). -/
  | retune (ch : Fin 32)
  /-- TEMP_POLL (R232). -/
  | tempPoll (ch : Fin 32)
  /-- TRV_RETRAIN_WRITE (R229). -/
  | trvRetrainWrite (via : Via) (ch : Fin 32)
  /-- TRV_PHY_WRITE (R238). -/
  | trvPhyWrite (via : Via) (ch : Fin 32) (v : Word)
  /-- TRV_PARAM_WRITE (R237). -/
  | trvParamWrite (via : Via) (retune : Bool) (v : Word)
  /-- WEIGHTED_CLOCK_TICK (R254). -/
  | weightedClockTick (atNs : Nat)
  /-- LEVEL_ADJUST (R257). -/
  | levelAdjust (die : Fin 128) (bin : Fin 8)
  /-- READ_COUNT_ANNEAL (R259). -/
  | readCountAnneal (die : Fin 128) (tract : Fin 16384)
  /-- PATROL_PASS_START (R261). -/
  | patrolPassStart (atNs : Nat)
  /-- PATROL_NOW (R261). -/
  | patrolNow (via : Via)
  /-- REBUILD_COMMIT (R265). -/
  | rebuildCommit (band : Nat) (lost : List Nat)
  /-- MDC_PARAM_WRITE (R270). -/
  | mdcParamWrite (via : Via) (p : MdcParam) (v : Word)
  /-- LINE_SENSE_EDGE (R293). -/
  | lineSenseEdge (atNs : Nat)
  /-- LINE_EDGE_LATE (R20). -/
  | lineEdgeLate (atNs : Nat)
  /-- BRACE_TIMEOUT (R295). -/
  | braceTimeout (atNs : Nat)
  /-- RELOCK (R295). -/
  | relock (via : Via)
  /-- SIM_TRIP (R296). -/
  | simTrip (via : Via)
  /-- VIN_DROP (R277). -/
  | vinDrop (vin : Nat) (atNs : Nat)
  /-- VIN_TRIP (R296). -/
  | vinTrip (atNs : Nat)
  /-- VIN_RECOVER (R277). -/
  | vinRecover (vin : Nat) (atNs : Nat)
  /-- SEAL_DONE (R299). -/
  | sealDone (atNs : Nat)
  /-- DRAIN_PARCEL (R300). -/
  | drainParcel (misses : List (Fin 64 × Fin 2)) (stuck : Option (Fin 64)) (atNs : Nat)
  /-- MONUMENT_DONE (R303). -/
  | monumentDone (atNs : Nat)
  /-- REST_DONE (R304). -/
  | restDone (atNs : Nat)
  /-- SAFE_RESUME (R26). -/
  | safeResume (vin : Nat) (atNs : Nat)
  /-- IDEAL_DIODE_SWITCH (R276). -/
  | idealDiodeSwitch (vin : Nat) (hb : Nat) (atNs : Nat)
  /-- HV_REFRESH_TIMEOUT (R275). -/
  | hvRefreshTimeout
  /-- OVERCURRENT (R278). -/
  | overcurrent
  /-- CHARGE_OVERVOLT_STOP (R278). -/
  | chargeOvervoltStop (bankV : Nat) (cells : List Nat)
  /-- FLOAT_REACHED (R278). -/
  | floatReached (bankV : Nat)
  /-- CELL_MEASURE (R279). -/
  | cellMeasure (cells : List Nat) (bankI : Int) (rise : Int) (limit : Nat) (atNs : Nat)
  /-- ENERGY_METER_UPDATE (R284). -/
  | energyMeterUpdate (vin : Nat) (hb : Nat) (bankV : Nat) (convI : Int) (chgMw : Nat) (atNs : Nat)
  /-- LIVE_ESTIMATE (R297). -/
  | liveEstimate (capUf : Nat) (esrMohm : Nat) (atNs : Nat)
  /-- NO_BANK_CHECK (R288). -/
  | noBankCheck (bankV : Nat) (atNs : Nat)
  /-- CHARGE_TIMEOUT (R288). -/
  | chargeTimeout (atNs : Nat)
  /-- ASSAY_DUE (R281). -/
  | assayDue (atNs : Nat)
  /-- ASSAY_NOW (R281). -/
  | assayNow (via : Via)
  /-- ASSAY_SLACK_EXPIRY (R282). -/
  | assaySlackExpiry (atNs : Nat)
  /-- ASSAY_RELAX_DONE (R281). -/
  | assayRelaxDone (v0 : Nat)
  /-- ASSAY_ESR_SAMPLE (R281). -/
  | assayEsrSample (stepMa : Nat) (dropMv : Nat)
  /-- ASSAY_INTEGRATION_END (R281). -/
  | assayIntegrationEnd (chargeUc : Nat) (loadMw : Nat)
  /-- ASSAY_DONE (R283). -/
  | assayDone (v1 : Nat)
  /-- BASE_RESET (R283). -/
  | baseReset (via : Via)
  /-- PWR_PARAM_WRITE (R287). -/
  | pwrParamWrite (via : Via) (reg : Fin 3) (v : Word)
  /-- PFL_PARAM_WRITE (R323). -/
  | pflParamWrite (via : Via) (v : Word)
  /-- BOOT_COMPLETE (R406). -/
  | bootComplete (readings : List (Option Int)) (drbgOk : Bool) (atNs : Nat)
  /-- PLAT_LOAD (R46). -/
  | platLoad (atNs : Nat)
  /-- RECOVER_COMPLETE (R316). -/
  | recoverComplete (badRoots : List (Fin 8)) (unread : List Nat) (atNs : Nat)
  /-- WARMUP_TIMEOUT (R463). -/
  | warmupTimeout (atNs : Nat)
  /-- REKEY_START_WRITE (R355). -/
  | rekeyStartWrite (via : Via) (v : Word)
  /-- IME_PARAM_WRITE (R362). -/
  | imeParamWrite (via : Via) (v : Word)
  /-- GCM_ENCRYPT (R381). -/
  | gcmEncrypt (b : Submit)
  /-- GCM_DECRYPT (R369). -/
  | gcmDecrypt (b : Submit)
  /-- GMAC (R363). -/
  | gmac (b : Submit)
  /-- GMAC_VERIFY (R363). -/
  | gmacVerify (b : Submit)
  /-- WRAP (R376). -/
  | wrap (b : Submit)
  /-- UNWRAP (R376). -/
  | unwrap (b : Submit)
  /-- DERIVE (R373). -/
  | derive (b : Submit)
  /-- SHA384 (R363). -/
  | sha384 (b : Submit)
  /-- GEN_KEY (R375). -/
  | genKey (b : Submit)
  /-- ZERO_SLOT (R371). -/
  | zeroSlot (b : Submit)
  /-- IDE_MOVE (R380). -/
  | ideMove (b : Submit)
  /-- CKE_OP_COMPLETE (R364). -/
  | ckeOpComplete (mismatch : Bool)
  /-- KEY_DATA_WRITE (R370). -/
  | keyDataWrite (via : Via) (v : Word)
  /-- KEY_LOAD (R370). -/
  | keyLoad (via : Via) (slot : Fin 16)
  /-- KEY_ZERO (R371). -/
  | keyZero (via : Via) (slot : Fin 16)
  /-- NEW_CHAL (R383). -/
  | newChal (via : Via)
  /-- CHALLENGE_EXPIRY (R383). -/
  | challengeExpiry (atNs : Nat)
  /-- STAGE_DATA_WRITE (R383). -/
  | stageDataWrite (via : Via) (v : Word)
  /-- EVR_CLEAR (R448). -/
  | evrClear (via : Via)
  /-- OWNER_ENROLL (R387). -/
  | ownerEnroll (via : Via)
  /-- OWNER_REMOVE (R387). -/
  | ownerRemove (via : Via)
  /-- AK_REPLACE (R385). -/
  | akReplace (via : Via)
  /-- DEBUG_UNLOCK (R385). -/
  | debugUnlock (via : Via)
  /-- REVOKE_FOARO_KEY (R385). -/
  | revokeFoaroKey (via : Via)
  /-- RNG_RETEST (R375). -/
  | rngRetest (ok : Bool) (atNs : Nat)
  /-- DRBG_RESEED (R375). -/
  | drbgReseed (ok : Bool)
  /-- RING_ENTRY_POST (R391). -/
  | ringEntryPost (role : Nat) (src : Nat) (op : Nat) (payload : List Byte)
  /-- ENGINE_WATCHDOG_EXPIRY (R394). -/
  | engineWatchdogExpiry (n : Fin 24) (kickNs : Nat) (kicked : Bool) (atNs : Nat)
  /-- ENGINE_TRAP (R395). -/
  | engineTrap (n : Fin 24) (atNs : Nat)
  /-- ENGINE_SRAM_UE (R395). -/
  | engineSramUe (n : Fin 24) (atNs : Nat)
  /-- LOCKSTEP_MISMATCH (R403). -/
  | lockstepMismatch (atNs : Nat)
  /-- FAILOVER_LOAD_DONE (R396). -/
  | failoverLoadDone (target : Fin 24) (atNs : Nat)
  /-- FAILOVER_TIMEOUT (R398). -/
  | failoverTimeout (target : Fin 24) (atNs : Nat)
  /-- ENGINE_SELFTEST_DONE (R399). -/
  | engineSelftestDone (n : Fin 24) (pass : Bool)
  /-- ENGINE_SELFTEST_WRITE (R399). -/
  | engineSelftestWrite (via : Via) (n : Fin 24)
  /-- ENGINE_HOLD (R396). -/
  | engineHold (via : Via) (n : Fin 24) (hold : Bool)
  /-- PST_OP_START (R425). -/
  | pstOpStart (atNs : Nat)
  /-- PAGE_PROGRAM_DONE (R413). -/
  | pageProgramDone (ok : Bool) (atNs : Nat)
  /-- SECTOR_ERASE_DONE (R428). -/
  | sectorEraseDone (ok : Bool) (atNs : Nat)
  /-- PAGE_PROGRAM_TIMEOUT (R428). -/
  | pageProgramTimeout (atNs : Nat)
  /-- SECTOR_ERASE_TIMEOUT (R428). -/
  | sectorEraseTimeout (atNs : Nat)
  /-- MGMT_HOLD_TIMEOUT (R427). -/
  | mgmtHoldTimeout (atNs : Nat)
  /-- PST_READ (R430). -/
  | pstRead (via : Via)
  /-- PST_PROG (R431). -/
  | pstProg (via : Via)
  /-- PST_ERASE (R430). -/
  | pstErase (via : Via)
  /-- PST_BLANK_CHECK (R430). -/
  | pstBlankCheck (via : Via)
  /-- PST_DATA_ACCESS (R432). -/
  | pstDataAccess (via : Via) (write : Option Word)
  /-- MARGIN_SCAN (R414). -/
  | marginScan (via : Via)
  /-- COLLECT (R418). -/
  | collect (via : Via) (area : Fin 4)
  /-- PST_PARAM_WRITE (R432). -/
  | pstParamWrite (via : Via) (v : Word)
  /-- TOKEN_REFILL (R438). -/
  | tokenRefill (code : Nat) (atNs : Nat)
  /-- SUPPRESSED_SUMMARY (R439). -/
  | suppressedSummary (code : Nat) (atNs : Nat)
  /-- SUPP_TABLE_FULL (R440). -/
  | suppTableFull (atNs : Nat)
  /-- EVR_CURSOR_OLDEST (R446). -/
  | evrCursorOldest (via : Via)
  /-- EVR_CURSOR_NEWEST (R446). -/
  | evrCursorNewest (via : Via)
  /-- EVR_CURSOR_NEXT (R447). -/
  | evrCursorNext (via : Via)
  /-- EVR_CURSOR_PREV (R446). -/
  | evrCursorPrev (via : Via)
  /-- EVR_CURSOR_WRITE (R447). -/
  | evrCursorWrite (via : Via) (seq : Word)
  /-- SENSOR_SAMPLE (R450). -/
  | sensorSample (readings : List (Option Int)) (atNs : Nat)
  /-- LEVEL_FALL (R453). -/
  | levelFall (atNs : Nat)
  /-- RISE_BOOST (R454). -/
  | riseBoost (atNs : Nat)
  /-- RISE_BOOST_END (R454). -/
  | riseBoostEnd (atNs : Nat)
  /-- QUENCH_HOLD_EXPIRY (R460). -/
  | quenchHoldExpiry (atNs : Nat)
  /-- QUENCH_RESTART (R462). -/
  | quenchRestart (atNs : Nat)
  /-- THM_PARAM_WRITE (R466). -/
  | thmParamWrite (via : Via) (v : Word)
  /-- SVY_WIN_SEL_WRITE (R471). -/
  | svyWinSelWrite (via : Via) (v : Word)
  /-- SVY_WIN7_READ (R471). -/
  | svyWin7Read (via : Via)
  /-- PMC_OVERFLOW (R476). -/
  | pmcOverflow (n : Fin 48) (src : Nat) (arg : Nat)
  /-- PMC_CNT_WRITE (R474). -/
  | pmcCntWrite (via : Via) (n : Fin 48) (v : Word) (inc : Nat)
  /-- PMC_CFG_WRITE (R474). -/
  | pmcCfgWrite (via : Via) (n : Fin 48) (v : Word)
  /-- PMC_CNT_READ (R475). -/
  | pmcCntRead (via : Via) (n : Fin 48)
  /-- PAIR_LO_READ (R4). -/
  | pairLoRead (via : Via) (off : Nat)
  /-- PAIR_HI_READ (R4). -/
  | pairHiRead (via : Via) (off : Nat)
  /-- PAIR_HI_WRITE (R5). -/
  | pairHiWrite (via : Via) (off : Nat) (v : Word)
  /-- PAIR_LO_WRITE (R5). -/
  | pairLoWrite (via : Via) (off : Nat) (v : Word)
  /-- PAIR_8B_ACCESS (R6). -/
  | pair8bAccess (via : Via) (off : Nat) (write : Option Quad)
  /-- UNSUPPORTED_ACCESS (R6). -/
  | unsupportedAccess (via : Via) (off : Nat)
  /-- UNIMPL_ACCESS (R503). -/
  | unimplAccess (via : Via) (off : Nat) (write : Bool)
  /-- RC_READ (R9). -/
  | rcRead (via : Via) (off : Nat) (same : Word)
  /-- REGISTER_WRITE (R7). -/
  | registerWrite (via : Via) (off : Nat) (v same : Word)
  /-- SYS_RST_WARM (R507). -/
  | sysRstWarm (via : Via) (v : Word)
  /-- SYS_RST_COLD (R507). -/
  | sysRstCold (via : Via) (v : Word)
  /-- SYS_RST_DIAG (R507). -/
  | sysRstDiag (via : Via) (v : Word)
  /-- REPLAT_LOCK (R51). -/
  | replatLock (via : Via)
  /-- PLT_ABORT (R85). -/
  | pltAbort (via : Via)
  /-- ENERGY_PAIR_RESTART_DONE (R403). -/
  | energyPairRestartDone (atNs : Nat)
  /-- TAP_INSTRUCTION (R492). -/
  | tapInstruction (tap : TapInstr) (trstLow : Bool)
  /-- HDM_DECODER_UNCOMMIT (R51). -/
  | hdmDecoderUncommit (port : Fin 2) (n : Fin 4)
  /-- PLL_UNLOCK (R205). -/
  | pllUnlock (pll : Fin 4)
  deriving DecidableEq, Repr

end Sys2Proof
end

