-- ==== Sys2Proof/Config.lean ====
section
/-! DEFINITION. What an implementation fixes, and the free values. Every `opaque` constant has no body: no proof can
see its value, so a statement holds whatever the value is. `Config.free…` is applied to the counter `State.free`, which
each use advances (log entry 3); the cryptographic functions (log entry 4) stand for standard algorithms whose outputs
the spec does not state. -/

namespace Sys2Proof.Config

/-- A value the spec leaves open after an operation that goes on (log entry 3). -/
opaque freeWord : Nat → Word
opaque freeQuad : Nat → Quad
opaque freeByte : Nat → Byte
opaque freeLine : Nat → Line
opaque freeBool : Nat → Bool

/-- What a register reads as where the spec gives it no value, or its value depends on timing the model leaves out: its offset
and DTM_MONO (log entry 3). -/
opaque openView : Nat → Nat → Word

/-- The bits of a flash byte that a cut-off program or erase leaves: the value at the normal level and the bits that
read differently at the margin level (R414, R422; log entry 5). -/
opaque tornByte : Nat → Nat → Byte × Byte

/-- 256 bits of the deterministic random bit generator (R375; log entry 4). -/
opaque random256 : Nat → BitVec 256

/-- AES-256-GCM keystream applied to a text (R363): key, IV, text in bytes (log entry 4). -/
opaque gcmCrypt : BitVec 256 → BitVec 96 → List Byte → List Byte

/-- AES-256-GCM tag (R363): key, IV, additional data, ciphertext (log entry 4). -/
opaque gcmTag : BitVec 256 → BitVec 96 → List Byte → List Byte → BitVec 128

/-- SHA-384 (R32, R363; log entry 4). -/
opaque sha384 : List Byte → BitVec 384

/-- SP 800-108 KDF in counter mode with AES-256-CMAC (R373): parent key, label number, context (log entry 4). -/
opaque kdf : BitVec 256 → Nat → List Byte → BitVec 256

/-- ECDSA P-384 verification (R32, R384; log entry 4): public key, hash, r, s. -/
opaque ecdsaVerify : BitVec 768 → BitVec 384 → BitVec 384 → BitVec 384 → Bool

/-- ECDSA P-384 signature by the alias key over a hash (R388; log entry 4). -/
opaque aliasSign : BitVec 384 → BitVec 768

/-- The SHA-384 digest of boot code (1), a firmware image (2) or a plat image (3), named by two numbers of it (R388,
Table CKE-7; log entry 4). -/
opaque imageDigest : Nat → Nat → Nat → BitVec 384

/-- Bits 127:64 of the CMAC of a tree entry (R334; log entry 4): the count of root writes and the root entry. -/
opaque treeEntry : Nat → Nat → Quad

/-- The bytes of a metadata line on the medium: tag lines and tree nodes (R326, R334; log entry 4), by metadata line and
count of root writes. -/
opaque metaLine : Nat → Nat → Line

/-- What each part of the device fixes at manufacture (R373, R386, R388, R506): the die's unique number, its fused root
secret, the certificate chain, Foaro's public keys (log entry 6). -/
opaque dieUid : Quad
opaque deviceSecret : BitVec 256
opaque certChain : List Byte
opaque foaroKey : Nat → BitVec 768
opaque platDistKey : BitVec 256
opaque fwDistKey : BitVec 256
opaque authKey : BitVec 256

/-- Payload byte k of a deed at a flash position: the spec gives a payload's length but no layout (Table PST-4; log
entry 7). -/
opaque deedPayloadByte : Nat → Nat → Byte

/-- Energy of a directory seal, mJ: the spec gates the step on it and states no number (R180, Table CDS-5; log entry 32). -/
opaque sealEnergy : Nat

/-- Trim, drive and termination codes read from the curves of the manufacturing sectors (R232, R464; log entry 6). -/
opaque trimCode : Nat → Nat → Byte

end Sys2Proof.Config
end

