-- ==== Sys2Proof/Machine/Defaults.lean ====
section
/-! DEFINITION. The reset value of each block's typed state. Registers have theirs in RegMap.lean. Where the spec states
no value for a field, log entry 10 names the choice. -/

namespace Sys2Proof.Machine

def emptyShadow : Shadow := { readHi := none, heldHi := [], pmcShadow := none }

/-- SYS right after supplies good (R10, R506): BOOT with no earlier state. -/
def sysInit : Sys :=
  { state := .boot, prev := 0, braceFrom := .boot, since := 0, bootAt := 0, resetAt := 0, held := none, flushFor := none,
    sysRstLow := false, perstLow := false, inReset := false, supplies := true, poweredDown := false,
    quenchAfterFlush := false, straps := 0, readySeen := false, tapInstr := 1, tapReset := true }

/-- DTM right after supplies good (R190, R192, R205): both counters at 0, the PLLs still to lock. -/
def dtmInit : Dtm :=
  { mono := 0, datum := 0, offset := 0, slewing := false, everSet := false, xoLost := false, pllF := false, pllE := false,
    pllT := false, pllH := false, restored := false, retained := false, deedAt := none, strobe := none, outUntil := none }

def emptyCursor : Cursor := { seq := 0, win := List.replicate 8 0, stat := 0 }

/-- An event record with every field 0. -/
def blankRec : EvrRec :=
  { code := 0, sev := 0, lg := false, alt := false, host := false, state := 0, bank := 0, seq := 0, datum := 0, arg0 := 0,
    arg1 := 0, supp := 0 }

/-- EVR as delivered: empty queue and an erased log (R435). The recorder's numbering starts at 1. -/
def evrInit : Evr :=
  { queue := [], waiting := [], nextSeq := 1, supp := [], untracked := 0, ring := [], ringPos := 0, unerased := [],
    skipRun := 0, alt := [], altPos := 0, altActive := false, ringFailed := false, altFailed := false, memLost := false,
    hideBelow := none, clearSeq := none, clearing := [], curBar2 := emptyCursor, curMctp := emptyCursor,
    lg := List.replicate 8 0, lgStat := 0, batchFails := 0 }

def deedSectorErased : DeedSector :=
  { header := none, copied := .blank, active := .blank, retired := .blank, dirt := false, deeds := [], page := 1, byte := 0 }

/-- A deed area as delivered: both sectors erased (R420). -/
def deedAreaInit : DeedArea :=
  { low := deedSectorErased, high := deedSectorErased, activeHigh := false, deferred := [], lost := false }

/-- PST as delivered (Table PST-2): four deed areas, no tally row used, flash erased. -/
def pstInit : Pst :=
  { flash := [], weak := [], areas := List.replicate 4 deedAreaInit, tallies := [], tallyNext := 0, hints0 := [],
    hints1 := [], hintHigh := false, hintErasing := false, replaced := [], gen := 0, inForce := [], queue := [], run := none,
    gateWait := false, ungated := false, owed := 0, endAt := 0, buf := [] }

def sensorInit : Sensor := { value := 0, valid := false, failed := false, misses := 0, jumpAt := none }

def thmInit : Thm :=
  { sensors := List.replicate 14 sensorInit, level := 0, boost := 0, hist := [], rate := 0, fallSince := none,
    overSince := none, underSince := none, quenchSince := none, restartSince := none, warmSince := none,
    warmTimeout := false, sensorQuenches := 0, stuck := false, bandgapAt := 25, oscAt := 25, refresh := 0,
    applied := 0, temperNs := 0, temperAt := 0 }

def svyBufInit : SvyBuf := { valid := false, gen := 0, block := 0, words := [], word := 0 }

def svyInit : Svy :=
  { gen := 0, missed := 0, areas := [], snaps := [], bufBar2 := svyBufInit, bufMctp := svyBufInit, conds := [] }

def ideInit : Ide :=
  { state := .insecure, skid := false, rxMacFail := false, keySet := false, txIv := 0, rxIv := 0, waitSince := none,
    waitMs := 0, keys := [], io := none }

def decoderInit : Decoder :=
  { hpaBase := 0, size := 0, skip := 0, ways := 1, granularity := 256, lockOnCommit := false, committed := false,
    dpaBase := 0, dpaSize := 0, errNotCommitted := false }

/-- A port at reset: no link, nothing accepted, no decoder committed. -/
def portInit : Port :=
  { pwb := [], reads := [], nextSeq := 0, decoders := List.replicate 4 decoderInit, ide := ideInit, linkUp := false,
    rate := 0, width := 0, flit256 := false, laneOk := 0, laneErrs := [], drain := none, gpf := none, admitAt := none,
    flr := false, heldOut := [], logs := [[], [], [], []], logOvf := List.replicate 4 false, evtPolicy := 0, doorbell := false, lsa := [], lsaCopy := [] }

def securityInit : Security :=
  { passphrase := none, frozen := false, unlocked := true, fails := 0, exhausted := false, next := none }

def svcInit : Svc :=
  { writing := none, strobing := [], background := none, lastBackground := none, poison := [], injected := [], scan := none, scanResults := [],
    shutdownDirty := false, erasing := false, erasingHoldings := [], fwA := none, fwB := none, fwRun := none, fwPending := none,
    security := securityInit }

/-- Staging before LOAD (R150, R157): no frames, enabled. -/
def stgInit : Stg :=
  { count := 0, frames := [], freeNext := 0, freeTail := [], front := 0, back := 0, backRunning := false, wbt := [],
    fills := [], enabled := true, draining := false, stale := false, invalidating := 0, cleaning := [],
    rsvActive := false, rsvSealed := false, rsvLeft := 0, budget := 0, budgetStall := false, maint := [] }

/-- The cadastre of a blank medium (R47). -/
def cdsInit : Cds :=
  { plots := [], records := [], chains := [], bands := [], tracts := [], planes := [], ordinalsFree := [],
    ordinalsSpare := [], openLogs := [], rotor := 0, openStreams := [], fullLogs := [], dumpBands := [], dumpUsed := 0,
    wtSlots := [], merges := [], mergeReserve := 0, work := [], workBorn := 0, release := none, releases := [], marked := [],
    dirtyPages := [], journal := 0, ckptBusy := false, ckptAll := false, mergeAll := [], floorWait := false,
    roCond := false, wearActive := false, rebuilding := [], waLog := 0, waMerge := 0, waSince := 0, waLastLog := 0, waLastMerge := 0, heatAt := 0, mig := none }

def dieInit : Die :=
  { planes := List.replicate 4 none, reset := none, completions := [], lost := false, seq := 0, sent := 0, temp := none, tempBad := false, answer := none,
    progEnd := none, timedOut := none, late := [], levels := [], resends := 0 }

def channelInit : Channel :=
  { dies := List.replicate 4 dieInit, mode := 0, dieMask := 0, trained := false, retraining := false, lost := false,
    mirrorDegraded := false, errs := [], retrainFails := 0, retrainedAt := none, hostQ := [], progQ := [], bgQ := [],
    intQ := [], booked := [], burst := none, sel := 0, rdyLow := false, phyNext := none, compAt := 25 }

def trvInit : Trv :=
  { channels := List.replicate 32 channelInit, rstLow := true, training := false, coll := List.replicate 40 [],
    collPtr := 0, taken := [], programmed := [] }

def mdcInit : Mdc :=
  { clocks := List.replicate 128 0, misreads := [], decoded := [], patrol := { active := false, pos := 0, startedAt := 0 },
    stripes := [], stripeFull := false, rebuild := none, retired := [], recoveries := [], retirements := [],
    unrecovered := [] }

def assayInit : Assay :=
  { phase := .idle, v0 := 0, charge := 0, stepMa := 0, esr := 0, load := 0, forced := false, background := false }

/-- PWR right after supplies good (R271, R288): bank CHARGING, converter OFF. -/
def pwrInit : Pwr :=
  { vin := 0, hb := 0, bankV := 0, cellV := [], convI := 0, chgMw := 0, railWarn := 0, gdIn := false, conv := .off,
    convBefore := .off, bank := .charging, bankBefore := .charging, cause := .none, faultCell := 0, latched := [],
    cells := none, floatMv := 0, chargeMa := 0, cellMv := 0, chargeFrom := none, chargeV0 := 0, balance := 0, cellFault := 0,
    limitCycles := 0, capUf := 0, esrMohm := 0, capBase := 0, esrBase := 0, assayValid := false, assayDatum := 0,
    assayLoad := 0, assayResult := 0, assayForced := false, assayOverdue := false, assayTimer := 0, assay := assayInit,
    assayWanted := false, baseReset := false, floated := false, usable := 0, raw := 0, cap := 0, surplus := 0, hold := 0,
    live := none, forcedCap := none, pwrfail := false }

def emptySet : MonSet := { a := none, b := none }

def reportInit : FlushReport :=
  { mon := none, restUs := 0, restMj := 0, monSkipped := false, missing := false, recoverMs := 0, lost := false }

def pflInit : Pfl :=
  { tracker := .unlocked, lastEdge := none, reference := none, intervals := [], half := 0, windowOut := false, onTime := 0,
    braceAt := 0, vinLowSince := none, vinHighSince := none, phase := .idle, kind := .flush, phaseAt := 0, phaseUsable := 0, monNeed := 0,
    short := false, metaShort := false, unflOvf := false, monSkipped := false, wtAtTrip := false, tripBraced := false,
    tripDatum := 0, tripUsable := 0, fromState := 0, restOnly := false, dump := [], delta := [], drainedMeta := 0,
    metaLeft := [], frameLeft := [], unflushed := [], overflow := [], unflTotal := 0, monDatum := 0, sealUs := 0, drainUs := 0, monUs := 0, sealMj := 0,
    drainMj := 0, monMj := 0, sim := false, set0 := emptySet, set1 := emptySet, resetSet := none,
    resetLeft := [], newest := 0, report := reportInit,
    ckptGen := 0 }

def imeInit : Ime :=
  { lanes := [true, true, true, true], misses := [[], [], [], []], nextWrite := 0, nextRead := 0, ctr := [], pct := [],
    pctWait := false, root := List.replicate 8 0, rootSeq := 0, metaDirty := [], quar := [], rekeys := [], loaded := [],
    devKeys := none, recomputing := false, stuck := [] }

def keySlotInit : KeySlot := { key := none, fixed := 0, ctr := 0 }

def spdmInit : Spdm := { version := false, caps := false, algs := false, session := none, finished := false }

def ckeInit : Cke :=
  { slots := List.replicate 16 keySlotInit, queue := [], regBusy := false, regDone := false, regStatus := 0, engStatus := 0, engTag := 0, keyData := [],
    loadErr := false, waiting := [], challenge := none, chalReg := 0, authLocked := false, authFails := 0, authLastOp := 0,
    authResult := 0, stage := [], rngFail := false, rngRequests := 0, rngAt := 0, debug := false, revoked := 0, mem := [], transit := [],
    transitWait := [], kekReserved := 0, spdm0 := spdmInit, spdm1 := spdmInit, spdmMctp := spdmInit, owner := none,
    pendOwner := none }

def engineInit : Engine :=
  { st := .off, roles := [], kickAt := 0, failedAt := none, again := false, hold := false, selftest := false }

def engInit : Eng :=
  { engines := List.replicate 24 engineInit, areas := [], failovers := [], doubled := [], unplaced := [], pairDown := false,
    pairRetired := false, pairOrigin := 0, pairFails := [], roleLost := false, resultA := 0, resultB := 0,
    fallback := false }

end Sys2Proof.Machine
end

