-- ==== Sys2Proof/Machine/EventCodes.lean ====
section
/-! DEFINITION. The event code space: the codes the device raises, with their severities (R436, Tables EVR-2, EVR-3 and
IME-6), and the error-flag registers of class 0xF. -/

namespace Sys2Proof.Machine

/-- Severity 0 Informational, 1 Warning, 2 Failure, 3 Fatal of each listed code. -/
def eventTable0 : List (Nat × Nat) := [
  (0x0101, 0), (0x0201, 0), (0x1101, 2), (0x1102, 0), (0x1201, 0), (0x1202, 2), (0x1203, 0), (0x2101, 1), (0x2201, 1),
  (0x2202, 1), (0x2203, 1), (0x2204, 1), (0x2301, 2), (0x2302, 2), (0x3101, 1), (0x3102, 2), (0x3103, 2), (0x3201, 1),
  (0x3202, 1), (0x4101, 1), (0x4102, 1), (0x4103, 1), (0x4104, 2), (0x4201, 2), (0x4202, 1), (0x4203, 1), (0x4301, 1),
  (0x5101, 2), (0x5102, 2), (0x5103, 2), (0x5201, 1), (0x5202, 1), (0x6101, 2), (0x6102, 0), (0x6201, 1), (0x6202, 1),
  (0x6301, 0), (0x6302, 2), (0x7101, 1), (0x7201, 0), (0x7202, 0), (0x7301, 0)]

def eventTable1 : List (Nat × Nat) := [
  (0x8101, 1), (0x8102, 0), (0x8103, 1), (0x8201, 1), (0x8202, 2), (0x8203, 2), (0x8204, 0), (0x8301, 1), (0x8302, 1),
  (0x8303, 0), (0x8401, 1), (0x9101, 3), (0x9102, 3), (0x9103, 3), (0x9104, 3), (0x9201, 2), (0x9202, 2), (0x9301, 1),
  (0x9302, 2), (0x9303, 2), (0x9304, 1), (0x9401, 1), (0x9402, 1), (0x9403, 1), (0x9501, 1), (0x9502, 1), (0x9503, 1),
  (0xA101, 2), (0xA102, 2), (0xA103, 2), (0xA104, 2), (0xA201, 1), (0xA202, 1), (0xA203, 1), (0xB101, 1), (0xB102, 1),
  (0xB103, 2), (0xB201, 1), (0xC101, 1), (0xC102, 1), (0xC103, 1), (0xC104, 1), (0xC105, 1), (0xD101, 1), (0xD102, 2),
  (0xD103, 2), (0xD104, 3), (0xD201, 0), (0xD202, 1), (0xD203, 0), (0xE101, 1), (0xE201, 3), (0xE301, 1), (0xF101, 0)]

/-- The listed codes (Tables EVR-2, EVR-3, IME-6). -/
def eventTable : List (Nat × Nat) := eventTable0 ++ eventTable1

/-- The severity of a code; class 0xF codes are Warning (R436). -/
def eventSev (code : Nat) : Nat := (eventTable.lookup code).getD 1

/-- The block of an event code (R436). -/
def eventBlock (code : Nat) : Nat := code / 0x1000

/-- The error-flag registers of a block: _ERR_STAT and _ERR_EN offsets. -/
def errRegs : Nat → List (Nat × Nat)
  | 0x0 => [(Reg.SYS_ERR_STAT, Reg.SYS_ERR_EN)]
  | 0x2 => [(Reg.HPT_ERR_STAT 0, Reg.HPT_ERR_EN 0), (Reg.HPT_ERR_STAT 1, Reg.HPT_ERR_EN 1)]
  | 0x3 => [(Reg.STG_ERR_STAT, Reg.STG_ERR_EN)]
  | 0x4 => [(Reg.CDS_ERR_STAT, Reg.CDS_ERR_EN)]
  | 0x5 => [(Reg.TRV_ERR_STAT, Reg.TRV_ERR_EN)]
  | 0x6 => [(Reg.MDC_ERR_STAT, Reg.MDC_ERR_EN)]
  | 0x7 => [(Reg.DTM_ERR_STAT, Reg.DTM_ERR_EN)]
  | 0x8 => [(Reg.PWR_ERR_STAT, Reg.PWR_ERR_EN), (Reg.PFL_ERR_STAT, Reg.PFL_ERR_EN)]
  | 0x9 => [(Reg.IME_ERR_STAT, Reg.IME_ERR_EN)]
  | 0xA => [(Reg.CKE_ERR_STAT, Reg.CKE_ERR_EN)]
  | 0xB => [(Reg.ENG_ERR_STAT, Reg.ENG_ERR_EN)]
  | 0xC => [(Reg.PST_ERR_STAT, Reg.PST_ERR_EN)]
  | 0xD => [(Reg.EVR_ERR_STAT, Reg.EVR_ERR_EN)]
  | 0xE => [(Reg.THM_ERR_STAT, Reg.THM_ERR_EN)]
  | 0xF => [(Reg.SVY_ERR_STAT, Reg.SVY_ERR_EN)]
  | _ => []

/-- The flags an error register implements. -/
def errMask (off : Nat) : Nat :=
  match regRow off with
  | some r => r.w1c
  | none => 0

/-- Whether the device raises a code: listed, or the class 0xF code of an implemented error flag (R436, R510). -/
def isDeviceCode (code : Nat) : Bool :=
  (eventTable.lookup code).isSome ||
    (code / 0x100 % 0x10 == 0xF && code % 0x100 != 0 &&
      (errRegs (eventBlock code)).any fun e => (errMask e.1).testBit (code % 0x100 - 1))

end Sys2Proof.Machine
end

