-- ==== Sys2Proof/Machine/PlatImage.lean ====
section
/-! DEFINITION. The plat image: its section values, the validation phases of R45 with the codes of Table PLT-13, the
band budget of R39, and the default image of Table PLT-17. The outcomes of the CRC, GCM, fingerprint and signature
checks are fields of the image (log entry 8). -/

namespace Sys2Proof.Machine

/-- A validation failure (R45): PLT_ERR.CODE, PHASE, SECTION and PLT_ERR_OFFSET. -/
structure PlatErr where
  code : Nat
  phase : Nat
  sec : Nat
  off : Nat
  deriving DecidableEq, Repr

/-- The first failure of a list of checks in order. -/
def firstErr : List (Option PlatErr) → Option PlatErr
  | [] => none
  | some e :: _ => some e
  | none :: rest => firstErr rest

/-- A check that fails with `e` unless `ok`. -/
def check (ok : Bool) (e : PlatErr) : Option PlatErr := if ok then none else some e

def byteOf (v : List Nat) (i : Nat) : Nat := v.getD i 0
def le16 (v : List Nat) (i : Nat) : Nat := byteOf v i + 256 * byteOf v (i + 1)
def le32 (v : List Nat) (i : Nat) : Nat := le16 v i + 65536 * le16 v (i + 2)

/-- Round up to a multiple of 8 (R31). -/
def pad8 (n : Nat) : Nat := (n + 7) / 8 * 8

/-- Ceiling of a division. -/
def ceilDiv (a b : Nat) : Nat := (a + b - 1) / b

/-- The image offset of each TLV of the body (Table PLT-1). -/
def tlvOffsets : Nat → List Tlv → List (Nat × Tlv)
  | _, [] => []
  | o, t :: rest => (o, t) :: tlvOffsets (o + 8 + pad8 t.length) rest

/-- The value of the section of a type, and its image offset. -/
def sectionOf (im : Image) (type : Nat) : Nat × List Nat :=
  match (tlvOffsets 0x40 im.body).find? (fun e => e.2.type == type) with
  | some (o, t) => (o + 8, t.value)
  | none => (0, [])

/-- LENGTH of a section (Table PLT-4). -/
def sectionLen (type : Nat) (v : List Nat) : Nat :=
  match type with
  | 1 => 16 | 2 => 32 | 3 => 8 + 32 * byteOf v 0 | 4 => 32 | 5 => 48 | 6 => 16 | 7 => 16 | 8 => 8 | 9 => 8
  | 0xA => 4 + 4 * byteOf v 2
  | _ => 0

/-- Phase header of R45. -/
def phaseHeader (step : Nat) (im : Image) : Option PlatErr :=
  firstErr [
    check im.crcOk ⟨0x01, 1, 0, 0x3C⟩, check im.magicOk ⟨0x02, 1, 0, 0⟩, check (im.fmtVer == 1) ⟨0x03, 1, 0, 4⟩,
    check (im.hdrLen == 0x40) ⟨0x03, 1, 0, 6⟩, check (decide (im.imgLen ≤ 524288)) ⟨0x04, 1, 0, 8⟩,
    check (im.bodyLen % 8 == 0 && decide (0x40 + im.bodyLen + 16 ≤ im.imgLen)) ⟨0x04, 1, 0, 0xC⟩,
    check (decide (im.minStep ≤ step)) ⟨0x05, 1, 0, 0x26⟩]

/-- Phase signature of R45 with R44. `enrolled`: an owner key is enrolled. -/
def phaseSignature (enrolled : Bool) (im : Image) : Option PlatErr :=
  let base := 0x40 + im.bodyLen + 16 + 12
  let foaro := im.sigs.head?.filter (fun r => r.signer == 0)
  let owner := im.sigs.find? (fun r => r.signer == 1)
  if !im.sigPresent then some ⟨0x10, 2, 0xFF, 0x40 + im.bodyLen + 16⟩
  else match foaro with
    | none => some ⟨0x10, 2, 0xFF, base⟩
    | some r =>
      if !(r.keyKnown && r.sigOk) then some ⟨0x11, 2, 0xFF, base⟩
      else match owner, enrolled with
        | none, true => some ⟨0x12, 2, 0xFF, base + 108⟩
        | some _, false => some ⟨0x13, 2, 0xFF, base + 108⟩
        | some o, true => check (o.keyKnown && o.sigOk) ⟨0x13, 2, 0xFF, base + 108⟩
        | none, false => none

def phaseRollback (svnMin : Nat) (im : Image) : Option PlatErr := check (decide (svnMin ≤ im.svn)) ⟨0x18, 3, 0, 0x14⟩

/-- Phase decrypt: a KEY_SEL that names no plat key has no key to open the body with (log entry 12). -/
def phaseDecrypt (im : Image) : Option PlatErr :=
  firstErr [check (im.gcmOk && decide (im.keySel ≤ 1)) ⟨0x20, 4, 0, 0x40 + im.bodyLen⟩, check im.fpOk ⟨0x21, 4, 0, 0x30⟩]

/-- TYPEs strictly rising: the first TLV that breaks the order. -/
def orderErr : Nat → List (Nat × Tlv) → Option PlatErr
  | _, [] => none
  | prev, (o, t) :: rest => if t.type ≤ prev then some ⟨0x29, 5, t.type, o⟩ else orderErr t.type rest

/-- Phase parse of R45 (R33): form, order, presence, types, versions, each over the whole body. -/
def phaseParse (im : Image) : Option PlatErr :=
  let ts := tlvOffsets 0x40 im.body
  let known (t : Tlv) : Bool := decide (1 ≤ t.type) && decide (t.type ≤ 0xA)
  let total := (ts.map fun e => 8 + pad8 e.2.length).sum
  firstErr [
    firstErr (ts.map fun e => check (e.2.padOk && e.2.length == e.2.value.length &&
      (!known e.2 || e.2.length == sectionLen e.2.type e.2.value)) ⟨0x28, 5, e.2.type, e.1 + 4⟩),
    check (total == im.bodyLen) ⟨0x28, 5, 0, 0xC⟩,
    orderErr 0 ts,
    firstErr ((List.range 10).map fun k => check (im.body.any fun t => t.type == k + 1) ⟨0x2B, 5, k + 1, 0x40 + im.bodyLen⟩),
    firstErr (ts.map fun e => check (known e.2) ⟨0x2A, 5, e.2.type, e.1⟩),
    firstErr (ts.map fun e => check (e.2.sver == 1) ⟨0x2C, 5, e.2.type, e.1 + 2⟩)]

/-- One field: its offset in the value, and whether its value is allowed; FIELD_RANGE. -/
def field (sec base off : Nat) (ok : Bool) : Option PlatErr := check ok ⟨0x30, 6, sec, base + off⟩

/-- Reserved bytes `off` to `off + n - 1`; FIELD_RSVD. -/
def rsvBytes (sec base : Nat) (v : List Nat) (off n : Nat) : Option PlatErr :=
  firstErr ((List.range n).map fun i => check (byteOf v (off + i) == 0) ⟨0x31, 6, sec, base + off + i⟩)

def within (x lo hi : Nat) : Bool := decide (lo ≤ x) && decide (x ≤ hi)

def fieldsGeometry (im : Image) : Option PlatErr :=
  let (o, v) := sectionOf im 1
  firstErr [field 1 o 0 (byteOf v 0 == 32), field 1 o 1 (byteOf v 1 == 1 || byteOf v 1 == 2 || byteOf v 1 == 4),
    field 1 o 2 (byteOf v 2 == 32), field 1 o 3 (within (byteOf v 3) 16 64), field 1 o 4 (within (byteOf v 4) 12 40),
    rsvBytes 1 o v 5 1, field 1 o 8 (within (le16 v 8) 32 256), field 1 o 10 (le16 v 10 == 8), rsvBytes 1 o v 12 4]

def fieldsChannel (im : Image) : Option PlatErr :=
  let (o, v) := sectionOf im 2
  firstErr ((List.range 32).map fun n => field 2 o n (decide (byteOf v n ≤ 2)))

/-- The byte offset of holding record k in the HOLDING value. -/
def holdOff (k : Nat) : Nat := 8 + 32 * k

/-- The checks of one holding record and of the order of R37. -/
def fieldsHoldingRec (o : Nat) (v : List Nat) (k : Nat) : Option PlatErr :=
  let r := holdOff k
  firstErr [field 3 o r (decide (byteOf v r ≤ 15) && (k == 0 || decide (byteOf v (holdOff (k - 1)) ≤ byteOf v r))),
    check (decide (byteOf v (r + 1) < 16)) ⟨0x31, 6, 3, o + r + 1⟩, field 3 o (r + 2) (decide (byteOf v (r + 2) ≤ 15)),
    field 3 o (r + 3) (decide (byteOf v (r + 3) ≤ 3)), field 3 o (r + 4) (decide (1 ≤ le32 v (r + 4))),
    rsvBytes 3 o v (r + 24) 8]

def fieldsHolding (im : Image) : Option PlatErr :=
  let (o, v) := sectionOf im 3
  firstErr ([field 3 o 0 (within (byteOf v 0) 1 16), rsvBytes 3 o v 1 7] ++
    (List.range (byteOf v 0)).map (fieldsHoldingRec o v))

def fieldsDram (im : Image) : Option PlatErr :=
  let (o, v) := sectionOf im 4
  firstErr ((List.range 7).map (fun k => field 4 o (4 * k) (le32 v (4 * k) % 256 == 0)) ++ [rsvBytes 4 o v 28 4])

def fieldsRoles (im : Image) : Option PlatErr :=
  let (o, v) := sectionOf im 5
  firstErr ((List.range 24).map fun k => field 5 o (2 * k) (decide (byteOf v (2 * k) ≤ 6)))

def fieldsHost (im : Image) : Option PlatErr :=
  let (o, v) := sectionOf im 6
  firstErr [field 6 o 0 (decide (byteOf v 0 ≤ 1)), field 6 o 1 (decide (byteOf v 1 ≤ 3)), field 6 o 2 (decide (byteOf v 2 ≤ 1)),
    field 6 o 3 (within (byteOf v 3) 1 4), field 6 o 4 (within (byteOf v 4) 1 3), rsvBytes 6 o v 5 3,
    field 6 o 10 (byteOf v 0 == 1 || le16 v 10 == 0), rsvBytes 6 o v 12 4]

def fieldsPower (im : Image) : Option PlatErr :=
  let (o, v) := sectionOf im 7
  let cells := byteOf v 1
  firstErr [field 7 o 0 (decide (byteOf v 0 ≤ 1)), field 7 o 1 (cells == 0 || within cells 2 7),
    field 7 o 2 (within (le16 v 2) 50 2000),
    field 7 o 4 (within (le16 v 4) 2000 3000 && decide (cells * le16 v 4 ≤ 16200)), field 7 o 6 (within (le16 v 6) 10400 11400),
    field 7 o 8 (within (le16 v 8) (le16 v 6 + 200) 11800), field 7 o 10 (within (le16 v 10) 400 1000),
    field 7 o 12 (within (byteOf v 12) 1 90), rsvBytes 7 o v 13 3]

def fieldsThermal (im : Image) : Option PlatErr :=
  let (o, v) := sectionOf im 8
  let t1 := byteOf v 0
  firstErr [field 8 o 0 (within t1 80 100), field 8 o 1 (within (byteOf v 1) 1 3),
    field 8 o 2 (within (byteOf v 2) (t1 + 5 * byteOf v 1 + 1) 109), field 8 o 3 (within (byteOf v 3) (byteOf v 2 + 1) 115),
    field 8 o 4 (byteOf v 4 == 1), field 8 o 5 (within (byteOf v 5) 60 (t1 - 5)), field 8 o 6 (within (byteOf v 6) 10 60),
    field 8 o 7 (within (byteOf v 7) 1 5)]

def fieldsQos (im : Image) : Option PlatErr :=
  let (o, v) := sectionOf im 9
  firstErr ([field 9 o 0 (within (byteOf v 0) 5 40), field 9 o 1 (within (byteOf v 1) (byteOf v 0) 80),
    field 9 o 2 (within (byteOf v 2) 1 20), rsvBytes 9 o v 3 1] ++
    (List.range 4).map fun k => field 9 o (4 + k) (within (byteOf v (4 + k)) 1 16))

/-- The override k of an EVENT value (R510): its offset is 4 + 4k. -/
def fieldsOverride (o : Nat) (v : List Nat) (k : Nat) : Option PlatErr :=
  let r := 4 + 4 * k
  let code := le16 v r
  firstErr [field 10 o (r + 2) (within (byteOf v (r + 2)) 1 64),
    field 10 o (r + 3) (within (byteOf v (r + 3)) (byteOf v (r + 2)) 255),
    field 10 o r (isDeviceCode code && eventBlock code != 0xD &&
      !(List.range k).any fun j => le16 v (4 + 4 * j) == code)]

def fieldsEvent (im : Image) : Option PlatErr :=
  let (o, v) := sectionOf im 10
  firstErr ([field 10 o 0 (within (byteOf v 0) 1 64), field 10 o 1 (within (byteOf v 1) (byteOf v 0) 255),
    field 10 o 2 (decide (byteOf v 2 ≤ 32)), rsvBytes 10 o v 3 1] ++ (List.range (byteOf v 2)).map (fieldsOverride o v))

/-- Phase fields: the reserved places of header and TLV headers (log entry 12), then each section's ranges in order. -/
def phaseFields (im : Image) : Option PlatErr :=
  firstErr ([check (decide (im.flags < 2)) ⟨0x31, 6, 0, 0x25⟩, check im.rsvOk ⟨0x31, 6, 0, 0x27⟩] ++
    (tlvOffsets 0x40 im.body).map (fun e => check (e.2.rsv == 0) ⟨0x31, 6, e.2.type, e.1 + 3⟩) ++
    [fieldsGeometry im, fieldsChannel im, fieldsHolding im, fieldsDram im, fieldsRoles im, fieldsHost im, fieldsPower im,
     fieldsThermal im, fieldsQos im, fieldsEvent im])

/-- The holding record at index k. -/
def holdingAt (v : List Nat) (k : Nat) : Holding :=
  let r := holdOff k
  let f := byteOf v (r + 1)
  { id := byteOf v r, integrity := f.testBit 0, mirror := f.testBit 1, readAlloc := f.testBit 2, passlock := f.testBit 3,
    keyRef := byteOf v (r + 2), qos := byteOf v (r + 3), units := le32 v (r + 4), name := (v.drop (r + 8)).take 16 }

/-- The configuration an image carries (Tables PLT-5 to PLT-12). -/
def platOfImage (im : Image) : Plat :=
  let g := (sectionOf im 1).2
  let h := (sectionOf im 3).2
  let d := (sectionOf im 4).2
  let e := (sectionOf im 5).2
  let ho := (sectionOf im 6).2
  let p := (sectionOf im 7).2
  let t := (sectionOf im 8).2
  let q := (sectionOf im 9).2
  let ev := (sectionOf im 10).2
  { diesPerCh := byteOf g 1, dieGib := byteOf g 2, logShare := byteOf g 3, minEase := byteOf g 4, dumpBands := le16 g 6,
    ckptBands := le16 g 8, monBands := le16 g 10, channel := (sectionOf im 2).2,
    holdings := (List.range (byteOf h 0)).map (holdingAt h), dram := (List.range 7).map (fun k => le32 d (4 * k)),
    roles := (List.range 24).map (fun k => (byteOf e (2 * k), byteOf e (2 * k + 1))), bifurc := byteOf ho 0,
    maxRate := byteOf ho 1, flit68 := byteOf ho 2, decoders := byteOf ho 3, ideModes := byteOf ho 4, port0Mask := le16 ho 8,
    port1Mask := le16 ho 10, lineTrack := byteOf p 0, cells := byteOf p 1, chargeMa := le16 p 2, cellMv := le16 p 4,
    vinTrip := le16 p 6, vinResume := le16 p 8, monReserve := le16 p 10, assayDays := byteOf p 12, temper1 := byteOf t 0,
    step := byteOf t 1, crit := byteOf t 2, quench := byteOf t 3, quenchMs := byteOf t 4, restart := byteOf t 5,
    restartS := byteOf t 6, rise := byteOf t 7, bgShare := byteOf q 0, bgCrit := byteOf q 1, logCrit := byteOf q 2,
    weights := (List.range 4).map (fun k => byteOf q (4 + k)), evRate := byteOf ev 0, evBurst := byteOf ev 1,
    evOver := (List.range (byteOf ev 2)).map fun k => (le16 ev (4 + 4 * k), byteOf ev (6 + 4 * k), byteOf ev (7 + 4 * k)) }

/-! The band budget (R39). -/

/-- Bands by use. -/
structure Layout where
  maxBands : Nat
  host : Nat
  integ : Nat
  tag : Nat
  ctr : Nat
  tree : Nat
  log : Nat
  rsvd : Nat
  deriving DecidableEq, Repr

/-- Locked pairs of a channel list (R35). -/
def lockedPairs (ch : List Nat) : Nat := ((List.range 16).filter fun k => byteOf ch (2 * k) == 1).length

def disabledChannels (ch : List Nat) : Nat := (ch.filter (· == 2)).length

/-- Logical channels of a configuration (R35). -/
def logicalChannels (p : Plat) : Nat := 32 - lockedPairs p.channel - disabledChannels p.channel

/-- Bands of the tree's levels 1 and 2 over the counter bands (R335). -/
def treeBands (ctr : Nat) : Nat := ceilDiv ctr 8 + ceilDiv ctr 64

/-- The layout of a configuration (R39). -/
def layoutOf (p : Plat) : Layout :=
  let host := (p.holdings.map (·.units)).sum * 64
  let integ := ((p.holdings.filter (·.integrity)).map (·.units)).sum * 64
  { maxBands := logicalChannels p * p.diesPerCh * 16384 / 17, host := host, integ := integ, tag := integ / 8,
    ctr := integ / 64, tree := treeBands (integ / 64), log := ceilDiv (host * p.logShare) 256,
    rsvd := p.dumpBands + p.ckptBands + p.monBands }

def Layout.used (l : Layout) : Nat := l.host + l.tag + l.ctr + l.tree + l.log + l.rsvd

def Layout.ease (l : Layout) : Nat := l.maxBands - l.used

/-- MiB of each DRAM partition (Table PLT-7). -/
def stagingMib (p : Plat) : Nat := p.dram.getD 0 0

/-- The first engine whose ENGINE_ROLES entry breaks R41; a required role that no entry names is charged to the first
spare entry, else to E[0] (log entry 12). -/
def roleBreak (p : Plat) : Option Nat :=
  let pairUsed (k : Nat) : Bool := !(byteOf p.channel (2 * k) == 2 && byteOf p.channel (2 * k + 1) == 2)
  let role (n : Nat) : Nat × Nat := p.roles.getD n (0, 0)
  let bad (n : Nat) : Bool :=
    let (r, a) := role n
    let dup := (List.range n).any fun m => role m == (r, a)
    if n == 22 then r != 5 || a != 0
    else if n == 23 then r != 6 || a != 0
    else match r with
      | 0 => a != 0
      | 1 => decide (16 ≤ a) || !pairUsed a || dup
      | 2 => decide (3 ≤ a) || dup
      | 3 => a != 0 || dup
      | 4 => a != 0 || dup
      | _ => true
  let need := ((List.range 16).filter pairUsed).map (fun k => (1, k)) ++ [(2, 0), (2, 1), (2, 2), (3, 0), (4, 0)]
  match (List.range 24).find? bad with
  | some n => some n
  | none =>
    if need.all fun r => p.roles.contains r then none
    else some (((List.range 22).find? fun n => (role n).1 == 0).getD 0)

/-- The mask bits of present holdings. -/
def holdingBits (p : Plat) : Nat := p.holdings.foldl (fun m h => m ||| (1 <<< h.id)) 0

/-- The first mask of R42 that breaks it: 0 PORT0_MASK, 1 PORT1_MASK. A holding in no mask is charged to PORT0_MASK. -/
def maskBreak (p : Plat) : Option Nat :=
  let bits := holdingBits p
  if p.port0Mask ||| bits ≠ bits then some 0
  else if p.port1Mask ||| bits ≠ bits then some 1
  else if p.port0Mask ||| p.port1Mask = bits then none else some 0

/-- The index of the first holding record that repeats an earlier HOLDING_ID or KEY_REF, and the byte it repeats in. -/
def holdingDup (hs : List Holding) : Option (Nat × Nat) :=
  let at_ (n : Nat) : Option Holding := hs[n]?
  (List.range hs.length).findSome? fun k =>
    if (List.range k).any fun j => (at_ j).map (·.id) == (at_ k).map (·.id) then some (k, 0)
    else if (List.range k).any fun j => (at_ j).map (·.keyRef) == (at_ k).map (·.keyRef) then some (k, 2)
    else none

/-- Phase cross of R45 with the offsets of R512. `medium`: for each channel the dies its READ_ID found, none where the
channel was not read. -/
def phaseCross (medium : List (Option Nat)) (im : Image) (p : Plat) : Option PlatErr :=
  let e (code sec off : Nat) : PlatErr := ⟨code, 7, 0, (sectionOf im sec).1 + off⟩
  let l := layoutOf p
  let last := holdOff (p.holdings.length - 1) + 4
  let integ := p.holdings.any (·.integrity)
  let d (k : Nat) : Nat := p.dram.getD k 0
  firstErr [
    check ((List.range 32).all fun n => byteOf p.channel n == 2 ||
      match medium.getD n none with | some k => k == p.diesPerCh | none => true) (e 0x40 1 1),
    firstErr ((List.range 16).map fun k =>
      check ((byteOf p.channel (2 * k) == 1) == (byteOf p.channel (2 * k + 1) == 1)) (e 0x41 2 (2 * k + 1))),
    check (decide (17 ≤ logicalChannels p)) (e 0x42 2 0),
    firstErr ((List.range p.holdings.length).map fun k =>
      check (!((p.holdings[k]?.map (·.mirror)).getD false) || decide (1 ≤ lockedPairs p.channel)) (e 0x4C 3 (holdOff k + 1))),
    (holdingDup p.holdings).map (fun kb => e 0x4B 3 (holdOff kb.1 + kb.2)),
    check (decide (l.host ≤ 98304 * p.diesPerCh / 4)) (e 0x45 3 last),
    check (decide (l.used ≤ l.maxBands)) (e 0x43 3 last),
    check (decide (ceilDiv (l.maxBands * p.minEase) 100 ≤ l.maxBands - l.used)) (e 0x44 1 4),
    check (p.dram.sum == 16384) (e 0x47 4 0),
    check (within (d 0) 1024 8192) (e 0x48 4 0), check (decide (ceilDiv (l.log * 15) 100 ≤ d 1)) (e 0x48 4 4),
    check (!integ || decide (512 ≤ d 2)) (e 0x48 4 8), check (decide (512 ≤ d 3)) (e 0x48 4 12),
    check (decide (512 ≤ d 4)) (e 0x48 4 16), check (decide (256 ≤ d 5)) (e 0x48 4 20),
    check (decide (5 * d 0 ≤ p.dumpBands * 128)) (e 0x46 1 6),
    check (decide (8 + 2 * ceilDiv (d 1) 32 ≤ p.ckptBands)) (e 0x4D 1 8),
    (roleBreak p).map (fun n => e 0x49 5 (2 * n)), (maskBreak p).map (fun k => e 0x4A 6 (8 + 2 * k))]

/-- What validation reads of the device (R45): stepping, minimum security version, whether an owner key counts as
enrolled, the dies found on each channel. -/
structure PlatEnv where
  step : Nat
  svnMin : Nat
  enrolled : Bool
  medium : List (Option Nat)
  deriving DecidableEq, Repr

/-- Phases header to cross of R45: the failure, or none. -/
def validateErr (env : PlatEnv) (im : Image) : Option PlatErr :=
  firstErr [phaseHeader env.step im, phaseSignature env.enrolled im, phaseRollback env.svnMin im, phaseDecrypt im,
    phaseParse im, phaseFields im, phaseCross env.medium im (platOfImage im)]

/-! The default image (Table PLT-17). -/

def mkTlv (type : Nat) (v : List Nat) : Tlv :=
  { type := type, sver := 1, rsv := 0, length := v.length, value := v, padOk := true }

def bytes16 (n : Nat) : List Nat := [n % 256, n / 256 % 256]
def bytes32 (n : Nat) : List Nat := bytes16 (n % 65536) ++ bytes16 (n / 65536)

/-- Sections GEOMETRY to EVENT of the default image. -/
def defaultBody : List Tlv := [
  mkTlv 1 ([32, 4, 32, 32, 12, 0] ++ bytes16 320 ++ bytes16 128 ++ bytes16 8 ++ List.replicate 4 0),
  mkTlv 2 (List.replicate 32 0),
  mkTlv 3 ([1, 0, 0, 0, 0, 0, 0, 0] ++ [0, 1, 0, 0] ++ bytes32 1280 ++ List.replicate 24 0),
  mkTlv 4 (bytes32 8192 ++ bytes32 1536 ++ bytes32 4096 ++ bytes32 512 ++ bytes32 512 ++ bytes32 256 ++ bytes32 1280 ++
    bytes32 0),
  mkTlv 5 ((List.range 16).flatMap (fun k => [1, k]) ++ [2, 0, 2, 1, 2, 2, 3, 0, 4, 0, 0, 0, 5, 0, 6, 0]),
  mkTlv 6 ([0, 3, 1, 4, 3, 0, 0, 0] ++ bytes16 1 ++ bytes16 0 ++ List.replicate 4 0),
  mkTlv 7 ([1, 6] ++ bytes16 1000 ++ bytes16 2700 ++ bytes16 10800 ++ bytes16 11200 ++ bytes16 400 ++ [30, 0, 0, 0]),
  mkTlv 8 [95, 2, 109, 115, 1, 85, 10, 3],
  mkTlv 9 [20, 60, 5, 0, 8, 4, 2, 1],
  mkTlv 10 [8, 16, 0, 0]]

/-- The default image, signed by Foaro (Table PLT-17). SERIAL, SVN, BUILD_ID and STRUCT_FP are those of log entry 11. -/
def defaultImage : Image :=
  { crcOk := true, magicOk := true, fmtVer := 1, hdrLen := 0x40, imgLen := 0x1F8, bodyLen := 0x130, serial := 0, svn := 0,
    keySel := 0, flags := 0, minStep := 1, rsvOk := true, buildId := 0, fp := 1, sigPresent := true,
    sigs := [{ signer := 0, keyKnown := true, sigOk := true }], gcmOk := true, fpOk := true, body := defaultBody }

/-- The configuration of the default image. -/
def defaultPlat : Plat := platOfImage defaultImage

/-- The configuration in force, the default one before an image is accepted. -/
def PlatState.conf (p : PlatState) : Plat := p.active.getD defaultPlat

/-- The device DPA, in parcels, at which each holding starts (R37), with its size in parcels. One SIZE_UNIT is 2 GiB. -/
def holdingBases : Nat → List Holding → List (Holding × Nat × Nat)
  | _, [] => []
  | b, h :: rest => (h, b, h.units * 524288) :: holdingBases (b + h.units * 524288) rest

/-- The holding of a parcel (device DPA / 4 KiB), with its first parcel and its length. -/
def holdingOfParcel (p : Plat) (parcel : Nat) : Option (Holding × Nat × Nat) :=
  (holdingBases 0 p.holdings).find? fun e => decide (e.2.1 ≤ parcel) && decide (parcel < e.2.1 + e.2.2)

end Sys2Proof.Machine
end

