-- ==== Sys2Proof/Machine/State.lean ====
section
/-! DEFINITION. The machine's state: every register, queue, buffer, counter, mode and pin the spec gives the AX4100, as
plain data, and the queue of commands that wait. -/

namespace Sys2Proof.Machine

/-- Why a step could stop with a fault. No command of this block does: an access to an address without a register
completes normally (R503), and every other event of the table has an effect. Nothing raises it. -/
inductive Fault
  deriving DecidableEq, Repr

/-- Why a command has no meaning. -/
inductive Refusal
  /-- Raised by the dispatch for a command whose meaning is not written; safe, since the model stops. -/
  | notModelled (mnemonic : String)
  deriving DecidableEq, Repr

/-- What RECOVER would load of the map and of the inline state: the latest sealed directory with the journal lines after
it, or the delta of a completed flush (R166, R316, R345; log entry 18). -/
structure MapSave where
  cds : Cds
  ctr : SMap CtrBlock
  quar : List QuarEnt
  rekeys : SMap Rekey
  root : List Quad
  deriving DecidableEq, Repr

structure State where
  /-- The commands that wait, first in, first out. -/
  pending : List Instr
  /-- The register file: BAR2 offset to value; an unlisted register reads as its reset value. -/
  regs : SMap Word
  /-- Pair shadows and held halves of the two requesters of R501. -/
  bar2 : Shadow
  mctp : Shadow
  sys : Sys
  dtm : Dtm
  plat : PlatState
  port0 : Port
  port1 : Port
  svc : Svc
  stg : Stg
  cds : Cds
  saved : MapSave
  /-- Lines on the medium packages, by `medKey`; a place not listed is reset (blank). -/
  med : SMap MedLine
  trv : Trv
  mdc : Mdc
  pwr : Pwr
  pfl : Pfl
  ime : Ime
  cke : Cke
  eng : Eng
  pst : Pst
  evr : Evr
  thm : Thm
  svy : Svy
  /-- Messages that have left the device, oldest first. -/
  out : List Output
  /-- The model's own counter of free values used (log entry 3). -/
  free : Nat
  deriving DecidableEq, Repr

/-- PLT at reset: a plat image in slot A only, nothing loaded (log entry 11). -/
def platInit : PlatState :=
  { slotA := some defaultImage, slotB := none, active := none, image := none, pend := none, slot := false, written := 0,
    lightDeed := false, raiseSvn := none, fresh := false }

/-- Right after reset: supplies have just become good, the device is in BOOT, the bank CHARGING, every register at its
reset value, no command waits (R10, R271, R288, R504). -/
def State.reset : State :=
  { pending := [], regs := [], bar2 := emptyShadow, mctp := emptyShadow, sys := sysInit, dtm := dtmInit, plat := platInit,
    port0 := portInit, port1 := portInit, svc := svcInit, stg := stgInit, cds := cdsInit,
    saved := { cds := cdsInit, ctr := [], quar := [], rekeys := [], root := imeInit.root }, med := [], trv := trvInit,
    mdc := mdcInit, pwr := pwrInit, pfl := pflInit, ime := imeInit, cke := ckeInit, eng := engInit, pst := pstInit,
    evr := evrInit, thm := thmInit, svy := svyInit, out := [], free := 0 }

end Sys2Proof.Machine
end

