-- ==== Sys2Proof/Machine/Ops.lean ====
section
/-! DEFINITION. The operations every meaning shares: one update per state component, the register file, time, event
records and their flood control, survey strobes, performance counting, and the change of top-level state. -/

namespace Sys2Proof.Machine

/-- A command's outcome is a next state. -/
abbrev Res : Type := Host.Outcome State Fault Refusal

/-! One update per component. -/

def State.modSys (s : State) (f : Sys → Sys) : State := { s with sys := f s.sys }
def State.modDtm (s : State) (f : Dtm → Dtm) : State := { s with dtm := f s.dtm }
def State.modPlat (s : State) (f : PlatState → PlatState) : State := { s with plat := f s.plat }
def State.modPort (s : State) (p : Nat) (f : Port → Port) : State :=
  if p = 0 then { s with port0 := f s.port0 } else { s with port1 := f s.port1 }
def State.modSvc (s : State) (f : Svc → Svc) : State := { s with svc := f s.svc }
def State.modStg (s : State) (f : Stg → Stg) : State := { s with stg := f s.stg }
def State.modCds (s : State) (f : Cds → Cds) : State := { s with cds := f s.cds }
def State.modSaved (s : State) (f : MapSave → MapSave) : State := { s with saved := f s.saved }
def State.modMed (s : State) (f : SMap MedLine → SMap MedLine) : State := { s with med := f s.med }
def State.modTrv (s : State) (f : Trv → Trv) : State := { s with trv := f s.trv }
def State.modMdc (s : State) (f : Mdc → Mdc) : State := { s with mdc := f s.mdc }
def State.modPwr (s : State) (f : Pwr → Pwr) : State := { s with pwr := f s.pwr }
def State.modPfl (s : State) (f : Pfl → Pfl) : State := { s with pfl := f s.pfl }
def State.modIme (s : State) (f : Ime → Ime) : State := { s with ime := f s.ime }
def State.modCke (s : State) (f : Cke → Cke) : State := { s with cke := f s.cke }
def State.modEng (s : State) (f : Eng → Eng) : State := { s with eng := f s.eng }
def State.modPst (s : State) (f : Pst → Pst) : State := { s with pst := f s.pst }
def State.modEvr (s : State) (f : Evr → Evr) : State := { s with evr := f s.evr }
def State.modThm (s : State) (f : Thm → Thm) : State := { s with thm := f s.thm }
def State.modSvy (s : State) (f : Svy → Svy) : State := { s with svy := f s.svy }

/-- A message leaves the device. -/
def State.emit (s : State) (o : Output) : State := { s with out := s.out ++ [o] }

/-- More free values have been used (log entry 3). -/
def State.useFrees (s : State) (k : Nat) : State := { s with free := s.free + k }

def State.useFree (s : State) : State := s.useFrees 1

/-- The map in force and the map that is saved change alike. -/
def State.modBoth (s : State) (f : Cds → Cds) : State := (s.modCds f).modSaved fun v => { v with cds := f v.cds }

/-- Pair shadows and held halves of a requester (R501). -/
def State.modShadow (s : State) (q : Requester) (f : Shadow → Shadow) : State :=
  match q with
  | .bar2 => { s with bar2 := f s.bar2 }
  | .mctp => { s with mctp := f s.mctp }

/-- The port of an index. -/
def State.port (s : State) (p : Nat) : Port := if p = 0 then s.port0 else s.port1

/-- Registers and messages reach the device: supplies are good, it is not in reset, and a quench has not powered it down (R461,
R501). An access that cannot reach it changes nothing. -/
def State.reachable (s : State) : Bool := s.sys.supplies && !s.sys.inReset && !s.sys.poweredDown

/-- A requester's access reaches the device: over MCTP not while the parameter store programs or erases, when the SMBus address
is not answered (R427). -/
def State.reaches (s : State) (via : Via) : Bool :=
  s.reachable && match via with
    | .bar2 _ => true
    | .mctp => s.pst.run.isNone

/-- The configuration in force. -/
def State.conf (s : State) : Plat := s.plat.conf

/-! The register file (R3, R7). Offsets are BAR2 offsets. -/

def State.getReg (s : State) (off : Nat) : Word := mapGet regReset s.regs off

def State.setReg (s : State) (off : Nat) (v : Word) : State := { s with regs := mapSet regReset s.regs off v }

/-- A register takes its reset value. -/
def State.clearReg (s : State) (off : Nat) : State := s.setReg off (regReset off)

def State.regNat (s : State) (off : Nat) : Nat := (s.getReg off).toNat

def State.setNat (s : State) (off n : Nat) : State := s.setReg off (BitVec.ofNat 32 n)

/-- Bit k of a register. -/
def State.bit (s : State) (off k : Nat) : Bool := (s.getReg off).toNat.testBit k

/-- Bits lo + width - 1 down to lo of a number. -/
def bitsAt (n lo width : Nat) : Nat := n / 2 ^ lo % 2 ^ width

def State.regField (s : State) (off lo width : Nat) : Nat := bitsAt (s.regNat off) lo width

/-- Set the bits of a mask. -/
def State.setBits (s : State) (off mask : Nat) : State := s.setReg off (s.getReg off ||| BitVec.ofNat 32 mask)

/-- Clear the bits of a mask. -/
def State.clearBits (s : State) (off mask : Nat) : State :=
  s.setReg off (s.getReg off &&& ~~~ BitVec.ofNat 32 mask)

/-- Write a field, leaving the other bits. -/
def State.setField (s : State) (off lo width v : Nat) : State :=
  (s.clearBits off ((2 ^ width - 1) * 2 ^ lo)).setBits off (v % 2 ^ width * 2 ^ lo)

/-- A counter adds k, modulo 2^32 (log entry 14). -/
def State.addReg (s : State) (off k : Nat) : State := s.setReg off (s.getReg off + BitVec.ofNat 32 k)

def State.incReg (s : State) (off : Nat) : State := s.addReg off 1

/-- A saturating field adds k. -/
def State.satField (s : State) (off lo width k : Nat) : State :=
  s.setField off lo width (min (s.regField off lo width + k) (2 ^ width - 1))

/-- A 64-bit counter in a _LO, _HI pair adds k (R3). -/
def State.addPair (s : State) (lo k : Nat) : State :=
  let n := s.regNat lo + s.regNat (lo + 4) * 2 ^ 32 + k
  (s.setNat lo n).setNat (lo + 4) (n / 2 ^ 32)

/-- A 64-bit value goes to a _LO, _HI pair. -/
def State.setPair (s : State) (lo n : Nat) : State := (s.setNat lo n).setNat (lo + 4) (n / 2 ^ 32)

def State.pairNat (s : State) (lo : Nat) : Nat := s.regNat lo + s.regNat (lo + 4) * 2 ^ 32

/-- A high-water mark. -/
def State.maxReg (s : State) (off v : Nat) : State := if s.regNat off < v then s.setNat off v else s

/-- The registers of a reset domain take their reset values: their entries are dropped. -/
def State.resetRegs (s : State) (p : RegDom → Bool) (q : Nat → Bool) : State :=
  { s with regs := s.regs.filter fun e => !(regInDom p e.1 && q e.1) }

/-! Time (R192). -/

/-- Units of 1/8,000,000 ns. -/
def nsUnits : Nat := 8000000

/-- A fabric cycle, 0.625 ns. -/
def cycleUnits : Nat := 5000000

/-- DTM_MONO, ns. -/
def State.nowNs (s : State) : Nat := s.dtm.mono / nsUnits

/-- The datum, ns. -/
def State.datumNs (s : State) : Nat := s.dtm.datum / nsUnits

/-- Both counters advance by `d` units; a running slew bends the datum until its offset is absorbed (R192, R196). -/
def Dtm.advance (t : Dtm) (ppm d : Nat) : Dtm :=
  if t.slewing then
    let most := d * ppm / 1000000
    let part := min most t.offset.natAbs
    if t.offset < 0 then { t with mono := t.mono + d, datum := t.datum + d - part, offset := t.offset + part }
    else { t with mono := t.mono + d, datum := t.datum + d + part, offset := t.offset - part }
  else { t with mono := t.mono + d, datum := t.datum + d }

/-- Time passes by `d` units. -/
def State.pass (s : State) (d : Nat) : State := s.modDtm (·.advance (s.regNat Reg.DTM_SLEW_PPM) d)

/-! Survey strobe requests (R202, R204). -/

/-- A strobe request of the fabric cycle at `at_`, from the sources of `src` (DTM_SVY_SRC bits): it opens a strobe, joins
one opened in the same cycle, or joins a pending one and counts as merged. Nothing is raised while the fabric clock is
held (R468). -/
def State.strobeAt (s : State) (at_ src : Nat) : State :=
  if s.sys.poweredDown || s.sys.inReset then s
  else match s.dtm.strobe with
    | none => s.modDtm fun t => { t with strobe := some (at_, src) }
    | some (c, old) =>
      let s := s.modDtm fun t => { t with strobe := some (c, old ||| src) }
      if c = at_ then s else s.incReg Reg.DTM_SVY_MERGED

/-- A strobe request raised now. -/
def State.strobe (s : State) (src : Nat) : State := s.strobeAt s.dtm.mono src

/-! Event records (R433 to R440). -/

/-- RATE and BURST of a code (R438). -/
def State.evLimits (s : State) (code : Nat) : Nat × Nat :=
  ((s.conf.evOver.find? fun e => e.1 == code).map (·.2)).getD (s.conf.evRate, s.conf.evBurst)

/-- Whether a code goes into the port event logs (R90). -/
def hostCode (code : Nat) : Bool :=
  match code / 0x100 with
  | 0x23 | 0x31 | 0x32 | 0x41 | 0x42 | 0x61 | 0x82 | 0x83 => true
  | _ => (eventBlock code == 9 || eventBlock code == 0xE) && (eventTable.lookup code).isSome

/-- Codes whose ARG0 is a device DPA (R90, R433). -/
def dpaCode (code : Nat) : Bool :=
  match code with
  | 0x2301 | 0x2302 | 0x3101 | 0x3102 | 0x4101 | 0x4102 | 0x4103 | 0x4104 | 0x6101 | 0x6102 | 0x9101 | 0x9102
  | 0x9201 | 0x9302 | 0x9303 | 0x9304 | 0x9401 | 0x9403 => true
  | _ => false

/-- The mask of the holdings a port decodes (Table PLT-9). -/
def Plat.portMask (p : Plat) (port : Nat) : Nat := if port = 0 then p.port0Mask else p.port1Mask

/-- Device DPA bytes to port DPA: holdings of the port's mask, packed in HOLDING_ID order (R63). None where the port
does not reach the address. -/
def Plat.toPort (p : Plat) (port dpa : Nat) : Option Nat :=
  let reach (h : Holding) : Bool := (p.portMask port).testBit h.id
  let parcel := dpa / 4096
  match holdingOfParcel p parcel with
  | none => none
  | some (h, base, _) =>
    if reach h then
      let before := (holdingBases 0 p.holdings).filter fun e => decide (e.2.1 < base) && reach e.1
      some ((before.map (·.2.2)).sum * 4096 + (dpa - base * 4096))
    else none

/-- A port takes a copy of a record, or counts it as lost when its log is full (R90). A log holds 128 records
(HPT_EVT_PEND). -/
def State.portCopy (s : State) (p : Nat) (r : EvrRec) : State :=
  let full := decide (128 ≤ ((s.port p).logs.getD r.sev []).length)
  if full then (s.incReg (Reg.HPT_EVT_OVF p)).modPort p fun x => { x with logOvf := listUpd x.logOvf r.sev fun _ => true }
  else s.modPort p fun x => { x with logs := listUpd x.logs r.sev (· ++ [r]) }

/-- The port that an HPT class 3 record concerns is in its ARG1 (R90). -/
def State.portCopies (s : State) (r : EvrRec) : State :=
  let ports := if s.conf.bifurc == 1 then [0, 1] else [0]
  ports.foldl (fun s p =>
    if r.code / 0x100 == 0x23 && r.arg1 != p then s
    else if dpaCode r.code then
      match s.conf.toPort p r.arg0 with
      | some d => s.portCopy p { r with arg0 := d }
      | none => s
    else s.portCopy p r) s

/-- The fields of a record raised now (Table EVR-1). -/
def State.mkRec (s : State) (code arg0 arg1 : Nat) : EvrRec :=
  { blankRec with code := code, sev := eventSev code, host := hostCode code, state := s.sys.state.code,
                  bank := s.pwr.bank.code, datum := s.datumNs, arg0 := arg0 % 2 ^ 64, arg1 := arg1 % 2 ^ 16 }

/-- The suppressed count of a code. -/
def Evr.countOf (e : Evr) (code : Nat) : Nat := ((e.supp.find? fun x => x.code == code).map (·.count)).getD 0

/-- An event-log operation is queued or running (R425, R435). -/
def PstOp.isLog : PstOp → Bool
  | .evrBody _ => true
  | .evrMark _ => true
  | _ => false

def Pst.logQueued (p : Pst) : Bool :=
  p.queue.any PstOp.isLog || match p.run with
    | some r => r.op.isLog
    | none => false

/-- A record enters the queue: next SEQ, the code's count, high-water mark, port copies (R434, R437, R439). With
MEM_LOST set a full queue loses its oldest record (R444). -/
def State.enqueueRec (s : State) (r : EvrRec) : State :=
  let r := { r with seq := s.evr.nextSeq, supp := min (r.supp + s.evr.countOf r.code) 0xFFFF }
  let s := s.modEvr fun e =>
    let q := if e.memLost && decide (64 ≤ e.queue.length) then e.queue.drop 1 else e.queue
    { e with queue := q ++ [r], nextSeq := (e.nextSeq + 1) % 2 ^ 32,
             supp := e.supp.map fun x => if x.code == r.code then { x with count := 0 } else x }
  let occ := s.evr.queue.length
  let s := if s.regField Reg.EVR_QUEUE 16 7 < occ then s.setField Reg.EVR_QUEUE 16 7 occ else s
  let s := if occ == 32 then s.setBits Reg.EVR_INT_STAT 8 else s
  let s := s.modPst fun p => if p.logQueued then p else { p with queue := p.queue ++ [.evrBody 0] }
  if r.host then s.portCopies r else s

/-- A record of an EVR-block code: exempt from buckets, it takes the next free entry or waits for it (R438). -/
def State.raiseEvr (s : State) (code arg0 arg1 : Nat) : State :=
  let r := s.mkRec code arg0 arg1
  if s.evr.queue.length < 64 || s.evr.memLost then s.enqueueRec r
  else s.modEvr fun e => { e with waiting := e.waiting ++ [r] }

/-- A flag of EVR_ERR_STAT sets; a newly set flag whose event is not listed is logged under class 0xF (R436; log entry
15). -/
def State.evrFlag (s : State) (n : Nat) (listed : Bool) : State :=
  let new := !s.bit Reg.EVR_ERR_STAT n
  let s := s.setBits Reg.EVR_ERR_STAT (2 ^ n)
  if new && !listed && s.bit Reg.EVR_ERR_EN n then s.raiseEvr (0xDF01 + n) 0 0 else s

/-- Change the suppression entry of a code. -/
def Evr.onSupp (e : Evr) (code : Nat) (f : Supp → Supp) : Evr :=
  { e with supp := e.supp.map fun x => if x.code == code then f x else x }

/-- One more event of a code without a record (R437, R438). -/
def Supp.miss (x : Supp) (now datum : Nat) : Supp :=
  { x with count := x.count + 1, countSince := if x.count = 0 then now else x.countSince, lastDatum := datum }

/-- The entry that a new code may replace (R440): the least recently raised whose bucket is full and whose count is 0. -/
def State.suppVictim (s : State) : Option Nat :=
  let free := s.evr.supp.filter fun x => x.count == 0 && decide ((s.evLimits x.code).2 ≤ x.tokens)
  match free with
  | [] => none
  | x :: rest => some (rest.foldl (fun a b => if b.raisedAt < a.raisedAt then b else a) x).code

/-- Give a code its entry in the suppression table, its bucket full (R438, R440); none where no entry is free. -/
def State.suppEntry (s : State) (code : Nat) : Option State :=
  if s.evr.supp.any fun x => x.code == code then some s
  else
    let e : Supp := { code := code, tokens := (s.evLimits code).2, count := 0, raisedAt := s.nowNs, countSince := 0,
                      lastDatum := 0 }
    if s.evr.supp.length < 256 then some (s.modEvr fun v => { v with supp := v.supp ++ [e] })
    else (s.suppVictim).map fun c =>
      s.modEvr fun v => { v with supp := (v.supp.filter fun x => x.code != c) ++ [e] }

/-- An event of a code outside the EVR block meets its bucket, then the queue (R437, R438, R440). -/
def State.raiseBucket (s : State) (code arg0 arg1 : Nat) : State :=
  match s.suppEntry code with
  | none => (s.modEvr fun e => { e with untracked := e.untracked + 1 }).evrFlag 4 true
  | some s =>
    let now := s.nowNs
    let datum := s.datumNs
    let s := s.modEvr (·.onSupp code fun x => { x with raisedAt := now })
    let off := s.sys.state == .diag && s.bit Reg.EVR_CTL 0
    let tokens := ((s.evr.supp.find? fun x => x.code == code).map (·.tokens)).getD 0
    if tokens = 0 && !off then
      (s.modEvr (·.onSupp code fun x => x.miss now datum)).satField Reg.EVR_DROP_CNT 0 16 1
    else
      let s := if off then s else s.modEvr (·.onSupp code fun x => { x with tokens := x.tokens - 1 })
      if s.evr.queue.length < 64 || s.evr.memLost then s.enqueueRec (s.mkRec code arg0 arg1)
      else ((s.modEvr (·.onSupp code fun x => x.miss now datum)).satField Reg.EVR_DROP_CNT 16 16 1).evrFlag 3 false

/-- An event is raised (R436 to R438), and may match the strobe code (R202). -/
def State.raiseCore (s : State) (code arg0 arg1 : Nat) : State :=
  let s := if s.bit Reg.DTM_SVY_CTL 3 && s.regField Reg.DTM_SVY_CTL 16 16 == code then s.strobe 2 else s
  if eventBlock code = 0xD then s.raiseEvr code arg0 arg1 else s.raiseBucket code arg0 arg1

/-- An error flag n of a block sets at `stat`; newly set, enabled at `en` and without a listed event of its own, it is
logged under class 0xF (R436; log entry 15). -/
def State.flagCore (s : State) (stat en n : Nat) (listed : Bool) : State :=
  let new := !s.bit stat n
  let s := s.setBits stat (2 ^ n)
  if new && !listed && s.bit en n then s.raiseCore (stat / 0x10000 * 0x1000 + 0xF01 + n) 0 0 else s

/-! Performance counting (R473 to R477). -/

/-- Counter n feeds the chain of counter n + 1 (R475). -/
def State.pmcFeeds (s : State) (n : Nat) : Bool := decide (n < 47) && s.bit (Reg.PMC_CFG (n + 1)) 29

/-- The overflow of counter n when it feeds no chain (R476, R477). `engine`, `src`, `arg` describe the occurrence. -/
def State.pmcOverflow (s : State) (n : Nat) (engine : Bool) (src arg : Nat) : State :=
  let s := s.setBits (if n < 32 then Reg.PMC_OVF_0 else Reg.PMC_OVF_1) (2 ^ (n % 32))
  let sampled := s.bit Reg.SVY_INT_STAT 1
  let s := s.setBits Reg.SVY_INT_STAT 1
  if !s.bit (Reg.PMC_CFG n) 30 then s
  else if sampled then (s.satField Reg.PMC_SAMPLE_INFO 0 16 1).flagCore Reg.SVY_ERR_STAT Reg.SVY_ERR_EN 0 false
  else
    let s := s.setNat Reg.PMC_SAMPLE_INFO
      (2 ^ 31 + (if engine then 2 ^ 30 else 0) + n * 2 ^ 24 + src % 256 * 2 ^ 16 + s.regField Reg.PMC_SAMPLE_INFO 0 16)
    let s := (s.setNat Reg.PMC_SAMPLE_ARG arg).setPair Reg.PMC_SAMPLE_DATUM_LO s.datumNs
    let s := s.setBits Reg.SVY_INT_STAT 2
    if s.bit Reg.PMC_CTL 1 then s.setBits Reg.PMC_CTL 1 else s

/-- Counter n adds k, each overflow carrying along its chain (R475); `fuel` bounds the chain. -/
def State.pmcAdd (s : State) (fuel n k : Nat) (engine : Bool) (src arg : Nat) : State :=
  match fuel with
  | 0 => s
  | fuel + 1 =>
    let v := s.regNat (Reg.PMC_CNT n) + k
    let s := s.setNat (Reg.PMC_CNT n) v
    if v < 2 ^ 32 then s
    else if s.pmcFeeds n then
      if s.bit (Reg.PMC_CFG (n + 1)) 31 then s.pmcAdd fuel (n + 1) (v / 2 ^ 32) engine src arg else s
    else s.pmcOverflow n engine src arg

/-- The counters that the register file lists as configured. -/
def State.pmcListed (s : State) : List Nat :=
  (List.range 48).filter fun n => (mapFind s.regs (Reg.PMC_CFG n)).isSome && s.bit (Reg.PMC_CFG n) 31

/-- A pulse event whose occurrences in this cycle have the filter indexes `occ` (R473). -/
def State.pmcMany (s : State) (event : Nat) (occ : List Nat) (arg : Nat) : State :=
  if !s.bit Reg.PMC_CTL 31 || s.bit Reg.PMC_CTL 0 then s
  else s.pmcListed.foldl (fun s n =>
    let cfg := s.regNat (Reg.PMC_CFG n)
    let hits := occ.filter fun x => bitsAt cfg 16 8 == 0xFF || bitsAt cfg 16 8 == x
    if s.bit Reg.PMC_CTL 0 || hits.isEmpty || (decide (1 ≤ n) && cfg.testBit 29) || bitsAt cfg 0 16 != event then s
    else s.pmcAdd 48 n (if cfg.testBit 28 then 1 else hits.length) (bitsAt event 12 4 == 0xB) (hits.headD 0) arg) s

/-- A pulse event with k occurrences at filter index `src`. -/
def State.pmc (s : State) (event src k arg : Nat) : State := s.pmcMany event (List.replicate (min k 63) src) arg

/-- The sample argument of an event about a device line: device DPA bits 41:12 (Table SVY-1). -/
def pmcArg (line : Nat) : Nat := line / 64 % 2 ^ 30

/-- The sample argument of an event that carries no address. -/
def pmcNone : Nat := 0x3FFFFFFF

/-- The records queued and the events suppressed between two states, as performance events (Table SVY-2). -/
def State.countRaised (s : State) (seq drops : Nat) : State :=
  (s.pmc 0xD001 0 ((s.evr.nextSeq + 2 ^ 32 - seq) % 2 ^ 32) pmcNone).pmc 0xD002 0
    (s.regField Reg.EVR_DROP_CNT 0 16 - drops) pmcNone

/-- An event is raised, and counted where a counter is set to count it. -/
def State.raise (s : State) (code arg0 arg1 : Nat) : State :=
  (s.raiseCore code arg0 arg1).countRaised s.evr.nextSeq (s.regField Reg.EVR_DROP_CNT 0 16)

/-- An error flag sets, with its class 0xF record (R436). -/
def State.flag (s : State) (stat en n : Nat) (listed : Bool) : State :=
  (s.flagCore stat en n listed).countRaised s.evr.nextSeq (s.regField Reg.EVR_DROP_CNT 0 16)

/-- A near miss of a timer (R199): the shared counter, its source, the interrupt flag and, where enabled, the event. -/
def State.nearMiss (s : State) (timer : Nat) : State :=
  let s := ((s.incReg Reg.DTM_TMO_NEAR).setNat Reg.DTM_TMO_NEAR_SRC timer).setBits Reg.DTM_INT_STAT 8
  if s.bit Reg.DTM_CTL 2 then s.raise 0x7301 timer 0 else s

/-! Temperature and the applied level (R451 to R455, R459). -/

/-- What a sensor reads as in every use: CRIT once it has failed (R451). In 1/16 °C. -/
def Sensor.reading (x : Sensor) (crit : Nat) : Int := if x.failed then crit * 16 else x.value

def Thm.failed (t : Thm) : Nat := (t.sensors.filter (·.failed)).length

/-- The highest of a list of readings with its position, the lowest position on a tie. -/
def maxOf : List Int → Int × Nat
  | [] => (0, 0)
  | x :: rest => (rest.zipIdx).foldl (fun a e => if a.1 < e.1 then (e.1, e.2 + 1) else a) (x, 0)

/-- The maximum reading and its sensor (R452). -/
def Thm.maxReading (t : Thm) (crit : Nat) : Int × Nat := maxOf (t.sensors.map (·.reading crit))

/-- A boost may apply (R454). -/
def State.boostOn (s : State) : Bool :=
  [DevState.ready, .readonly, .locked, .braced].contains s.sys.state && s.thm.failed == 0

/-- The applied level (R455). -/
def State.appliedNow (s : State) : Nat :=
  if s.sys.state == .diag && s.bit Reg.THM_CTL 1 then min 7 (s.regField Reg.THM_CTL 8 4)
  else min 7 (s.thm.level + if s.boostOn then s.thm.boost else 0)

/-- A number of 64 bits from a signed one. -/
def int64 (n : Int) : Nat := (n % 2 ^ 64).toNat

/-- A thermal trip raises a strobe while THERM_EN is 1 (R459, R202). -/
def State.thermalTrip (s : State) : State := if s.bit Reg.DTM_SVY_CTL 5 then s.strobe 16 else s

/-- The applied level follows its causes: a change sets the flags of THM_INT_STAT and logs TEMPER_CHANGE, and reaching 7 is
a thermal trip (R454, R455, R459). -/
def State.settleTemper (s : State) : State :=
  let s := if s.boostOn then s else s.modThm fun t => { t with boost := 0 }
  let new := s.appliedNow
  let old := s.thm.applied
  if new = old then s
  else
    let now := s.nowNs
    let s := s.modThm fun t =>
      { t with applied := new, temperAt := now, temperNs := if old = 0 then t.temperNs else t.temperNs + (now - t.temperAt) }
    let s := s.setBits Reg.THM_INT_STAT ((if old < new then 1 else 2) + if new = 7 then 4 else 0)
    let s := s.raise 0xE101 (int64 (s.thm.maxReading s.conf.crit).1) new
    if new = 7 then s.thermalTrip else s

/-! Condition events and the passing of time (R473, Table SVY-2). -/

/-- The fabric clock is held: powered-down QUENCH and reset (R192). -/
def State.clockHeld (s : State) : Bool := s.sys.poweredDown || s.sys.inReset || !s.sys.supplies

/-- Cycles of an event's own clock that end in the units from a to b: fabric, engine (1.2 GHz) or Traverse CK (2.4 GHz). -/
def clockCycles (event a b : Nat) : Nat :=
  match event / 0x1000 with
  | 0xB => b * 3 / 20000000 - a * 3 / 20000000
  | 0x5 => b * 3 / 10000000 - a * 3 / 10000000
  | _ => b / cycleUnits - a / cycleUnits

/-- The units from a to b within which a condition holds, given as the end of its holding; a where it does not hold. -/
def State.condEnd (s : State) (event src a b : Nat) : Nat :=
  let all (c : Bool) : Nat := if c then b else a
  match event with
  | 0x0001 => b
  | 0x2004 => all (decide (256 ≤ (s.port src).pwb.length))
  | 0x2005 => match (s.port src).admitAt with
    | some t => max a (min b ((t + 64 * s.appliedNow) * nsUnits))
    | none => a
  | 0x3005 => all s.stg.budgetStall
  | 0x3007 => all (decide (2048 ≤ s.stg.fills.length))
  | 0xE001 => all (decide (1 ≤ s.thm.applied))
  | _ => a

/-- The conditions whose truth is in the state, with their filter indexes. -/
def condKeys : List (Nat × Nat) :=
  [(0x0001, 0), (0x2004, 0), (0x2004, 1), (0x2005, 0), (0x2005, 1), (0x3005, 0), (0x3007, 0), (0xE001, 0)]

/-- Conditions and pulses that depend on what the model leaves out (cache contents, instructions, packet timing): how many of an
event's cycles count is open (log entry 3). TEMPER_IDLE never holds at applied level 0 nor for E[22] and E[23] (R455). -/
def State.openCount (s : State) (event src cycles : Nat) : Nat :=
  if event = 0xB004 && (s.thm.applied == 0 || src == 22 || src == 23) then 0
  else if [0x3006, 0x4003, 0x5006, 0x9003, 0xB001, 0xB002, 0xB004].contains event then
    (Config.openView (event * 256 + src) s.dtm.mono).toNat % (cycles + 1)
  else 0

/-- What counter n adds for the time from a to b, as the state stood at a. -/
def State.condCount (s : State) (cfg a b : Nat) : Nat :=
  let event := bitsAt cfg 0 16
  let filter := bitsAt cfg 16 8
  let keys := condKeys.filter fun e => e.1 == event && (filter == 0xFF || filter == e.2)
  let level := cfg.testBit 28
  let held := (keys.map fun e => clockCycles event a (s.condEnd event e.2 a b)).foldl max 0
  let rises := (keys.filter fun e => decide (a < s.condEnd event e.2 a b) && !s.svy.conds.contains (e.1 * 256 + e.2)).length
  (if level then held else rises) + s.openCount event filter (clockCycles event a b)

/-- The conditions true at the end of the time from a to b. -/
def State.condsAt (s : State) (a b : Nat) : List Nat :=
  (condKeys.filter fun e => decide (a < b) && s.condEnd e.1 e.2 a b == b).map fun e => e.1 * 256 + e.2

/-- The counters set to a condition event count it over the time from a to b. -/
def State.countConds (s : State) (a b : Nat) : State :=
  let t := s.modSvy fun v => { v with conds := s.condsAt a b }
  if !s.bit Reg.PMC_CTL 31 || s.bit Reg.PMC_CTL 0 then t
  else s.pmcListed.foldl (fun t n =>
    let cfg := s.regNat (Reg.PMC_CFG n)
    let k := s.condCount cfg a b
    if t.bit Reg.PMC_CTL 0 || k = 0 || (decide (1 ≤ n) && cfg.testBit 29) then t
    else t.pmcAdd 48 n k (bitsAt cfg 12 4 == 0xB) (bitsAt cfg 16 8) pmcNone) t

/-- Time passes by `d` units, and the condition events are counted over it. -/
def State.elapse (s : State) (d : Nat) : State :=
  let t := if s.clockHeld then s else s.countConds s.dtm.mono (s.dtm.mono + d)
  t.pass d

/-- Time passes until DTM_MONO reads `ns`; a stamp in the past, or without supplies, moves nothing
(log entry 13). -/
def State.clockTo (s : State) (ns : Nat) : State :=
  if s.sys.supplies && decide (s.dtm.mono < ns * nsUnits) then s.elapse (ns * nsUnits - s.dtm.mono) else s

/-! Top-level states (R10, R26). -/

/-- Enter a top-level state: PREV, SYS_LAST_TRANS, the transition count, the state-changed flag and the record (R26,
R436, R506). -/
def State.goState (s : State) (t : DevState) : State :=
  let old := s.sys.state
  let now := s.nowNs
  let s := s.modSys fun x => { x with state := t, prev := old.code, since := now,
                                      readySeen := x.readySeen || t == .ready }
  let s := (s.setNat Reg.SYS_LAST_TRANS (old.code * 16 + t.code)).incReg Reg.SYS_TRANS_CNT
  let s := (s.setBits Reg.SYS_INT_STAT 1).raise 0x0101 t.code old.code
  (if t == .ready then s.modThm fun x => { x with sensorQuenches := 0 } else s).settleTemper

/-- The device is in one of the states. -/
def State.inState (s : State) (l : List DevState) : Bool := l.contains s.sys.state

/-- Host requests may be admitted and host memory served in these states (Table SCP-6). -/
def State.serving (s : State) : Bool := s.inState [.ready, .braced, .readonly]

end Sys2Proof.Machine
end

