-- ==== Sys2Proof/Machine/Evr.lean ====
section
/-! DEFINITION. The event recorder's commands: token buckets, summaries and the cursors, and how records are read back
(R433, R438 to R440, R446, R447). -/

namespace Sys2Proof.Machine

/-! The record as bytes (Table EVR-1). -/

/-- One bit step of CRC-16, polynomial 0x1021 (R433). -/
def crcStep (c : Nat) : Nat := if c.testBit 15 then (c * 2 % 65536) ^^^ 0x1021 else c * 2 % 65536

/-- One byte of CRC-16. -/
def crcByte (c b : Nat) : Nat :=
  let c := c ^^^ (b * 256)
  crcStep (crcStep (crcStep (crcStep (crcStep (crcStep (crcStep (crcStep c)))))))

def crc16 (bytes : List Nat) : Nat := bytes.foldl crcByte 0xFFFF

/-- n bytes of a number, little-endian. -/
def leBytes (n : Nat) : Nat → List Nat
  | 0 => []
  | k + 1 => n % 256 :: leBytes (n / 256) k

/-- Bytes 0x00 to 0x1B of a record. -/
def recBody (r : EvrRec) : List Nat :=
  let sev := r.sev % 4 + (if r.lg then 4 else 0) + (if r.alt then 8 else 0) + (if r.host then 16 else 0)
  leBytes r.code 2 ++ [sev, r.state % 16 + r.bank % 8 * 16] ++ leBytes r.seq 4 ++ leBytes r.datum 8 ++ leBytes r.arg0 8 ++
    leBytes r.arg1 2 ++ leBytes r.supp 2

/-- The 32 bytes of a record; `valid` is its VALID field. -/
def recBytes (r : EvrRec) (valid : Nat) : List Nat := recBody r ++ leBytes (crc16 (recBody r)) 2 ++ leBytes valid 2

/-- Four bytes as a word, little-endian. -/
def wordOf (b : List Nat) (i : Nat) : Word := BitVec.ofNat 32 (le32 b (4 * i))

/-- The eight window words of a record (R446). -/
def recWords (r : EvrRec) (valid : Nat) : List Word := (List.range 8).map (wordOf (recBytes r valid))

/-! What a cursor can read (R446, R448). -/

/-- Record a is older than record b (R434). -/
def seqOlder (a b : Nat) : Bool := a != b && decide ((b + 2 ^ 32 - a) % 2 ^ 32 < 2 ^ 31)

/-- Insert a record in SEQ order. -/
def seqInsert (r : EvrRec × Bool) : List (EvrRec × Bool) → List (EvrRec × Bool)
  | [] => [r]
  | x :: xs => if seqOlder r.1.seq x.1.seq then r :: x :: xs else x :: seqInsert r xs

/-- The valid records of a ring's slots (R414, R435). -/
def slotRecs (m : SMap EvrSlot) : List EvrRec :=
  (m.filter fun e => e.2.crcOk && e.2.valid != .blank).map (·.2.record)

/-- The readable records, oldest first, each with whether it is still queued (R446, R448). -/
def Evr.readable (e : Evr) : List (EvrRec × Bool) :=
  let flash := (slotRecs e.ring ++ slotRecs e.alt).map fun r => (r, false)
  let queued := (e.queue.filter fun r => !flash.any fun f => f.1.seq == r.seq).map fun r => (r, true)
  let kept := (flash ++ queued).filter fun r => match e.hideBelow with
    | some h => !seqOlder r.1.seq h
    | none => true
  kept.foldl (fun l r => seqInsert r l) []

/-! Cursors (R446, R447). -/

def Evr.cursor (e : Evr) : Requester → Cursor
  | .bar2 => e.curBar2
  | .mctp => e.curMctp

def Evr.setCursor (e : Evr) (r : Requester) (c : Cursor) : Evr :=
  match r with
  | .bar2 => { e with curBar2 := c }
  | .mctp => { e with curMctp := c }

/-- EVR_WIN_STAT for a loaded record: WIN_VALID, WIN_PENDING, WIN_ALT and the flags given. -/
def winStat (r : EvrRec) (pending : Bool) (flags : Nat) : Word :=
  BitVec.ofNat 32 (2 ^ 31 + (if pending then 2 ^ 30 else 0) + (if r.alt then 2 ^ 27 else 0) + flags)

def winGone : Nat := 2 ^ 29
def winEnd : Nat := 2 ^ 28

/-- Move the cursor to a record and load the window; with no record the window is empty. -/
def State.cursorTo (s : State) (q : Requester) (r : Option (EvrRec × Bool)) (flags : Nat) : State :=
  s.modEvr fun e => e.setCursor q <| match r with
    | none => { (e.cursor q) with win := List.replicate 8 0, stat := BitVec.ofNat 32 flags }
    | some (r, pend) => { seq := r.seq, win := recWords r (if pend then 0xFFFF else 0), stat := winStat r pend flags }

/-- The readable records older than the cursor's SEQ are gone: the cursor names a record older than the oldest. -/
def Evr.cursorGone (e : Evr) (q : Requester) : Bool :=
  match e.readable.head? with
  | some (r, _) => seqOlder (e.cursor q).seq r.seq
  | none => false

/-- EVR_CURSOR_OLDEST (R446). -/
def execEvrCursorOldest (via : Via) (s : State) : Res :=
  if !s.reaches via then .next s else
  let s := s.emit (.regWriteDone via Reg.EVR_CUR_CMD)
  .next (s.cursorTo via.requester s.evr.readable.head? 0)

/-- EVR_CURSOR_NEWEST (R446). -/
def execEvrCursorNewest (via : Via) (s : State) : Res :=
  if !s.reaches via then .next s else
  let s := s.emit (.regWriteDone via Reg.EVR_CUR_CMD)
  .next (s.cursorTo via.requester s.evr.readable.getLast? 0)

/-- The cursor stays where it is and its status takes a flag. -/
def State.cursorStay (s : State) (q : Requester) (flags : Nat) : State :=
  s.modEvr fun e => e.setCursor q
    { (e.cursor q) with stat := ((e.cursor q).stat &&& ~~~ BitVec.ofNat 32 (winGone + winEnd)) ||| BitVec.ofNat 32 flags }

/-- EVR_CURSOR_NEXT (R447): at the newest record the cursor stays and WIN_END sets. -/
def execEvrCursorNext (via : Via) (s : State) : Res :=
  if !s.reaches via then .next s else
  let s := s.emit (.regWriteDone via Reg.EVR_CUR_CMD)
  let q := via.requester
  let l := s.evr.readable
  let cur := (s.evr.cursor q).seq
  if s.evr.cursorGone q then .next (s.cursorTo q l.head? winGone)
  else match l.find? fun r => seqOlder cur r.1.seq with
    | some r => .next (s.cursorTo q (some r) 0)
    | none => .next (s.cursorStay q winEnd)

/-- EVR_CURSOR_PREV (R446, R447): with no older record the cursor goes to the oldest and WIN_GONE sets. -/
def execEvrCursorPrev (via : Via) (s : State) : Res :=
  if !s.reaches via then .next s else
  let s := s.emit (.regWriteDone via Reg.EVR_CUR_CMD)
  let q := via.requester
  let l := s.evr.readable
  let cur := (s.evr.cursor q).seq
  match (l.filter fun r => seqOlder r.1.seq cur).getLast? with
  | some r => .next (s.cursorTo q (some r) 0)
  | none => .next (s.cursorTo q l.head? winGone)

/-- EVR_CURSOR_WRITE (R447): a seek, clamped to the readable range. A SEQ inside the range that has no record moves to
the next newer one with WIN_GONE (log entry 16). -/
def execEvrCursorWrite (via : Via) (seq : Word) (s : State) : Res :=
  if !s.reaches via then .next s else
  let s := s.emit (.regWriteDone via Reg.EVR_CURSOR)
  let q := via.requester
  let l := s.evr.readable
  let n := seq.toNat
  match l.find? (fun r => r.1.seq == n), l.find? (fun r => seqOlder n r.1.seq), l.getLast? with
  | some r, _, _ => .next (s.cursorTo q (some r) 0)
  | none, some r, _ => .next (s.cursorTo q (some r) winGone)
  | none, none, last => .next (s.cursorTo q last (if last.isSome then winEnd else 0))

/-! Flood control. -/

/-- TOKEN_REFILL (R438): the bucket of a tracked code gains a token, up to BURST. -/
def execTokenRefill (code : Nat) (atNs : Nat) (s : State) : Res :=
  let s := s.clockTo atNs
  let burst := (s.evLimits code).2
  .next (s.modEvr (·.onSupp code fun x => { x with tokens := min (x.tokens + 1) burst }))

/-- SUPPRESSED_SUMMARY (R439): a count nonzero for 10 s is carried by a SUPPRESSED record and returns to 0. -/
def execSuppressedSummary (code : Nat) (atNs : Nat) (s : State) : Res :=
  let s := s.clockTo atNs
  match s.evr.supp.find? fun x => x.code == code with
  | none => .next s
  | some x =>
    if s.bit Reg.EVR_CTL 1 && x.count != 0 && decide (x.countSince + 10000000000 ≤ s.nowNs) then
      let r := { s.mkRec 0xD201 x.lastDatum code with supp := x.count }
      let s := s.modEvr (·.onSupp code fun x => { x with count := 0 })
      if s.evr.queue.length < 64 || s.evr.memLost then .next (s.enqueueRec r)
      else .next (s.modEvr fun e => { e with waiting := e.waiting ++ [r] })
    else .next s

/-- SUPP_TABLE_FULL (R440): one record for the events dropped since the last one. -/
def execSuppTableFull (atNs : Nat) (s : State) : Res :=
  let s := s.clockTo atNs
  if s.evr.untracked = 0 then .next s
  else
    let n := s.evr.untracked
    .next ((s.modEvr fun e => { e with untracked := 0 }).raise 0xD202 n 0)

end Sys2Proof.Machine
end

