-- ==== Sys2Proof/Machine/Tick.lean ====
section
/-! DEFINITION. What a fabric cycle with no command does (log entry 2): time passes (R192), the completion collector takes
up to four entries (R235). While the fabric clock is held, an oscillator
cycle passes instead and nothing else happens. -/

namespace Sys2Proof.Machine

/-- The next source at or after the pointer whose outbound queue has an entry (R235). -/
def collNext (q : List (List Nat)) (ptr : Nat) : Option Nat :=
  ((List.range 40).map fun k => (ptr + k) % 40).find? fun i => !(q.getD i []).isEmpty

/-- The entry behind the head reaches the head now. -/
def headNow (now : Nat) : List Nat → List Nat
  | _ :: _ :: rest => now :: rest
  | _ => []

/-- Take up to `n` entries, at most one from each source a cycle, round robin (R235). -/
def Trv.take (t : Trv) (now : Nat) : Nat → List Nat → Trv
  | 0, _ => t
  | n + 1, done =>
    let masked := (List.range 40).map fun i => if done.contains i then [] else t.coll.getD i []
    match collNext masked t.collPtr with
    | none => t
    | some i =>
      let t' := { t with coll := listUpd t.coll i (headNow now), collPtr := (i + 1) % 40,
                         taken := t.taken ++ [(i, ((t.coll.getD i []).head?).getD now)] }
      t'.take now n (i :: done)

/-- A source hands over a completion. With 8 in its queue it stalls until the collector has taken one: the stalled cycle
counts and no completion is dropped (R234). -/
def State.collect (s : State) (src : Nat) : State :=
  let now := s.dtm.mono
  let s := if 8 ≤ (s.trv.coll.getD src []).length then
      (s.incReg Reg.TRV_COLL_FULL).modTrv fun t => { t with coll := listUpd t.coll src (headNow now) }
    else s
  s.modTrv fun v => { v with coll := listUpd v.coll src (· ++ [now]) }

/-- A fabric cycle. -/
def State.tick (s : State) : State :=
  if !s.sys.supplies then s
  else if s.clockHeld then s.elapse (40 * nsUnits)
  else
    let s := s.elapse cycleUnits
    let now := s.dtm.mono
    let s := s.modTrv fun t => ({ t with taken := [] } : Trv).take now 4 []
    let s := s.maxReg Reg.TRV_COLL_HWM ((s.trv.taken.map fun e => (now - e.2) / cycleUnits).foldl max 0)
    s.pmcMany 0x5007 (s.trv.taken.map (·.1)) pmcNone

end Sys2Proof.Machine
end

