-- ==== Sys2Proof/Machine/Operands.lean ====
section
/-! DEFINITION. Operand forms: lines, parcels and plots of a device DPA (Tables SCP-3, IME-4), port addresses and decoders
(R62 to R65), byte masks, the hash of a parcel (R160), and the place of a parcel in a band (R161). -/

namespace Sys2Proof.Machine

/-! Masks. -/

/-- Bit i of a mask. -/
def Quad.at (m : Quad) (i : Nat) : Bool := m.toNat.testBit i

/-- A mask with only bit i. -/
def oneBit (i : Nat) : Quad := BitVec.ofNat 64 (2 ^ i)

def allLines : Quad := BitVec.allOnes 64

/-- The bits set in a mask, ascending. -/
def Quad.bits (m : Quad) : List Nat := (List.range 64).filter fun i => Quad.at m i

def Quad.count (m : Quad) : Nat := (Quad.bits m).length

/-- The mask of a list of line indexes. -/
def maskOfList (l : List Nat) : Quad := l.foldl (fun m i => m ||| oneBit i) 0

/-- A byte mask widened to the bytes of a line. -/
def byteMask (m : Quad) : Line := (Quad.bits m).foldl (fun (a : Line) i => a ||| BitVec.ofNat 512 (255 * 2 ^ (8 * i))) 0

/-- The enabled bytes of `new` over `old`. -/
def mergeLine (old new : Line) (m : Quad) : Line := (old &&& ~~~ byteMask m) ||| (new &&& byteMask m)

/-! Addresses. -/

/-- Parcel of a device line; plot of a parcel. -/
def lineParcel (line : Nat) : Nat := line / 64
def parcelPlot (parcel : Nat) : Nat := parcel / 8192

/-- The first plot-map entry of the metadata regions (Table IME-4). -/
def metaPlot : Nat := 98304

/-- A parcel of the host address space, not of the metadata regions. -/
def isHostParcel (parcel : Nat) : Bool := decide (parcelPlot parcel < metaPlot)

/-- The holding of a device line. -/
def Plat.holdingOfLine (p : Plat) (line : Nat) : Option Holding := (holdingOfParcel p (lineParcel line)).map (·.1)

/-- Parcels that the holdings with INTEGRITY set before a parcel take: the integrity index divided by 64 (R334). -/
def Plat.integrityIndex (p : Plat) (parcel : Nat) : Option Nat :=
  match holdingOfParcel p parcel with
  | some (h, base, _) =>
    if h.integrity then
      some ((((holdingBases 0 p.holdings).filter fun e => e.1.integrity && decide (e.2.1 < base)).map (·.2.2)).sum +
        (parcel - base))
    else none
  | none => none

/-- The first plots of the counter, level-1 and level-2 regions (Table IME-4). -/
def Plat.tagPlot (_ : Plat) : Nat := metaPlot
def Plat.ctrPlot (p : Plat) : Nat := metaPlot + (layoutOf p).tag
def Plat.tree1Plot (p : Plat) : Nat := p.ctrPlot + (layoutOf p).ctr
def Plat.tree2Plot (p : Plat) : Nat := p.tree1Plot + ceilDiv (layoutOf p).ctr 8

/-- The metadata parcels of integrity group g: its tag lines, its counter block, its level-1 and level-2 nodes
(Table IME-4). -/
def Plat.metaParcels (p : Plat) (g : Nat) : List Nat :=
  [p.tagPlot * 8192 + g * 512 / 4096, p.ctrPlot * 8192 + g / 64, p.tree1Plot * 8192 + g / 8 / 64,
   p.tree2Plot * 8192 + g / 64 / 64]

/-- The parcels a port reaches, in port DPA order: first device parcel and length (R63). -/
def Plat.portRanges (p : Plat) (port : Nat) : List (Nat × Nat) :=
  ((holdingBases 0 p.holdings).filter fun e => (p.portMask port).testBit e.1.id).map fun e => (e.2.1, e.2.2)

/-- Device parcel of a port parcel (R63). -/
def fromRanges : List (Nat × Nat) → Nat → Option Nat
  | [], _ => none
  | (b, n) :: rest, q => if q < n then some (b + q) else fromRanges rest (q - n)

/-- Device line of a port line; none past the port's capacity. -/
def Plat.fromPort (p : Plat) (port line : Nat) : Option Nat :=
  (fromRanges (p.portRanges port) (line / 64)).map fun q => q * 64 + line % 64

/-- Bytes a port reaches. -/
def Plat.portBytes (p : Plat) (port : Nat) : Nat := ((p.portRanges port).map (·.2)).sum * 4096

/-- A committed decoder of the port covers a port DPA in bytes (R65). -/
def Port.decodes (x : Port) (dpa : Nat) : Bool :=
  x.decoders.any fun d => d.committed && decide (d.dpaBase ≤ dpa) && decide (dpa < d.dpaBase + d.dpaSize)

/-- Ports that exist: both with BIFURC 1 (R57). -/
def State.portPresent (s : State) (p : Nat) : Bool := p == 0 || s.conf.bifurc == 1

/-- The port of a BAR2 access; MCTP acts as port 0's management twin. -/
def Via.port : Via → Nat
  | .bar2 p => p.val
  | .mctp => 0

/-! CRC-32C, for the bucket hash (R160). -/

/-- One bit of CRC-32C, reflected. -/
def crc32cBit (c : Nat) : Nat := if c % 2 = 1 then (c / 2) ^^^ 0x82F63B78 else c / 2

def crc32cByte (c b : Nat) : Nat :=
  (List.range 8).foldl (fun c _ => crc32cBit c) (c ^^^ b)

/-- CRC-32C over bytes, initial value and final inversion all ones. -/
def crc32c (bytes : List Nat) : Nat := (bytes.foldl crc32cByte 0xFFFFFFFF) ^^^ 0xFFFFFFFF

/-- Ordinals of the log space: log bands and twice the dump bands (R158). -/
def Plat.ordinals (p : Plat) : Nat := (layoutOf p).log + 2 * p.dumpBands

/-- Buckets: the largest power of two not above 2,048 to an ordinal (R158). -/
def Plat.buckets (p : Plat) : Nat := 2 ^ Nat.log2 (p.ordinals * 2048)

/-- The bucket of a parcel: the low bits of the CRC-32C of its number, low byte first (R160; log entry 17). -/
def Plat.bucket (p : Plat) (parcel : Nat) : Nat := crc32c (bytes32 parcel) % p.buckets

/-! Places on the medium. A die is named by channel × 4 + die. -/

/-- The key of a band's line: parcel q lies on data tract q mod 16, at offset q div 16 (R161). -/
def Band.place (b : Band) (q line : Nat) : Option Nat :=
  (b.members[q % 16]?).map fun m => medKey (m.1 * 4 + m.2.1) m.2.2 (q / 16) line

/-- The die of a place key. -/
def keyDie (key : Nat) : Nat := key / (16384 * 512 * 64)

/-- The tract key of a place key. -/
def keyTract (key : Nat) : Nat := key / (512 * 64)

/-- The physical logical-channel list: a locked pair counts once, under its lower channel (R35, R36). -/
def Plat.logical (p : Plat) : List Nat :=
  (List.range 32).filter fun n => byteOf p.channel n != 2 && !(byteOf p.channel n == 1 && n % 2 == 1)

/-- A channel belongs to a mirror-locked pair. -/
def Plat.isLocked (p : Plat) (ch : Nat) : Bool := byteOf p.channel ch == 1

end Sys2Proof.Machine
end

