-- ==== Sys2Proof/Machine/Meter.lean ====
section
/-! DEFINITION. The energy meter, the dirty budget, the write mode and the energy gates (R19, R135, R138, R284 to R286,
R288), and which monument is the newest (R309, R314, R315). -/

namespace Sys2Proof.Machine

/-! Dirty counts (R135, R166, R246, R342). -/

/-- A frame holds a dirty line. -/
def Frame.isDirty (f : Frame) : Bool := f.dirty != 0

def Stg.dirty (g : Stg) : Nat := (g.frames.filter fun e => e.2.isDirty).length

/-- STG_META_DIRTY: cadastre pages, metadata parcels and open stripes. -/
def State.metaDirty (s : State) : Nat := s.cds.dirtyPages.length + s.ime.metaDirty.length + s.mdc.stripes.length

/-! Monuments (R307 to R309, R314, R315). -/

/-- The copies of a monument: header, index, delta, list, bitmap, trailer (Table PFL-3). -/
def Monument.parcels (m : Monument) : Nat :=
  2 + ceilDiv ((m.dump.map fun d => if d.mask == allLines then 8 else 16).sum) 4096 + ceilDiv (8 * m.deltaPages.length) 4096 +
    ceilDiv (16 * m.unflushed.length) 4096 + (if m.unflOvf then 4 else 0)

/-- Mark lines left in a copy of two bands (R314). -/
def Monument.markRoom (m : Monument) : Nat := (16384 - m.parcels) * 64 - m.marks - (if m.rest.isSome then 1 else 0)

/-- The valid copy of a set that counts: A wins (R309). -/
def MonSet.valid (m : MonSet) : Option Monument :=
  match m.a.filter (fun x => !x.bad), m.b.filter (fun x => !x.bad) with
  | some x, _ => some x
  | none, y => y

def MonSet.isReset (m : MonSet) : Bool := m.a.isNone && m.b.isNone

def MonSet.gen (m : MonSet) : Nat := (m.valid.map (·.gen)).getD 0

/-- The newest valid monument and its set: false 0, true 1 (R309). -/
def Pfl.newestMon (p : Pfl) : Option (Bool × Monument) :=
  match p.set0.valid, p.set1.valid with
  | some x, some y => if x.gen < y.gen then some (true, y) else some (false, x)
  | some x, none => some (false, x)
  | none, some y => some (true, y)
  | none, none => none

def Pfl.monSet (p : Pfl) (one : Bool) : MonSet := if one then p.set1 else p.set0

/-- The set that does not hold the newest monument. -/
def Pfl.spareSet (p : Pfl) : Bool := match p.newestMon with | some (one, _) => !one | none => false

/-- Write-back is open: an odd number of marks on a RUN monument (R314). -/
def Pfl.wbOpen (p : Pfl) : Bool := match p.newestMon with | some (_, m) => m.kind == .run && m.marks % 2 == 1 | none => false

/-- The conditions of R315 for write-back hold. -/
def Pfl.wbAllowed (p : Pfl) : Bool :=
  match p.newestMon with
  | some (one, m) => m.kind == .run && (p.monSet (!one)).isReset && (p.wbOpen || decide (2 ≤ m.markRoom))
  | none => false

/-! The energy meter (R284). -/

/-- e_parcel in units of 10^-16 J: 1/1,638,400 J and 29.56 ns of the declared load. -/
def ePar (extraMw : Nat) : Nat := 6103515625 + extraMw * 295600

/-- Usable energy as a fraction: numerator and denominator, mJ. -/
def usableFrac (capUf esrMohm margin factor extraMw bankMv : Nat) : Nat × Nat :=
  let d := 466560000
  let loss := (24000 + extraMw) * (esrMohm * factor)
  (45 * (capUf * (100 - margin)) * (bankMv * bankMv - 36000000) * (d - loss), 10000000000000 * d)

/-- The capacitance and ESR the meter uses: the assayed ones, or the worse of them and the live estimate (R297). -/
def Pwr.provable (p : Pwr) : Nat × Nat :=
  match p.live with
  | some (c, e) => (min c p.capUf, max e p.esrMohm)
  | none => (p.capUf, p.esrMohm)

/-- The results of an update: usable mJ, raw parcels, surplus mJ. -/
structure MeterOut where
  usable : Nat
  raw : Nat
  surplus : Int
  deriving DecidableEq, Repr

/-- The figures of R284. `dirty`: dirty data and metadata parcels. -/
def meterOf (frac : Nat × Nat) (reserve extraMw dirty : Nat) : MeterOut :=
  let fixed := reserve + 20
  let e := ePar extraMw
  let d := frac.2 / 10000000000000
  { usable := frac.1 / frac.2, raw := (frac.1 - fixed * frac.2) / (d * e),
    surplus := ((frac.1 : Int) - (fixed * frac.2 : Nat) - (dirty * e * d : Nat)) / (frac.2 : Int) }

/-- PWR_HB_EXTRA_MW, PWR_C_MARGIN and PWR_ESR_FACTOR in force. -/
def State.extraMw (s : State) : Nat := s.regNat Reg.PWR_HB_EXTRA_MW

def State.usableFrac (s : State) : Nat × Nat :=
  let (c, e) := s.pwr.provable
  Machine.usableFrac c e (s.regNat Reg.PWR_C_MARGIN) (s.regNat Reg.PWR_ESR_FACTOR) s.extraMw s.pwr.bankV

def State.meterNow (s : State) : MeterOut :=
  meterOf s.usableFrac s.conf.monReserve s.extraMw (s.stg.dirty + s.metaDirty)

/-- Parcels that an energy covers. -/
def State.mjParcels (s : State) (mj : Nat) : Nat := mj * 10000000000000 / ePar s.extraMw

/-- Data parcels of the dump reservation: PWR_BUDGET_CAP (R184, R285). -/
def State.budgetCap (s : State) : Nat := s.cds.dumpBands.length * 8192

/-- STG_BUDGET (R20, R285, R315, R404, R509); a forced assay lowers it (R282). -/
def State.budgetNow (s : State) : Nat :=
  if s.pwr.bank != .armed || s.bit Reg.PWR_CTL 2 || s.eng.pairRetired || !s.pfl.wbAllowed then 0
  else
    let b := min (s.pwr.raw - s.mjParcels s.pwr.hold) s.pwr.cap
    let b := if s.sys.state == .braced then b / 2 else b
    match s.pwr.forcedCap with
    | some c => min b c
    | none => b

/-- STG_DATA_LIMIT (R135). -/
def State.dataLimit (s : State) : Nat := s.stg.budget - s.metaDirty

/-- The mode of a write accepted now: true write-back, false write-through (R19, R112, R138, R145, R146). -/
def State.writeBack (s : State) : Bool :=
  s.pwr.bank == .armed && decide (0 < s.dataLimit) && s.stg.enabled && !s.stg.draining

/-- STG_BUDGET takes its value, and does not rise while the energy pair is down (R403); a fall below the dirty counts is flagged (PWR_INT_STAT.BUDGET_FALL). -/
def State.setBudget (s : State) : State :=
  let b := if s.eng.pairDown then min s.stg.budget s.budgetNow else s.budgetNow
  let need := s.stg.dirty + s.metaDirty
  let fell := decide (b < need) && decide (need ≤ s.stg.budget)
  let s := s.modStg fun g => { g with budget := b }
  if fell then s.setBits Reg.PWR_INT_STAT 8 else s

/-- Every figure of the meter takes its value of now (R284, R285). -/
def State.meter (s : State) : State :=
  let m := s.meterNow
  let cap := s.budgetCap
  (s.modPwr fun p => { p with usable := m.usable, raw := m.raw, surplus := m.surplus, cap := cap }).setBudget

/-! Energy gates (R286). Energies in mJ. -/

/-- The gate of a step clears when the surplus is at or above its energy. -/
def State.gateOk (s : State) (mj : Nat) : Bool := decide ((mj : Int) ≤ s.pwr.surplus)

/-- A gated step starts: its energy is held and the budget falls by it at once (R286). -/
def State.gateTake (s : State) (mj : Nat) : State := (s.modPwr fun p => { p with hold := p.hold + mj }).setBudget

/-- A gated step ends; the next meter update raises the budget again. -/
def State.gateFree (s : State) (mj : Nat) : State := s.modPwr fun p => { p with hold := p.hold - mj }

/-! Bank states (R288). -/

/-- Enter a bank state, with the flags of PWR_INT_STAT. -/
def State.setBank (s : State) (b : BankState) : State :=
  let old := s.pwr.bank
  let s := s.modPwr fun p => { p with bank := b }
  let s := if old != .armed && b == .armed then s.setBits Reg.PWR_INT_STAT 1 else s
  let s := if old == .armed && b != .armed then s.setBits Reg.PWR_INT_STAT 2 else s
  if old != .degraded && b == .degraded then s.setBits Reg.PWR_INT_STAT 16 else s

/-- The bank is DEGRADED with a cause that keeps the converter OFF through a trip (R278). -/
def BankCause.isCell : BankCause → Bool
  | .noBank | .cellShort | .cellOpen | .cellOvervolt => true
  | _ => false

/-- CHARGING and ARMED follow the meter's figures (Table PWR-3). -/
def State.bankArm (s : State) : State :=
  let p := s.pwr
  match p.bank with
  | .charging =>
    if p.assayValid && !p.assayOverdue && decide (p.floatMv * 95 ≤ p.bankV * 100) && decide (16384 ≤ p.raw) &&
        p.cells.isSome then s.setBank .armed
    else s
  | .armed => if p.raw < 16384 || p.bankV * 100 < p.floatMv * 90 then s.setBank .charging else s
  | _ => s

/-- The bank becomes DEGRADED with a cause: the event, the latch (R288). `arg`: cell index of a cell cause. -/
def State.degrade (s : State) (c : BankCause) (latch : Bool) : State :=
  let s := s.modPwr fun p =>
    { p with cause := c, latched := if latch && !p.latched.contains c then p.latched ++ [c] else p.latched,
             bankBefore := if p.bank == .discharging then .degraded else p.bankBefore }
  let s := if s.pwr.bank == .charging || s.pwr.bank == .armed then s.setBank .degraded else s
  (s.raise 0x8301 0 c.code).setBudget

end Sys2Proof.Machine
end

