-- ==== Sys2Proof/Machine/Pst.lean ====
section
/-! DEFINITION. The parameter store: deeds and their twins, collection, lifetime counters, hints, the event-log ring and
the controller that runs one operation at a time (R410 to R432, R435, R441 to R444). -/

namespace Sys2Proof.Machine

/-! Deeds in force (R416, R417). -/

/-- CONFIG with no deed (R417). -/
def configInit : ConfigDeed :=
  { slotB := false, fp := none, pendReplat := none, migCursor := 0, migTotal := 0, pendFw := none, activeFw := false,
    owner := none, pendOwner := none }

def Pst.deed (p : Pst) (type index : Nat) : Option DeedVal :=
  (p.inForce.find? fun e => e.1 == type && e.2.1 == index).map (·.2.2)

/-- The configuration deed in force. -/
def State.config (s : State) : ConfigDeed :=
  match s.pst.deed 1 0 with
  | some (.config c) => c
  | _ => configInit

/-- The medium carries a layout (R47): a monument copy stands on it, or the configuration deed records a fingerprint. -/
def State.laidOut (s : State) : Bool := s.config.fp.isSome || !(s.pfl.set0.isReset && s.pfl.set1.isReset)

/-- The configuration that the newest queued deed will record: later writes build on it (R426). -/
def State.configNext (s : State) : ConfigDeed :=
  let ops := (match s.pst.run with | some r => [r.op] | none => []) ++ s.pst.queue
  ops.foldl (fun c op => match op with | .deed _ (.config d) => d | _ => c) s.config

/-- Queue an operation (R426). -/
def State.pstQueue (s : State) (op : PstOp) : State := s.modPst fun p => { p with queue := p.queue ++ [op] }

/-- Queue the deed of a value. -/
def State.queueDeed (s : State) (index : Nat) (v : DeedVal) : State := s.pstQueue (.deed index v)

/-- Queue a configuration deed built on the newest one. -/
def State.queueConfig (s : State) (f : ConfigDeed → ConfigDeed) : State :=
  s.queueDeed 0 (.config (f s.configNext))

/-- Key-wrap INDEX: KEY_REF and GEN mod 4 (Table PST-4). -/
def wrapIndex (w : WrapRec) : Nat := w.keyRef + w.gen % 4 * 256

/-- The two areas of a deed's twins: configuration, or key-wrap (R415). -/
def areasOf (v : DeedVal) : Nat × Nat := if v.type = 0x10 then (2, 3) else (0, 1)

/-! Lifetime counters (R421 to R423). -/

/-- VALUE and CONSUMED_GEN of a counter's base (R417). -/
def Pst.base (p : Pst) (i : Nat) : Nat × Nat :=
  match p.deed 6 i with
  | some (.tallyBase v c) => (v, c)
  | _ => (0, 0)

/-- The live row of a counter. -/
def Pst.row (p : Pst) (i : Nat) : Option TallyRow :=
  p.tallies.find? fun r => r.counter == i && r.hdrOk && r.gen == (p.base i).2 + 1

/-- The value of counter i (R421, R422): a torn bit counts as programmed. Indexes 5 to 15 read 0. -/
def Pst.counter (p : Pst) (i : Nat) : Nat :=
  if 5 ≤ i then 0
  else (p.base i).1 + match p.row i with
    | some r => (r.bits.filter (· != .blank)).length
    | none => 0

/-- The rows of a tally sector (148 to 151). -/
def Pst.rowsOf (p : Pst) (sector : Nat) : List TallyRow := p.tallies.filter fun r => r.page / 256 == sector - 148

/-- A row whose GEN its base has consumed, or whose header fails (R421, R423). -/
def Pst.consumed (p : Pst) (r : TallyRow) : Bool := !r.hdrOk || decide (r.gen ≤ (p.base r.counter).2)

/-- The bits of a row after the highest programmed or torn one take k programs (R422). -/
def raiseBits (bits : List TallyBit) (k : Nat) : List TallyBit :=
  let used := bits.length - (bits.reverse.takeWhile (· == .blank)).length
  bits.take used ++ List.replicate k .programmed

def usedBits (bits : List TallyBit) : Nat := bits.length - (bits.reverse.takeWhile (· == .blank)).length

/-! Sectors and areas. -/

/-- The sector number of an area's lower or higher sector (Table PST-2). -/
def areaSector (area : Nat) (high : Bool) : Nat :=
  (match area with | 0 => 144 | 1 => 146 | 2 => 152 | _ => 154) + if high then 1 else 0

def DeedArea.sector (a : DeedArea) (high : Bool) : DeedSector := if high then a.high else a.low

def DeedArea.setSector (a : DeedArea) (high : Bool) (x : DeedSector) : DeedArea :=
  if high then { a with high := x } else { a with low := x }

def DeedArea.live (a : DeedArea) : DeedSector := a.sector a.activeHigh

/-- Bytes of a deed, VALID included (Table PST-3). -/
def deedSize (v : DeedVal) : Nat := 16 + pad8 v.len + 8

/-- Where a deed of `size` bytes goes: never across a page (R413). -/
def DeedSector.place (x : DeedSector) (size : Nat) : Nat × Nat :=
  if x.byte + size ≤ 256 then (x.page, x.byte) else (x.page + 1, 0)

/-- Free pages behind an append point. -/
def freePages (page byte : Nat) : Nat := 256 - page - (if byte = 0 then 0 else 1)

/-- An append of this deed would leave fewer than 16 free pages (R418). -/
def DeedSector.crowded (x : DeedSector) (size : Nat) : Bool :=
  let (p, b) := x.place size
  decide (freePages p (b + size) < 16)

/-- Append a deed. -/
def DeedSector.append (x : DeedSector) (d : Deed) : DeedSector :=
  let (p, b) := x.place (deedSize d.val)
  { x with deeds := x.deeds ++ [{ d with page := p, byte := b }], page := p, byte := b + deedSize d.val }

/-- State of a sector (R419): 0 ERASED, 1 RECEIVING, 2 COPIED, 3 ACTIVE, 4 RETIRED, 5 DIRTY. A torn mark counts as set. -/
def DeedSector.st (x : DeedSector) : Nat :=
  if x.dirt then 5
  else match x.header with
    | none =>
      if x.deeds.isEmpty && x.copied == .blank && x.active == .blank && x.retired == .blank then 0 else 5
    | some _ =>
      if x.retired != .blank then 4 else if x.active != .blank then 3 else if x.copied != .blank then 2 else 1

def Pst.onArea (p : Pst) (area : Nat) (f : DeedArea → DeedArea) : Pst := { p with areas := listUpd p.areas area f }

def Pst.area (p : Pst) (area : Nat) : DeedArea := p.areas.getD area deedAreaInit

/-- The latest deed of every key in a sector, in ascending (TYPE, INDEX) order (R418). -/
def latestOf (l : List Deed) : List Deed :=
  let keys := l.map fun d => (d.val.type, d.index)
  let best (k : Nat × Nat) : Option Deed :=
    (l.filter fun d => d.crcOk && (d.val.type, d.index) == k).foldl (fun b d =>
      match b with
      | none => some d
      | some x => if x.seq ≤ d.seq then some d else b) none
  let ins (k : Nat × Nat) (ks : List (Nat × Nat)) : List (Nat × Nat) :=
    ks.takeWhile (fun x => x.1 < k.1 || (x.1 == k.1 && x.2 < k.2)) ++ [k] ++
      ks.dropWhile (fun x => x.1 < k.1 || (x.1 == k.1 && x.2 < k.2))
  (keys.eraseDups.foldl (fun ks k => ins k ks) []).filterMap best

/-- The sector after collection's copies: each keeps its SEQ and has CARRIED set (R418). -/
def DeedSector.receive (x : DeedSector) (l : List Deed) : DeedSector :=
  l.foldl (fun x d => x.append { d with carried := true, crcOk := true, valid := .set }) x

/-! Operations (R425, R426). -/

/-- An erase. -/
def PstOp.isErase : PstOp → Bool
  | .erase _ _ => true
  | .rawErase _ => true
  | _ => false

/-- Service order of R426; the mark program of a batch goes ahead of any other event-log page (R435). -/
def PstOp.prio : PstOp → Nat
  | .deed _ _ => 0 | .mark _ _ => 0 | .collect _ => 0
  | .tally _ _ => 1 | .hint _ => 2 | .evrMark _ => 3 | .evrBody _ => 4 | .imagePage _ _ => 5 | .rawProg _ _ => 5
  | .rawRead _ _ => 5 | .rawBlank _ => 5 | .erase _ _ => 6 | .rawErase _ => 6

/-- Step energy, mJ (Table PST-8). -/
def PstOp.energy : PstOp → Nat
  | .deed _ _ => 4
  | .erase _ _ => 151 | .rawErase _ => 151
  | .rawRead _ _ => 0 | .rawBlank _ => 0
  | _ => 1

/-- The first queued operation of the lowest service number, and the queue without it. -/
def pstPick : List PstOp → Option (PstOp × List PstOp)
  | [] => none
  | x :: xs => match pstPick xs with
    | none => some (x, [])
    | some (y, ys) => if x.prio ≤ y.prio then some (x, xs) else some (y, x :: ys)

/-- Steps of a collection by their mark code, code × 2 + 1 for the higher sector: 0 header, 1 copies, 2 COPIED,
3 ACTIVE, 4 RETIRED, 5 header with ACTIVE of an empty or lost area; plus 8 for a step deferred by recovery, whose erase
is 14 (R418, R420). -/
def markStep (kind : Nat) (high : Bool) : Nat := kind * 2 + if high then 1 else 0

/-- The steps that collect an area from its sector in force into the other one (R418). -/
def Pst.collectSteps (p : Pst) (area : Nat) : List PstOp :=
  let dest := !(p.area area).activeHigh
  [.mark area (markStep 0 dest), .mark area (markStep 1 dest), .mark area (markStep 2 dest), .mark area (markStep 3 dest),
   .mark area (markStep 4 (!dest)), .erase (areaSector area (!dest)) (.collection area)]

/-- The operation of a deferred step. -/
def deferredOp (area c : Nat) : PstOp :=
  if c / 2 = 14 then .erase (areaSector area (c % 2 == 1)) (.collection (area + 4)) else .mark area c

/-- The next deferred step of an area, in order (R420). -/
def Pst.areaNext (p : Pst) (area : Nat) : List PstOp := ((p.area area).deferred.take 1).map (deferredOp area)

/-- The step that a deed write to the area performs first, while marks are pending (R420). -/
def Pst.areaMarks (p : Pst) (area : Nat) : List PstOp :=
  if (p.area area).deferred.any fun c => c / 2 != 14 then p.areaNext area else []

/-- Program count of an operation: its page programs one after another. -/
def PstOp.programs (p : Pst) : PstOp → Nat
  | .deed _ _ => 4
  | .mark area c =>
    if c / 2 % 8 = 1 then
      let l := latestOf (p.area area).live.deeds
      let x := deedSectorErased.receive l
      max 1 (x.page - 1 + if x.byte = 0 then 0 else 1)
    else 1
  | _ => 1

/-- What must run before a deed of this value: deferred marks of either area, then collections (R418, R420). -/
def Pst.before (p : Pst) (v : DeedVal) : List PstOp :=
  let (a, b) := areasOf v
  let pre (x : Nat) : List PstOp :=
    if !(p.areaMarks x).isEmpty then p.areaMarks x
    else if (p.area x).live.st == 3 && (p.area x).live.crowded (deedSize v) then p.collectSteps x else []
  pre a ++ pre b

/-- A monument hint, which Rest waits for (R303, R304). -/
def PstOp.isHint : PstOp → Bool
  | .hint _ => true
  | _ => false

/-- States in which no operation of a kind starts (R425, R426, R441). -/
def State.pstHeld (s : State) (op : PstOp) : Bool :=
  !(op.isHint && s.pfl.phase == .rest) && (s.inState [.braced, .flush, .safe] || (s.sys.state == .quench && s.pfl.phase != .idle) || s.sys.poweredDown ||
    (op.isLog && s.inState [.braced, .flush]))

/-- The operation may start with its gate not cleared (R425). -/
def State.pstUngated (s : State) (mj : Nat) : Bool :=
  decide (s.conf.vinResume ≤ s.pwr.vin) &&
    (s.pwr.bank == .absent || !s.pwr.assayValid ||
      (s.pwr.bank == .degraded && decide (s.pwr.surplus < (mj : Int))))

/-! The event-log ring (R435, R442, R443). -/

def ringSector (pos : Nat) : Nat := 162 + pos % 131072 / 2048
def nextRingSector (sector : Nat) : Nat := if sector = 225 then 162 else sector + 1
def ringStart (sector : Nat) : Nat := (sector - 162) * 2048

/-- A batch can go to the ring now: the ring is not failed and the sector at the write position is erased. -/
def Evr.ringReady (e : Evr) : Bool := !e.ringFailed && !e.unerased.contains (ringSector e.ringPos)

def Evr.altReady (e : Evr) : Bool := e.altActive && !e.altFailed

/-- The records of a batch: what fits in the rest of the page, at most 8 (R435). -/
def Evr.batch (e : Evr) (pos : Nat) : List EvrRec := e.queue.take (8 - pos % 8)

/-- Body program of a batch done: its slots hold the records, VALID still blank (R435). -/
def Evr.writeBody (e : Evr) : Evr :=
  if e.ringReady then
    let b := e.batch e.ringPos
    { e with ring := (b.zipIdx).foldl (fun m x =>
        mapInsert m (e.ringPos + x.2) { record := x.1, crcOk := true, valid := .blank }) e.ring }
  else
    let b := e.batch e.altPos
    { e with alt := (b.zipIdx).foldl (fun m x =>
        mapInsert m (e.altPos + x.2) { record := { x.1 with alt := true }, crcOk := true, valid := .blank }) e.alt }

def blankSlots (m : SMap EvrSlot) : List EvrRec := (m.filter fun x => x.2.valid == .blank && x.2.crcOk).map (·.2.record)

def setSlots (m : SMap EvrSlot) : SMap EvrSlot :=
  m.map fun x => (x.1, if x.2.valid == .blank && x.2.crcOk then { x.2 with valid := .set } else x.2)

/-- Waiting EVR-block records take the free entries (R438). -/
def State.drainWaiting (s : State) : Nat → State
  | 0 => s
  | n + 1 => match s.evr.waiting with
    | [] => s
    | r :: rest =>
      if s.evr.queue.length < 64 then ((s.modEvr fun e => { e with waiting := rest }).enqueueRec r).drainWaiting n else s

/-- Slots of one sector leave the ring. -/
def eraseSlots (m : SMap EvrSlot) (lo hi : Nat) : SMap EvrSlot := m.filter fun x => x.1 < lo || hi ≤ x.1

/-- Writing enters a new sector: the erase of the next one is queued (R442). -/
def State.enterSector (s : State) : State :=
  if s.evr.ringPos % 2048 ≠ 0 then s
  else
    let nxt := nextRingSector (ringSector s.evr.ringPos)
    if s.evr.unerased.contains nxt then s
    else (s.modEvr fun e => { e with unerased := e.unerased ++ [nxt] }).pstQueue (.erase nxt .eventLog)

/-- LOG_CLEARED is persistent: older records are hidden and the last-gasp registers clear; sectors that hold only
covered records are erased (R448). -/
def State.clearPersistent (s : State) (seq : Nat) : State :=
  let only (m : SMap EvrSlot) (lo hi : Nat) : Bool :=
    let l := m.filter fun x => lo ≤ x.1 && x.1 < hi
    !l.isEmpty && l.all fun x => seqOlder x.2.record.seq seq
  let ring := (List.range 64).filter fun k => only s.evr.ring (k * 2048) ((k + 1) * 2048)
  let alt := (List.range 2).filter fun k => only s.evr.alt (k * 2048) ((k + 1) * 2048)
  let sectors := ring.map (162 + ·) ++ alt.map (226 + ·)
  let s := s.modEvr fun e =>
    { e with hideBelow := some seq, clearSeq := none, lg := List.replicate 8 0,
             lgStat := e.lgStat &&& ~~~ BitVec.ofNat 32 (2 ^ 31 + 0xFFFF), clearing := sectors }
  let s := s.setBits Reg.EVR_INT_STAT 2
  sectors.foldl (fun s k => s.pstQueue (.erase k .clear)) s

/-- Mark program of a batch done: its records are persistent and leave the queue (R435). -/
def State.logMarked (s : State) : State :=
  let e := s.evr
  let onRing := !(blankSlots e.ring).isEmpty
  let recs := if onRing then blankSlots e.ring else blankSlots e.alt
  let seqs := recs.map (·.seq)
  let s := s.modEvr fun e =>
    { e with ring := if onRing then setSlots e.ring else e.ring, alt := if onRing then e.alt else setSlots e.alt,
             ringPos := if onRing then (e.ringPos + recs.length) % 131072 else e.ringPos,
             altPos := if onRing then e.altPos else (e.altPos + recs.length) % 4096,
             skipRun := if onRing then 0 else e.skipRun,
             queue := e.queue.filter fun r => !seqs.contains r.seq }
  let s := if onRing && e.altActive then s.modEvr fun e => { e with altActive := false } else s
  let s := if recs.any fun r => decide (s.regField Reg.EVR_CTL 4 2 ≤ r.sev) then s.setBits Reg.EVR_INT_STAT 1 else s
  let s := match s.evr.clearSeq with
    | some q => if seqs.contains q then s.clearPersistent q else s
    | none => s
  let s := if onRing then s.enterSector else s
  let s := s.drainWaiting 64
  if s.evr.queue.isEmpty || s.pst.logQueued then s else s.pstQueue (.evrBody 0)

/-- A ring sector is skipped for this pass; four in a row fail the ring (R442, R443). -/
def State.skipSector (s : State) : State :=
  let sector := ringSector s.evr.ringPos
  let nxt := nextRingSector sector
  let s := (s.modEvr fun e => { e with ringPos := ringStart nxt, skipRun := e.skipRun + 1 }).evrFlag 1 false
  let s := if s.evr.unerased.contains nxt then s
    else (s.modEvr fun e => { e with unerased := e.unerased ++ [nxt] }).pstQueue (.erase nxt .eventLog)
  if s.evr.skipRun < 4 || s.evr.ringFailed then s
  else (s.modEvr fun e => { e with ringFailed := true, lgStat := e.lgStat ||| BitVec.ofNat 32 (2 ^ 30) }).raise
    0xD103 s.evr.skipRun (ringSector s.evr.ringPos)

/-- A record at the head of the queue, with the next SEQ (R443, R448). -/
def State.queueFront (s : State) (r : EvrRec) : State :=
  let s := s.modEvr fun e =>
    { e with queue := { r with seq := e.nextSeq } :: e.queue, nextSeq := (e.nextSeq + 1) % 2 ^ 32 }
  s.modPst fun p => if p.logQueued then p else { p with queue := p.queue ++ [.evrBody 0] }

/-- Latch a record into EVR_LG, unless one is held: then FAILS counts (R443). -/
def State.lastGasp (s : State) (r : EvrRec) : State :=
  if s.evr.lgStat.toNat.testBit 31 then
    s.modEvr fun e => { e with lgStat := if e.lgStat.toNat % 65536 = 65535 then e.lgStat else e.lgStat + 1 }
  else
    let r := { r with lg := true }
    (s.modEvr fun e => { e with lg := recWords r 0xFFFF, lgStat := e.lgStat ||| BitVec.ofNat 32 (2 ^ 31),
                                queue := e.queue.map fun x => if x.seq == r.seq then r else x }).setBits Reg.EVR_INT_STAT 4

/-- A batch has failed twice (R443, R444): in the ring, the sector is skipped and the alternate pair takes records; in
the alternate pair, that pair is failed. -/
def State.logFailed (s : State) : State :=
  let wasRing := s.evr.ringReady
  let pos := if wasRing then s.evr.ringPos else s.evr.altPos
  let sector := if wasRing then ringSector pos else 226 + pos % 4096 / 2048
  let addr := sector * 65536 + pos % 2048 / 8 * 256
  let s := s.modEvr fun e =>
    { e with ring := e.ring.filter fun x => x.2.valid != .blank, alt := e.alt.filter fun x => x.2.valid != .blank }
  if wasRing then
    let s := match s.evr.queue.head? with
      | some r => s.lastGasp r
      | none => s
    let s := (s.queueFront (s.mkRec 0xD102 addr sector)).evrFlag 0 true
    let s := s.modEvr fun e => { e with altActive := true, lgStat := e.lgStat ||| BitVec.ofNat 32 (2 ^ 29) }
    s.skipSector
  else
    let r := { s.mkRec 0xD104 addr sector with seq := s.evr.nextSeq }
    let s := s.modEvr fun e => { e with altFailed := true, lgStat := e.lgStat ||| BitVec.ofNat 32 (2 ^ 28),
                                        memLost := e.memLost || e.ringFailed }
    let s := (s.raise 0xD104 addr sector).evrFlag 2 true
    if s.evr.lgStat.toNat.testBit 31 then s else s.lastGasp r

/-! Deeds take effect (R415). -/

/-- A value becomes the deed in force of its key. -/
def Pst.take (p : Pst) (type index : Nat) (v : DeedVal) : Pst :=
  { p with inForce := (p.inForce.filter fun e => !(e.1 == type && e.2.1 == index)) ++ [(type, index, v)] }

/-- A fresh key of an erased holding is persistent (R79, R84): it is CUR, its old keys are gone and any re-key with them, its
counters and quarantine belong to keys that no longer exist; under crypto-erase the release of the holding's mappings
begins (log entry 37). -/
def State.keyErased (s : State) (h gen : Nat) : State :=
  match (holdingBases 0 s.conf.holdings).find? fun e => e.1.id == h with
  | none => s
  | some (_, base, n) =>
    let out (m : SMap CtrBlock) : SMap CtrBlock := m.filter fun e => decide (e.1 < base) || decide (base + n ≤ e.1)
    let keep (l : List QuarEnt) : List QuarEnt := l.filter fun e => e.holding != h
    let cur (m : SMap Rekey) : SMap Rekey :=
      let old := (mapFind m h).getD { cur := 1, active := false, deed := false, boundary := 0, queued := false, locked := false }
      mapInsert m h { old with cur := gen, active := false, deed := false, boundary := 0, queued := false, locked := false }
    let s := s.modIme fun m => { m with ctr := out m.ctr, quar := keep m.quar, rekeys := cur m.rekeys,
                                        loaded := m.loaded.filter (fun e => e.1 != h) ++ [(h, gen)],
                                        pct := m.pct.filter fun e => decide (e.1 / 64 < base) || decide (base + n ≤ e.1 / 64) }
    let s := s.modSaved fun v => { v with ctr := out v.ctr, quar := keep v.quar, rekeys := cur v.rekeys }
    if s.svc.erasing then s
    else
      let r : Release := { opcode := 0xC020, first := base, count := n, secure := false, left := n }
      let add (c : Cds) : Cds := if c.release.isSome then { c with releases := c.releases ++ [r] } else { c with release := some r }
      s.modBoth add

/-- A key-wrap deed is queued. -/
def Pst.wrapQueued (p : Pst) : Bool := p.queue.any fun o => match o with | .deed _ (.keyWrap _) => true | _ => false

/-- A passphrase takes effect once the last of its rewrapped keys is persistent (Table CKE-5). -/
def State.settlePass (s : State) : State :=
  match s.svc.security.next with
  | some x => if s.pst.wrapQueued then s else s.modSvc fun v => { v with security := { v.security with passphrase := x, next := none } }
  | none => s

/-- The minimum security version rises to a value (R54). -/
def State.raiseMinimum (s : State) (svn : Option Nat) : State :=
  match svn with
  | some n => if s.pst.counter 1 < n then s.pstQueue (.tally 1 (n - s.pst.counter 1)) else s
  | none => s

/-- What a persistent deed brings into effect in the other blocks: the active slot and a completed migration (R49, R50,
R53, R54), the owner key (R387), power parameters (R287), a re-key's generation (R355), a shutdown record (R80). -/
def State.deedEffect (s : State) (v : DeedVal) : State :=
  match v with
  | .config c =>
    let s := s.modCke fun k => { k with owner := c.owner, pendOwner := c.pendOwner }
    let s := s.modSvc fun x => { x with fwPending := c.pendFw }
    let s : State := if s.plat.lightDeed && (s.plat.slot != c.slotB) then
        let svn := s.plat.raiseSvn
        let s := s.modPlat fun p => { p with lightDeed := false, slot := c.slotB, raiseSvn := none }
        ((s.setBits Reg.PLT_INT_STAT 4).raise 0x1201 1 0).raiseMinimum svn
      else s
    match s.cds.mig with
    | some m =>
      if c.pendReplat.isNone && s.regField Reg.PLT_STAT 16 4 == 0xE then
        let s := (s.setBits Reg.PLT_INT_STAT 0x14).setNat Reg.PLT_MIG_STAT (2 ^ 30 + m.cls)
        ((s.raise 0x1203 0 0).raise 0x1201 m.cls 0).raiseMinimum m.raiseSvn
      else s
    | none => s
  | .shutdown d => s.modSvc fun x => { x with shutdownDirty := d }
  | .power m f x => ((s.setNat Reg.PWR_C_MARGIN m).setNat Reg.PWR_ESR_FACTOR f).setNat Reg.PWR_HB_EXTRA_MW x
  | .base c e => s.modPwr fun p => { p with capBase := c, esrBase := e }
  | .keyWrap w =>
    if w.present && decide (w.keyRef < 16) then
      let h := ((s.conf.holdings.find? fun h => h.keyRef == w.keyRef).map (·.id)).getD w.keyRef
      if s.svc.erasing || s.svc.erasingHoldings.contains h then s.keyErased h w.gen
      else s.modIme fun i => match mapFind i.rekeys h with
        | some r => if w.gen = r.cur + 1 && r.active then { i with rekeys := mapInsert i.rekeys h { r with deed := true } }
                    else i
        | none => i
    else s
  | _ => s

/-- Copy A's VALID has read back: the deed is persistent (R415). -/
def State.deedPersistent (s : State) (index : Nat) (v : DeedVal) : State :=
  let s := (s.modPst fun p => p.take v.type index v).deedEffect v
  match v with
  | .keyWrap _ => s.settlePass
  | _ => s

/-- Program one copy's body at its append point, VALID blank. -/
def Pst.deedBody (p : Pst) (index : Nat) (v : DeedVal) (copyB : Bool) : Pst :=
  let (a, b) := areasOf v
  let area := if copyB then b else a
  let d : Deed := { index := index, copyB := copyB, carried := false, seq := 2 * p.gen + (if copyB then 1 else 0), val := v,
                    crcOk := true, valid := .blank, page := 0, byte := 0 }
  p.onArea area fun x => x.setSector x.activeHigh ((x.live).append d)

/-- Program the VALID of the copy whose body was last programmed. -/
def Pst.deedMark (p : Pst) (v : DeedVal) (copyB : Bool) (m : Mark) : Pst :=
  let (a, b) := areasOf v
  p.onArea (if copyB then b else a) fun x =>
    x.setSector x.activeHigh { x.live with deeds := x.live.deeds.map fun d =>
      if d.seq == 2 * p.gen + (if copyB then 1 else 0) && d.valid == .blank then { d with valid := m } else d }

/-- One mark or copy step of a collection or of deferred recovery (R418, R420). -/
def Pst.markDone (p : Pst) (area c : Nat) : Pst :=
  let high := c % 2 == 1
  p.onArea area fun x =>
    let sec := x.sector high
    let other := x.sector (!high)
    match c / 2 % 8 with
    | 0 => x.setSector high { deedSectorErased with header := some ((other.header.getD 0) + 1) }
    | 1 => x.setSector high (sec.receive (latestOf other.deeds))
    | 2 => x.setSector high { sec with copied := .set }
    | 3 => { x.setSector high { sec with active := .set } with activeHigh := high }
    | 4 => x.setSector high { sec with retired := .set }
    | _ => { x.setSector high { deedSectorErased with header := some 1, copied := .set, active := .set } with activeHigh := high }

/-- A deferred step of an area has run. -/
def Pst.dropDeferred (p : Pst) (area c : Nat) : Pst :=
  p.onArea area fun x => { x with deferred := x.deferred.erase c }

/-- All deferred recovery work is done (R420). -/
def Pst.noDeferred (p : Pst) : Bool := p.areas.all fun a => a.deferred.isEmpty

/-! Sectors erased and retired (R412, R428). -/

/-- Free replacement sectors (228 to 255) that hold no replacement. -/
def Pst.freeSpares (p : Pst) : List Nat :=
  ((List.range 28).map (228 + ·)).filter fun k => !p.replaced.any fun e => e.2 == k

/-- A sector's contents after an erase. -/
def Pst.erased (p : Pst) (sector : Nat) : Pst :=
  let clear (m : SMap Byte) : SMap Byte := m.filter fun (e : Nat × Byte) => !(e.1 / 65536 == sector)
  let p := { p with flash := clear p.flash, weak := clear p.weak }
  if 148 ≤ sector && sector < 152 then { p with tallies := p.tallies.filter fun r => r.page / 256 != sector - 148 }
  else if sector == 156 then { p with hints0 := [] }
  else if sector == 157 then { p with hints1 := [] }
  else if 144 ≤ sector && sector < 148 then
    p.onArea ((sector - 144) / 2) fun x => x.setSector (sector % 2 == 1) deedSectorErased
  else if 152 ≤ sector && sector < 156 then
    p.onArea (2 + (sector - 152) / 2) fun x => x.setSector (sector % 2 == 1) deedSectorErased
  else p

/-- The deed area of a sector. -/
def sectorArea (sector : Nat) : Option Nat :=
  if 144 ≤ sector && sector < 148 then some ((sector - 144) / 2)
  else if 152 ≤ sector && sector < 156 then some (2 + (sector - 152) / 2) else none

/-- Retire a sector: the lowest free replacement takes its place, erased (R412). A lost deed sector in force is given a
header with ACTIVE again, its twin supplying the deeds. -/
def State.retireSector (s : State) (sector : Nat) : State :=
  let s := (s.raise 0xC102 0 sector).flag Reg.PST_ERR_STAT Reg.PST_ERR_EN 3 true
  match s.pst.freeSpares with
  | [] =>
    let s := (s.raise 0xC104 0 sector).flag Reg.PST_ERR_STAT Reg.PST_ERR_EN 4 true
    match sectorArea sector with
    | some a => s.modPst fun p => p.onArea a fun x => { x.setSector (sector % 2 == 1) { deedSectorErased with dirt := true }
                  with lost := x.lost || x.activeHigh == (sector % 2 == 1) }
    | none => s
  | k :: _ =>
    s.modPst fun (p : Pst) =>
      let p : Pst := { p with replaced := (p.replaced.filter fun x => x.1 != sector) ++ [(sector, k)] }
      let p := p.erased sector
      match sectorArea sector with
      | some a =>
        if (p.area a).activeHigh == (sector % 2 == 1) then
          p.onArea a fun x => x.setSector x.activeHigh { deedSectorErased with header := some 1, copied := .set, active := .set }
        else p
      | none => p

/-- A deferred step of an area is done: it counts, and after the first READY the next one follows (R420). -/
def State.deferredNext (s : State) (area : Nat) : State :=
  let s := s.incReg Reg.PST_RECOVER_CNT
  let s := if s.pst.noDeferred then s.setBits Reg.PST_INT_STAT 2 else s
  if s.sys.readySeen then s.modPst fun p => { p with queue := p.queue ++ p.areaNext area } else s

/-- The slot that a sector belongs to holds no image any more; an image in use is left alone (R430). -/
def State.spoilImage (s : State) (sector : Nat) : State :=
  if sector < 64 then s.modSvc fun v => { v with fwA := none }
  else if sector < 128 then s.modSvc fun v => { v with fwB := none }
  else if sector < 136 then s.modPlat fun p => { p with slotA := none }
  else if sector < 144 then s.modPlat fun p => { p with slotB := none }
  else s

/-- A sector erase has verified: what it was for goes on (R418, R423, R424, R442, R448). -/
def State.eraseVerified (s : State) (sector : Nat) (why : EraseFor) : State :=
  let s := (s.modPst (·.erased sector)).spoilImage sector
  match why with
  | .collection area =>
    if 4 ≤ area then (s.modPst fun p => p.dropDeferred (area - 4) (markStep 14 (sector % 2 == 1))).deferredNext (area - 4)
    else
      let s := s.setBits Reg.PST_INT_STAT 1
      if s.regField Reg.PST_CTL 4 2 == area then s.clearBits Reg.PST_CTL 1 else s
  | .eventLog => s.modEvr fun e =>
      { e with unerased := e.unerased.filter (· != sector),
               ring := eraseSlots e.ring (ringStart sector) (ringStart sector + 2048),
               altActive := e.altActive && e.ringFailed,
               lgStat := if e.altActive && !e.ringFailed then e.lgStat &&& ~~~ BitVec.ofNat 32 (2 ^ 29) else e.lgStat }
  | .clear => s.modEvr fun e =>
      { e with clearing := e.clearing.filter (· != sector),
               ring := if sector < 226 then eraseSlots e.ring (ringStart sector) (ringStart sector + 2048) else e.ring,
               alt := if sector < 226 then e.alt
                      else eraseSlots e.alt ((sector - 226) * 2048) ((sector - 226 + 1) * 2048) }
  | .hint => s.modPst fun p => { p with hintErasing := false }
  | .raw => (s.setNat Reg.PST_RESULT (2 ^ 31)).setBits Reg.PST_INT_STAT 8
  | .slot => s
  | .tally => s

/-! Programs that complete. -/

/-- Flash bytes of a program: bits only turn from 1 to 0 (R410). -/
def Pst.program (p : Pst) (addr : Nat) (bytes : List Nat) : Pst :=
  { p with flash := (bytes.zipIdx).foldl (fun m x =>
      let a := addr + x.2
      mapSet (fun _ => (0xFF : Byte)) m a (mapGet (fun _ => (0xFF : Byte)) m a &&& BitVec.ofNat 8 x.1)) p.flash }

/-- A raw program changes a byte of the event log: that slot's CRC no longer matches (R435). -/
def State.spoilSlots (s : State) (addr len : Nat) : State :=
  let hit (base : Nat) (slot : Nat) : Bool := decide (addr < base + slot * 32 + 32) && decide (base + slot * 32 < addr + len)
  s.modEvr fun e =>
    { e with ring := e.ring.map fun x => if hit 0xA20000 x.1 then (x.1, { x.2 with crcOk := false }) else x,
             alt := e.alt.map fun x => if hit 0xE20000 x.1 then (x.1, { x.2 with crcOk := false }) else x }

/-- The addresses of a raw program, within the page of PST_ADDR (R431). -/
def wrapAddr (addr i : Nat) : Nat := addr / 256 * 256 + (addr + i) % 256

/-- Raise a counter: bits in the live row, a new row, or a roll through a base deed (R423). -/
def State.tallyProgram (s : State) (i k : Nat) : State :=
  match s.pst.row i with
  | some r =>
    if usedBits r.bits + k ≤ 1920 then
      s.modPst fun p => { p with tallies := p.tallies.map fun x =>
        if x.page == r.page then { x with bits := raiseBits x.bits k } else x }
    else s
  | none =>
    s.modPst fun p =>
      { p with tallies := p.tallies ++ [{ page := p.tallyNext, counter := i, gen := (p.base i).2 + 1, hdrOk := true,
                                          bits := List.replicate k .programmed }],
               tallyNext := (p.tallyNext + 1) % 1024 }

/-- What a persistent raise lets its owner do (R381, R423): KEK blocks are reserved. -/
def State.tallyEffect (s : State) (i k : Nat) : State :=
  if i = 4 then s.modCke fun c => { c with kekReserved := c.kekReserved + k * 65536 } else s

/-- The counter's value after a roll (R381, R423). -/
def State.rollEffect (s : State) (i : Nat) (v : DeedVal) : State :=
  match v with
  | .tallyBase n _ => if i = 4 then s.modCke fun c => { c with kekReserved := n * 65536 } else s
  | _ => s

/-- A hint takes the next page of the sector in use; a full sector asks for the other's erase and hands over (R424). -/
def State.hintWritten (s : State) (h : Hint) : State :=
  let s := s.modPst fun p =>
    if p.hintHigh then { p with hints1 := p.hints1 ++ [h] } else { p with hints0 := p.hints0 ++ [h] }
  let n := if s.pst.hintHigh then s.pst.hints1.length else s.pst.hints0.length
  if n < 256 then s
  else (s.modPst fun p => { p with hintErasing := true, hintHigh := !p.hintHigh }).pstQueue
    (.erase (if s.pst.hintHigh then 156 else 157) .hint)

/-- The background operation ends with a return code (R72). -/
def State.endBackground (s : State) (ret : Nat) : State :=
  s.modSvc fun v => { v with background := none,
                             lastBackground := match v.background with
                               | some b => some (b.opcode, ret)
                               | none => v.lastBackground }

/-- A mailbox command is answered (R72, R427): the doorbell clears; over MCTP there is none. -/
def State.mboxReply (s : State) (via : Via) (opcode ret ext : Nat) (fields : List Nat) : State :=
  let s := match via with
    | .bar2 p =>
      let rung := (s.port p.val).doorbell
      let s := (s.modPort p.val fun x => { x with doorbell := false }).clearBits (Reg.HPT_MBOX_STAT p.val) 3
      let s := s.setNat (Reg.HPT_MBOX_LAST p.val) (opcode * 65536 + ret)
      if rung then s.modPst fun q => { q with owed := q.owed - 1 } else s
    | .mctp => s
  s.emit (.mbox via opcode ret ext fields)

/-- A program or erase of a plat or firmware slot. -/
def PstOp.isSlot : PstOp → Bool
  | .imagePage _ _ => true
  | .erase _ .slot => true
  | _ => false

/-- A chunk's program or erase failed for good: the rest of the chunk is dropped (R85). -/
def State.slotFails (s : State) (sector : Nat) : State :=
  let s := if 128 ≤ sector && sector < 144 then
      s.setNat Reg.PLT_ERR (0x55 * 2 ^ 24 + s.regField Reg.PLT_STAT 16 4 * 2 ^ 20) else s
  let s := s.modPst fun p => { p with queue := p.queue.filter fun o => !o.isSlot }
  s.modSvc fun v => { v with writing := v.writing.map fun w => { w with failed := true } }

/-- The last operation of a chunk has ended: REPLAT WRITE is answered, Transfer FW leaves the background (R85, R406). -/
def State.endWriting (s : State) : State :=
  match s.svc.writing with
  | none => s
  | some w =>
    if s.pst.queue.any PstOp.isSlot then s
    else
      let s := s.modSvc fun v => { v with writing := none }
      let c := s.config
      let s := if w.failed || w.image.isNone then s
        else s.modPlat fun p => if c.slotB then { p with slotA := w.image } else { p with slotB := w.image }
      let s := if w.failed || w.fw.isNone then s
        else s.modSvc fun v => if c.activeFw then { v with fwA := w.fw } else { v with fwB := w.fw }
      if w.opcode = 0x0201 then s.endBackground (if w.failed then 4 else 0)
      else if w.failed then s.mboxReply w.via w.opcode 2 5 [s.regNat Reg.PLT_ERR]
      else s.mboxReply w.via w.opcode 0 0 []

/-- The operation has ended: requests that came before the end are served first (R427). -/
def State.pstEnd (s : State) (op : PstOp) : State :=
  let s := s.gateFree (if s.pst.ungated then 0 else op.energy)
  let owed := (if s.port0.doorbell then 1 else 0) + (if s.port1.doorbell then 1 else 0)
  let s := s.modPst fun p => { p with run := none, owed := owed, endAt := s.nowNs }
  let s := ((s.clearBits (Reg.HPT_MBOX_STAT 0) 2).clearBits (Reg.HPT_MBOX_STAT 1) 2).collect 37
  if op.isSlot then s.endWriting else s

/-- Program `phase` of the operation has read back (R413, R415, R418, R423, R424, R435). -/
def State.programOk (s : State) (r : PstRun) : State :=
  match r.op with
  | .deed index v =>
    match r.phase with
    | 0 => s.modPst (·.deedBody index v false)
    | 1 => ((s.modPst (·.deedMark v false .set)).deedPersistent index v).rollEffect index v
    | 2 => s.modPst (·.deedBody index v true)
    | _ => s.modPst (·.deedMark v true .set)
  | .mark area c =>
    if r.phase + 1 < r.op.programs s.pst then s
    else
      let s := s.modPst fun p => (p.markDone area c).dropDeferred area c
      if 16 ≤ c then s.deferredNext area else s
  | .tally i k => (s.tallyProgram i k).tallyEffect i k
  | .hint h => s.hintWritten h
  | .evrBody n => (s.modEvr (·.writeBody)).modPst fun p => { p with queue := .evrMark n :: p.queue }
  | .evrMark _ => s.logMarked
  | .imagePage a b => s.modPst (·.program a b)
  | .rawProg a b =>
    let s := (b.zipIdx).foldl (fun s x => (s.modPst (·.program (wrapAddr a x.2) [x.1]))) s
    let s := (s.spoilSlots (a / 256 * 256) 256).spoilImage (a / 65536)
    (s.setNat Reg.PST_RESULT (2 ^ 31)).setBits Reg.PST_INT_STAT 8
  | _ => s

/-- A program has failed twice (R412, R428, R443). -/
def State.programFailed (s : State) (r : PstRun) (timeout : Bool) : State :=
  let s := s.flag Reg.PST_ERR_STAT Reg.PST_ERR_EN 0 false
  match r.op with
  | .deed _ v =>
    let (a, b) := areasOf v
    let area := if r.phase < 2 then a else b
    let s := if v.type = 3 then s.flag Reg.DTM_ERR_STAT Reg.DTM_ERR_EN 3 false else s
    s.retireSector (areaSector area (s.pst.area area).activeHigh)
  | .mark area c => s.retireSector (areaSector area (c % 2 == 1))
  | .tally _ _ => s.retireSector (148 + s.pst.tallyNext / 256)
  | .hint _ => s.retireSector (if s.pst.hintHigh then 157 else 156)
  | .evrBody _ => s.logFailed
  | .evrMark _ => s.logFailed
  | .imagePage a _ => (s.retireSector (a / 65536)).slotFails (a / 65536)
  | .rawProg _ _ => (s.setNat Reg.PST_RESULT (2 ^ 31 + if timeout then 3 else 4)).setBits Reg.PST_INT_STAT 8
  | _ => s

/-- A failed deed or mark goes on at the replacement; other operations end. -/
def PstOp.goesOn : PstOp → Bool
  | .deed _ _ => true
  | .mark _ _ => true
  | .tally _ _ => true
  | _ => false

/-- The running program failed: retried once, then the sector is given up (R428). -/
def State.programBad (s : State) (r : PstRun) (timeout : Bool) : State :=
  if !r.retried then s.modPst fun p => { p with run := some { r with retried := true, start := s.nowNs } }
  else
    let s := s.programFailed r timeout
    if r.op.goesOn && !s.pst.freeSpares.isEmpty then
      s.modPst fun p => { p with run := some { r with retried := false, start := s.nowNs } }
    else if r.op.isLog then
      let s := s.pstEnd r.op
      if s.evr.queue.isEmpty || s.pst.logQueued then s else s.pstQueue (.evrBody 0)
    else s.pstEnd r.op

/-! Commands of the controller. -/

/-- A program or erase runs (R427). -/
def State.pstBusy (s : State) : Bool := s.pst.run.isSome

/-- The next operation may start: nothing runs, and what arrived before the last end is answered or 10 ms have passed
(R427). -/
def State.pstFree (s : State) (force : Bool) : Bool :=
  s.pst.run.isNone && (force || s.pst.owed == 0 || decide (s.pst.endAt + 10000000 ≤ s.nowNs))

/-- The bytes that a raw read sees at an address: typed structures show the encoding the spec gives, key-wrap sectors
show zeros (R430), deed payloads are not laid out (log entry 7). -/
def State.flashByte (s : State) (addr : Nat) : Byte :=
  let sector := addr / 65536
  let inPage := addr % 256
  if 152 ≤ sector && sector < 156 then 0
  else if 162 ≤ sector && sector < 228 then
    let slot := addr % 65536 / 32 + (sector - 162) % 64 * 2048
    let e := if sector < 226 then mapFind s.evr.ring slot else mapFind s.evr.alt (slot % 4096)
    match e with
    | some x => BitVec.ofNat 8 ((recBytes x.record (if x.valid == .blank then 0xFFFF else 0)).getD (addr % 32) 0xFF)
    | none => mapGet (fun _ => (0xFF : Byte)) s.pst.flash addr
  else if 156 ≤ sector && sector < 158 then
    match (if sector == 156 then s.pst.hints0 else s.pst.hints1)[addr % 65536 / 256]? with
    | some h =>
      let b := leBytes 0x544E4948 4 ++ List.replicate 4 0xFF ++ leBytes h.gen 8 ++ leBytes h.set 1 ++ List.replicate 7 0xFF ++
        leBytes h.datum 8 ++ leBytes h.fp 8
      if inPage < 40 then BitVec.ofNat 8 (b.getD inPage 0xFF)
      else if inPage < 44 then Sys2Proof.Config.deedPayloadByte addr 0 else 0xFF
    | none => 0xFF
  else if (144 ≤ sector && sector < 148) || (158 ≤ sector && sector < 162) then Sys2Proof.Config.deedPayloadByte addr 0
  else if 148 ≤ sector && sector < 152 then
    match s.pst.tallies.find? fun r => r.page == (sector - 148) * 256 + addr % 65536 / 256 with
    | some r =>
      if inPage < 12 then
        BitVec.ofNat 8 ((leBytes 0x594C4154 4 ++ [r.counter, 0, 0, 0] ++ leBytes r.gen 4).getD inPage 0)
      else if inPage < 16 then Sys2Proof.Config.deedPayloadByte addr 0
      else BitVec.ofNat 8 ((List.range 8).foldl (fun b k =>
        b + if (r.bits.getD ((inPage - 16) * 8 + k) .blank) == .blank then 2 ^ k else 0) 0)
    | none => 0xFF
  else mapGet (fun _ => (0xFF : Byte)) s.pst.flash addr

/-- A raw READ fills the page buffer, with page wrap (R430, R431). -/
def State.rawRead (s : State) (addr len : Nat) : State :=
  let word (k : Nat) : Word := (List.range 4).foldl (fun w i =>
    let n := 4 * k + i
    let b : Byte := if n < len then s.flashByte (wrapAddr addr n)
      else BitVec.ofNat 8 (bitsAt (mapGet (fun _ => (0 : Word)) s.pst.buf k).toNat (8 * i) 8)
    w ||| (b.zeroExtend 32 <<< (8 * i))) 0
  let prot := 152 ≤ addr / 65536 && addr / 65536 < 156
  let s := s.modPst fun p => { p with buf := (List.range 64).foldl (fun m k => mapSet (fun _ => (0 : Word)) m k (word k)) p.buf }
  (s.setNat Reg.PST_RESULT (2 ^ 31 + if prot then 1 else 0)).setBits Reg.PST_INT_STAT 8

/-- The first page of a sector with a byte that is not 0xFF. -/
def State.firstBad (s : State) (sector : Nat) : Option Nat :=
  (List.range 256).find? fun p => (List.range 256).any fun b => s.flashByte (sector * 65536 + p * 256 + b) != 0xFF

/-- BLANK_CHECK (R430). -/
def State.rawBlank (s : State) (sector : Nat) : State :=
  let r := match s.firstBad sector with
    | some p => p * 16 + 5
    | none => 0
  (s.setNat Reg.PST_RESULT (2 ^ 31 + r)).setBits Reg.PST_INT_STAT 8

/-- An operation with no program of its own runs at once; the others become the running one. -/
def State.pstLaunch (s : State) (op : PstOp) (ungated : Bool) : State :=
  let s := s.modPst fun p => { p with gateWait := false, ungated := ungated }
  match op with
  | .rawRead a n => s.rawRead a n
  | .rawBlank k => s.rawBlank k
  | .collect a => s.modPst fun p => { p with queue := p.collectSteps a ++ p.queue }
  | op =>
    let op := match op with
      | .evrBody _ => PstOp.evrBody (if s.evr.ringReady then (s.evr.batch s.evr.ringPos).length else (s.evr.batch s.evr.altPos).length)
      | o => o
    let s := if ungated then s else s.gateTake op.energy
    let s := match op with
      | .deed _ _ => s.modPst fun p => { p with gen := p.gen + 1 }
      | _ => s
    s.modPst fun p => { p with run := some { op := op, phase := 0, retried := false, start := s.nowNs }, owed := 0 }

/-- The tally page that a raise would open lies in a sector to be erased first (R423). -/
def Pst.tallyBlocked (p : Pst) (i : Nat) : Bool :=
  (p.row i).isNone && p.tallies.any fun r => r.page == p.tallyNext

/-- What runs in place of the operation at the head: the marks and the collection before a deed, the base deed of a
roll, the erase before a new tally row; otherwise the operation itself (R418, R420, R423). -/
def State.pstFirst (s : State) (op : PstOp) : List PstOp :=
  match op with
  | .deed _ v => s.pst.before v ++ [op]
  | .tally i k =>
    match s.pst.row i with
    | some r =>
      if usedBits r.bits + k ≤ 1920 then [op] else [.deed i (.tallyBase (s.pst.counter i + k) r.gen)]
    | none =>
      if s.pst.tallyBlocked i && (s.pst.rowsOf (148 + s.pst.tallyNext / 256)).all s.pst.consumed then
        [.erase (148 + s.pst.tallyNext / 256) .tally, op] else [op]
  | _ => [op]

/-- Whether an operation may start now, and then whether ungated (R425). -/
def State.pstGate (s : State) (op : PstOp) : Option Bool :=
  if s.gateOk op.energy && s.pwr.bank != .absent && s.pwr.assayValid then some false
  else if s.pstUngated op.energy then some true else none

/-- The head waits for its gate, counted once (R425). -/
def State.pstWait (s : State) : State :=
  (if s.pst.gateWait then s else s.incReg Reg.PST_GATE_WAIT).modPst fun p => { p with gateWait := true }

/-- An event-log operation that cannot go on: no place for the batch, or nothing left to write (R441 to R444). -/
def State.logStuck (s : State) (op : PstOp) : Bool :=
  op.isLog && (s.evr.memLost || (!s.evr.ringReady && !s.evr.altReady))

/-- A deferred step that has already been performed. -/
def Pst.stale (p : Pst) (op : PstOp) : Bool :=
  match op with
  | .mark area c => decide (16 ≤ c) && !(p.area area).deferred.contains c
  | .erase k (.collection area) => decide (4 ≤ area) && !(p.area (area - 4)).deferred.contains (markStep 14 (k % 2 == 1))
  | _ => false

/-- Start the operation at the head of the service order (R418, R420, R423, R425, R442). -/
def State.pstStart (s : State) (force : Bool) : State :=
  if !s.pstFree force then s
  else match pstPick s.pst.queue with
    | none => s
    | some (op, rest) =>
      if s.pstHeld op || s.logStuck op then s
      else if s.pst.stale op then s.modPst fun p => { p with queue := rest }
      else if op.prio == 4 && s.evr.queue.isEmpty then s.modPst fun p => { p with queue := rest }
      else match s.pstFirst op with
        | [] => s
        | x :: xs =>
          match s.pstGate x with
          | some u => (s.modPst fun p => { p with queue := xs ++ rest }).pstLaunch x u
          | none => s.pstWait

/-- PST_OP_START (R425). -/
def execPstOpStart (atNs : Nat) (s : State) : Res := .next ((s.clockTo atNs).pstStart false)

/-- MGMT_HOLD_TIMEOUT (R427): 10 ms after an operation's end the next one starts with requests still pending. -/
def execMgmtHoldTimeout (atNs : Nat) (s : State) : Res :=
  let s := s.clockTo atNs
  .next (if s.pst.endAt + 10000000 ≤ s.nowNs then s.pstStart true else s)

/-- PAGE_PROGRAM_DONE (R413, R428): the program ends and is read back; a failed read-back is a failed try. An end in the
expiry cycle is on time (R199). -/
def execPageProgramDone (ok : Bool) (atNs : Nat) (s : State) : Res :=
  let s := s.clockTo atNs
  match s.pst.run with
  | none => .next s
  | some r =>
    if r.op.isErase then .next s
    else
      let s := s.incReg Reg.PST_PROG_CNT
      let s := if s.nowNs = r.start + 1200000 then s.nearMiss 0x23 else s
      if !ok then .next (s.programBad r false)
      else
        let s := s.programOk r
        if r.phase + 1 < r.op.programs s.pst then
          .next (s.modPst fun p => { p with run := some { r with phase := r.phase + 1, retried := false, start := s.nowNs } })
        else .next (s.pstEnd r.op)

/-- PAGE_PROGRAM_TIMEOUT (R428). -/
def execPageProgramTimeout (atNs : Nat) (s : State) : Res :=
  let s := s.clockTo atNs
  match s.pst.run with
  | none => .next s
  | some r => if r.op.isErase then .next s else .next (s.programBad r true)

/-- The running erase ended badly: repeated once, then its sector is retired, or skipped in the event log (R412, R428,
R442). -/
def State.eraseBad (s : State) (r : PstRun) (timeout : Bool) : State :=
  if !r.retried then s.modPst fun p => { p with run := some { r with retried := true, start := s.nowNs } }
  else
    let s := s.flag Reg.PST_ERR_STAT Reg.PST_ERR_EN 1 false
    let s := match r.op with
      | .erase k .eventLog =>
        let s := s.modEvr fun e => { e with unerased := e.unerased.filter (· != k) }
        if ringSector s.evr.ringPos == k then s.skipSector else s.evrFlag 1 false
      | .erase k .clear => s.modEvr fun e => { e with clearing := e.clearing.filter (· != k) }
      | .erase k .slot => (s.retireSector k).slotFails k
      | .erase k _ => s.retireSector k
      | .rawErase _ => (s.setNat Reg.PST_RESULT (2 ^ 31 + if timeout then 3 else 4)).setBits Reg.PST_INT_STAT 8
      | _ => s
    s.pstEnd r.op

/-- SECTOR_ERASE_DONE (R428): `ok` is the erase-verify at margin level. -/
def execSectorEraseDone (ok : Bool) (atNs : Nat) (s : State) : Res :=
  let s := s.clockTo atNs
  match s.pst.run with
  | none => .next s
  | some r =>
    if !r.op.isErase then .next s
    else
      let s := s.incReg Reg.PST_ERASE_CNT
      let s := if s.nowNs = r.start + 400000000 then s.nearMiss 0x26 else s
      if !ok then .next (s.eraseBad r false)
      else match r.op with
        | .erase k why => .next ((s.eraseVerified k why).pstEnd r.op)
        | .rawErase k =>
          let s := s.eraseVerified k .raw
          let s := s.modEvr fun e =>
            { e with ring := if 162 ≤ k && k < 226 then eraseSlots e.ring (ringStart k) (ringStart k + 2048) else e.ring,
                     alt := if 226 ≤ k && k < 228 then eraseSlots e.alt ((k - 226) * 2048) ((k - 225) * 2048) else e.alt }
          .next (s.pstEnd r.op)
        | _ => .next (s.pstEnd r.op)

/-- SECTOR_ERASE_TIMEOUT (R428). -/
def execSectorEraseTimeout (atNs : Nat) (s : State) : Res :=
  let s := s.clockTo atNs
  match s.pst.run with
  | none => .next s
  | some r => if r.op.isErase then .next (s.eraseBad r true) else .next s

/-! Raw access and the block's registers (R430 to R432). -/

/-- A raw program or erase may touch the sector: a slot not active or pending, the event log, the alternate pair, or a
free replacement sector (R430). -/
def State.rawAllowed (s : State) (sector : Nat) : Bool :=
  let c := s.config
  let fwB := decide (64 ≤ sector)
  if sector < 128 then c.activeFw != fwB && c.pendFw != some fwB
  else if sector < 144 then
    let b := decide (136 ≤ sector)
    c.slotB != b && !(c.pendReplat.isSome && c.slotB != b)
  else (162 ≤ sector && sector < 228) || s.pst.freeSpares.contains sector

/-- A raw command ends at once with a code. -/
def State.rawResult (s : State) (code : Nat) : State :=
  (s.setNat Reg.PST_RESULT (2 ^ 31 + code)).setBits Reg.PST_INT_STAT 8

def State.rawAddr (s : State) : Nat := s.regNat Reg.PST_ADDR % 2 ^ 24

/-- PST_READ (R430, R431): in every state; behind a running operation it queues. -/
def execPstRead (via : Via) (s : State) : Res :=
  if !s.reaches via then .next s else
  let a := s.rawAddr
  let n := s.regNat Reg.PST_LEN
  let s := (s.setNat Reg.PST_RESULT 0).emit (.regWriteDone via Reg.PST_CMD)
  if s.pstBusy then .next (s.pstQueue (.rawRead a n)) else .next (s.rawRead a n)

/-- PST_PROG (R430, R431). -/
def execPstProg (via : Via) (s : State) : Res :=
  if !s.reaches via then .next s else
  let a := s.rawAddr
  let n := s.regNat Reg.PST_LEN
  let s := (s.setNat Reg.PST_RESULT 0).emit (.regWriteDone via Reg.PST_CMD)
  if s.sys.state ≠ .diag then .next (s.rawResult 2)
  else if !s.rawAllowed (a / 65536) then .next (s.rawResult 1)
  else
    let b := (List.range n).map fun i => bitsAt (mapGet (fun _ => (0 : Word)) s.pst.buf (i / 4)).toNat (8 * (i % 4)) 8
    .next (s.pstQueue (.rawProg a b))

/-- PST_ERASE (R430). -/
def execPstErase (via : Via) (s : State) : Res :=
  if !s.reaches via then .next s else
  let k := s.rawAddr / 65536
  let s := (s.setNat Reg.PST_RESULT 0).emit (.regWriteDone via Reg.PST_CMD)
  if s.sys.state ≠ .diag then .next (s.rawResult 2)
  else if !s.rawAllowed k then .next (s.rawResult 1)
  else .next (s.pstQueue (.rawErase k))

/-- PST_BLANK_CHECK (R430). -/
def execPstBlankCheck (via : Via) (s : State) : Res :=
  if !s.reaches via then .next s else
  let k := s.rawAddr / 65536
  let s := (s.setNat Reg.PST_RESULT 0).emit (.regWriteDone via Reg.PST_CMD)
  if s.sys.state ≠ .diag then .next (s.rawResult 2)
  else if s.pstBusy then .next (s.pstQueue (.rawBlank k))
  else .next (s.rawBlank k)

/-- A read of PST_DATA: the word that PST_DATA_SEL names, which advances. -/
def State.pstDataRead (s : State) : Word × State :=
  let k := s.regNat Reg.PST_DATA_SEL % 64
  (mapGet (fun _ => (0 : Word)) s.pst.buf k, s.setNat Reg.PST_DATA_SEL ((k + 1) % 64))

/-- A write of PST_DATA. -/
def State.pstDataWrite (s : State) (v : Word) : State :=
  let k := s.regNat Reg.PST_DATA_SEL % 64
  (s.setNat Reg.PST_DATA_SEL ((k + 1) % 64)).modPst fun p => { p with buf := mapSet (fun _ => (0 : Word)) p.buf k v }

/-- PST_DATA_ACCESS (R432): a word of the page buffer is read or written, and PST_DATA_SEL advances. -/
def execPstDataAccess (via : Via) (write : Option Word) (s : State) : Res :=
  if !s.reaches via then .next s else
  match write with
  | some v => .next ((s.pstDataWrite v).emit (.regWriteDone via Reg.PST_DATA))
  | none => .next (s.pstDataRead.2.emit (.regRead via Reg.PST_DATA s.pstDataRead.1))

/-- PST_PARAM_WRITE (R432): PST_LEN outside 1 to 256 is ignored. -/
def execPstParamWrite (via : Via) (v : Word) (s : State) : Res :=
  if !s.reaches via then .next s else
  let n := v.toNat % 512
  let s := s.emit (.regWriteDone via Reg.PST_LEN)
  .next (if 1 ≤ n && n ≤ 256 then s.setNat Reg.PST_LEN n else s)

/-- Torn marks and torn tally bits of an area's deeds, programmed again (R414, R419, R422). -/
def Pst.tornCount (p : Pst) : Nat :=
  let sec (x : DeedSector) : Nat :=
    (x.deeds.filter fun d => d.crcOk && d.valid == .torn).length +
      ([x.copied, x.active, x.retired].filter (· == .torn)).length
  (p.areas.map fun a => sec a.low + sec a.high).sum +
    (p.tallies.map fun r => if r.hdrOk then (r.bits.filter (· == .torn)).length else 0).sum

def Mark.fix (m : Mark) : Mark := if m == .torn then .set else m

def DeedSector.fix (x : DeedSector) : DeedSector :=
  { x with copied := x.copied.fix, active := x.active.fix, retired := x.retired.fix,
           deeds := x.deeds.map fun d => if d.crcOk then { d with valid := d.valid.fix } else d }

def Pst.fixTorn (p : Pst) : Pst :=
  { p with areas := p.areas.map fun a => { a with low := a.low.fix, high := a.high.fix },
           tallies := p.tallies.map fun r =>
             if r.hdrOk then { r with bits := r.bits.map fun b => if b == .torn then .programmed else b } else r }

/-- MARGIN_SCAN (R414): every deed, tally and header is reread at both levels and torn ones are programmed again. -/
def execMarginScan (via : Via) (s : State) : Res :=
  if !s.reaches via then .next s else
  let n := s.pst.tornCount
  let s := s.emit (.regWriteDone via Reg.PST_CTL)
  let s := ((s.modPst Pst.fixTorn).addReg Reg.PST_MARGIN_FIX n).addReg Reg.PST_PROG_CNT n
  .next ((s.clearBits Reg.PST_CTL 2).setBits Reg.PST_INT_STAT 4)

/-- COLLECT (R418): the selected area is collected; the bit clears when the erase has verified. -/
def execCollect (via : Via) (area : Fin 4) (s : State) : Res :=
  if !s.reaches via then .next s else
  let s := (s.setField Reg.PST_CTL 4 2 area.val).setBits Reg.PST_CTL 1
  .next ((s.pstQueue (.collect area.val)).emit (.regWriteDone via Reg.PST_CTL))

/-! Entry to READY. -/

/-- An operation is queued or runs. -/
def Pst.has (p : Pst) (op : PstOp) : Bool := p.queue.contains op || (p.run.map (·.op)) == some op

/-- The next deferred step of an area that is not yet queued (R420). -/
def Pst.askArea (p : Pst) (a : Nat) : Pst := { p with queue := p.queue ++ (p.areaNext a).filter fun o => !p.has o }

/-- At an entry to READY: deferred recovery of the deed areas (R420), the datum deed of the first one after supplies good
(R194), the firmware minimum of the image that runs (R406). -/
def State.readyWork (s : State) : State :=
  let s := s.modPst fun p => (List.range 4).foldl Pst.askArea p
  let now := s.nowNs
  let s := if s.dtm.deedAt.isSome then s
    else (s.modDtm fun t => { t with deedAt := some now }).queueDeed 0 (.datum s.datumNs s.dtm.everSet)
  let svn := match s.svc.fwRun with
    | some false => (s.svc.fwA.map (·.svn)).getD 0
    | some true => (s.svc.fwB.map (·.svn)).getD 0
    | none => 0
  if s.pst.counter 2 < svn then s.pstQueue (.tally 2 (svn - s.pst.counter 2)) else s

/-- Enter READY; SYS_READY_MS is the time since the reset, where RECOVER or LOCKED is left (R24, R506). -/
def State.goReady (s : State) : State :=
  let boot := s.sys.state == .recover || s.sys.state == .locked
  let s := (s.goState .ready).readyWork
  if boot then s.setNat Reg.SYS_READY_MS ((s.nowNs - s.sys.resetAt) / 1000000) else s

end Sys2Proof.Machine
end

