-- ==== Sys2Proof/Machine/PstBoot.lean ====
section
/-! DEFINITION. The parameter store at the edges of a run: what a loss of supply leaves of the running operation (R414,
R422, R429), what a reset lets finish (R429), and what BOOT reads and decides (R414 to R417, R419 to R424, R434, R435,
R442, R448). -/

namespace Sys2Proof.Machine

/-! A cut-off operation. The bits it leaves are free values (log entry 5). -/

/-- A mark whose program was cut off: blank, torn or set. -/
def tornMark (k : Nat) : Mark :=
  let (n, m) := Config.tornByte k 0
  if n = 0 ∧ m = 0 then .set else if n = 0xFF ∧ m = 0xFF then .blank else .torn

def tornBit (k i : Nat) : TallyBit :=
  let (n, m) := Config.tornByte k i
  if n.toNat.testBit 0 && m.toNat.testBit 0 then .blank
  else if !n.toNat.testBit 0 && !m.toNat.testBit 0 then .programmed else .torn

/-- A marking step of a sector, cut off. -/
def Pst.cutMark (p : Pst) (area c k : Nat) : Pst :=
  let high := c % 2 == 1
  p.onArea area fun x =>
    let sec := x.sector high
    match c / 2 % 8 with
    | 0 =>
      let gen := if Config.freeBool k then some (((x.sector (!high)).header.getD 0) + 1) else none
      x.setSector high { deedSectorErased with header := gen, dirt := gen.isNone }
    | 2 => x.setSector high { sec with copied := tornMark k }
    | 3 => x.setSector high { sec with active := tornMark k }
    | 4 => x.setSector high { sec with retired := tornMark k }
    | 5 =>
      let gen := if Config.freeBool k then some 1 else none
      x.setSector high { deedSectorErased with header := gen, active := tornMark k, dirt := gen.isNone }
    | _ => x

/-- A sector whose erase was cut off: its structures read as whatever is left. -/
def State.cutErase (s : State) (sector k : Nat) : State :=
  let ok := Config.freeBool k
  let s := s.modPst fun p =>
    let p := match sectorArea sector with
      | some a => p.onArea a fun x => x.setSector (sector % 2 == 1) { (x.sector (sector % 2 == 1)) with dirt := true }
      | none => p
    { p with tallies := p.tallies.map fun r => if 148 + r.page / 256 == sector then { r with hdrOk := ok } else r,
             hints0 := if sector == 156 then p.hints0.map fun h => { h with crcOk := h.crcOk && ok } else p.hints0,
             hints1 := if sector == 157 then p.hints1.map fun h => { h with crcOk := h.crcOk && ok } else p.hints1,
             flash := p.flash.filterMap fun e =>
               if e.1 / 65536 == sector then
                 (if (Config.tornByte k e.1).1 = 0xFF then none else some (e.1, (Config.tornByte k e.1).1))
               else some e }
  s.modEvr fun e =>
    { e with ring := e.ring.map fun x => if ringSector x.1 == sector then (x.1, { x.2 with crcOk := ok && x.2.crcOk }) else x,
             alt := e.alt.map fun x => if 226 + x.1 / 2048 == sector then (x.1, { x.2 with crcOk := ok && x.2.crcOk }) else x }

/-- A program of bytes, cut off: each byte is what the flash holds after the partial program. -/
def Pst.cutProgram (p : Pst) (addrs : List Nat) (k : Nat) : Pst :=
  { p with flash := addrs.foldl (fun m a =>
      mapSet (fun _ => (0xFF : Byte)) m a (mapGet (fun _ => (0xFF : Byte)) m a &&& (Config.tornByte k a).1)) p.flash,
           weak := addrs.foldl (fun m a => mapSet (fun _ => (0 : Byte)) m a
             ((Config.tornByte k a).1 ^^^ (Config.tornByte k a).2)) p.weak }

/-- What the running operation leaves when the supply ends (R413 to R424, R435). -/
def State.pstCut (s : State) : State :=
  let k := s.free
  let s' : State := match s.pst.run with
    | none => s
    | some r =>
      match r.op with
      | .deed index v =>
        if r.phase % 2 = 0 then
          s.modPst fun p =>
            let p := p.deedBody index v (decide (2 ≤ r.phase))
            let (a, b) := areasOf v
            p.onArea (if r.phase < 2 then a else b) fun x =>
              x.setSector x.activeHigh { x.live with deeds := x.live.deeds.map fun d =>
                if d.seq / 2 == p.gen && d.valid == .blank then { d with crcOk := Config.freeBool k } else d }
        else s.modPst (·.deedMark v (decide (2 ≤ r.phase)) (tornMark k))
      | .mark area c => s.modPst (·.cutMark area c k)
      | .tally i n =>
        let s := s.tallyProgram i n
        s.modPst fun p => { p with tallies := p.tallies.map fun x =>
          if x.counter == i && x.gen == (p.base i).2 + 1 then
            { x with bits := x.bits.take (x.bits.length - n) ++ (List.range n).map (tornBit k) } else x }
      | .hint h => s.hintWritten { h with crcOk := Config.freeBool k }
      | .evrBody _ =>
        let s := s.modEvr (·.writeBody)
        s.modEvr fun e =>
          { e with ring := e.ring.map fun x => if x.2.valid == .blank then (x.1, { x.2 with crcOk := Config.freeBool (k + x.1) }) else x,
                   alt := e.alt.map fun x => if x.2.valid == .blank then (x.1, { x.2 with crcOk := Config.freeBool (k + x.1) }) else x }
      | .evrMark _ =>
        s.modEvr fun e =>
          { e with ring := e.ring.map fun x => if x.2.valid == .blank then (x.1, { x.2 with valid := tornMark (k + x.1) }) else x,
                   alt := e.alt.map fun x => if x.2.valid == .blank then (x.1, { x.2 with valid := tornMark (k + x.1) }) else x }
      | .imagePage a b => s.modPst (·.cutProgram ((List.range b.length).map (a + ·)) k)
      | .rawProg a b => (s.modPst (·.cutProgram ((List.range b.length).map (wrapAddr a)) k)).spoilSlots (a / 256 * 256) 256
      | .erase sector _ => s.cutErase sector k
      | .rawErase sector => s.cutErase sector k
      | _ => s
  (s'.modPst fun p => { p with run := none, queue := [], owed := 0, gateWait := false }).useFree

/-! What a reset with supplies good lets finish (R429). -/

/-- The running operation goes to its end. -/
def State.finishRun (s : State) : Nat → State
  | 0 => s
  | n + 1 => match s.pst.run with
    | none => s
    | some r =>
      if r.op.isErase then
        match r.op with
        | .erase k why => (s.eraseVerified k why).pstEnd r.op
        | .rawErase k => (s.eraseVerified k .raw).pstEnd r.op
        | _ => s
      else
        let s := s.programOk r
        if r.phase + 1 < r.op.programs s.pst then
          (s.modPst fun p => { p with run := some { r with phase := r.phase + 1 } }).finishRun n
        else s.pstEnd r.op

/-- Erases and image pages are discarded at a reset (R429). -/
def PstOp.discarded : PstOp → Bool
  | .erase _ _ => true | .rawErase _ => true | .imagePage _ _ => true | .rawProg _ _ => true | .rawRead _ _ => true
  | .rawBlank _ => true
  | _ => false

/-- The queued operations that still run before the controller resets, in service order (R429). -/
def State.pstDrain (s : State) : Nat → State
  | 0 => s
  | n + 1 =>
    let s := s.finishRun 64
    match pstPick (s.pst.queue.filter fun o => !o.discarded) with
    | none => s.modPst fun p => { p with queue := [] }
    | some (op, rest) =>
      if s.logStuck op || (op.prio == 4 && s.evr.queue.isEmpty) || s.pst.stale op then
        (s.modPst fun p => { p with queue := rest }).pstDrain n
      else match s.pstFirst op with
        | [] => s
        | x :: xs => ((s.modPst fun p => { p with queue := xs ++ rest }).pstLaunch x true).pstDrain n

/-- A chunk whose pages a reset has dropped fails (R429). -/
def State.dropWriting (s : State) : State :=
  match s.svc.writing with
  | none => s
  | some w =>
    let s := s.modSvc fun v => { v with writing := none }
    if w.opcode = 0x0201 then s.endBackground 4 else s

/-- The controller before a cold, warm or diagnostic reset with supplies good: the running operation finishes, queued
state changes run, erases and image pages are dropped (R429). -/
def State.pstQuiesce (s : State) : State :=
  let s := (s.pstDrain (8 * (s.pst.queue.length + s.evr.queue.length + 8))).dropWriting
  s.modPst fun p => { p with run := none, queue := [], owed := 0, gateWait := false }

/-! BOOT. -/

/-- A row of Table PST-6: states of the older and the newer sector, deeds from the newer, deferred steps on the newer
and the older sector (markers 8 to 14, true for the newer one), and whether it logs. -/
structure AreaRow where
  older : List Nat
  newer : List Nat
  fromNewer : Bool
  steps : List (Nat × Bool)
  log : Bool
  deriving DecidableEq, Repr

/-- Table PST-6, rows 1 to 10. An erase of a sector that is not DIRTY is left out when the row says so. -/
def areaTable : List AreaRow := [
  ⟨[3], [0], false, [], false⟩, ⟨[3], [1], false, [(14, true)], false⟩, ⟨[3], [5], false, [(14, true)], false⟩,
  ⟨[3], [2], true, [(11, true), (12, false), (14, false)], false⟩, ⟨[3], [3], true, [(12, false), (14, false)], false⟩,
  ⟨[4], [3], true, [(14, false)], false⟩, ⟨[5, 0], [3], true, [(15, false)], false⟩,
  ⟨[4], [2], true, [(11, true), (14, false)], true⟩, ⟨[0, 5], [2], true, [(11, true), (15, false)], true⟩,
  ⟨[4], [0, 5], false, [(15, true), (8, true), (9, true), (10, true), (11, true), (14, false)], true⟩]

/-- The highest SEQ in a sector. -/
def DeedSector.maxSeq (x : DeedSector) : Nat := (x.deeds.map (·.seq)).foldl max 0

/-- The placements of an area's sectors as (older is the higher one): by SECTOR_GEN where both headers are valid, else
both ways (R420). -/
def DeedArea.placements (a : DeedArea) : List Bool :=
  match (if a.low.dirt then none else a.low.header), (if a.high.dirt then none else a.high.header) with
  | some l, some h =>
    if l < h then [false] else if h < l then [true]
    else if a.low.maxSeq < a.high.maxSeq then [false] else [true]
  | _, _ => [false, true]

/-- The row that an area's sectors match, counted from 1, with the placement; none for the last two rows. -/
def DeedArea.match_ (a : DeedArea) : Option (Nat × AreaRow × Bool) :=
  (areaTable.zipIdx).findSome? fun (r, i) =>
    (a.placements.find? fun oh => r.older.contains (a.sector oh).st && r.newer.contains (a.sector (!oh)).st).map
      fun oh => (i + 1, r, oh)

/-- The decision of R420 for an area: the area with its deferred steps, and the row where it logs (12: lost). -/
def DeedArea.decide_ (a : DeedArea) : DeedArea × Option Nat :=
  match a.match_ with
  | some (i, r, oh) =>
    let steps := r.steps.filterMap fun e =>
      let high := if e.2 then !oh else oh
      if e.1 = 15 then (if (a.sector high).st = 5 then some (markStep 14 high) else none) else some (markStep e.1 high)
    let tie := a.low.st == 3 && a.high.st == 3 && a.low.header == a.high.header
    ({ a with activeHigh := if r.fromNewer then !oh else oh, deferred := steps, lost := false },
     if r.log || tie then some i else none)
  | none =>
    if a.low.st = 0 && a.high.st = 0 then ({ a with activeHigh := false, deferred := [markStep 13 false], lost := false }, none)
    else ({ a with activeHigh := false, lost := true,
                   deferred := [markStep 14 false, markStep 14 true, markStep 13 false] }, some 12)

/-- The deeds that an area supplies: valid copies of the sector in force (R414, R416). -/
def DeedArea.supplies (a : DeedArea) : List Deed :=
  if a.lost then [] else latestOf (a.live.deeds.filter fun d => d.crcOk && d.valid != .blank)

/-- The deed chosen for a key among the copies of areas A and B, and whether the copies conflict (R416). -/
def chooseTwin (a b : Option Deed) : Option (Deed × Bool) :=
  match a, b with
  | some x, some y =>
    if x.seq / 2 = y.seq / 2 then some (x, x.val != y.val || x.seq == y.seq)
    else if y.seq / 2 < x.seq / 2 then some (x, false) else some (y, false)
  | some x, none => some (x, false)
  | none, some y => some (y, false)
  | none, none => none

/-- Every key of the two areas with its chosen deed (R416). -/
def twinChoices (a b : List Deed) : List (Deed × Bool) :=
  let keys := ((a ++ b).map fun d => (d.val.type, d.index)).eraseDups
  let get (l : List Deed) (k : Nat × Nat) : Option Deed := l.find? fun d => (d.val.type, d.index) == k
  keys.filterMap fun k => chooseTwin (get a k) (get b k)

/-- Rewrite the copy of a chosen deed that an area lacks, with its generation (R416). -/
def Pst.rewriteTwin (p : Pst) (area : Nat) (copyB : Bool) (d : Deed) (have_ : List Deed) : Pst × Nat :=
  if (p.area area).deferred.isEmpty && !(have_.any fun x => x.val == d.val && x.seq / 2 == d.seq / 2 && x.index == d.index) then
    (p.onArea area fun x => x.setSector x.activeHigh (x.live.append
      { d with copyB := copyB, seq := d.seq / 2 * 2 + (if copyB then 1 else 0), crcOk := true, valid := .set }), 1)
  else (p, 0)

/-- The deeds of one pair of areas: chosen, taken into force, twins rewritten, conflicts logged (R416). -/
def State.bootPair (s : State) (a b : Nat) : State :=
  let da := (s.pst.area a).supplies
  let db := (s.pst.area b).supplies
  (twinChoices da db).foldl (fun s (d, conflict) =>
    let s := s.modPst fun p => p.take d.val.type d.index d.val
    let s := if conflict then (s.raise 0xC101 0 0).flag Reg.PST_ERR_STAT Reg.PST_ERR_EN 2 true else s
    let (p, n) := s.pst.rewriteTwin a false d da
    let (p, m) := p.rewriteTwin b true d db
    ((s.modPst fun _ => p).addReg Reg.PST_RECOVER_CNT (n + m)).addReg Reg.PST_PROG_CNT (2 * (n + m))) s

/-- The event log at BOOT: torn marks fixed, bad records ignored and counted, numbering and write position resumed, the
newest LOG_CLEARED hides what is older (R434, R435, R442, R448). -/
def State.bootLog (s : State) : State :=
  let e := s.evr
  let fix (m : SMap EvrSlot) : SMap EvrSlot :=
    m.map fun x => if x.2.crcOk && x.2.valid == .torn then (x.1, { x.2 with valid := .set }) else x
  let bad := (e.ring.filter fun x => !x.2.crcOk) ++ (e.alt.filter fun x => !x.2.crcOk)
  let good := slotRecs (fix e.ring) ++ slotRecs (fix e.alt)
  let newest := good.foldl (fun b r => match b with
    | none => some r.seq
    | some q => if seqOlder q r.seq then some r.seq else some q) none
  let cleared := (good.filter fun r => r.code == 0xD101).foldl (fun b r => match b with
    | none => some r.seq
    | some q => if seqOlder q r.seq then some r.seq else some q) none
  let last := match newest with
    | none => none
    | some q => (e.ring.find? fun x => x.2.crcOk && x.2.record.seq == q).map (·.1)
  let after (p : Nat) : Nat := ((List.range 4096).map fun k => (p + k) % 131072).find? (fun k => (mapFind e.ring k).isNone)
    |>.getD p
  let s := s.modEvr fun e =>
    { e with ring := fix e.ring, alt := fix e.alt,
             nextSeq := match newest with | some q => (q + 1) % 2 ^ 32 | none => e.nextSeq, hideBelow := cleared,
             ringPos := match last with | some k => after (k + 1) | none => e.ringPos,
             unerased := (e.ring.map fun x => ringSector x.1).eraseDups.filter fun k =>
               match last with | some q => k != ringSector (after (q + 1)) | none => true }
  if bad.isEmpty then s
  else
    let first := ((e.ring.filter fun x => !x.2.crcOk).head?.map fun x => 0xA20000 + x.1 * 32).getD
      (((e.alt.filter fun x => !x.2.crcOk).head?.map fun x => 0xE20000 + x.1 * 32).getD 0)
    (s.raise 0xD203 first bad.length).evrFlag 5 true

/-- What BOOT reads of the parameter store: areas decided, generations resumed, deeds selected, torn marks and bits
programmed again, the event log resumed (R414 to R424, R434, R435). -/
def State.pstBoot (s : State) : State :=
  let seqs := s.pst.areas.flatMap fun a => (a.low.deeds ++ a.high.deeds).map (·.seq)
  let decided := s.pst.areas.map DeedArea.decide_
  let s := s.modPst fun p => { p with areas := decided.map (·.1), gen := (seqs.foldl max 0) / 2, inForce := [] }
  let s := (decided.zipIdx).foldl (fun s x =>
    match x.1.2 with
    | some 12 => (s.raise 0xC103 12 x.2).flag Reg.PST_ERR_STAT Reg.PST_ERR_EN 5 true
    | some row => s.raise 0xC105 row x.2
    | none => s) s
  let n := s.pst.tornCount
  let s := ((s.modPst Pst.fixTorn).addReg Reg.PST_MARGIN_FIX n).addReg Reg.PST_PROG_CNT n
  let s := (s.bootPair 0 1).bootPair 2 3
  (s.modCke fun c => { c with kekReserved := s.pst.counter 4 * 65536 }).bootLog

end Sys2Proof.Machine
end

