-- ==== Sys2Proof/Machine/Place.lean ====
section
/-! DEFINITION. Where lines live: lookup (R159 to R163), forming bands and wear bins (R175, R178), map commits
(R164 to R166), merges and switches (R169, R170), obsolete tracts (R172), and the READONLY condition (R183). -/

namespace Sys2Proof.Machine

/-! Entries. -/

def plotNone : PlotEnt :=
  { valid := false, logged := false, merging := false, stream := false, heat := 0, logParcels := 0, streamBand := 0x1FFFF,
    band := 0x1FFFF, heatCnt := 0 }

def tractInit : Tract := { st := .free, resets := 0, fails := 0, recovered := 0, reads := 0 }

/-- Log and merge parcels written in second `sec` of DTM_MONO (R174). -/
def Cds.waCount (c : Cds) (sec log merge : Nat) : Cds :=
  if sec = c.waSince then { c with waLog := c.waLog + log, waMerge := c.waMerge + merge }
  else
    let next := sec == c.waSince + 1
    { c with waSince := sec, waLog := log, waMerge := merge, waLastLog := if next then c.waLog else 0,
             waLastMerge := if next then c.waMerge else 0 }

def Cds.plot (c : Cds) (i : Nat) : PlotEnt := mapGet (fun _ => plotNone) c.plots i

def Cds.setPlot (c : Cds) (i : Nat) (e : PlotEnt) : Cds := { c with plots := mapSet (fun _ => plotNone) c.plots i e }

def Cds.onPlot (c : Cds) (i : Nat) (f : PlotEnt → PlotEnt) : Cds := c.setPlot i (f (c.plot i))

def Cds.tract (c : Cds) (k : Nat) : Tract := mapGet (fun _ => tractInit) c.tracts k

def Cds.onTract (c : Cds) (k : Nat) (f : Tract → Tract) : Cds :=
  { c with tracts := mapSet (fun _ => tractInit) c.tracts k (f (c.tract k)) }

def Cds.band (c : Cds) (id : Nat) : Option Band := mapFind c.bands id

def Cds.onBand (c : Cds) (id : Nat) (f : Band → Band) : Cds :=
  match c.band id with
  | some b => { c with bands := mapInsert c.bands id (f b) }
  | none => c

/-- The tract keys of a band's members. -/
def Band.tracts (b : Band) : List Nat := b.members.map fun m => tractKey (m.1 * 4 + m.2.1) m.2.2

/-- The band that holds a log-space ordinal. -/
def Cds.bandOfOrdinal (c : Cds) (o : Nat) : Option (Nat × Band) := c.bands.find? fun e => e.2.ordinal == some o

/-- The lowest band ID not in use (log entry 19). -/
def freshId : Nat → SMap Band → Nat
  | n, [] => n
  | n, (k, _) :: rest => if k = n then freshId (n + 1) rest else n

/-! Lookup (R162). -/

/-- What the lookup of a line finds. -/
inductive Found
  | zero
  | place (key band : Nat)
  | rebuilding
  deriving DecidableEq, Repr

/-- The first live record of a chain that masks line n of parcel q, with the records visited. -/
def walkChain (c : Cds) (q n : Nat) : List Nat → Nat → Option (Nat × LogRec) × Nat
  | [], v => (none, v)
  | slot :: rest, v =>
    match mapFind c.records slot with
    | some r => if r.live && r.parcel == q && Quad.at r.mask n then (some (slot, r), v + 1) else walkChain c q n rest (v + 1)
    | none => walkChain c q n rest (v + 1)

/-- The newest medium copy of a line, with the records visited (R162, R163, R185). -/
def Cds.lookup (c : Cds) (p : Plat) (line : Nat) : Found × Nat :=
  let q := line / 64
  let n := line % 64
  let e := c.plot (parcelPlot q)
  let b := p.bucket q
  if e.logged && c.rebuilding.contains b then (.rebuilding, 0)
  else
    let hit := if e.logged then walkChain c q n (mapGet (fun _ => []) c.chains b) 0 else (none, 0)
    match hit.1 with
    | some (slot, r) =>
      if r.zero then (.zero, hit.2)
      else match c.bandOfOrdinal (slot / 8192) with
        | some (id, bd) => match bd.place (slot % 8192) n with
          | some k => (.place k id, hit.2)
          | none => (.zero, hit.2)
        | none => (.zero, hit.2)
    | none =>
      if e.valid then
        match c.band e.band with
        | some bd => match bd.place (q % 8192) n with
          | some k => (.place k e.band, hit.2)
          | none => (.zero, hit.2)
        | none => (.zero, hit.2)
      else (.zero, hit.2)

/-! Wear bins and forming bands (R175). -/

/-- Tracts of a configuration: dies present × 16,384. -/
def Plat.tractCount (p : Plat) : Nat := (32 - disabledChannels p.channel) * p.diesPerCh * 16384

/-- Lowest and highest reset count over non-RETIRED tracts. -/
def Cds.wearMin (c : Cds) (p : Plat) : Nat :=
  let l := (c.tracts.filter fun e => e.2.st != .retired).map (·.2.resets)
  if c.tracts.length < p.tractCount then 0 else l.foldl min (l.headD 0)

def Cds.wearMax (c : Cds) : Nat := ((c.tracts.filter fun e => e.2.st != .retired).map (·.2.resets)).foldl max 0

/-- The bin of a reset count. -/
def wearBin (wmin width resets : Nat) : Nat := min 7 ((resets - wmin) / max 1 width)

/-- What allocation looks at: configuration, lowest reset count, bin width, retired dies. -/
structure AllocEnv where
  plat : Plat
  wmin : Nat
  width : Nat
  gone : List Nat
  deriving DecidableEq, Repr

def State.allocEnv (s : State) : AllocEnv :=
  { plat := s.conf, wmin := s.cds.wearMin s.conf, width := s.regNat Reg.CDS_BIN_WIDTH, gone := s.mdc.retired }

/-- FREE tracts of a die in a bin. -/
def Cds.freeIn (c : Cds) (v : AllocEnv) (die bin : Nat) : Nat :=
  let mine := c.tracts.filter fun e => e.1 / 16384 == die
  (mine.filter fun e => e.2.st == .free && wearBin v.wmin v.width e.2.resets == bin).length +
    (if wearBin v.wmin v.width 0 == bin then 16384 - mine.length else 0)

/-- Dies of a channel that can give tracts. -/
def AllocEnv.dies (v : AllocEnv) (ch : Nat) : List Nat :=
  ((List.range v.plat.diesPerCh).map fun d => ch * 4 + d).filter fun d => !v.gone.contains d

/-- The die of a channel with the most FREE tracts in a bin, the lower on a tie, with that number. -/
def Cds.bestDie (c : Cds) (v : AllocEnv) (ch bin : Nat) : Option (Nat × Nat) :=
  (v.dies ch).foldl (fun best d =>
    let n := c.freeIn v d bin
    if n = 0 then best
    else match best with
      | some (e, m) => if m < n then some (d, n) else some (e, m)
      | none => some (d, n)) none

/-- FREE tracts of a channel in a bin. -/
def Cds.chanFree (c : Cds) (v : AllocEnv) (ch bin : Nat) : Nat := ((v.dies ch).map fun d => c.freeIn v d bin).sum

/-- Insert into a list ranked by count, falling, ties in order of arrival. -/
def rankIn (x : Nat × Nat) : List (Nat × Nat) → List (Nat × Nat)
  | [] => [x]
  | y :: rest => if y.2 < x.2 then x :: y :: rest else y :: rankIn x rest

/-- The channels of a list ranked by their FREE tracts in the bin, ties to the lower index. -/
def Cds.rank (c : Cds) (v : AllocEnv) (bin : Nat) (l : List Nat) : List Nat :=
  ((l.map fun ch => (ch, c.chanFree v ch bin)).filter (fun x => decide (0 < x.2))).foldl (fun a x => rankIn x a) []
    |>.map (·.1)

/-- The channels a band takes: 17 logical channels, with every locked pair and no other locked channel for a mirrored
holding (R36, R175). -/
def Cds.pickChannels (c : Cds) (v : AllocEnv) (bin : Nat) (mirror : Bool) : Option (List Nat) :=
  let all := v.plat.logical
  let l :=
    if mirror then
      let pairs := all.filter fun ch => v.plat.isLocked ch
      let single := c.rank v bin (all.filter fun ch => !v.plat.isLocked ch)
      if pairs.all fun ch => decide (0 < c.chanFree v ch bin) then pairs ++ single.take (17 - pairs.length) else []
    else (c.rank v bin all).take 17
  if l.length = 17 then some (l.mergeSort fun a b => decide (a ≤ b)) else none

/-- The lowest FREE tract of a bin on a plane of a die; plane = tract mod 4 (R210). -/
def Cds.planeTract (c : Cds) (v : AllocEnv) (die bin plane : Nat) : Option Nat :=
  ((List.range 4096).map fun k => k * 4 + plane).find? fun t =>
    let x := c.tract (tractKey die t)
    x.st == .free && wearBin v.wmin v.width x.resets == bin

/-- Take a FREE tract of a bin from a die: planes in rotation from the pointer, which advances by one (R175). -/
def Cds.takeTract (c : Cds) (v : AllocEnv) (die bin : Nat) : Option (Nat × Cds) :=
  let ptr := mapGet (fun _ => 0) c.planes die
  match ((List.range 4).map fun k => (ptr + k) % 4).findSome? fun p => c.planeTract v die bin p with
  | some t =>
    some (t, { (c.onTract (tractKey die t) fun x => { x with st := .allocated }) with
      planes := mapSet (fun _ => 0) c.planes die ((ptr + 1) % 4) })
  | none => none

/-- Take one tract on each channel of a list. -/
def Cds.takeOn (c : Cds) (v : AllocEnv) (bin : Nat) : List Nat → Option (List (Nat × Nat × Nat) × Cds)
  | [] => some ([], c)
  | ch :: rest =>
    match c.bestDie v ch bin with
    | none => none
    | some (die, _) =>
      match c.takeTract v die bin with
      | none => none
      | some (t, c) => (c.takeOn v bin rest).map fun r => ((ch, die % 4, t) :: r.1, r.2)

/-- The bins in the order of a use: young first for log, stream, dump, checkpoint and hot merges; worn first for other
merges and wear moves (R175). -/
def binOrder (young : Bool) : List Nat := if young then List.range 8 else (List.range 8).reverse

/-- The members of a new band, from the first bin that can give it (R175; log entry 19). -/
def Cds.formMembers (c : Cds) (v : AllocEnv) (young mirror : Bool) : Option (List (Nat × Nat × Nat) × Cds) :=
  (binOrder young).findSome? fun bin => (c.pickChannels v bin mirror).bind fun l => c.takeOn v bin l

/-- FREE tracts. -/
def Cds.freeTracts (c : Cds) (p : Plat) : Nat :=
  p.tractCount - (c.tracts.filter fun e => e.2.st != .free).length

/-- A band to form, with its ID. A use that may not draw on the merge reserve leaves 34 FREE tracts (R178). `stamps`: the
weighted clocks of the dies, recorded for the members (R254). -/
def Cds.formBand (c : Cds) (v : AllocEnv) (stamps : List Nat) (role : BandRole) (ordinal : Option Nat) (plot : Nat)
    (young mirror reserve : Bool) (now : Nat) : Option (Nat × Band) :=
  if c.freeTracts v.plat < 17 + (if reserve then 0 else c.mergeReserve) then none
  else (c.formMembers v young mirror).map fun r =>
    (freshId 0 c.bands,
     { role := role, members := r.1, ordinal := ordinal, used := 0, plot := plot, lastAt := now, missing := [],
       bornAt := r.1.map fun m => stamps.getD (m.1 * 4 + m.2.1) 0, annealPlanned := false, annealDue := false })

/-- A formed band enters the band table: its tracts are ALLOCATED and each die's plane pointer advances (R175). -/
def Cds.addBand (c : Cds) (id : Nat) (b : Band) : Cds :=
  let c := b.members.foldl (fun (c : Cds) m =>
    let die := m.1 * 4 + m.2.1
    let next := (mapGet (fun _ => 0) c.planes die + 1) % 4
    { (c.onTract (tractKey die m.2.2) fun x => { x with st := .allocated }) with planes := mapSet (fun _ => 0) c.planes die next }) c
  { c with bands := mapInsert c.bands id b }

/-! Pages of the cadastre region (Table CDS-1, in its order; log entry 18). -/

def pageOfRecord (slot : Nat) : Nat := slot * 16 / 4096
def Plat.pageBase (p : Plat) : Nat := p.ordinals * 8192 * 16 / 4096
def Plat.pagesOfBucket (p : Plat) (b : Nat) : List Nat :=
  [p.pageBase + b * 4 / 4096, p.pageBase + p.buckets * 4 / 4096 + b * 4 / 4096]
def Plat.pageOfTract (p : Plat) (k : Nat) : Nat := p.pageBase + 2 * (p.buckets * 4 / 4096) + k * 16 / 4096
def Plat.pageOfBand (p : Plat) (id : Nat) : Nat := p.pageBase + 2 * (p.buckets * 4 / 4096) + 8192 + id * 64 / 4096
def Plat.pageOfPlot (p : Plat) (i : Nat) : Nat := p.pageBase + 2 * (p.buckets * 4 / 4096) + 8192 + 2048 + i * 8 / 4096

/-- Insert into a rising list without repeats. -/
def insertUniq (n : Nat) : List Nat → List Nat
  | [] => [n]
  | x :: xs => if n < x then n :: x :: xs else if n = x then x :: xs else x :: insertUniq n xs

/-- A map commit is persistent in the cadastre region while ARMED with a nonzero budget (R166). -/
def State.lazyMap (s : State) : Bool := s.pwr.bank == .armed && decide (0 < s.stg.budget)

/-- One map commit: its change is counted in the dirty pages, or journaled, when it also reaches the saved image (R165,
R166). -/
def State.mapCommit (s : State) (pages : List Nat) (f : Cds → Cds) : State :=
  let s := (s.pmc 0x4004 0 1 pmcNone).collect 34
  if s.lazyMap then s.modCds fun c =>
    let d := f c
    { d with dirtyPages := pages.foldl (fun l n => insertUniq n l) d.dirtyPages }
  else
    let s := s.modCds fun c =>
      let d := f c
      { d with journal := d.journal + 1 }
    s.modSaved fun v => { v with cds := f v.cds }

/-- A change of the map that reaches the saved image when changes are journaled. -/
def State.modMap (s : State) (f : Cds → Cds) : State :=
  let s := s.modCds f
  if s.lazyMap then s else s.modSaved fun v => { v with cds := f v.cds }

/-! Log records (R160, R165). -/

/-- Take a slot out of its bucket's chain. -/
def Cds.unlink (c : Cds) (p : Plat) (slot parcel : Nat) : Cds :=
  let b := p.bucket parcel
  let l := (mapGet (fun _ => []) c.chains b).filter (· != slot)
  { c with chains := mapSet (fun _ => []) c.chains b l }

/-- Live records of a plot: slots and records. -/
def Cds.plotRecords (c : Cds) (plot : Nat) : List (Nat × LogRec) :=
  c.records.filter fun e => e.2.live && parcelPlot e.2.parcel == plot

/-- LOG_PARCELS and LOGGED follow the live records. -/
def Cds.recount (c : Cds) (plot : Nat) : Cds :=
  let n := (c.plotRecords plot).length
  c.onPlot plot fun e => { e with logParcels := n, logged := decide (0 < n) }

/-- Clear the bits of `mask` in one older record; unlink it when none is left. -/
def Cds.clearOlder (c : Cds) (p : Plat) (slot : Nat) (mask : Quad) : Cds :=
  match mapFind c.records slot with
  | some r =>
    let m := r.mask &&& ~~~ mask
    let c := { c with records := mapInsert c.records slot { r with mask := m, live := m != 0 } }
    if m = 0 then c.unlink p slot r.parcel else c
  | none => c

/-- HEAT rises by 1 for every 512 log parcels (R175). -/
def PlotEnt.warm (e : PlotEnt) : PlotEnt :=
  if 511 ≤ e.heatCnt then { e with heatCnt := 0, heat := min 15 (e.heat + 1) } else { e with heatCnt := e.heatCnt + 1 }

/-- Write a record at the head of its chain and clear its lines in every older record of the parcel (R165 step 3). -/
def Cds.commitRecord (c : Cds) (p : Plat) (slot parcel : Nat) (mask : Quad) (zero : Bool) : Cds :=
  let old := (c.records.filter fun e => e.2.live && e.2.parcel == parcel && e.1 != slot).map (·.1)
  let c := old.foldl (fun c k => c.clearOlder p k mask) c
  let plot := parcelPlot parcel
  let r : LogRec := { mask := mask, live := true, zero := zero, postCut := (c.plot plot).merging, parcel := parcel }
  let b := p.bucket parcel
  let chain := (mapGet (fun _ => []) c.chains b).filter (· != slot)
  let c := { c with records := mapInsert c.records slot r, chains := mapSet (fun _ => []) c.chains b (slot :: chain) }
  (c.onPlot plot PlotEnt.warm).recount plot

/-- The pages a record's commit touches. -/
def Cds.recordPages (c : Cds) (p : Plat) (slot parcel : Nat) : List Nat :=
  ((c.records.filter fun e => e.2.live && e.2.parcel == parcel).map fun e => pageOfRecord e.1) ++
    [pageOfRecord slot, p.pageOfPlot (parcelPlot parcel)] ++ p.pagesOfBucket (p.bucket parcel)

/-! Obsolete tracts (R172). -/

/-- The lines of a set of tracts leave the medium: they are reset. -/
def State.eraseTract (s : State) (k : Nat) : State :=
  (s.modMed fun m => m.filter fun e => keyTract e.1 != k).modTrv fun t =>
    { t with programmed := t.programmed.filter fun e => e.1 / 512 != k }

/-- A band's tracts become OBSOLETE, those of a lost die RETIRED, and the band leaves the table (R172, R265). Dead records
of its ordinal go with it. -/
def Cds.dropBand (c : Cds) (gone : List Nat) (id : Nat) : Cds :=
  match c.band id with
  | none => c
  | some b =>
    let c := b.tracts.foldl (fun c k => c.onTract k fun t =>
      { t with st := if t.st == .retired || gone.contains (k / 16384) then .retired else .obsolete }) c
    let c := match b.ordinal with
      | some o => { c with records := c.records.filter fun e => e.1 / 8192 != o }
      | none => c
    { c with bands := mapErase c.bands id, openLogs := c.openLogs.filter (· != id), fullLogs := c.fullLogs.filter (· != id),
             openStreams := c.openStreams.filter (· != id) }

/-- The pages of a band and its tracts. -/
def Plat.pagesOfBand (p : Plat) (id : Nat) (b : Band) : List Nat := p.pageOfBand id :: b.tracts.map p.pageOfTract

def Cds.bandPages (c : Cds) (p : Plat) (id : Nat) : List Nat :=
  match c.band id with
  | some b => p.pagesOfBand id b
  | none => []

/-- The reset tasks of a band's tracts (Table CDS-5, priority 4). -/
def Cds.addWork (c : Cds) (k : WorkKind) (prio : Nat) (deadline : Option Nat) : Cds :=
  if c.work.any fun w => w.kind == k then
    { c with work := c.work.map fun w => if w.kind == k then { w with prio := min w.prio prio } else w }
  else
    { c with work := c.work ++ [{ kind := k, prio := prio, deadline := deadline, born := c.workBorn, gateCounted := false,
                                  lateCounted := false }], workBorn := c.workBorn + 1 }

def Cds.resetWork (c : Cds) (tracts : List Nat) : Cds :=
  tracts.foldl (fun c k =>
    if (c.tract k).st == .obsolete then
      c.addWork (.resetTract (k / 16384 / 4) (k / 16384 % 4) (k % 16384)) 4 none
    else c) c

/-- Live records in an ordinal. -/
def Cds.liveIn (c : Cds) (ordinal : Nat) : Nat := (c.records.filter fun e => e.2.live && e.1 / 8192 == ordinal).length

/-- Full log bands with no live record are reclaimed: their tracts become OBSOLETE, and their ordinal goes to the spares
until DUMP_BANDS are there, else to the free ones (R169, R184). -/
def Cds.reclaim (c : Cds) (p : Plat) (gone : List Nat) : Cds :=
  c.fullLogs.foldl (fun c id =>
    match c.band id with
    | some b =>
      match b.ordinal with
      | some o =>
        if c.liveIn o = 0 then
          let t := b.tracts
          let c := (c.dropBand gone id).resetWork t
          if c.ordinalsSpare.length < p.dumpBands then { c with ordinalsSpare := c.ordinalsSpare ++ [o] }
          else { c with ordinalsFree := c.ordinalsFree ++ [o] }
        else c
      | none => c
    | none => c) c

/-! Log capacity (R169, Table CDS-4). -/

/-- Log bands of the image, and those in use. -/
def State.logBands (s : State) : Nat := (layoutOf s.conf).log
def Cds.logUsed (c : Cds) : Nat := c.openLogs.length + c.openStreams.length + c.fullLogs.length
def State.freeLog (s : State) : Nat := s.cds.ordinalsFree.length
def State.freeLogPct (s : State) : Nat := s.freeLog * 100 / max 1 s.logBands
def State.logCritNow (s : State) : Bool := decide (s.freeLog * 100 < s.conf.logCrit * s.logBands)
def State.logFloorNow (s : State) : Bool := decide (s.freeLog ≤ s.regNat Reg.CDS_LOG_FLOOR)

/-- Full log bands whose plots can be merged, or an open band R169 can close (R183). -/
def Cds.mergeable (c : Cds) : Bool :=
  !c.fullLogs.isEmpty || (c.openLogs ++ c.openStreams).any fun id =>
    match (c.band id).bind (·.ordinal) with
    | some o => decide (0 < c.liveIn o)
    | none => false

/-- FREE, OBSOLETE and RESETTING tracts outside the merge reserve can form one band (R183). -/
def State.bandFormable (s : State) : Bool :=
  let v := s.allocEnv
  let bound (ch : Nat) : Nat :=
    ((v.dies ch).map fun d => 16384 - (s.cds.tracts.filter fun e => e.1 / 16384 == d &&
      (e.2.st == .allocated || e.2.st == .retired)).length).sum
  let l := v.plat.logical.map bound
  decide (17 ≤ (l.filter fun n => decide (0 < n)).length) && decide (17 + s.cds.mergeReserve ≤ l.sum)

/-- The READONLY condition and its cause (R183, CDS_RO_STAT). -/
def State.roCause (s : State) : Nat := (if s.bandFormable then 0 else 1) + (if s.cds.mergeable then 0 else 2)

/-- The cadastre can produce a free tract (R183). -/
def State.canFree (s : State) : Bool := s.roCause != 3

end Sys2Proof.Machine
end

