-- ==== Sys2Proof/Machine/Inline.lean ====
section
/-! DEFINITION. Inline encryption and integrity: key generations and boundaries (R351, R355 to R360), counters and their
reservations (R326 to R332), seals (log entry 9), quarantine (R351 to R354), poison (R78, R348), lanes (R343, R344) and the
tree's root (R334 to R336). -/

namespace Sys2Proof.Machine

/-! Poison list (R78, R348). Lines are device lines, rising. -/

def State.addPoison (s : State) (line : Nat) : State := s.modSvc fun v => { v with poison := insertUniq line v.poison }

def State.dropPoison (s : State) (line : Nat) : State :=
  s.modSvc fun v => { v with poison := v.poison.filter (· != line), injected := v.injected.filter (· != line) }

def State.isPoison (s : State) (line : Nat) : Bool := s.svc.poison.contains line

/-! Key generations. -/

def rekeyInit : Rekey := { cur := 1, active := false, deed := false, boundary := 0, queued := false, locked := false }

def Ime.rekey (m : Ime) (h : Nat) : Rekey := mapGet (fun _ => rekeyInit) m.rekeys h

def Ime.onRekey (m : Ime) (h : Nat) (f : Rekey → Rekey) : Ime :=
  { m with rekeys := mapSet (fun _ => rekeyInit) m.rekeys h (f (m.rekey h)) }

def ctrInit : CtrBlock := { major := 0, minors := [], exh := false, warn := false, quar := false, gen := 1 }

/-- The counter block of a group (parcel). -/
def Ime.block (m : Ime) (g : Nat) : CtrBlock := mapGet (fun _ => ctrInit) m.ctr g

def CtrBlock.minor (b : CtrBlock) (n : Nat) : Nat := mapGet (fun _ => 0) b.minors n

/-- The quarantine entry that covers a line. -/
def Ime.quarOf (m : Ime) (line : Nat) : Option QuarEnt :=
  m.quar.find? fun e => decide (e.base ≤ line) && decide (line < e.base + e.len)

/-- The generation a line's group uses (key_generation of the Re-key section). -/
def State.keyGen (s : State) (line : Nat) : Nat :=
  match holdingOfParcel s.conf (line / 64) with
  | none => 0
  | some (h, base, _) =>
    let r := s.ime.rekey h.id
    if h.integrity && (s.ime.block (line / 64)).quar then ((s.ime.quarOf line).map (·.qgen)).getD r.cur
    else if r.active && decide (line / 64 - base < r.boundary) then r.cur + 1 else r.cur

/-- The seal that opens a line now (R326 to R328). -/
def State.openSeal (s : State) (line : Nat) : Seal :=
  match s.conf.holdingOfLine line with
  | none => { gen := 0, major := 0, minor := 0, line := line }
  | some h =>
    if h.integrity then
      let b := s.ime.block (line / 64)
      { gen := s.keyGen line, major := b.major, minor := b.minor (line % 64), line := line }
    else { gen := s.keyGen line, major := 0, minor := 0, line := line }

/-- The counter value of an encryption of a line: one above the committed value and any reservation; (0, 0) for the first
under a new generation (R329, R356). -/
def State.nextValue (s : State) (line : Nat) : Nat × Nat :=
  let b := s.ime.block (line / 64)
  if b.gen != s.keyGen line && !(s.ime.pct.any fun e => e.1 == line) then (0, 0)
  else
  let c := if b.gen != s.keyGen line then (0, 0) else (b.major, b.minor (line % 64))
  let best := (s.ime.pct.filter fun e => e.1 == line).foldl (fun (a : Nat × Nat) e =>
    if a.1 < e.2.1 || (a.1 == e.2.1 && decide (a.2 < e.2.2)) then (e.2.1, e.2.2) else a) c
  (best.1, best.2 + 1)

/-- Minor counters pass 127 when the lines of a mask are sealed (R330). -/
def State.wraps (s : State) (parcel : Nat) (mask : Quad) : Bool :=
  (Quad.bits mask).any fun n => decide (127 < (s.nextValue (parcel * 64 + n)).2)

/-- Room in the pending counter table for the lines of a mask (R329). -/
def State.pctRoom (s : State) (parcel : Nat) (mask : Quad) : Bool :=
  let fresh := (Quad.bits mask).filter fun n => !(s.ime.pct.any fun e => e.1 == parcel * 64 + n)
  decide (s.ime.pct.length + fresh.length ≤ 8192)

/-- Seal a line for the medium, reserving its value (R326 to R329). A metadata or device line is sealed under XM1, XM2. -/
def State.sealLine (s : State) (line : Nat) : State × Seal :=
  match s.conf.holdingOfLine line with
  | none => (s, { gen := 0, major := 0, minor := 0, line := line })
  | some h =>
    if h.integrity then
      let v := s.nextValue line
      (s.modIme fun m => { m with pct := m.pct.filter (fun e => e.1 != line) ++ [(line, v.1, v.2)] },
       { gen := s.keyGen line, major := v.1, minor := v.2, line := line })
    else (s, { gen := s.keyGen line, major := 0, minor := 0, line := line })

/-! Tree and root (R334 to R336). -/

/-- The top level and the nodes there for a number of counter blocks; `fuel` bounds the levels. -/
def treeTop : Nat → Nat → Nat → Nat × Nat
  | 0, k, n => (k, n)
  | fuel + 1, k, n => if n ≤ 8 ∧ 1 ≤ k then (k, n) else treeTop fuel (k + 1) (ceilDiv n 8)

/-- Counter blocks of a configuration: one to a parcel of the integrity holdings. -/
def Plat.ctrBlocks (p : Plat) : Nat := ((p.holdings.filter (·.integrity)).map (·.units)).sum * 524288

/-- Top level K and root entries in use (R334, IME_TREE_CFG). -/
def Plat.tree (p : Plat) : Nat × Nat := if p.ctrBlocks = 0 then (0, 0) else treeTop 16 0 p.ctrBlocks

/-- The root entry that covers integrity group g. -/
def Plat.rootEntry (p : Plat) (g : Nat) : Nat := g / 8 ^ p.tree.1

/-- A change of a group reaches the root and dirties the metadata parcels on its path (R342, R345). -/
def State.touchTree (s : State) (parcel : Nat) : State :=
  match s.conf.integrityIndex parcel with
  | none => s
  | some g =>
    let j := s.conf.rootEntry g
    let lazy := s.lazyMap
    let meta_ := s.conf.metaParcels g
    let s := s.modIme fun m =>
      { m with rootSeq := m.rootSeq + 1, root := listSet m.root j (Config.treeEntry (m.rootSeq + 1) j),
               metaDirty := if lazy then meta_.foldl (fun l n => insertUniq n l) m.metaDirty else m.metaDirty }
    if lazy then s else s.modSaved fun v => { v with root := s.ime.root }

/-- A counter block changes; the saved image follows when the change is journaled (R345, R336). -/
def State.onBlock (s : State) (parcel : Nat) (f : CtrBlock → CtrBlock) : State :=
  let b := f (s.ime.block parcel)
  let s := s.modIme fun m => { m with ctr := mapSet (fun _ => ctrInit) m.ctr parcel b }
  if s.lazyMap then s
  else s.modSaved fun v => { v with ctr := mapSet (fun _ => ctrInit) v.ctr parcel b }

/-! Events of the block. -/

/-- The last security or integrity event (IME_SEC_ADDR, IME_SEC_INFO). -/
def State.secInfo (s : State) (code line level : Nat) : State :=
  (s.setPair Reg.IME_SEC_ADDR_LO (line * 64)).setNat Reg.IME_SEC_INFO (code + level * 65536)

/-- An IME_ERR_STAT flag. -/
def State.imeFlag (s : State) (n : Nat) (listed : Bool) : State := s.flag Reg.IME_ERR_STAT Reg.IME_ERR_EN n listed

/-- A tamper alarm (R346). -/
def State.tamper (s : State) (bit code line level : Nat) : State :=
  (((s.setBits Reg.IME_SEC_STAT (2 ^ bit)).incReg Reg.IME_TAMPER_CNT).secInfo code line level).raise code (line * 64) level

/-! Re-key start (R355). -/

/-- The holding of an id. -/
def Plat.holding (p : Plat) (id : Nat) : Option Holding := p.holdings.find? fun h => h.id == id

/-- A re-key's changes of REKEY state reach the saved image as journaled changes do. -/
def State.onRekey (s : State) (h : Nat) (f : Rekey → Rekey) : State :=
  let s := s.modIme (·.onRekey h f)
  if s.lazyMap then s
  else s.modSaved fun v => { v with rekeys := mapSet (fun _ => rekeyInit) v.rekeys h (s.ime.rekey h) }

/-- Bytes of a number, low byte first, as `Byte`s. -/
def byteList (n : Nat) : Nat → List Byte
  | 0 => []
  | k + 1 => BitVec.ofNat 8 n :: byteList (n / 256) k

/-- The number that a list of bytes spells, low byte first. -/
def bytesNat : List Byte → Nat
  | [] => 0
  | b :: rest => b.toNat + 256 * bytesNat rest

def Cke.slot (c : Cke) (i : Nat) : KeySlot := c.slots.getD i { key := none, fixed := 0, ctr := 0 }

def Cke.onSlot (c : Cke) (i : Nat) (f : KeySlot → KeySlot) : Cke := { c with slots := listUpd c.slots i f }

/-- The IV that a slot's next operation forms: its fixed field and its invocation counter (R381). -/
def KeySlot.iv (x : KeySlot) : BitVec 96 := BitVec.ofNat 96 (x.fixed.toNat * 2 ^ 64 + x.ctr)

/-- The passphrase key (Table CKE-4): derived from the KEK with the hash of the passphrase. -/
def State.passKey (s : State) (p : BitVec 256) : BitVec 256 :=
  Config.kdf ((s.cke.slot 2).key.getD 0) 5 (byteList (Config.sha384 (byteList p.toNat 32)).toNat 48)

/-- The KEK's counter advances; the next block of 65,536 values is reserved before the current one is used up (R381). -/
def State.useKek (s : State) : State :=
  let s := s.modCke (·.onSlot 2 fun x => { x with ctr := x.ctr + 1 })
  let asked := (s.pst.queue.any fun o => match o with | .tally 4 _ => true | _ => false) ||
    match s.pst.run with | some r => (match r.op with | .tally 4 _ => true | _ => false) | none => false
  if s.cke.kekReserved < (s.cke.slot 2).ctr + 32768 && !asked then
    s.modPst fun p => { p with queue := p.queue ++ [PstOp.tally 4 1] }
  else s

/-- The header of a key-wrap record: its bytes 0 to 7, the AAD (Table CKE-3). -/
def wrapHeader (keyRef flags wrapKey gen : Nat) : List Byte := byteList (keyRef + 256 * (flags + 256 * (wrapKey + 256 * (256 * gen)))) 8

/-- Wrap a key under the KEK or, where `pass` is given, under the passphrase key (R376, R381, Table CKE-3). A destroyed
record carries zeros. -/
def State.wrapKey (s : State) (keyRef gen : Nat) (pass : Option (BitVec 256)) (key : Option (BitVec 256)) : State × WrapRec :=
  let kek := s.cke.slot 2
  let (k, iv) := match pass with
    | some p => (s.passKey p, BitVec.ofNat 96 ((Config.freeWord s.free).toNat * 2 ^ 64))
    | none => (kek.key.getD 0, kek.iv)
  let hdr := wrapHeader keyRef (if key.isSome then 0 else 1) (if pass.isSome then 1 else 0) gen
  let ct := match key with
    | some d => Config.gcmCrypt k iv (byteList d.toNat 32)
    | none => List.replicate 32 0
  let s := if pass.isSome then s.useFree else s.useKek
  (s, { keyRef := keyRef, gen := gen, underPk := pass.isSome, present := key.isSome, iv := iv,
        wrapped := BitVec.ofNat 256 (bytesNat ct), tag := Config.gcmTag k iv hdr ct })

/-- The passphrase that wraps a holding's keys (R38, R377). -/
def State.holdingPass (s : State) (h : Holding) : Option (BitVec 256) := if h.passlock then s.svc.security.passphrase else none

/-- A fresh key of a holding's generation, wrapped (R355, R375, Table CKE-5). -/
def State.freshKey (s : State) (h : Holding) (gen : Nat) : State × WrapRec :=
  let d := Config.random256 s.free
  let s := (s.modCke fun c => { c with rngRequests := c.rngRequests + 1 }).useFree
  s.wrapKey h.keyRef gen (s.holdingPass h) (some d)

/-- Queue the deed of a wrap record. -/
def State.queueWrap (s : State) (w : WrapRec) : State :=
  s.modPst fun p => { p with queue := p.queue ++ [PstOp.deed (wrapIndex w) (.keyWrap w)] }

/-- Start or queue a re-key: one runs, one more is queued, others are ignored (R355). -/
def State.startRekey (s : State) (id : Nat) : State :=
  match s.conf.holding id with
  | none => s
  | some h =>
    let r := s.ime.rekey id
    if r.active then
      if r.queued then s else (s.onRekey id fun r => { r with queued := true }).raise 0x9503 (r.cur + 2) id
    else
      let s := s.onRekey id fun r => { r with active := true, deed := false, boundary := 0 }
      let s : State :=
        if s.cke.rngFail then s
        else
          let (s, w) := s.freshKey h (r.cur + 1)
          s.queueWrap w
      ((s.setBits Reg.IME_INT_STAT 2).modCds (·.addWork .rekey 6 none)).raise 0x9501 (r.cur + 1) id

/-! Quarantine (R351 to R353). -/

/-- Lines first and length of the holding of a line. -/
def Plat.holdingLines (p : Plat) (line : Nat) : Nat × Nat :=
  match holdingOfParcel p (line / 64) with
  | some (_, b, n) => (b * 64, n * 64)
  | none => (line, 1)

/-- Put a region into quarantine: its entry and generation, fresh counter blocks for a small region, a re-key (R351 to
R353). -/
def State.quarantine (s : State) (base len : Nat) (tamper : Bool) : State :=
  match s.conf.holdingOfLine base with
  | none => s
  | some h =>
    if s.ime.quar.any fun e => decide (e.base ≤ base) && decide (base + len ≤ e.base + e.len) then s
    else
      let r := s.ime.rekey h.id
      let (hb, hn) := s.conf.holdingLines base
      let full := decide (256 ≤ s.ime.quar.length)
      let below := r.active && decide (base / 64 - hb / 64 < r.boundary)
      let e : QuarEnt := { base := if full then hb else base, len := if full then hn else len, holding := h.id,
                           tamper := tamper, qgen := if below then r.cur + 2 else r.cur + 1,
                           large := decide (4096 < len) || full, whole := full, writeHold := below }
      let s := s.modIme fun m => { m with quar := if full then m.quar.take 255 ++ [e] else m.quar ++ [e] }
      let s := if full then s.imeFlag 7 false else s
      let s := if e.large then s
        else (List.range (ceilDiv len 64)).foldl (fun s k =>
          (s.onBlock (base / 64 + k) fun _ => { ctrInit with quar := true, gen := e.qgen }).touchTree (base / 64 + k)) s
      let s := if s.lazyMap then s else s.modSaved fun v => { v with quar := s.ime.quar }
      if r.active && !below then s else s.startRekey h.id

/-- Reads of a line give poison under quarantine (R352, R353). -/
def State.quarPoison (s : State) (line : Nat) : Bool :=
  let b := s.ime.block (line / 64)
  match s.ime.quarOf line with
  | some e => if e.large then true else b.quar && b.minor (line % 64) == 0
  | none => false

/-- Writes to a line are refused under quarantine; partial ones also where it reads as poison (R347, R351 to R353). -/
def State.quarRefuses (s : State) (line : Nat) (partial_ : Bool) : Bool :=
  match s.ime.quarOf line with
  | some e => e.large || e.writeHold || (partial_ && s.quarPoison line)
  | none => false

/-! Commit of counters (R331, R332, R345). -/

/-- Groups with WARN and with EXH. -/
def Ime.warned (m : Ime) : Nat := (m.ctr.filter fun e => e.2.warn).length
def Ime.exhausted (m : Ime) : Nat := (m.ctr.filter fun e => e.2.exh).length

/-- The alarms of a group's MAJOR (R331, R332). -/
def State.majorAlarms (s : State) (parcel : Nat) : State :=
  let b := s.ime.block parcel
  let s := if 2 ^ 56 - 2 ^ 20 ≤ b.major ∧ !b.warn then
      let s := s.onBlock parcel fun b => { b with warn := true }
      let s := (s.imeFlag 2 true).raise 0x9301 (parcel * 4096) 0
      match s.conf.holdingOfLine (parcel * 64) with
      | some h => s.startRekey h.id
      | none => s
    else s
  if b.major = 2 ^ 56 - 1 ∧ !b.exh then
    ((s.onBlock parcel fun b => { b with exh := true }).imeFlag 3 true).raise 0x9302 (parcel * 4096) 0
  else s

/-- The sealed values of a parcel's lines take effect with their record (R345): the block takes the values, reservations
up to them end, the path to the root changes. -/
def State.commitSeals (s : State) (parcel : Nat) (seals : List (Nat × Seal)) : State :=
  match s.conf.integrityIndex parcel, seals with
  | none, _ => s
  | _, [] => s
  | some _, (_, x) :: _ =>
    let s := s.onBlock parcel fun b =>
      let b := if b.major = x.major && b.gen = x.gen then b
        else { b with major := x.major, minors := [], gen := x.gen, warn := b.warn && b.gen = x.gen,
                      exh := b.exh && b.gen = x.gen }
      { b with minors := seals.foldl (fun m e => mapSet (fun _ => 0) m e.1 e.2.minor) b.minors }
    let s := s.modIme fun m =>
      { m with pct := m.pct.filter fun e => !(seals.any fun x =>
          e.1 == parcel * 64 + x.1 && (decide (e.2.1 < x.2.major) || (e.2.1 == x.2.major && decide (e.2.2 ≤ x.2.minor)))) }
    (s.touchTree parcel).majorAlarms parcel

/-! The medium's lines. -/

/-- A line's copy stands at a place (log entry 30). -/
def State.programLine (s : State) (key : Nat) (m : MedLine) : State := s.modMed fun x => mapInsert x key m

/-- What a medium copy reads as. -/
inductive MedRead
  | data (l : Line)
  | poison
  | mismatch
  deriving DecidableEq, Repr

/-- Open the copy at a place as line `line`: its data under the seal in force, poison where it carries the mark or the
line is listed or quarantined, a mismatch under any other seal. A line of a plot band that was never programmed reads as
zero (log entry 20). -/
def State.openPlace (s : State) (line key : Nat) : MedRead :=
  if s.quarPoison line then .poison
  else match mapFind s.med key with
    | none => .data 0
    | some m =>
      if m.poison || s.isPoison line then .poison
      else if m.under == s.openSeal line || !isHostParcel (line / 64) then .data m.data else .mismatch

/-- The newest medium copy of a line, opened. -/
def State.readLine (s : State) (line : Nat) : MedRead :=
  if s.isPoison line || s.quarPoison line then .poison
  else match (s.cds.lookup s.conf line).1 with
    | .zero => .data 0
    | .rebuilding => .poison
    | .place k _ => s.openPlace line k

/-- A line has a medium copy (R330). -/
def State.hasCopy (s : State) (line : Nat) : Bool :=
  match (s.cds.lookup s.conf line).1 with
  | .place k _ => (mapFind s.med k).isSome
  | _ => false

/-! Lanes (R343, R344). -/

/-- A mismatch on lane i (0, 1 write; 2, 3 read): with two within 1 s the lane is retired, unless it is the last of its
kind (R344). -/
def State.laneMiss (s : State) (i : Nat) : State :=
  let now := s.nowNs
  let near := ((s.ime.misses.getD i []).filter fun t => decide (now ≤ t + 1000000000)) ++ [now]
  let s := s.modIme fun m => { m with misses := listSet m.misses i near }
  let other := if i % 2 = 0 then i + 1 else i - 1
  if 2 ≤ near.length && s.ime.lanes.getD i false && s.ime.lanes.getD other false then
    ((s.modIme fun m => { m with lanes := listSet m.lanes i false }).imeFlag 5 true).raise 0x9402 i i
  else s

/-- An inverse check failed on a write lane: the line runs on the other one (R343, R344). -/
def State.inverseMiss (s : State) (line lane : Nat) : State :=
  (((s.imeFlag 4 true).incReg Reg.IME_INV_FAIL).raise 0x9401 (line * 64) lane).laneMiss lane

/-- The inverse checks of a parcel's lines that failed: line index and lane. -/
def State.inverseMisses (s : State) (parcel : Nat) (l : List (Fin 64 × Fin 2)) : State :=
  l.foldl (fun s e => s.inverseMiss (parcel * 64 + e.1.val) e.2.val) s

/-- A line that failed three times on the last write lane; none while both lanes serve (R344). -/
def State.inverseStuck (s : State) (parcel : Nat) (n : Option (Fin 64)) : Option Nat :=
  if s.ime.lanes.getD 0 false && s.ime.lanes.getD 1 false then none else n.map fun k => parcel * 64 + k.val

/-- INVERSE_STUCK (R344). -/
def State.stick (s : State) (line : Nat) : State :=
  ((s.imeFlag 8 true).raise 0x9403 (line * 64) 0).modIme fun m => { m with stuck := insertUniq line m.stuck }

end Sys2Proof.Machine
end

