-- ==== Sys2Proof/Machine/Stage.lean ====
section
/-! DEFINITION. Staging's shared operations: frames and their allocation (R123, R134, R152, R153), the slot of a write-back
(R164), its start and its commit (R131, R132, R165, R330, R345), stripes (R245), the end of drains and clean-alls (R145),
READONLY (R153 to R155, R183) and the merge triggers of the log (Table CDS-4). -/

namespace Sys2Proof.Machine

/-! Frames. -/

def frameInit : Frame :=
  { st := .free, holding := 0, parcel := 0, valid := 0, dirty := 0, poison := 0, ref := false, wb := false, ue := false,
    fromReserve := false, data := [] }

def Stg.frame (g : Stg) (i : Nat) : Frame := mapGet (fun _ => frameInit) g.frames i

def Stg.onFrame (g : Stg) (i : Nat) (f : Frame → Frame) : Stg :=
  { g with frames := mapSet (fun _ => frameInit) g.frames i (f (g.frame i)) }

/-- The frame that holds a parcel (R123). -/
def Stg.find (g : Stg) (parcel : Nat) : Option (Nat × Frame) :=
  g.frames.find? fun e => e.2.st == .inUse && e.2.parcel == parcel

def Frame.line (f : Frame) (n : Nat) : Line := mapGet (fun _ => 0) f.data n

def Frame.setLine (f : Frame) (n : Nat) (l : Line) : Frame := { f with data := mapSet (fun _ => 0) f.data n l }

/-- Frames in service: the reserve is the last 16,384 (R152; log entry 21). -/
def Stg.serviceFrames (g : Stg) : Nat := g.count - 16384

/-- STG_FREE. -/
def Stg.free (g : Stg) : Nat := (g.serviceFrames - g.freeNext) + g.freeTail.length

/-- Give out the next frame of the free list. -/
def Stg.popFree (g : Stg) : Option (Nat × Stg) :=
  if g.freeNext < g.serviceFrames then some (g.freeNext, { g with freeNext := g.freeNext + 1 })
  else match g.freeTail with
    | i :: rest => some (i, { g with freeTail := rest })
    | [] => none

/-- A reserve frame not yet taken (R153). -/
def Stg.popReserve (g : Stg) : Option (Nat × Stg) :=
  (((List.range (min 16384 g.count)).map fun k => g.serviceFrames + k).find? fun i => (g.frame i).st == .free).map
    fun i => (i, g)

/-- A frame for a parcel: from the reserve for a write in READONLY, else from the free list (R134, R153). -/
def State.allocFrame (s : State) (parcel : Nat) (write : Bool) : Option (Nat × State) :=
  let h := ((holdingOfParcel s.conf parcel).map (·.1.id)).getD 0
  let res := write && s.stg.rsvActive
  (if res then s.stg.popReserve else s.stg.popFree).map fun r =>
    let g := r.2.onFrame r.1 fun _ => { frameInit with st := .inUse, holding := h, parcel := parcel, fromReserve := res }
    (r.1, s.modStg fun _ => { g with rsvLeft := if res then g.rsvLeft - 1 else g.rsvLeft })

/-- A frame goes back to the free list; a reserve frame goes back to the reserve (R155). -/
def Stg.freeFrame (g : Stg) (i : Nat) : Stg :=
  let g' := { g with frames := mapErase g.frames i }
  if i < g.serviceFrames then { g' with freeTail := g.freeTail ++ [i] } else g'

/-- The write-back table entry of a parcel. -/
def Stg.wbOf (g : Stg) (parcel : Nat) : Option Wb := g.wbt.find? fun w => w.parcel == parcel

/-! Stripes (R245). -/

/-- Open the stripe of a slot; none when the stripe table is full. -/
def State.openStripe (s : State) (band j : Nat) : Option State :=
  if s.mdc.stripes.contains (band, j) then some s
  else if 16384 ≤ s.mdc.stripes.length then none
  else some (s.modMdc fun m => { m with stripes := m.stripes ++ [(band, j)] })

/-- No slot of a stripe can take a further line: its slots are taken, no write-back of them runs, none is an open
write-through slot; or the band is closed (R245). -/
def State.stripeDone (s : State) (band j : Nat) : Bool :=
  match s.cds.band band with
  | none => true
  | some b =>
    let o := b.ordinal.getD 0
    let mine (slot : Nat) : Bool := slot / 8192 == o && slot % 8192 / 16 == j
    let busy := s.stg.wbt.any (fun w => w.band == band && mine w.slot) || s.cds.wtSlots.any fun w => mine w.slot
    !busy && (decide (16 * (j + 1) ≤ b.used) || b.role == .logFull)

/-- Close the stripes that can take no further line: their parity is programmed and their entries are freed (R245). -/
def State.closeStripes (s : State) : State :=
  let done := s.mdc.stripes.filter fun e => s.stripeDone e.1 e.2
  s.modMdc fun m => { m with stripes := m.stripes.filter (fun e => !done.contains e), stripeFull := false }

/-! Log bands (R164, R169). -/

/-- Take a free ordinal for a new band of the log. -/
def State.openLogBand (s : State) (stream : Bool) (plot : Nat) : Option (Nat × State) :=
  match s.cds.ordinalsFree with
  | [] => none
  | o :: _ =>
    (s.cds.formBand s.allocEnv s.mdc.clocks (if stream then .stream else .logOpen) (some o) plot true false false s.nowNs).map
      fun r =>
        let pages := s.conf.pagesOfBand r.1 r.2
        let s := s.mapCommit pages fun c =>
          let c := c.addBand r.1 r.2
          let c := { c with ordinalsFree := c.ordinalsFree.filter (· != o) }
          if stream then
            { c.onPlot plot fun e => { e with stream := true, streamBand := r.1 } with openStreams := c.openStreams ++ [r.1] }
          else { c with openLogs := c.openLogs ++ [r.1] }
        (r.1, s)

/-- A band of the log closes and becomes an ordinary full log band (R164, R169). -/
def Cds.closeBand (c : Cds) (id : Nat) : Cds :=
  match c.band id with
  | some b =>
    let c := if b.role == .stream then c.onPlot b.plot fun e => { e with stream := false, streamBand := 0x1FFFF } else c
    let c := c.onBand id fun b => { b with role := .logFull }
    { c with openLogs := c.openLogs.filter (· != id), openStreams := c.openStreams.filter (· != id),
             fullLogs := if c.fullLogs.contains id then c.fullLogs else c.fullLogs ++ [id] }
  | none => c

/-- Close a band; a closed stream band brings a switch or a merge of its plot (Table CDS-4). -/
def State.closeLog (s : State) (id : Nat) : State :=
  match s.cds.band id with
  | some b =>
    let s := s.modMap (·.closeBand id)
    let s := if b.role == .stream then s.modCds (·.addWork (.streamSwitch b.plot id) 3 none) else s
    s.closeStripes
  | none => s

/-- Use slot `k` of a band: its log-space slot. -/
def State.useSlot (s : State) (id k : Nat) : Nat × State :=
  let o := ((s.cds.band id).bind (·.ordinal)).getD 0
  let now := s.nowNs
  let take (c : Cds) : Cds := c.onBand id fun b => { b with used := max b.used (k + 1), lastAt := now }
  let s := s.modBoth take
  (o * 8192 + k, (s.addPair Reg.CDS_LOG_PARCELS_LO 1).modCds fun c => c.waCount (s.nowNs / 1000000000) 1 0)

/-- The ordinary open log band in rotation (R164): up to 4 are kept open. -/
def State.nextLog (s : State) : Option (Nat × State) :=
  let s := if s.cds.openLogs.length < 4 then (s.openLogBand false 0).map (·.2) |>.getD s else s
  let l := s.cds.openLogs
  if l.isEmpty then none
  else
    let id := l.getD (s.cds.rotor % l.length) 0
    some (id, s.modCds fun c => { c with rotor := (c.rotor + 1) % 4 })

/-- The next slot of the ordinary log bands. -/
def State.ordinarySlot (s : State) : Option (Nat × Nat × State) :=
  match s.nextLog with
  | none => none
  | some (id, s) =>
    let k := ((s.cds.band id).map (·.used)).getD 0
    let r := s.useSlot id k
    some (id, r.1, if k + 1 = 8192 then r.2.closeLog id else r.2)

/-- The slot of a parcel in a stream band. -/
def State.streamSlot (s : State) (id q : Nat) : Option (Nat × Nat × State) :=
  let r := s.useSlot id q
  some (id, r.1, r.2)

/-- The slot of a write-back (R164): band and slot. None while write-backs wait at the floor, in READONLY, or without a
band. A slot of a stream band that is already written takes no second write (R211), so such a write-back goes to an
ordinary band. -/
def State.takeSlot (s : State) (parcel : Nat) (full : Bool) : Option (Nat × Nat × State) :=
  if s.stg.rsvActive || s.logFloorNow then none
  else
    let plot := parcelPlot parcel
    let q := parcel % 8192
    let e := s.cds.plot plot
    let taken := match (s.cds.band e.streamBand).bind (·.ordinal) with
      | some o => (mapFind s.cds.records (o * 8192 + q)).isSome || s.stg.wbt.any fun w => w.slot == o * 8192 + q
      | none => true
    if full && e.stream && isHostParcel parcel && !taken then s.streamSlot e.streamBand q
    else if full && q == 0 && !e.stream && decide (s.cds.openStreams.length < 4) && s.bit Reg.CDS_CTL 2 && isHostParcel parcel then
      match s.openLogBand true plot with
      | some (id, s) => s.streamSlot id q
      | none => s.ordinarySlot
    else s.ordinarySlot

/-! Write-back start (R131, R164, R330). -/

/-- Fill into a frame every line of its parcel that has a medium copy and is not VALID, and mark all of them dirty
(R330). -/
def State.fillAll (s : State) (i : Nat) : State :=
  (List.range 64).foldl (fun s n =>
    let f := s.stg.frame i
    let line := f.parcel * 64 + n
    if Quad.at f.valid n then s.modStg (·.onFrame i fun f => { f with dirty := f.dirty ||| oneBit n })
    else if s.hasCopy line then
      match s.readLine line with
      | .data l => s.modStg (·.onFrame i fun f =>
          { (f.setLine n l) with valid := f.valid ||| oneBit n, dirty := f.dirty ||| oneBit n })
      | _ => s.modStg (·.onFrame i fun f =>
          { f with valid := f.valid ||| oneBit n, dirty := f.dirty ||| oneBit n, poison := f.poison ||| oneBit n })
    else s) s

/-- The counter block's group takes MAJOR + 1 for the lines about to be sealed: every reservation moves there (R330). -/
def State.wrapGroup (s : State) (parcel : Nat) : State :=
  let b := s.ime.block parcel
  let s := s.incReg Reg.IME_WRAP_CNT
  s.modIme fun m => { m with pct := m.pct.filter (fun e => e.1 / 64 != parcel) ++
    ((List.range 64).map fun n => (parcel * 64 + n, b.major + 1, 0)) }

/-- Seal the lines of a mask in a parcel, one after another, alternating the write lanes (R326 to R329, R343). `wrapped`:
every line takes the reservation of `wrapGroup`. -/
def State.sealMask (s : State) (parcel : Nat) (mask : Quad) (wrapped : Bool) : State × List (Nat × Seal) :=
  (Quad.bits mask).foldl (fun (a : State × List (Nat × Seal)) n =>
    let s := a.1
    let line := parcel * 64 + n
    let s := (s.pmc 0x9001 s.ime.nextWrite 1 (pmcArg line)).modIme fun m =>
      { m with nextWrite := if m.lanes.getD 0 false && m.lanes.getD 1 false then 1 - m.nextWrite else m.nextWrite }
    if wrapped then
      (s, a.2 ++ [(n, { gen := s.keyGen line, major := (s.ime.block parcel).major + 1, minor := 0, line := line })])
    else
      let (s, x) := s.sealLine line
      (s, a.2 ++ [(n, x)])) (s, [])

/-- Program sealed lines of a frame into a slot. -/
def State.programSlot (s : State) (band slot : Nat) (f : Frame) (seals : List (Nat × Seal)) : State :=
  match s.cds.band band with
  | none => s
  | some b =>
    let s := s.pmc 0x5003 (((b.members[slot % 8192 % 16]?).map (·.1)).getD 0) 1 (pmcArg (f.parcel * 64))
    seals.foldl (fun s e =>
      match b.place (slot % 8192) e.1 with
      | some key => s.programLine key { data := f.line e.1, under := e.2, poison := Quad.at f.poison e.1, kind := .host }
      | none => s) s

/-- Start the write-back of a frame (R131). It does not start while one is in flight, the table is full (4,096), the
pending counter table is full, no slot can be had, or the stripe table is full. -/
def State.startWb (s : State) (i : Nat) (forced : Bool) : Option State :=
  let f := s.stg.frame i
  if f.st != .inUse || f.wb || f.dirty == 0 || decide (4096 ≤ s.stg.wbt.length) then none
  else
    let wrapped := s.wraps f.parcel f.dirty
    let s1 := if wrapped then s.fillAll i else s
    let f := s1.stg.frame i
    if !(wrapped || s1.pctRoom f.parcel f.dirty) then none
    else match s1.takeSlot f.parcel (f.dirty == allLines) with
      | none => none
      | some (band, slot, s2) =>
        match s2.openStripe band (slot % 8192 / 16) with
        | none => none
        | some s3 =>
          let (s4, seals) := s3.sealMask f.parcel f.dirty wrapped
          let s4 := if wrapped then s4.wrapGroup f.parcel else s4
          let s5 := s4.programSlot band slot f seals
          let w : Wb := { frame := i, parcel := f.parcel, mask := f.dirty, redirty := 0, poison := f.poison &&& f.dirty,
                          seals := seals, slot := slot, band := band, forced := forced }
          let s6 := s5.modStg fun g => { (g.onFrame i fun f => { f with wb := true }) with wbt := g.wbt ++ [w] }
          some ((if forced then s6.incReg Reg.STG_FORCED_WB else s6).pmc 0x3004 0 1 (pmcArg (f.parcel * 64)))

/-- Why a write-back could not start, as flags: pending counter table full, write-backs wait at the floor, stripe table
full. -/
def State.wbWaits (s : State) (i : Nat) : State :=
  let f := s.stg.frame i
  if f.st != .inUse || f.wb || f.dirty == 0 || decide (4096 ≤ s.stg.wbt.length) then s
  else if !s.pctRoom f.parcel f.dirty then s.modIme fun m => { m with pctWait := true }
  else if s.logFloorNow then
    (if s.cds.floorWait then s else (s.modCds fun c => { c with floorWait := true }).setBits Reg.CDS_INT_STAT 2)
  else if 16384 ≤ s.mdc.stripes.length then s.modMdc fun m => { m with stripeFull := true }
  else s

/-- Start a write-back, or note what it waits for. -/
def State.tryWb (s : State) (i : Nat) (forced : Bool) : State :=
  match s.startWb i forced with
  | some s => s
  | none => s.wbWaits i

/-! READONLY (R153 to R155, R183). -/

/-- Enter READONLY: the reserve starts (R153). -/
def State.enterReadonly (s : State) : State :=
  let cause := s.roCause
  let free := s.cds.freeTracts s.conf
  let s := s.setNat Reg.CDS_RO_STAT (2 ^ 31 + cause * 2 ^ 29 + free % 2 ^ 21)
  let s := (s.modCds fun c => { c with roCond := true }).setBits Reg.CDS_INT_STAT 4
  let s := (s.raise 0x4201 free cause).goState .readonly
  let s := s.modStg fun g => { g with rsvActive := true, rsvSealed := false, rsvLeft := 16384 }
  (s.setBits Reg.STG_INT_STAT 16).raise 0x3201 16384 0

/-- Leave READONLY for READY: the seal lifts (R155). -/
def State.leaveReadonly (s : State) : State :=
  let s := (s.modCds fun c => { c with roCond := false }).setBits Reg.CDS_INT_STAT 8
  let s := (s.clearBits Reg.CDS_RO_STAT (2 ^ 31)).raise 0x4202 (s.cds.freeTracts s.conf) 0
  s.goReady.modStg fun g => { g with rsvActive := false, rsvSealed := false }

/-- The reserve seals (R154). -/
def State.sealReserve (s : State) : State :=
  if s.stg.rsvActive && !s.stg.rsvSealed then
    ((s.modStg fun g => { g with rsvSealed := true }).setBits Reg.STG_INT_STAT 32).raise 0x3202 s.stg.rsvLeft 0
  else s

/-- The conditions of R154 in READONLY. -/
def State.checkReserve (s : State) : State :=
  if s.stg.rsvActive && (decide (s.stg.rsvLeft ≤ 512) || decide (s.dataLimit ≤ s.stg.dirty)) then s.sealReserve else s

/-- READY and READONLY follow the condition of R183. -/
def State.checkReadonly (s : State) : State :=
  match s.sys.state with
  | .ready => if s.canFree then s else s.enterReadonly
  | .readonly => if s.canFree then s.leaveReadonly else s
  | _ => s

/-! Merge triggers of the log (Table CDS-4). -/

/-- The victim band: the full log band with the fewest live records; without one, the open ordinary band with the fewest,
then the open stream band, closed for it (R169). -/
def State.victim (s : State) : Option (Nat × State) :=
  let live (id : Nat) : Nat := match (s.cds.band id).bind (·.ordinal) with | some o => s.cds.liveIn o | none => 0
  let least (l : List Nat) : Option Nat := match l with
    | [] => none
    | x :: rest => some (rest.foldl (fun a b => if live b < live a then b else a) x)
  match least s.cds.fullLogs with
  | some id => some (id, s)
  | none =>
    match least (s.cds.openLogs.filter fun id => decide (0 < live id)) with
    | some id => some (id, s.closeLog id)
    | none => (least (s.cds.openStreams.filter fun id => decide (0 < live id))).map fun id => (id, s.closeLog id)

/-- The plots with a live record in a band. -/
def Cds.plotsIn (c : Cds) (id : Nat) : List Nat :=
  match (c.band id).bind (·.ordinal) with
  | some o => ((c.records.filter fun e => e.2.live && e.1 / 8192 == o).map fun e => parcelPlot e.2.parcel).eraseDups
  | none => []

/-- Schedule merges of the victim band's plots at a priority. -/
def State.mergeVictim (s : State) (prio : Nat) : State :=
  match s.victim with
  | some (id, s) =>
    (s.cds.plotsIn id).foldl (fun s p => s.modCds (·.addWork (.mergePlot p (prio == 3)) prio none)) s
  | none => s

/-- The log's merge triggers, with the flag and event of the critical level (Table CDS-4). -/
def State.logTriggers (s : State) : State :=
  let crit := s.logCritNow
  let wasCrit := s.cds.work.any fun w => match w.kind with | .mergePlot _ c => c | _ => false
  if crit then
    let s := if wasCrit then s else (s.setBits Reg.CDS_INT_STAT 1).raise 0x4203 s.freeLog 0
    s.mergeVictim 3
  else if s.logBands * 75 < s.cds.logUsed * 100 then s.mergeVictim 7
  else s

/-! Dirty checkpoint level (R166). -/

def State.ckptTrigger (s : State) (forced : Bool) : State :=
  if forced || decide (s.regNat Reg.CDS_CKPT_HIGH ≤ s.cds.dirtyPages.length) || decide (1048576 ≤ s.cds.journal) then
    s.modCds (·.addWork (.checkpoint forced) 5 none)
  else s

/-! Write-back commit (R131, R132, R165). -/

/-- A disable drain and a clean-all end when their frames are clean (R145, STG_CTL.CLEAN_ALL). -/
def State.endDrains (s : State) : State :=
  let s := if s.stg.draining && s.stg.dirty == 0 && !((s.port0.pwb ++ s.port1.pwb).any (·.writeBack)) then
      (s.modStg fun g => { g with draining := false, enabled := false, stale := true }).setBits Reg.STG_INT_STAT 1
    else s
  let left := s.stg.cleaning.filter fun i => (s.stg.frame i).isDirty
  if !s.stg.cleaning.isEmpty && left.isEmpty then
    ((s.modStg fun g => { g with cleaning := [] }).setBits Reg.STG_INT_STAT 4).clearBits Reg.STG_CTL 4
  else s.modStg fun g => { g with cleaning := left }

/-- The closing mark of R314: write-through in force and nothing dirty. -/
def State.closeMark (s : State) : State :=
  if s.pfl.wbOpen && s.stg.dirty == 0 && s.metaDirty == 0 && !s.writeBack then
    s.modPfl fun p =>
      let up (m : MonSet) : MonSet :=
        { a := m.a.map fun x => { x with marks := x.marks + 1 }, b := m.b.map fun x => { x with marks := x.marks + 1 } }
      match p.newestMon with
      | some (true, _) => { p with set1 := up p.set1 }
      | some (false, _) => { p with set0 := up p.set0 }
      | none => p
  else s

/-- A frame with nothing dirty after an uncorrectable error is RETIRED (R144); a reserve frame goes back once READONLY
has ended (R155). -/
def State.settleFrame (s : State) (i : Nat) : State :=
  let f := s.stg.frame i
  if f.dirty != 0 || f.st != .inUse then s
  else if f.ue then s.modStg (·.onFrame i fun _ => { frameInit with st := .retired, ue := true })
  else if f.fromReserve && !s.stg.rsvActive then s.modStg (·.freeFrame i)
  else s

/-- A stream band closes when all its slots are programmed (R164). -/
def State.streamFull (s : State) (id : Nat) : State :=
  match s.cds.band id with
  | some b =>
    match b.ordinal with
    | some o => if b.role == .stream && (s.cds.records.filter fun e => e.1 / 8192 == o).length == 8192 then s.closeLog id else s
    | none => s
  | none => s

/-- The program of a write-back has verified: one map commit links its record, its counters take effect, and the DIRTY
bits of its lines without REDIRTY clear (R131, R132, R165, R345). -/
def State.commitWb (s : State) (w : Wb) : State :=
  let p := s.conf
  let pages := s.cds.recordPages p w.slot w.parcel
  let s := s.mapCommit pages fun c => (c.commitRecord p w.slot w.parcel w.mask false)
  let s := s.commitSeals w.parcel w.seals
  let clear := w.mask &&& ~~~ w.redirty
  let s := s.modStg fun g =>
    { (g.onFrame w.frame fun f => { f with wb := false, dirty := f.dirty &&& ~~~ clear }) with
      wbt := g.wbt.filter fun x => x.parcel != w.parcel }
  let s := s.modIme fun m => { m with pctWait := false }
  let s := (s.addPair Reg.STG_WB_LINES_LO (Quad.count w.mask)).collect 35
  let gone := s.mdc.retired
  let s := s.modCds (·.reclaim p gone)
  let s := ((((s.streamFull w.band).settleFrame w.frame).closeStripes).endDrains).closeMark
  ((s.logTriggers).ckptTrigger false).checkReadonly

end Sys2Proof.Machine
end

