-- ==== Sys2Proof/Machine/Transit.lean ====
section
/-! DEFINITION. The changes of top-level state that several commands bring about: performing a reset (R488, R489, R504 to
R507), the start of a flush and of a reset flush (R296, R299, R306), the trip (R23, R296), the brace and its end (R20, R21),
the quench (R27, R28, R460, R461). -/

namespace Sys2Proof.Machine

/-- The device runs: supplies are good and no reset holds it (R271, R488). No command but those of power and reset has an
effect otherwise (R501). -/
def State.running (s : State) : Bool := s.sys.supplies && !s.sys.inReset

/-- A command's effect on a running device; without one nothing happens. -/
def State.whenRunning (s : State) (t : State) : Res := .next (if s.running then t else s)

/-! Performing a reset. -/

/-- A reset that gives the registers of cold reset their values. -/
def ResetKind.isCold : ResetKind → Bool
  | .suppliesGood | .coldReg | .quenchRestart | .safeResume | .sanitizeDone => true
  | _ => false

/-- The computed reset values of STG_FREE_LOW, STG_FREE_HIGH and STG_CLOCK_SPREAD (R157). -/
def State.stgLevels (s : State) : State :=
  ((s.setNat Reg.STG_FREE_LOW (s.stg.count / 32)).setNat Reg.STG_FREE_HIGH (s.stg.count / 16)).setNat
    Reg.STG_CLOCK_SPREAD (s.stg.count / 16)

/-- The registers that a kind of reset clears (Table REG-2). -/
def ResetKind.clears (k : ResetKind) : RegDom → Bool
  | .warm => k != .diagnostic
  | .cold => k.isCold
  | .good => k == .suppliesGood
  | .cke => true

/-- A port after a cold or warm reset (R91, R380): the label storage area stays. -/
def Port.afterReset (x : Port) : Port := { portInit with lsa := x.lsa, lsaCopy := x.lsaCopy }

/-- The cipher engine after a cold, warm or diagnostic reset (R372, R389). -/
def Cke.afterReset (c : Cke) (cold : Bool) : Cke :=
  { ckeInit with mem := c.mem, revoked := c.revoked, owner := c.owner, rngFail := c.rngFail, rngAt := c.rngAt,
                 kekReserved := c.kekReserved, debug := !cold && c.debug, authLocked := !cold && c.authLocked,
                 authFails := if cold then 0 else c.authFails }

/-- Security after a reset: the locks lift on cold reset only (R378, R379). -/
def Security.afterReset (x : Security) (cold : Bool) : Security :=
  if cold then { x with frozen := false, fails := 0, exhausted := false, unlocked := x.passphrase.isNone } else x

/-- Staging after a reset: the frames stay, the tag cache is invalidated (R29, R149, R150). -/
def Stg.afterReset (g : Stg) (diag : Bool) : Stg :=
  { g with wbt := [], fills := [], enabled := diag && g.enabled || !diag, draining := diag && g.draining,
           stale := diag && g.stale, invalidating := 1, cleaning := [], backRunning := false, maint := [],
           rsvActive := false, rsvSealed := false, budgetStall := false }

/-- The Traverse side at a reset: completions are collected, resets suspended, TRV_RST_N goes low (R233). -/
def Trv.afterReset (t : Trv) : Trv :=
  { t with rstLow := true, training := false, coll := List.replicate 40 [], taken := [],
           channels := t.channels.map fun c =>
             { c with trained := false, hostQ := [], progQ := [], bgQ := [], intQ := [], booked := [], burst := none,
                      rdyLow := false, errs := [], retrainFails := 0, retraining := false,
                      dies := c.dies.map fun d =>
                        { d with planes := List.replicate 4 none, reset := none, completions := [], timedOut := none, answer := none,
                                 late := [], resends := 0 } } }

/-- The engines at a reset: every one restarts from its role area after BOOT (R408); cold reset takes retirement back
(R409). -/
def Eng.afterReset (e : Eng) (cold : Bool) : Eng :=
  if cold then { engInit with resultA := e.resultA, resultB := e.resultB, fallback := e.fallback }
  else { e with failovers := [], engines := e.engines.map fun x => { x with hold := false, failedAt := none } }

/-- Inline crypto at a reset: maps are read again in RECOVER; cold reset clears the key store (R374). -/
def Ime.afterReset (m : Ime) (cold : Bool) : Ime :=
  { m with pct := [], pctWait := false, metaDirty := [], recomputing := false, stuck := [],
           loaded := if cold then [] else m.loaded, devKeys := if cold then none else m.devKeys,
           lanes := if cold then imeInit.lanes else m.lanes, misses := imeInit.misses }

/-- The tracker, the monuments and the report stay; cold reset ends the flush status (R293, R320, R323). -/
def Pfl.afterReset (p : Pfl) (cold : Bool) : Pfl :=
  { p with phase := if cold then .idle else p.phase, short := !cold && p.short, metaShort := !cold && p.metaShort,
           unflOvf := !cold && p.unflOvf, monSkipped := !cold && p.monSkipped, dump := [], delta := [], metaLeft := [], frameLeft := [],
           unflushed := [], overflow := [], sim := false, onTime := 0,
           report := { p.report with monSkipped := p.monSkipped, lost := false } }

/-- The map is read back in RECOVER; what the medium keeps stays known to the saved image (R29, R316). -/
def cdsAfterReset : Cds := cdsInit

/-- The typed state of the blocks takes its reset value (Table REG-2, R389, R408, R429). -/
def State.resetBlocks (s : State) (k : ResetKind) : State :=
  let cold := k.isCold
  let diag := k == .diagnostic
  let s := (s.modStg (·.afterReset diag)).modCke (·.afterReset cold)
  let s := (s.modTrv (·.afterReset)).modEng (·.afterReset cold)
  let s := (s.modShadow .bar2 fun _ => emptyShadow).modShadow .mctp fun _ => emptyShadow
  let s := if diag then s
    else
      let s := (s.modPort 0 (·.afterReset)).modPort 1 (·.afterReset)
      let s := (s.modCds fun _ => cdsAfterReset).modIme (·.afterReset cold)
      (s.modPfl (·.afterReset cold)).modSvc fun v =>
        { v with writing := none, strobing := [], background := none, scan := none, erasing := false, erasingHoldings := [],
                 security := v.security.afterReset cold }
  if cold then
    let s := (s.modSvy fun _ => svyInit).modSvc fun v => { v with lastBackground := none, scanResults := [] }
    let s := s.modThm fun t => { thmInit with sensors := t.sensors, sensorQuenches := t.sensorQuenches, stuck := t.stuck,
                                              bandgapAt := t.bandgapAt, oscAt := t.oscAt }
    s.modDtm fun t => { t with strobe := none, outUntil := none, restored := false, pllF := false, pllE := false,
                               pllT := false, pllH := false }
  else s

/-- SYS_RST_CNT counts a reset of a kind, saturating (Table REG-3). -/
def State.countReset (s : State) (k : ResetKind) : State :=
  match k with
  | .suppliesGood => s
  | .diagnostic => s.satField Reg.SYS_RST_CNT 8 8 1
  | .warmSysRst | .warmPerst | .warmReg => s.satField Reg.SYS_RST_CNT 16 8 1
  | _ => s.satField Reg.SYS_RST_CNT 24 8 1

/-- BOOT starts, or DIAG after a diagnostic reset: cause, record, no earlier state (R10, R490, R506). -/
def State.afterResetState (s : State) (k : ResetKind) (from_ : Nat) : State :=
  let t := if k == .diagnostic then DevState.diag else .boot
  let now := s.nowNs
  let s := s.setNat Reg.SYS_RST_CAUSE (k.code * 2 ^ 28 + from_ * 256)
  let s := s.raise 0x0201 s.sys.straps.toNat k.code
  let s := s.goState t
  let s := s.modSys fun x => { x with prev := 0, since := now, bootAt := now, resetAt := now, held := none,
                                      flushFor := none, poweredDown := false, quenchAfterFlush := false }
  s.setNat Reg.SYS_LAST_TRANS t.code

/-- Perform a reset while supplies stay good (R29, R289, R429, R504 to R506). `straps`: what the pins read, sampled by a
cold reset (R490). -/
def State.performReset (s : State) (k : ResetKind) : State :=
  let from_ := s.sys.state.code
  let s := s.pstQuiesce
  let s := s.resetRegs k.clears fun _ => true
  let s := (s.resetBlocks k).stgLevels
  let s := if k.isCold then s.modPwr fun p => { p with pwrfail := false } else s
  let s := (s.countReset k).afterResetState k from_
  if k == .diagnostic then s
  else
    let s := if s.sys.sysRstLow || s.sys.perstLow then
        (if k.isCold then s else s.modSys fun x => { x with inReset := true })
      else s
    s.pstBoot

/-! Flush (R296 to R299). -/

/-- The states with nothing to flush (R306, Table APP-8). -/
def DevState.clean : DevState → Bool
  | .boot | .warmup | .load | .recover => true
  | _ => false

/-- What a monument records of the trip (R296, Table PFL-4). -/
def State.noteTrip (s : State) : State :=
  let u := s.pwr.usable
  let wb := s.writeBack
  let braced := s.sys.state == .braced
  let from_ := s.sys.state.code
  let d := s.datumNs
  s.modPfl fun p => { p with wtAtTrip := !wb, tripBraced := braced, tripDatum := d, tripUsable := u, fromState := from_ }

/-- Seal starts: the phase, its time and energy, and the flags of an earlier flush gone (Table PFL-1, R299). -/
def State.startSeal (s : State) (kind : MonKind) : State :=
  let now := s.nowNs
  let u := s.pwr.usable
  s.noteTrip.modPfl fun p =>
    { p with phase := .sealing, kind := kind, phaseAt := now, phaseUsable := u, monNeed := 0, short := false,
             metaShort := false, unflOvf := false, monSkipped := false, restOnly := false, dump := [], delta := [],
             drainedMeta := 0, metaLeft := [], frameLeft := [], unflushed := [], overflow := [], unflTotal := 0,
             monDatum := 0, sealUs := 0, drainUs := 0, monUs := 0, sealMj := 0, drainMj := 0, monMj := 0 }

/-- A flush or a reset flush runs (Table PFL-1). -/
def State.inFlush (s : State) : Bool := s.pfl.phase != .idle && s.pfl.phase != .done

/-- An assay's background operation ends (R86). -/
def State.endAssayCmd (s : State) : State :=
  match s.svc.background with
  | some b => if b.opcode = 0xC040 then s.endBackground 0 else s
  | none => s

/-- An assay ends, with its result, flag and record (R281 to R283). -/
def State.closeAssay (s : State) (result : Nat) (again : Bool) : State :=
  let s := s.modPwr fun p => { p with assay := assayInit, assayResult := result, assayWanted := again, forcedCap := none }
  (((s.setBits Reg.PWR_INT_STAT 4).clearBits Reg.PWR_CTL 8).raise 0x8303 0 result).endAssayCmd

/-- An assay in progress is abandoned (R282): 3 by a trip, 4 by a brace. It is retried later. -/
def State.abortAssay (s : State) (result : Nat) : State :=
  if s.pwr.assay.phase == .idle || s.pwr.assay.phase == .waitGate then s else s.closeAssay result true

/-- The trip is recorded (R296). -/
def State.recordTrip (s : State) : State := (s.setPair Reg.PFL_TRIP_DATUM_LO s.datumNs).modPwr fun p => { p with pwrfail := true }

/-- A confirmed trip (R23, R296, R306, R321, Table APP-8). -/
def State.trip (s : State) : State :=
  match s.sys.state with
  | .flush | .safe => s
  | .quench => if s.pfl.phase == .idle || s.pfl.phase == .done then s else s.recordTrip.noteTrip
  | .boot | .warmup | .load =>
    let s := (s.recordTrip).abortAssay 3
    let s := s.startSeal .flush
    let now := s.nowNs
    (s.goState .safe).modPfl fun p => { p with phase := .rest, phaseAt := now, restOnly := true }
  | st =>
    let s := (s.recordTrip).abortAssay 3
    let s := s.modSys fun x => { x with held := none }
    match s.sys.flushFor with
    | some _ =>
      let s := s.modSys fun x => { x with flushFor := none }
      (s.noteTrip.goState .flush).modPfl fun p => { p with kind := .flush }
    | none =>
      let s := s.startSeal .flush
      let s := s.goState .flush
      if st == .recover then s.modPfl fun p => { p with restOnly := true } else s

/-! Resets by request (R306, R489, R505, R507). -/

/-- How wide a reset is (R505). -/
def ResetKind.width : ResetKind → Nat
  | .diagnostic => 1
  | .warmSysRst | .warmPerst | .warmReg => 2
  | _ => 3

/-- The wider of a held reset and a new one; the held one stays on a tie (R505). -/
def joinReset (old : Option ResetKind) (k : ResetKind) : ResetKind :=
  match old with
  | some o => if o.width < k.width then k else o
  | none => k

/-- A reset flush runs before a reset in these states (R306). DIAG counts when a diagnostic reset entered it. -/
def State.needsFlush (s : State) : Bool :=
  match s.sys.state with
  | .ready | .readonly | .locked | .braced => true
  | .diag => s.regField Reg.SYS_RST_CAUSE 28 4 == 5
  | _ => false

/-- A cold, warm or diagnostic reset is asked for: held in BRACED, discarded in FLUSH, SAFE and QUENCH, joined with a
running reset flush, preceded by a reset flush where R306 calls for one, else performed (R306, R489, R505, R507). -/
def State.requestReset (s : State) (k : ResetKind) : State :=
  match s.sys.state with
  | .braced =>
    (s.modSys fun x => { x with held := some (joinReset x.held k) }).setBits Reg.SYS_INT_STAT 2
  | .flush | .safe | .quench => s
  | _ =>
    match s.sys.flushFor with
    | some o => s.modSys fun x => { x with flushFor := some (joinReset (some o) k) }
    | none =>
      if s.needsFlush then
        let s := (s.startSeal .reset).modSys fun x => { x with flushFor := some k }
        s.setBits Reg.SYS_INT_STAT 2
      else s.performReset k

/-- A reset held under R489 is performed when BRACED has ended. -/
def State.releaseHeld (s : State) : State :=
  match s.sys.held with
  | some k => (s.modSys fun x => { x with held := none }).requestReset k
  | none => s

/-! Brace (R20, R21, R295). -/

/-- The first forced frames in front-hand order are written back while dirty data exceed the limit (R137). The order:
from the front hand up, then from the bottom. -/
def State.frontOrder (s : State) : List Nat :=
  let l := (s.stg.frames.filter fun e => e.2.isDirty).map (·.1)
  (l.filter fun i => decide (s.stg.front ≤ i)) ++ l.filter fun i => decide (i < s.stg.front)

def State.forceWb (s : State) : State :=
  let flying := s.stg.wbt.length
  let excess := s.stg.dirty - s.dataLimit
  if s.inFlush then s
  else ((s.frontOrder.filter fun i => !(s.stg.frame i).wb).take (excess - flying)).foldl (fun s i => s.tryWb i true) s

/-- Enter BRACED (R20). -/
def State.enterBrace (s : State) : State :=
  let from_ := s.sys.state
  let now := s.nowNs
  let s := s.goState .braced
  let s := s.modSys fun x => { x with braceFrom := from_ }
  let s := (s.modPwr fun p => { p with pwrfail := true }).modPfl fun p => { p with onTime := 0, braceAt := now }
  let s := ((s.setBits Reg.PFL_INT_STAT 1).raise 0x8101 s.pfl.half 0).abortAssay 4
  let s := if s.bit Reg.DTM_SVY_CTL 4 then s.strobe 8 else s
  s.setBudget.forceWb

/-- BRACED ends and the device returns to the state before it, from LOCKED on where an Unlock succeeded meanwhile; a held reset is then performed (R21, R295, R489). -/
def State.exitBrace (s : State) : State :=
  let s := s.goState s.sys.braceFrom
  let s := if s.sys.state == .locked && s.svc.security.unlocked then s.goReady.checkReadonly else s
  let s := (s.modPwr fun p => { p with pwrfail := false }).modPfl fun p => { p with onTime := 0 }
  let s := ((s.setBits Reg.PFL_INT_STAT 2).raise 0x8102 0 0).setBudget
  s.releaseHeld

/-! Quench (R27, R460, R461). -/

/-- Powered-down QUENCH (R461). -/
def State.powerDown (s : State) : State :=
  let s := s.modSys fun x => { x with poweredDown := true }
  let s := s.modDtm fun t => { t with pllF := false, pllE := false, pllT := false, pllH := false, strobe := none }
  let s := s.modTrv fun t => { t with rstLow := true }
  let s := s.modPwr fun p => { p with conv := if p.conv == .discharge then .discharge else .off }
  let down (x : Port) : Port := { x with linkUp := false, pwb := [], reads := [] }
  (s.modPort 0 down).modPort 1 down

/-- There is something to flush: dirty data or metadata, or an accepted write not yet installed (R461; log entry 22). -/
def State.dirtyNow (s : State) : Bool :=
  decide (0 < s.stg.dirty + s.metaDirty) || !s.port0.pwb.isEmpty || !s.port1.pwb.isEmpty

/-- A quench is counted; the third in a row that failed sensors cause holds the device in QUENCH (R461, R462). -/
def State.countQuench (s : State) (failed : Bool) : State :=
  let s := s.satField Reg.THM_QUENCH_CNT 0 16 1
  if failed then
    let s := (s.satField Reg.THM_QUENCH_CNT 16 16 1).flag Reg.THM_ERR_STAT Reg.THM_ERR_EN 1 false
    let s := s.modThm fun t => { t with sensorQuenches := t.sensorQuenches + 1 }
    if 3 ≤ s.thm.sensorQuenches then
      (s.modThm fun t => { t with stuck := true }).flag Reg.THM_ERR_STAT Reg.THM_ERR_EN 4 false
    else s
  else s.modThm fun t => { t with sensorQuenches := 0 }

/-- The quench condition arises (R27, R460, R461); `failed`: failed sensors caused it. In FLUSH it takes effect when the
flush is complete. -/
def State.quench (s : State) (failed : Bool) : State :=
  match s.sys.state with
  | .quench => s
  | .flush =>
    if s.sys.quenchAfterFlush then s
    else (s.countQuench failed).modSys fun x => { x with quenchAfterFlush := true }
  | st =>
    let s := s.countQuench failed
    let running := s.sys.flushFor.isSome
    let s := s.modSys fun x => { x with held := none, flushFor := none }
    let dirty := s.dirtyNow
    let s := if running || st.clean || st == .safe || !dirty then s else s.startSeal .quench
    let s := s.goState .quench
    if running then s.modPfl fun p => { p with kind := .quench }
    else if st.clean || st == .safe || !dirty then s.powerDown
    else s

end Sys2Proof.Machine
end

