-- ==== Sys2Proof/Machine/Thermal.lean ====
section
/-! DEFINITION. Temperature and tempering: the sensor samples, the temperature level and the boost, the quench and its
restart, warm-up, compensation and DRAM refresh (R450 to R466). -/

namespace Sys2Proof.Machine

/-! Sensors (R450, R451). -/

/-- One conversion of a sensor; `none` did not complete. The second component is true when the sensor fails in it (R451):
two conversions missed in a row, a reading outside −40 to 150 °C, or a change of more than 10 °C twice within 1 s. -/
def Sensor.sample (x : Sensor) (r : Option Int) (now : Nat) : Sensor × Bool :=
  match r with
  | none =>
    let bad := !x.failed && decide (1 ≤ x.misses)
    ({ x with misses := x.misses + 1, failed := x.failed || bad }, bad)
  | some v =>
    let jump := x.valid && x.misses == 0 && decide (160 < (v - x.value).natAbs)
    let twice := jump && match x.jumpAt with
      | some t => decide (now ≤ t + 1000000000)
      | none => false
    let bad := !x.failed && (decide (v < -640) || decide (2400 < v) || twice)
    ({ x with value := v, valid := true, misses := 0, jumpAt := if jump then some now else x.jumpAt,
              failed := x.failed || bad }, bad)

/-- The readings reach the sensors; the indexes of those that fail now. -/
def Thm.sampleAll (t : Thm) (r : List (Option Int)) (now : Nat) : Thm × List Nat :=
  let l := t.sensors.zipIdx.map fun e => (e.1.sample (r.getD e.2 none) now, e.2)
  ({ t with sensors := l.map (·.1.1) }, (l.filter (·.1.2)).map (·.2))

/-- A sensor fails: flag and event (R451). -/
def State.sensorFails (s : State) (i : Nat) : State := (s.flag Reg.THM_ERR_STAT Reg.THM_ERR_EN 0 true).raise 0xE301 0 i

/-! Levels (R453, R454). -/

/-- The threshold of level k in 1/16 °C. -/
def Plat.levelAt (p : Plat) (k : Nat) : Int := ((if 7 ≤ k then p.crit else p.temper1 + (k - 1) * p.step) * 16 : Nat)

/-- The highest level whose threshold a reading has reached. -/
def Plat.levelOf (p : Plat) (v : Int) : Nat := ((List.range 8).filter fun k => k == 0 || decide (p.levelAt k ≤ v)).foldl max 0

/-- A reading lets the level fall (R453). -/
def State.fallCond (s : State) : Bool :=
  decide (0 < s.thm.level) && decide ((s.thm.maxReading s.conf.crit).1 < s.conf.levelAt s.thm.level - 32)

/-- The start of a sustained condition: kept while it holds, none when it lapses (R200). -/
def since (old : Option Nat) (cond : Bool) (now : Nat) : Option Nat := if cond then some (old.getD now) else none

/-- A condition lapsed in the expiry cycle of its timer: a near miss (R199, R200). -/
def lapsed (old : Option Nat) (cond : Bool) (period now : Nat) : Bool :=
  !cond && match old with
    | some t => t + period == now
    | none => false

/-- A sustained timer has expired (R200). -/
def expired (start : Option Nat) (period now : Nat) : Bool := match start with
  | some t => decide (t + period ≤ now)
  | none => false

/-- Samples of the last 100 ms and the newest one before them. -/
def trimHist (now : Nat) : List (Nat × Int) → List (Nat × Int)
  | [] => []
  | x :: rest => if x.1 + 100000000 ≤ now then [x] else x :: trimHist now rest

/-- The rate of rise in 1/16 °C per second, from samples newest first; none until 100 ms of samples exist (R454). -/
def riseRate (now : Nat) (v : Int) (l : List (Nat × Int)) : Option Int :=
  (l.find? fun x => decide (x.1 + 100000000 ≤ now)).map fun x => (v - x.2) * 10

/-! The readings that count no failed sensor (R460, R462). -/

def Thm.soundMax (t : Thm) : Option Int :=
  match t.sensors.filter (fun x => !x.failed) with
  | [] => none
  | x :: rest => some (rest.foldl (fun a y => if a < y.value then y.value else a) x.value)

/-- Every sensor in service reads at least 5 °C (R463). -/
def Thm.warm (t : Thm) : Bool := t.sensors.all fun x => x.failed || decide (80 ≤ x.value)

/-! Compensation and refresh (R464, R465). -/

/-- A sensor by index. -/
def Thm.sensor (t : Thm) (i : Nat) : Sensor := t.sensors.getD i sensorInit

/-- Whole °C of a reading, truncated. -/
def wholeC (v : Int) : Int := v.tdiv 16

/-- The circuits' trims follow their nearest sensors: the references TS[9], the oscillators TS[13] (log entry 23). -/
def State.compensate (s : State) : State :=
  let hv := s.thm.sensor 9
  let ck := s.thm.sensor 13
  let s := if !hv.failed && hv.valid && decide (16 ≤ (hv.value - s.thm.bandgapAt * 16).natAbs) then
      let c := wholeC hv.value
      let s := s.modThm fun t => { t with bandgapAt := c }
      (s.setField Reg.THM_COMP_STAT 16 8 (Config.trimCode 0 (int64 c)).toNat).setField Reg.THM_COMP_STAT 0 8 (int64 c)
    else s
  if !ck.failed && ck.valid && decide (16 ≤ (ck.value - s.thm.oscAt * 16).natAbs) then
    let c := wholeC ck.value
    let s := s.modThm fun t => { t with oscAt := c }
    (s.setField Reg.THM_COMP_STAT 8 8 (Config.trimCode 1 (int64 c)).toNat).setField Reg.THM_COMP_STAT 0 8 (int64 c)
  else s

/-- The DRAM's reading: the higher of TS[7] and TS[8], a failed one at 109 °C. -/
def Thm.dramReading (t : Thm) : Int := max ((t.sensor 7).reading 109) ((t.sensor 8).reading 109)

/-- The refresh rate code after a reading (R465): up at 85 and 95 °C, down 3 °C below the threshold crossed. -/
def refreshNext (old : Nat) (v : Int) : Nat :=
  let up := if 1520 ≤ v then 2 else if 1360 ≤ v then 1 else 0
  if old ≤ up then up
  else if old = 2 && decide (1472 < v) then 2
  else if decide (1312 < v) then max 1 up
  else up

/-! SENSOR_SAMPLE. -/

/-- The sustained conditions of a sample take their values, with near misses (R199, R200, R453, R454, R460, R462). -/
def State.thermTimers (s : State) : State :=
  let now := s.nowNs
  let p := s.conf
  let v := (s.thm.maxReading p.crit).1
  let hot := match s.thm.soundMax with | some m => decide ((p.quench * 16 : Nat) ≤ m) | none => false
  let cool := match s.thm.soundMax with | some m => decide (m ≤ (p.restart * 16 : Nat)) | none => false
  let hist := trimHist now ((now, v) :: s.thm.hist)
  let rate := (riseRate now v hist).getD s.thm.rate
  let rising := decide ((p.rise * 16 : Nat) < rate)
  let t := s.thm
  let near := [(0x22, lapsed t.quenchSince hot (p.quenchMs * 1000000) now), (0x30, lapsed t.overSince rising 1000000000 now),
    (0x32, lapsed t.restartSince cool (p.restartS * 1000000000) now)].filter (·.2)
  let starts := hot && t.quenchSince.isNone
  let fall := s.fallCond
  let s := s.modThm fun t =>
    { t with hist := hist, rate := rate, quenchSince := since t.quenchSince hot now,
             restartSince := since t.restartSince cool now, overSince := since t.overSince rising now,
             underSince := since t.underSince (!rising) now, fallSince := since t.fallSince fall now }
  let s := near.foldl (fun s e => s.nearMiss e.1) s
  if starts then s.thermalTrip else s

/-- SENSOR_SAMPLE (R450 to R455, R460, R463 to R465): `readings` are the fourteen conversions in 1/16 °C. -/
def execSensorSample (readings : List (Option Int)) (atNs : Nat) (s : State) : Res :=
  if !s.sys.supplies then .next s
  else
    let s := s.clockTo atNs
    let now := s.nowNs
    let r := s.thm.sampleAll readings now
    let s := s.modThm fun _ => r.1
    let s := r.2.foldl State.sensorFails s
    let top := s.conf.levelOf (s.thm.maxReading s.conf.crit).1
    let s := s.modThm fun t => { t with level := max t.level top, refresh := refreshNext t.refresh t.dramReading }
    let s := ((s.thermTimers).settleTemper).compensate
    let s := if !r.2.isEmpty && decide (2 ≤ s.thm.failed) then s.quench true else s
    if s.sys.state == .warmup && s.thm.warm then .next ((s.setBits Reg.THM_INT_STAT 8).goState .load) else .next s

/-- LEVEL_FALL (R453): 100 ms below the level's threshold less 2 °C. -/
def execLevelFall (atNs : Nat) (s : State) : Res :=
  let s := s.clockTo atNs
  let now := s.nowNs
  if s.fallCond && expired s.thm.fallSince 100000000 now then
    let s := s.modThm fun t => { t with level := t.level - 1 }
    let again := s.fallCond
    .next (s.modThm fun t => { t with fallSince := since none again now }).settleTemper
  else .next s

/-- RISE_BOOST (R454): the rate has exceeded RISE for 1 s. -/
def execRiseBoost (atNs : Nat) (s : State) : Res :=
  let s := s.clockTo atNs
  if s.boostOn && s.thm.boost == 0 && expired s.thm.overSince 1000000000 s.nowNs then
    .next ((s.modThm fun t => { t with boost := 2 }).flag Reg.THM_ERR_STAT Reg.THM_ERR_EN 3 false).settleTemper
  else .next s

/-- RISE_BOOST_END (R454): the rate has stayed at or below RISE for 10 s. -/
def execRiseBoostEnd (atNs : Nat) (s : State) : Res :=
  let s := s.clockTo atNs
  if s.thm.boost != 0 && expired s.thm.underSince 10000000000 s.nowNs then
    .next (s.modThm fun t => { t with boost := 0 }).settleTemper
  else .next s

/-- QUENCH_HOLD_EXPIRY (R460, R461). -/
def execQuenchHoldExpiry (atNs : Nat) (s : State) : Res :=
  if !s.sys.supplies then .next s
  else
    let s := s.clockTo atNs
    if expired s.thm.quenchSince (s.conf.quenchMs * 1000000) s.nowNs then .next (s.quench false) else .next s

/-- QUENCH_RESTART (R462): a restart as a cold reset, unless three quenches in a row came from failed sensors. -/
def execQuenchRestart (atNs : Nat) (s : State) : Res :=
  if !s.sys.supplies then .next s
  else
    let s := s.clockTo atNs
    if s.sys.state == .quench && s.sys.poweredDown && !s.thm.stuck &&
        expired s.thm.restartSince (s.conf.restartS * 1000000000) s.nowNs then
      .next (s.performReset .quenchRestart)
    else .next s

/-- WARMUP_TIMEOUT (R463): 120 s in WARMUP lead to SAFE. -/
def execWarmupTimeout (atNs : Nat) (s : State) : Res :=
  if !s.running then .next s
  else
    let s := s.clockTo atNs
    if s.sys.state == .warmup && decide (s.sys.since + 120000000000 ≤ s.nowNs) then
      let s := (s.modThm fun t => { t with warmTimeout := true }).flag Reg.THM_ERR_STAT Reg.THM_ERR_EN 2 false
      .next (s.goState .safe)
    else .next s

/-- THM_PARAM_WRITE (R466): THM_MED_LIMIT takes a value of 70 to 95. -/
def execThmParamWrite (via : Via) (v : Word) (s : State) : Res :=
  if !s.reaches via then .next s else
  let s := s.emit (.regWriteDone via Reg.THM_MED_LIMIT)
  .next (if within (v.toNat % 256) 70 95 then s.setNat Reg.THM_MED_LIMIT (v.toNat % 256) else s)

end Sys2Proof.Machine
end

