-- ==== Sys2Proof/Machine/Supply.lean ====
section
/-! DEFINITION. Supplies, the converter and the hold-up bank: rails, the ideal diode, converter modes, cells, the bank's
states, assays, the energy meter and the supply parameters (R271 to R291, R297, R509). -/

namespace Sys2Proof.Machine

/-! Rails (R272). -/

/-- RAIL_WARN (R272): `rail` is the bit of PWR_RAIL_STAT. -/
def execRailWarn (rail : Fin 7) (s : State) : Res :=
  if !s.sys.supplies then .next s
  else
    let s := s.modPwr fun p => { p with railWarn := p.railWarn ||| 2 ^ rail.val }
    .next ((s.flag Reg.PWR_ERR_STAT Reg.PWR_ERR_EN 0 true).raise 0x8401 0 rail.val)

/-! Input voltage, ideal diode and converter (R276 to R278, Table PWR-2). -/

/-- VIN_SNS takes a measured value: its sustained conditions follow (R23, R26, R277, R200). -/
def State.noteVin (s : State) (vin : Nat) : State :=
  let now := s.nowNs
  let low := decide (vin < s.conf.vinTrip)
  let high := decide (s.conf.vinResume ≤ vin)
  let near := lapsed s.pfl.vinLowSince low 20000 now
  let nearHigh := lapsed s.pfl.vinHighSince high 100000000 now && s.sys.state == .safe
  let s := s.modPwr fun p => { p with vin := vin }
  let s := s.modPfl fun p =>
    { p with vinLowSince := since p.vinLowSince low now, vinHighSince := since p.vinHighSince high now }
  let s := if near then s.nearMiss 0x11 else s
  if nearHigh then s.nearMiss 0x25 else s

/-- A latched cell cause or NO_BANK keeps the converter OFF through a trip (R278). -/
def Pwr.dead (p : Pwr) : Bool := p.latched.any BankCause.isCell

/-- The bank can be discharged: an image is accepted, cells are fitted, no cell cause and no NO_BANK (R278, R509). -/
def Pwr.dischargeable (p : Pwr) : Bool := p.cells.isSome && p.bank != .absent && !p.dead

/-- The converter may charge (Table PWR-2, R461). -/
def State.mayCharge (s : State) : Bool :=
  let p := s.pwr
  p.cells.isSome && p.bank != .absent && p.bank != .discharging && p.latched.isEmpty && s.bit Reg.PWR_CTL 0 &&
    decide (s.conf.vinTrip ≤ p.vin) && !s.sys.poweredDown && p.assay.phase != .relax && p.assay.phase != .settle

/-- The converter's mode between CHARGE, FLOAT and OFF (Table PWR-2, R278). -/
def State.convFollow (s : State) : State :=
  let p := s.pwr
  let ok := s.mayCharge
  s.modPwr fun q => { q with conv := match q.conv with
    | .discharge => if p.bankV ≤ 6000 then .off else .discharge
    | .assay => .assay
    | .float => if !ok then .off else if p.bankV * 100 < p.floatMv * 99 then .charge else .float
    | .charge => if ok then .charge else .off
    | .off => if !ok then .off else if p.bankV < p.floatMv then .charge else .float }

/-- GD_IN after a comparison (R276). -/
def gateNext (old : Bool) (vin hb trip : Nat) (assay : Bool) : Bool :=
  if vin < trip || vin + 20 ≤ hb || assay then false else if hb + 10 ≤ vin then true else old

/-- IDEAL_DIODE_SWITCH (R276). -/
def execIdealDiodeSwitch (vin hb atNs : Nat) (s : State) : Res :=
  if !s.sys.supplies then .next s
  else
    let s := (s.clockTo atNs).noteVin vin
    let trip := s.conf.vinTrip
    .next (s.modPwr fun p => { p with hb := hb, gdIn := gateNext p.gdIn vin hb trip (p.conv == .assay) })

/-- HV_REFRESH_TIMEOUT (R275): every converter gate, every balancing switch and GD_IN turn off. -/
def execHvRefreshTimeout (s : State) : Res :=
  if !s.sys.supplies then .next s
  else
    let s := s.modPwr fun p => { p with conv := .off, balance := 0, gdIn := false }
    .next (s.flag Reg.PWR_ERR_STAT Reg.PWR_ERR_EN 6 false)

/-- VIN_DROP (R277, R288): DISCHARGE at once, without the trip filter. -/
def execVinDrop (vin atNs : Nat) (s : State) : Res :=
  if !s.sys.supplies then .next s
  else
    let s := (s.clockTo atNs).noteVin vin
    if vin < s.conf.vinTrip then
      let s := s.modPwr fun p => { p with gdIn := false }
      if s.pwr.dischargeable && s.pwr.bank != .discharging && s.sys.state != .safe then
        let s := s.modPwr fun p =>
          { p with convBefore := p.conv, conv := .discharge, bankBefore := p.bank, live := none, balance := 0 }
        .next (s.setBank .discharging).setBudget
      else .next s
    else .next s

/-- FLUSH has begun: a returning input changes nothing until its end (R277, R296). -/
def State.flushing (s : State) : Bool :=
  s.sys.state == .flush || s.sys.state == .safe || (s.sys.state == .quench && s.pfl.phase != .idle && s.pfl.phase != .done)

/-- VIN_RECOVER (R277, R288): VIN_SNS at or above VIN_RESUME_MV for 1 ms before FLUSH. -/
def execVinRecover (vin atNs : Nat) (s : State) : Res :=
  if !s.sys.supplies then .next s
  else
    let s := (s.clockTo atNs).noteVin vin
    if s.pwr.bank == .discharging && !s.flushing && decide (s.conf.vinResume ≤ vin) then
      let s := s.modPwr fun p => { p with conv := p.convBefore, live := none }
      .next (s.setBank s.pwr.bankBefore).setBudget
    else .next s

/-- OVERCURRENT (R278): 32 cycles in a row at the limit, outside DISCHARGE. An assay that it stops has no result. -/
def execOvercurrent (s : State) : Res :=
  match s.pwr.conv with
  | .charge | .float | .assay =>
    let s := (s.modPwr fun p => { p with conv := .off }).flag Reg.PWR_ERR_STAT Reg.PWR_ERR_EN 2 false
    let s := if s.pwr.assay.phase == .idle || s.pwr.assay.phase == .waitGate then s else s.closeAssay 5 false
    .next (s.degrade .overcurrent true)
  | _ => .next s

/-! Cells (R279, R280). -/

def listSum (l : List Nat) : Nat := l.foldl (· + ·) 0

/-- A cell fault: OFF, the latched cause, the flag and the index (R280). -/
def State.cellFault (s : State) (i : Nat) (c : BankCause) : State :=
  let s := s.modPwr fun p => { p with conv := .off, cellFault := p.cellFault ||| 2 ^ i, faultCell := i, gdIn := p.gdIn }
  let s := if s.pwr.assay.phase == .idle || s.pwr.assay.phase == .waitGate then s else s.closeAssay 5 false
  ((s.flag Reg.PWR_ERR_STAT Reg.PWR_ERR_EN 1 true).raise 0x8302 0 i).degrade c true

/-- Cells above CELL_MV + 150 mV. -/
def Pwr.overvolt (p : Pwr) (cells : List Nat) : List Nat :=
  (cells.zipIdx.filter fun e => decide (p.cellMv + 150 < e.1)).map (·.2)

/-- CHARGE_OVERVOLT_STOP (R278, R280). -/
def execChargeOvervoltStop (bankV : Nat) (cells : List Nat) (s : State) : Res :=
  let n := s.pwr.cells.getD 0
  if n = 0 then .next s
  else
    let cells := cells.take n
    let tooHigh := s.pwr.overvolt cells
    let s := s.modPwr fun p => { p with bankV := bankV, cellV := cells }
    let s := if 16800 ≤ bankV || !tooHigh.isEmpty then
        s.modPwr fun p => { p with conv := if p.conv == .charge || p.conv == .float then .off else p.conv }
      else s
    .next (tooHigh.foldl (fun s i => s.cellFault i .cellOvervolt) s)

/-- Whether the balancing switch of a cell is closed after a measurement (R279). Sum and number of cells give the mean. -/
def balanceNext (old : Bool) (v sum n cellMv : Nat) : Bool :=
  if sum + 50 * n < v * n || cellMv + 20 < v then true
  else if v * n ≤ sum + 20 * n && sum ≤ (v + 20) * n && decide (v ≤ cellMv) then false
  else old

/-- CELL_MEASURE (R279, R280): cell voltages, bank current (mA), rise of BANK_SNS over the last millisecond (mV), and
current-limit cycles in it. -/
def execCellMeasure (cells : List Nat) (bankI rise : Int) (limit : Nat) (atNs : Nat) (s : State) : Res :=
  let n := s.pwr.cells.getD 0
  if n = 0 || !s.sys.supplies then .next s
  else
    let s := s.clockTo atNs
    let cells := cells.take n
    let sum := listSum cells
    let bal := s.bit Reg.PWR_CTL 1
    let s := s.modPwr fun p =>
      { p with cellV := cells, limitCycles := limit,
               balance := if p.conv == .discharge || !bal then 0
                 else listSum (cells.zipIdx.map fun e =>
                   if balanceNext (p.balance.testBit e.2) e.1 sum n p.cellMv then 2 ^ e.2 else 0) }
    let short := (cells.zipIdx.filter fun e => decide (1000 * n ≤ sum) && decide (e.1 * 2 * n < sum)).map (·.2)
    let tooHigh := s.pwr.overvolt cells
    let opened := s.pwr.conv == .charge && decide (bankI * 10 < s.pwr.chargeMa) && decide (1000 < rise)
    let s := short.foldl (fun s i => s.cellFault i .cellShort) s
    let s := tooHigh.foldl (fun s i => s.cellFault i .cellOvervolt) s
    .next (if opened then s.cellFault 0 .cellOpen else s)

/-! Charge timers (R288). -/

/-- NO_BANK_CHECK (R288): no 50 mV rise after 2 s of charging. -/
def execNoBankCheck (bankV atNs : Nat) (s : State) : Res :=
  let s := s.clockTo atNs
  if s.pwr.bank == .charging && expired s.pwr.chargeFrom 2000000000 s.nowNs && decide (bankV < s.pwr.chargeV0 + 50) &&
      !s.pwr.floated then
    let s := s.modPwr fun p => { p with conv := .off, bankV := bankV }
    .next (s.degrade .noBank true)
  else .next s

/-- CHARGE_TIMEOUT (R288): float not reached within 600 s. -/
def execChargeTimeout (atNs : Nat) (s : State) : Res :=
  let s := s.clockTo atNs
  if s.pwr.bank == .charging && expired s.pwr.chargeFrom 600000000000 s.nowNs && !s.pwr.floated then
    let s := (s.modPwr fun p => { p with conv := .off }).flag Reg.PWR_ERR_STAT Reg.PWR_ERR_EN 5 false
    .next (s.degrade .chargeFault true)
  else .next s

/-- FLOAT_REACHED (R278, R281): the converter floats; the first assay after supplies good becomes due. -/
def execFloatReached (bankV : Nat) (s : State) : Res :=
  if (s.pwr.conv == .charge || s.pwr.conv == .float) && decide (s.pwr.floatMv ≤ bankV) then
    .next (s.modPwr fun p => { p with bankV := bankV, conv := .float, assayWanted := p.assayWanted || !p.floated,
                                      floated := true, chargeFrom := none })
  else .next s

/-! Assays (R281 to R283). -/

/-- The drop in usable energy from the present voltage to 0.9 of it, mJ, rounded up. -/
def State.assayEnergy (s : State) : Nat :=
  let (c, e) := s.pwr.provable
  let at_ (v : Nat) := Machine.usableFrac c e (s.regNat Reg.PWR_C_MARGIN) (s.regNat Reg.PWR_ESR_FACTOR) s.extraMw v
  let hi := at_ s.pwr.bankV
  let lo := at_ (s.pwr.bankV * 9 / 10)
  ceilDiv (hi.1 - lo.1) hi.2

/-- The raw budget at 0.9 of the present voltage (R282). -/
def State.assayCap (s : State) : Nat :=
  let (c, e) := s.pwr.provable
  (meterOf (Machine.usableFrac c e (s.regNat Reg.PWR_C_MARGIN) (s.regNat Reg.PWR_ESR_FACTOR) s.extraMw
    (s.pwr.bankV * 9 / 10)) s.conf.monReserve s.extraMw 0).raw

/-- An assay may run now: not in BRACED or in a flush, and the bank is fitted, sound and not DISCHARGING. -/
def State.assayCan (s : State) : Bool :=
  !s.inState [.braced, .flush, .safe, .quench] && !s.inFlush && s.pwr.floated && s.pwr.latched.isEmpty &&
    s.pwr.bank != .absent && s.pwr.bank != .discharging

/-- An assay is asked for: it waits for its gate (R281 step 1). -/
def State.askAssay (s : State) : State :=
  if s.pwr.assay.phase == .idle then
    s.modPwr fun p => { p with assay := { assayInit with phase := .waitGate }, assayWanted := false }
  else s

/-- The gate of a waiting assay is tested: with no assay passed since supplies good it is open. Charging then stops
(R281, R282). -/
def State.assayGate (s : State) : State :=
  let s := if s.pwr.assayWanted && s.assayCan then s.askAssay else s
  if s.pwr.assay.phase == .waitGate && s.assayCan &&
      (!s.pwr.assayValid || s.gateOk s.assayEnergy) then
    s.modPwr fun p => { p with assay := { p.assay with phase := .relax, forced := p.forcedCap.isSome }, conv := .off,
                               assayForced := p.forcedCap.isSome }
  else s

/-- ASSAY_DUE (R281): ASSAY_DAYS of datum time since the last passing assay. -/
def execAssayDue (atNs : Nat) (s : State) : Res :=
  let s := s.clockTo atNs
  if s.pwr.assayValid && decide (s.pwr.assayTimer + s.conf.assayDays * 86400000000000 ≤ s.datumNs) &&
      !s.pwr.assayOverdue then
    .next (s.modPwr fun p => { p with assayOverdue := true, assayWanted := true })
  else .next s

/-- ASSAY_SLACK_EXPIRY (R282, R288): one day past due, the budget is lowered until the surplus covers the assay; when not
even an empty staging would let it, the bank is DEGRADED (log entry 24). -/
def execAssaySlackExpiry (atNs : Nat) (s : State) : Res :=
  let s := s.clockTo atNs
  if s.pwr.assayOverdue && decide (s.pwr.assayTimer + (s.conf.assayDays + 1) * 86400000000000 ≤ s.datumNs) &&
      (s.pwr.assay.phase == .idle || s.pwr.assay.phase == .waitGate) then
    let m := meterOf s.usableFrac s.conf.monReserve s.extraMw 0
    if m.surplus < (s.assayEnergy : Int) || !s.assayCan then
      .next ((s.modPwr fun p => { p with assayWanted := true }).degrade .assayOverdue false)
    else
      let cap := s.assayCap
      let s := (s.modPwr fun p => { p with forcedCap := some cap, assayWanted := true }).setBudget
      .next s.forceWb.assayGate
  else .next s

/-- ASSAY_NOW (R281): a write of 1 to PWR_CTL.ASSAY_NOW, refused in BRACED and while the bank is not ARMED (R86). -/
def execAssayNow (via : Via) (s : State) : Res :=
  if !s.reaches via then .next s else
  let s := s.emit (.regWriteDone via Reg.PWR_CTL)
  if s.sys.state == .braced || s.pwr.bank != .armed || s.pwr.assay.phase != .idle then .next s
  else .next ((s.setBits Reg.PWR_CTL 8).askAssay.assayGate)

/-- ASSAY_RELAX_DONE (R281 steps 2 and 3): V0, then mode ASSAY with GD_IN off. -/
def execAssayRelaxDone (v0 : Nat) (s : State) : Res :=
  if s.pwr.assay.phase == .relax then
    .next (s.modPwr fun p => { p with assay := { p.assay with phase := .step, v0 := v0 }, bankV := v0, conv := .assay,
                                      gdIn := false })
  else .next s

/-- ASSAY_ESR_SAMPLE (R281 step 4): ESR = ΔV ÷ I1; a step of no current gives no sample. -/
def execAssayEsrSample (stepMa dropMv : Nat) (s : State) : Res :=
  if s.pwr.assay.phase == .step && decide (0 < stepMa) then
    .next (s.modPwr fun p =>
      { p with assay := { p.assay with phase := .integrate, stepMa := stepMa, esr := dropMv * 1000 / stepMa } })
  else .next s

/-- ASSAY_INTEGRATION_END (R281 steps 5 and 6): the charge, and the load observed. -/
def execAssayIntegrationEnd (chargeUc loadMw : Nat) (s : State) : Res :=
  if s.pwr.assay.phase == .integrate then
    .next (s.modPwr fun p =>
      { p with assay := { p.assay with phase := .settle, charge := chargeUc, load := loadMw }, conv := .off })
  else .next s

/-- The verdict on an assay (R283): 0 pass, 1 CAP_LOW, 2 ESR_HIGH. A base of 0 is none yet. -/
def assayVerdict (c e baseC baseE : Nat) (fresh : Bool) : Nat :=
  if fresh then 0 else if c * 100 < baseC * 70 then 1 else if baseE * 2 < e then 2 else 0

/-- A passing assay: valid and not overdue; it clears the causes an assay gives, and with no latched cause a DEGRADED bank
charges again (R283, R288). -/
def State.assayPass (s : State) (fresh : Bool) : State :=
  let c := s.pwr.capUf
  let e := s.pwr.esrMohm
  let s := if fresh then s.queueDeed 0 (.base c e) else s
  let d := s.datumNs
  let s := s.modPwr fun p =>
    { p with assayValid := true, assayOverdue := false, assayTimer := d, baseReset := false,
             capBase := if fresh then c else p.capBase, esrBase := if fresh then e else p.esrBase,
             cause := if p.latched.isEmpty then .none else p.cause }
  if s.pwr.bank == .degraded && s.pwr.latched.isEmpty then s.setBank .charging else s

/-- ASSAY_DONE (R281 step 6 and 7, R283): V1 gives C = Q ÷ (V0 − V1); no drop gives no result. -/
def execAssayDone (v1 : Nat) (s : State) : Res :=
  if s.pwr.assay.phase == .settle then
    let a := s.pwr.assay
    let s := s.modPwr fun p => { p with bankV := v1, gdIn := decide (p.hb + 10 ≤ p.vin) }
    if a.v0 ≤ v1 then .next (s.closeAssay 5 true)
    else
      let c := a.charge * 1000 / (a.v0 - v1)
      let fresh := s.pwr.baseReset || (s.pwr.capBase == 0 && s.pwr.esrBase == 0)
      let r := assayVerdict c a.esr s.pwr.capBase s.pwr.esrBase fresh
      let d := s.datumNs
      let s := s.modPwr fun p => { p with capUf := c, esrMohm := a.esr, assayLoad := a.load, assayDatum := d }
      let s := s.closeAssay r false
      let s := if r = 0 then s.assayPass fresh
        else (s.flag Reg.PWR_ERR_STAT Reg.PWR_ERR_EN (2 + r) false).degrade (if r = 1 then .capLow else .esrHigh) false
      .next (s.convFollow.meter).bankArm.setBudget
  else .next s

/-- BASE_RESET (R283): the next passing assay records new base values. -/
def execBaseReset (via : Via) (s : State) : Res :=
  if !s.reaches via then .next s else
  .next ((s.emit (.regWriteDone via Reg.PWR_CTL)).modPwr fun p => { p with baseReset := true })

/-! The energy meter (R284, R285, R297). -/

/-- What every change of the meter's result brings: the bank's state, the budget, forced write-back, the reserve's
conditions, a waiting assay's gate (R137, R154, R281, R284, R288). -/
def State.meterEffects (s : State) : State :=
  let s := s.meter.bankArm.setBudget
  s.convFollow.forceWb.checkReserve.assayGate

/-- ENERGY_METER_UPDATE (R284): the measured voltages (mV), inductor current (mA) and charging power (mW). -/
def execEnergyMeterUpdate (vin hb bankV : Nat) (convI : Int) (chgMw : Nat) (atNs : Nat) (s : State) : Res :=
  if !s.running then .next s
  else
    let s := (s.clockTo atNs).noteVin vin
    let s := s.modPwr fun p => { p with hb := hb, bankV := bankV, convI := convI, chgMw := chgMw }
    .next s.meterEffects

/-- LIVE_ESTIMATE (R297): during DISCHARGE, the capacitance (µF) and ESR (mΩ) estimated. -/
def execLiveEstimate (capUf esrMohm : Nat) (atNs : Nat) (s : State) : Res :=
  if s.running && s.pwr.conv == .discharge then
    let s := s.clockTo atNs
    .next ((s.modPwr fun p => { p with live := some (capUf, esrMohm) }).meter)
  else .next s

/-! Supply parameters (R287, R291). -/

/-- The supply parameters of the newest deed on its way, or those in force. -/
def State.powerNext (s : State) : Nat × Nat × Nat :=
  let queued := s.pst.queue.filterMap fun o => match o with
    | .deed _ (.power m f x) => some (m, f, x)
    | _ => none
  let running := match s.pst.run with
    | some r => match r.op with
      | .deed _ (.power m f x) => some (m, f, x)
      | _ => none
    | none => none
  (queued.getLast?.orElse fun _ => running).getD
    (s.regNat Reg.PWR_C_MARGIN, s.regNat Reg.PWR_ESR_FACTOR, s.regNat Reg.PWR_HB_EXTRA_MW)

/-- PWR_PARAM_WRITE (R287, R291): register 0 PWR_C_MARGIN, 1 PWR_ESR_FACTOR, 2 PWR_HB_EXTRA_MW. Each lowers the budget as
it rises: a rise takes effect at once, a fall with its deed. -/
def execPwrParamWrite (via : Via) (reg : Fin 3) (v : Word) (s : State) : Res :=
  if !s.reaches via then .next s else
  let off := if reg.val = 0 then Reg.PWR_C_MARGIN else if reg.val = 1 then Reg.PWR_ESR_FACTOR else Reg.PWR_HB_EXTRA_MW
  let n := v.toNat
  let ok := if reg.val = 0 then within n 5 50 else if reg.val = 1 then within n 16 64 else decide (n ≤ 6000)
  let s := s.emit (.regWriteDone via off)
  if !ok then .next s
  else
    let (m, f, x) := s.powerNext
    let d := if reg.val = 0 then DeedVal.power n f x else if reg.val = 1 then .power m n x else .power m f n
    let s := s.queueDeed 0 d
    .next (if s.regNat off ≤ n then (s.setNat off n).meterEffects else s)

end Sys2Proof.Machine
end

