-- ==== Sys2Proof/Machine/Flush.lean ====
section
/-! DEFINITION. Mains tracking, the trip, the phases of a flush, the monuments and the end of a flush (R20 to R23, R292 to
R315, R323). -/

namespace Sys2Proof.Machine

/-! Mains tracking (R292 to R295). -/

/-- Table PFL-8, PFL_CTL bits. -/
def relockBit : Nat := 1
def simTripBit : Nat := 2

/-- The mean of a list of intervals. -/
def meanOf (l : List Nat) : Nat := listSum l / max 1 l.length

/-- Eight intervals each in 7.14 to 12.5 ms and within 5 % of their mean (R293). -/
def lockable (l : List Nat) : Bool :=
  l.length == 8 && l.all fun x => within x 7140000 12500000 &&
    decide (95 * listSum l ≤ 100 * 8 * x) && decide (100 * 8 * x ≤ 105 * listSum l)

/-- The edge window has passed since the reference: 1.25 half-periods (Table DTM-3, ID 0x20). -/
def Pfl.late (p : Pfl) (now : Nat) : Bool := match p.reference with
  | some r => decide (p.half * 5 < (now - r) * 4)
  | none => false

/-- Line tracking is on (R22, R293). -/
def State.tracking (s : State) : Bool := s.conf.lineTrack == 1

/-- The edge window expires without an edge: the late edge is counted once, the run of on-time edges ends, and the
device braces where Table APP-8 allows it (R20, R293, R294). -/
def State.edgeLate (s : State) : State :=
  let s := (s.modPfl fun p => { p with windowOut := true, onTime := 0 }).incReg Reg.PFL_LINE_LATE
  if s.inState [.ready, .readonly, .locked] then s.enterBrace else s

/-- An edge becomes the reference of the next. -/
def Pfl.refer (p : Pfl) (now : Nat) : Pfl := { p with lastEdge := some now, reference := some now, windowOut := false }

/-- An on-time edge while LOCKED (R21, R293, R294): outside BRACED the half-period is the mean of the last 8 intervals. -/
def State.edgeOnTime (s : State) (now : Nat) : State :=
  let braced := s.sys.state == .braced
  let s := s.modPfl fun p =>
    let d := now - p.reference.getD now
    let l := (d :: p.intervals).take 8
    let p : Pfl := if braced then { p with onTime := p.onTime + 1 } else { p with intervals := l, half := meanOf l }
    p.refer now
  if braced && decide (4 ≤ s.pfl.onTime) then s.exitBrace else s

/-- An edge while UNLOCKED (R293): eight intervals in a row lock the tracker. -/
def State.edgeUnlocked (s : State) (now : Nat) : State :=
  let l := match s.pfl.lastEdge with
    | some e => ((now - e) :: s.pfl.intervals).take 8
    | none => []
  let l := if within (l.headD 10000000) 7140000 12500000 then l else []
  let s := s.modPfl fun p => { p with intervals := l }.refer now
  if lockable l then
    let s := s.modPfl fun p => { p with tracker := .locked, half := meanOf l }
    (s.setBits Reg.PFL_INT_STAT 16).clearBits Reg.PFL_CTL relockBit
  else s

/-- LINE_SENSE_EDGE (R292 to R294). -/
def execLineSenseEdge (atNs : Nat) (s : State) : Res :=
  if !s.running || !s.tracking then .next s
  else
    let s := s.clockTo atNs
    let now := s.nowNs
    match s.pfl.tracker with
    | .fault => .next (s.modPfl (·.refer now))
    | .unlocked => .next (s.edgeUnlocked now)
    | .locked =>
      match s.pfl.reference with
      | none => .next (s.modPfl (·.refer now))
      | some r =>
        if (now - r) * 2 < s.pfl.half then .next (s.incReg Reg.PFL_LINE_GLITCH)
        else
          let near := (now - r) * 4 == s.pfl.half * 5
          let s := if near && !s.pfl.windowOut then s.nearMiss 0x20 else s
          let s := if s.pfl.late now && !s.pfl.windowOut then s.edgeLate else s
          if s.pfl.windowOut then .next (s.modPfl (·.refer now)) else .next (s.edgeOnTime now)

/-- LINE_EDGE_LATE (R20, R293): the edge-window timer expires. -/
def execLineEdgeLate (atNs : Nat) (s : State) : Res :=
  if !s.running || !s.tracking then .next s
  else
    let s := s.clockTo atNs
    if s.pfl.tracker == .locked && !s.pfl.windowOut && s.pfl.late s.nowNs then .next s.edgeLate else .next s

/-- BRACE_TIMEOUT (R295): the line sensor is declared failed. -/
def execBraceTimeout (atNs : Nat) (s : State) : Res :=
  if !s.running then .next s
  else
    let s := s.clockTo atNs
    if s.sys.state == .braced &&
        decide (s.pfl.braceAt + s.regNat Reg.PFL_BRACE_MAX_MS * 1000000 ≤ s.nowNs) then
      let s := s.modPfl fun p => { p with tracker := .fault, intervals := [] }
      let s := (s.flag Reg.PFL_ERR_STAT Reg.PFL_ERR_EN 0 true).raise 0x8103 s.pfl.half 0
      .next s.exitBrace
    else .next s

/-- RELOCK (R295): FAULT is left and locking restarts; the bit clears at LOCKED. -/
def execRelock (via : Via) (s : State) : Res :=
  if !s.reaches via then .next s else
  let s := s.emit (.regWriteDone via Reg.PFL_CTL)
  match s.pfl.tracker with
  | .locked => .next s
  | .unlocked => .next (s.setBits Reg.PFL_CTL relockBit)
  | .fault =>
    .next ((s.modPfl fun p => { p with tracker := .unlocked, intervals := [], lastEdge := none }).setBits Reg.PFL_CTL relockBit)

/-! The trip. -/

/-- VIN_TRIP (R23, R296): VIN_SNS has stayed below VIN_TRIP_MV for 20 µs. -/
def execVinTrip (atNs : Nat) (s : State) : Res :=
  if !s.running then .next s
  else
    let s := s.clockTo atNs
    if expired s.pfl.vinLowSince 20000 s.nowNs then .next s.trip else .next s

/-- SIM_TRIP (R296, R323): in DIAG only, a confirmed trip. -/
def execSimTrip (via : Via) (s : State) : Res :=
  if !s.reaches via then .next s else
  let s := s.emit (.regWriteDone via Reg.PFL_CTL)
  if s.sys.state == .diag && s.running then
    let s := (s.setBits Reg.PFL_CTL simTripBit).modPfl fun p => { p with sim := true }
    .next s.trip
  else .next s

/-! Phases (R298 to R305). -/

/-- The phase gates are not applied in a reset flush while VIN_SNS stays at or above VIN_TRIP_MV (R306). -/
def State.gateExempt (s : State) : Bool := s.sys.flushFor.isSome && decide (s.conf.vinTrip ≤ s.pwr.vin)

/-- PWR_USABLE_MJ covers an energy, in mJ and parcels (R298). -/
def State.phaseGate (s : State) (mj parcels : Nat) : Bool :=
  s.gateExempt || decide (mj * 10000000000000 + parcels * ePar s.extraMw ≤ s.pwr.usable * 10000000000000)

/-- A phase ends: its time in µs and its energy in mJ, by the fall of PWR_USABLE_MJ (log entry 25). -/
def State.phaseUs (s : State) : Nat := (s.nowNs - s.pfl.phaseAt) / 1000
def State.phaseMj (s : State) : Nat := s.pfl.phaseUsable - s.pwr.usable

/-- The next phase starts. -/
def State.setPhase (s : State) (p : Phase) : State :=
  let now := s.nowNs
  let u := s.pwr.usable
  s.modPfl fun x => { x with phase := p, phaseAt := now, phaseUsable := u }

/-- The row of Table PFL-2 of a cadastre page. -/
def Plat.pageRow (p : Plat) (page : Nat) : Nat :=
  let tracts := p.pageBase + 2 * (p.buckets * 4 / 4096)
  if page < tracts then 3 else if page < tracts + 10240 then 2 else 1

/-- The row of a dirty metadata parcel: tag lines 6, counter blocks and tree nodes 5. -/
def Plat.metaRow (p : Plat) (parcel : Nat) : Nat := if parcelPlot parcel < p.ctrPlot then 6 else 5

/-- A metadata item as one number, its row first. -/
def metaItem (row id : Nat) : Nat := row * 2 ^ 40 + id
def metaRowOf (n : Nat) : Nat := n / 2 ^ 40
def metaIdOf (n : Nat) : Nat := n % 2 ^ 40

/-- What Drain has to write of the metadata, in the order of Table PFL-2. -/
def State.metaWork (s : State) : List Nat :=
  let p := s.conf
  let l := (s.cds.dirtyPages.map fun n => metaItem (p.pageRow n) n) ++
    (s.mdc.stripes.map fun e => metaItem 4 (e.1 * 512 + e.2)) ++
    (s.ime.metaDirty.map fun n => metaItem (p.metaRow n) n)
  l.mergeSort fun a b => decide (a ≤ b)

/-- QOS_CLASS of a frame's holding. -/
def State.frameQos (s : State) (i : Nat) : Nat := ((s.conf.holding (s.stg.frame i).holding).map (·.qos)).getD 0

/-- The dirty frames in drain order: by class, and within a class in front-hand order (R168). -/
def State.frameWork (s : State) : List Nat :=
  let l := s.frontOrder
  [0, 1, 2, 3].flatMap fun c => l.filter fun i => min 3 (s.frameQos i) == c

/-- PFL_MON_NEED_MJ (R298): 40 mJ and 160 mJ per GiB over both copies, at most 54 mJ. -/
def State.monNeedOf (s : State) (meta_ frames : List Nat) : Nat :=
  let sparse := (frames.filter fun i => (s.stg.frame i).dirty != allLines).length
  let slots := (meta_.filter fun n => 5 ≤ metaRowOf n).length
  let pages := (meta_.filter fun n => metaRowOf n ≤ 3).length
  let parcels := 2 + ceilDiv (8 * (frames.length + sparse + slots)) 4096 + ceilDiv (8 * pages) 4096
  min 54 (40 + 160 * (2 * parcels * 4096) / 2 ^ 30)

/-- Nothing that Seal must finish is left: accepted writes and reads, write-backs, fills (R299). -/
def State.sealed (s : State) : Bool :=
  let idle (x : Port) : Bool := x.pwb.isEmpty && x.reads.isEmpty
  idle s.port0 && idle s.port1 && s.stg.wbt.isEmpty && s.stg.fills.isEmpty

/-- Every reset in progress is suspended (R221, R299). -/
def DieOp.suspend (o : DieOp) (now : Nat) : DieOp :=
  if o.suspended then o else { o with suspended := true, elapsed := o.elapsed + (now - o.start) }

def Trv.suspendResets (t : Trv) (now : Nat) : Trv :=
  { t with channels := t.channels.map fun c =>
      { c with dies := c.dies.map fun d => { d with reset := d.reset.map (·.suspend now) } } }

/-- Drain is over: Monument starts, or is skipped when its gate does not clear or no set is ready (R298, R305). -/
def State.enterMonument (s : State) (worked : Bool) : State :=
  let ready := (s.pfl.monSet s.pfl.spareSet).isReset || s.pfl.newestMon.isNone
  if s.phaseGate (s.pfl.monNeed + 10) 0 && (worked || ready) then
    let d := s.datumNs
    (s.setPhase .monument).modPfl fun p => { p with monDatum := d }
  else
    ((s.setPhase .rest).modPfl fun p => { p with monSkipped := true }).flag Reg.PFL_ERR_STAT Reg.PFL_ERR_EN 3 false

/-- SEAL_DONE (R299): Drain starts, or Monument when nothing is dirty; a trip in RECOVER goes to Rest (R321). -/
def execSealDone (atNs : Nat) (s : State) : Res :=
  if s.pfl.phase == .sealing && s.sealed then
    let s := s.clockTo atNs
    let us := s.phaseUs
    let mj := s.phaseMj
    let now := s.nowNs
    let s := s.modTrv (·.suspendResets now)
    let m := s.metaWork
    let f := s.frameWork
    let need := s.monNeedOf m f
    let s := s.modPfl fun p => { p with sealUs := us, sealMj := mj, monNeed := need, metaLeft := m, frameLeft := f }
    if s.pfl.restOnly then .next (s.setPhase .rest)
    else if m.isEmpty && f.isEmpty then .next (s.enterMonument false)
    else .next (s.setPhase .drain)
  else .next s

/-! Drain (R300 to R302). -/

/-- The next slot of the dump reservation: band and slot. -/
def State.dumpSlot (s : State) : Option (Nat × Nat) :=
  (s.cds.dumpBands[s.cds.dumpUsed / 8192]?).map fun b => (b, s.cds.dumpUsed % 8192)

def State.takeDump (s : State) : State := s.modCds fun c => { c with dumpUsed := c.dumpUsed + 1 }

/-- Drain writes one dirty metadata item (R300, Table PFL-2). -/
def State.drainMeta (s : State) (item : Nat) (slot : Nat × Nat) : State :=
  let id := metaIdOf item
  let s := s.modPfl fun p => { p with drainedMeta := p.drainedMeta + 1 }
  match metaRowOf item with
  | 4 => s.modMdc fun m => { m with stripes := m.stripes.filter (· != (id / 512, id % 512)) }
  | 5 | 6 =>
    let kind := if metaRowOf item = 6 then LineKind.tag else .counter
    let s : State := match s.cds.band slot.1 with
      | some b => (List.range 64).foldl (fun (s : State) n =>
          match b.place slot.2 n with
          | some k =>
            let x : Seal := { gen := 0, major := 0, minor := 0, line := id * 64 + n }
            s.programLine k { data := Config.metaLine (id * 64 + n) s.ime.rootSeq, under := x, poison := false, kind := kind }
          | none => s) s
      | none => s
    let e : DumpEnt := { band := slot.1, slot := slot.2, parcel := id, mask := allLines, poison := 0 }
    (s.takeDump.modIme fun m => { m with metaDirty := m.metaDirty.filter (· != id) }).modPfl fun p => { p with dump := p.dump ++ [e] }
  | _ =>
    let k := s.cds.dumpUsed
    (s.takeDump.modCds fun c => { c with dirtyPages := c.dirtyPages.filter (· != id) }).modPfl fun p =>
      { p with delta := p.delta ++ [(id, k)] }

/-- Drain writes one dirty frame into the next slot: its dirty lines, sealed, with their POISON marks; the lines are clean
then (R300, R306). Metadata that this changes is written with the parcel. -/
def State.drainFrame (s : State) (i : Nat) (slot : Nat × Nat) : State :=
  let before := s.ime.metaDirty
  let f := s.stg.frame i
  let wrapped := s.wraps f.parcel f.dirty
  let s := if wrapped then s.fillAll i else s
  let f := s.stg.frame i
  let (s, seals) := s.sealMask f.parcel f.dirty wrapped
  let s := if wrapped then s.wrapGroup f.parcel else s
  let s : State := match s.cds.band slot.1 with
    | some b => seals.foldl (fun (s : State) e =>
        match b.place slot.2 e.1 with
        | some k =>
          let m : MedLine := { data := f.line e.1, under := e.2, poison := Quad.at f.poison e.1, kind := .host }
          s.programLine k m
        | none => s) s
    | none => s
  let s := s.commitSeals f.parcel seals
  let e : DumpEnt := { band := slot.1, slot := slot.2, parcel := f.parcel, mask := f.dirty, poison := f.poison &&& f.dirty }
  let s := s.takeDump.modPfl fun p => { p with dump := p.dump ++ [e] }
  (s.modStg (·.onFrame i fun f => { f with dirty := 0 })).modIme fun m => { m with metaDirty := before }

/-- The frames left are unflushed (R301): the first 4,096 listed, the plots of the others marked. -/
def State.unflush (s : State) : State :=
  let l := s.pfl.frameLeft
  let ovf := (l.drop 4096).map fun i => parcelPlot (s.stg.frame i).parcel
  s.modPfl fun p =>
    { p with unflushed := p.unflushed ++ (l.take 4096).map fun i => ((s.stg.frame i).parcel, (s.stg.frame i).dirty),
             overflow := ovf.eraseDups, unflOvf := decide (4096 < l.length), unflTotal := p.unflTotal + l.length, frameLeft := [] }

/-- Drain stops at its gate (R301, R302). -/
def State.drainShort (s : State) : State :=
  let lost := !s.pfl.metaLeft.isEmpty
  let s := (s.modPfl fun p => { p with short := true, metaShort := lost }).unflush
  let s := s.flag Reg.PFL_ERR_STAT Reg.PFL_ERR_EN 1 true
  let s := if lost then s.flag Reg.PFL_ERR_STAT Reg.PFL_ERR_EN 2 false else s
  if s.pfl.unflOvf then s.flag Reg.PFL_ERR_STAT Reg.PFL_ERR_EN 8 false else s

/-- The end of Drain. -/
def State.endDrain (s : State) : State :=
  let us := s.phaseUs
  let mj := s.phaseMj
  (s.modPfl fun p => { p with drainUs := us, drainMj := mj }).enterMonument true

/-- A line of a frame that Drain has tried three times is listed as unflushed, and the rest of the frame is drained (R344). -/
def State.dropStuck (s : State) (i : Nat) (stuck : Option (Fin 64)) : State :=
  let f := s.stg.frame i
  match s.inverseStuck f.parcel stuck with
  | some line =>
    if Quad.at f.dirty (line % 64) then
      let s := s.stick line
      let s := s.modStg (·.onFrame i fun f => { f with dirty := f.dirty &&& ~~~ oneBit (line % 64) })
      s.modPfl fun p => { p with unflushed := p.unflushed ++ [(f.parcel, oneBit (line % 64))], unflTotal := p.unflTotal + 1 }
    else s
  | none => s

/-- DRAIN_PARCEL (R298, R300, R301): the gate is tested, and the next item is written. `misses`, `stuck`: inverse checks of a
frame's lines, as for a write-back (R344). -/
def execDrainParcel (misses : List (Fin 64 × Fin 2)) (stuck : Option (Fin 64)) (atNs : Nat) (s : State) : Res :=
  if s.pfl.phase == .drain then
    let s := s.clockTo atNs
    match s.dumpSlot with
    | none => .next s.drainShort.endDrain
    | some slot =>
      if !s.phaseGate (s.pfl.monNeed + 10) 1 then .next s.drainShort.endDrain
      else
        let s := match s.pfl.metaLeft, s.pfl.frameLeft with
          | m :: rest, _ => (s.drainMeta m slot).modPfl fun p => { p with metaLeft := rest }
          | [], i :: rest =>
            let s := (s.inverseMisses (s.stg.frame i).parcel misses).dropStuck i stuck
            (s.drainFrame i slot).modPfl fun p => { p with frameLeft := rest }
          | [], [] => s
        if s.pfl.metaLeft.isEmpty && s.pfl.frameLeft.isEmpty then .next s.endDrain else .next s
  else .next s

/-! Monuments (R303, R307, R312, Table PFL-4). -/

/-- The re-key state a monument records (R360). -/
def State.rekeyRecs (s : State) : List RekeyRec :=
  s.conf.holdings.map fun h =>
    let r := s.ime.rekey h.id
    { holding := h.id, boundary := r.boundary, gen := r.cur, flags := (if r.active then 1 else 0) + if r.queued then 2 else 0 }

/-- The layout fingerprint a monument carries: that of the newest configuration deed, else of the image in force (Table PFL-4). -/
def State.layoutFp (s : State) : Nat := (s.configNext.fp).getD ((s.plat.image.map (·.fp)).getD 0)

/-- A monument of the flush that runs (Table PFL-4). -/
def State.flushMonument (s : State) (gen us mj : Nat) : Monument :=
  let p := s.pfl
  let frames := (p.dump.filter fun e => isHostParcel e.parcel).length
  { kind := if s.sys.state == .quench then .quench else p.kind, gen := gen, short := p.short, metaShort := p.metaShort,
    unflOvf := p.unflOvf, wtAtTrip := p.wtAtTrip, braced := p.tripBraced, carried := false, datum := p.monDatum,
    fp := s.layoutFp, dump := p.dump, deltaPages := p.delta, lost := p.metaLeft, unflushed := p.unflushed,
    overflow := p.overflow, rootSeq := s.ime.rootSeq, rekey := s.rekeyRecs, sealUs := p.sealUs, drainUs := p.drainUs,
    monUs := us, sealMj := p.sealMj, drainMj := p.drainMj, monMj := mj, tripDatum := p.tripDatum,
    usableAtTrip := p.tripUsable, fromState := p.fromState, drained := p.drainedMeta + frames, unflTotal := p.unflTotal, marks := 0, rest := none, bad := false }

/-- The generation of the next monument. -/
def Pfl.nextGen (p : Pfl) : Nat := match p.newestMon with
  | some (_, m) => m.gen + 1
  | none => 1

/-- Both copies of a monument stand in set gen mod 2, and its hint is queued, unless the hint sector's erase has not
verified (R303, R311, R424). -/
def State.placeMonument (s : State) (m : Monument) : State :=
  let set_ : MonSet := { a := some m, b := some m }
  let one := m.gen % 2 == 1
  let s := s.modPfl fun p => if one then { p with set1 := set_, newest := m.gen } else { p with set0 := set_, newest := m.gen }
  if s.pst.hintErasing then s
  else s.pstQueue (.hint { gen := m.gen, set := m.gen % 2, datum := m.datum, fp := m.fp, crcOk := true })

/-- The map and counters a restart would load are those of now (log entry 18). -/
def State.saveMap (s : State) : State :=
  s.modSaved fun _ => { cds := s.cds, ctr := s.ime.ctr, quar := s.ime.quar, rekeys := s.ime.rekeys, root := s.ime.root }

/-- MONUMENT_DONE (R303): both copies have verified; the hint is queued and Rest starts. -/
def execMonumentDone (atNs : Nat) (s : State) : Res :=
  if s.pfl.phase == .monument then
    let s := s.clockTo atNs
    let us := s.phaseUs
    let mj := s.phaseMj
    let s := s.saveMap.placeMonument (s.flushMonument s.pfl.nextGen us mj)
    .next ((s.modPfl fun p => { p with monUs := us, monMj := mj }).setPhase .rest)
  else .next s

/-- The rest line goes into both copies of the monument just written (R304). -/
def State.restLine (s : State) : State :=
  if s.pfl.monSkipped || s.pfl.restOnly then s
  else
    let r := (s.phaseUs, s.phaseMj)
    let up (m : MonSet) : MonSet :=
      { a := m.a.map fun x => { x with rest := some r }, b := m.b.map fun x => { x with rest := some r } }
    s.modPfl fun p => match p.newestMon with
      | some (true, _) => { p with set1 := up p.set1 }
      | some (false, _) => { p with set0 := up p.set0 }
      | none => p

/-- REST_DONE (R304, R27, R461): with the parameter store idle, the medium goes to standby, the converter off, and the
device enters SAFE, or is powered down in QUENCH. -/
def execRestDone (atNs : Nat) (s : State) : Res :=
  if s.pfl.phase == .rest && s.pst.run.isNone && s.sys.flushFor.isNone then
    let s := (s.clockTo atNs).restLine
    let s := (s.setPhase .done).modTrv fun t => { t with rstLow := true }
    let s := (s.modPwr fun p => { p with conv := .off }).clearBits Reg.PFL_CTL simTripBit
    let s := s.modPfl fun p => { p with sim := false }
    match s.sys.state with
    | .flush => if s.sys.quenchAfterFlush then .next ((s.goState .quench).powerDown) else .next (s.goState .safe)
    | .quench => .next s.powerDown
    | _ => .next s
  else .next s

/-- SAFE_RESUME (R26, R289): VIN_SNS at or above VIN_RESUME_MV for 100 ms in SAFE. -/
def execSafeResume (vin atNs : Nat) (s : State) : Res :=
  if !s.running then .next s
  else
    let s := (s.clockTo atNs).noteVin vin
    if s.sys.state == .safe && !s.inFlush && expired s.pfl.vinHighSince 100000000 s.nowNs then
      let s := if s.pwr.bank == .discharging then s.setBank (if s.pwr.latched.isEmpty then .charging else .degraded) else s
      let s := s.modPwr fun p => { p with live := none }
      .next ((s.performReset .safeResume).convFollow)
    else .next s

/-! RUN monuments and the reset of the older set (R312, R314, R315). -/

/-- A RUN monument of the next generation; it carries an index that no sealed directory covers yet (R312, R313). -/
def State.runMonument (s : State) : Monument :=
  let old := s.pfl.newestMon.map (·.2)
  let carry := match old with
    | some m => (!m.dump.isEmpty || !m.deltaPages.isEmpty) && decide (s.pfl.ckptGen < m.gen)
    | none => false
  let pick {α : Type} (f : Monument → List α) : List α := if carry then (old.map f).getD [] else []
  { kind := .run, gen := s.pfl.nextGen, short := false, metaShort := false, unflOvf := false, wtAtTrip := false,
    braced := false, carried := carry, datum := s.datumNs, fp := s.layoutFp, dump := pick (·.dump),
    deltaPages := pick (·.deltaPages), lost := [], unflushed := pick (·.unflushed), overflow := [],
    rootSeq := s.ime.rootSeq, rekey := s.rekeyRecs, sealUs := 0, drainUs := 0, monUs := 0, sealMj := 0, drainMj := 0,
    monMj := 0, tripDatum := 0, usableAtTrip := 0, fromState := 0, drained := 0, unflTotal := 0, marks := 0, rest := none,
    bad := false }

/-- The tracts of a monument set: bands 0 to 3 or 4 to 7 of the monument bands, ascending (R307). -/
def Cds.monTracts (c : Cds) (one : Bool) : List Nat :=
  let l := c.bands.filter fun e => e.2.role == .monument
  ((if one then l.drop 4 else l.take 4).map fun e => e.2.tracts).flatten

/-- The reset of a monument set is scheduled as priority 1 work (R315). -/
def State.resetMonSet (s : State) (one : Bool) : State :=
  if (s.pfl.monSet one).isReset then s
  else
    let l := s.cds.monTracts one
    let s := s.modPfl fun p => { p with resetSet := some one, resetLeft := l }
    if l.isEmpty then s.modPfl fun p =>
      if one then { p with set1 := emptySet, resetSet := none } else { p with set0 := emptySet, resetSet := none }
    else s.modCds fun c =>
      l.foldl (fun c k => c.addWork (.resetTract (k / 16384 / 4) (k / 16384 % 4) (k % 16384)) 1 none) c

/-- A RUN monument is written, and the other set's reset is scheduled (R312, R315). -/
def State.writeRun (s : State) : State :=
  let m := s.runMonument
  let s := s.placeMonument m
  s.resetMonSet (m.gen % 2 == 0)

/-- RUN_MONUMENT_WRITE (R315): write-back closed with fewer than two mark lines left, into a set that is reset. -/
def execRunMonumentWrite (s : State) : Res :=
  match s.pfl.newestMon with
  | some (one, m) =>
    if s.running && !s.inFlush && m.kind == .run && !s.pfl.wbOpen && decide (m.markRoom < 2) && (s.pfl.monSet (!one)).isReset then
      .next s.writeRun.setBudget
    else .next s
  | none => .next s

/-- PFL_PARAM_WRITE (R323): PFL_BRACE_MAX_MS, 500 to 10,000. -/
def execPflParamWrite (via : Via) (v : Word) (s : State) : Res :=
  if !s.reaches via then .next s else
  let s := s.emit (.regWriteDone via Reg.PFL_BRACE_MAX_MS)
  .next (if within v.toNat 500 10000 then s.setReg Reg.PFL_BRACE_MAX_MS v else s)

end Sys2Proof.Machine
end

