-- ==== Sys2Proof/Machine/System.lean ====
section
/-! DEFINITION. Supplies good and its loss, the reset inputs, the reset register, the end of a reset flush and the TAP
(R271, R306, R488 to R492, R504 to R507). -/

namespace Sys2Proof.Machine

/-! Supplies. -/

/-- What supplies good starts from: everything at reset but what the medium, the parameter store, the fuses and the board
keep, and what the always-on domain keeps while it stays powered (R194, R271, R445, Table REG-2). -/
def State.freshStart (s : State) (straps : BitVec 5) (retained : Bool) (offNs : Nat) : State :=
  let z := State.reset
  let d := if retained then s.dtm.datum + offNs * nsUnits else 0
  let pk := s.svc.security.passphrase
  let port (x : Port) : Port := { portInit with lsa := x.lsa, lsaCopy := x.lsaCopy }
  let lg := if retained then s.evr.lg else evrInit.lg
  let lgStat := if retained then s.evr.lgStat &&& ~~~ BitVec.ofNat 32 (2 ^ 30) else 0
  { z with
    pending := s.pending, out := s.out, free := s.free, med := s.med, saved := s.saved,
    sys := { sysInit with straps := straps },
    dtm := { dtmInit with datum := d, everSet := retained && s.dtm.everSet, retained := retained },
    plat := { platInit with slotA := s.plat.slotA, slotB := s.plat.slotB, slot := s.plat.slot },
    port0 := port s.port0, port1 := port s.port1,
    svc := { svcInit with poison := s.svc.poison, injected := s.svc.injected, fwA := s.svc.fwA, fwB := s.svc.fwB,
                          shutdownDirty := s.svc.shutdownDirty,
                          security := { securityInit with passphrase := pk, unlocked := pk.isNone } },
    trv := { trvInit with programmed := s.trv.programmed },
    mdc := { mdcInit with clocks := s.mdc.clocks, retired := s.mdc.retired, recoveries := s.mdc.recoveries,
                          retirements := s.mdc.retirements, unrecovered := s.mdc.unrecovered },
    pfl := { pflInit with set0 := s.pfl.set0, set1 := s.pfl.set1, newest := s.pfl.newest, ckptGen := s.pfl.ckptGen,
                          report := { s.pfl.report with monSkipped := false, lost := false } },
    ime := { imeInit with rootSeq := s.ime.rootSeq },
    cke := { ckeInit with revoked := s.cke.revoked, owner := s.cke.owner },
    pst := { s.pst with run := none, queue := [], gateWait := false, owed := 0, buf := [] },
    evr := { evrInit with ring := s.evr.ring, ringPos := s.evr.ringPos, alt := s.evr.alt, altPos := s.evr.altPos, lg := lg,
                          lgStat := lgStat } }

/-- SUPPLIES_GOOD (R271, R490, R509): the device leaves reset and starts BOOT. `retained`: the always-on domain kept its
contents since the loss, `offNs` before. -/
def execSuppliesGood (straps : BitVec 5) (retained : Bool) (offNs : Nat) (s : State) : Res :=
  if s.sys.supplies then .next s
  else
    let s := s.freshStart straps retained offNs
    .next ((s.stgLevels.afterResetState .suppliesGood 0).pstBoot)

/-- What the loss of the supplies leaves of a monument that is being written: copy A may have verified, and then copy B may
have (R303, R309). -/
def State.cutMonument (s : State) : State :=
  if s.pfl.phase == .monument then
    let okA := Config.freeBool s.free
    let okB := Config.freeBool (s.free + 1)
    let m := s.flushMonument s.pfl.nextGen s.phaseUs s.phaseMj
    let set_ : MonSet := { a := some { m with bad := !okA }, b := some { m with bad := !(okA && okB) } }
    let s := if okA then s.saveMap else s
    let s := s.modPfl fun p => if m.gen % 2 == 1 then { p with set1 := set_ } else { p with set0 := set_ }
    s.useFree.useFree
  else s

/-- SUPPLY_LOSS (R271, R429): supplies good ends and the device holds itself in reset. -/
def execSupplyLoss (s : State) : Res :=
  if s.sys.supplies then .next (s.cutMonument.pstCut.modSys fun x => { x with supplies := false }) else .next s

/-! Reset inputs (R488, R489). -/

def ResetPin.kind : ResetPin → ResetKind
  | .sysRst => .warmSysRst
  | .perst => .warmPerst

def State.setPin (s : State) (pin : ResetPin) (low : Bool) : State :=
  s.modSys fun x => match pin with
    | .sysRst => { x with sysRstLow := low }
    | .perst => { x with perstLow := low }

/-- RESET_INPUT_LOW (R488, R489): an input has been low for 1 µs. A device held in reset stays held. -/
def execResetInputLow (pin : ResetPin) (atNs : Nat) (s : State) : Res :=
  let s := s.setPin pin true
  if s.running then .next ((s.clockTo atNs).requestReset pin.kind) else .next s

/-- RESET_INPUT_RELEASE (R488): with both inputs high a held warm reset ends and BOOT begins. -/
def execResetInputRelease (pin : ResetPin) (atNs : Nat) (s : State) : Res :=
  let s := s.setPin pin false
  if s.sys.inReset && s.sys.supplies && !s.sys.sysRstLow && !s.sys.perstLow then
    let s := s.clockTo atNs
    let now := s.nowNs
    .next (s.modSys fun x => { x with inReset := false, since := now, bootAt := now })
  else .next s

/-- RESET_FLUSH_DONE (R29, R306): Rest of the reset flush is over and the reset is performed. -/
def execResetFlushDone (atNs : Nat) (s : State) : Res :=
  match s.sys.flushFor with
  | some k =>
    if s.pfl.phase == .rest then
      let s := ((s.clockTo atNs).restLine).setPhase .done
      .next ((s.modSys fun x => { x with flushFor := none }).performReset k)
    else .next s
  | none => .next s

/-! The reset register (R507). -/

/-- A write of SYS_RST_CTL: KEY in bits 31:24, and exactly one of DIAG, COLD and WARM. -/
def State.rstCtl (s : State) (via : Via) (v : Nat) : State :=
  let s := s.emit (.regWriteDone via Reg.SYS_RST_CTL)
  let refuse := s.flag Reg.SYS_ERR_STAT Reg.SYS_ERR_EN 1 false
  if bitsAt v 24 8 != 0xC3 then refuse
  else match bitsAt v 0 3 with
    | 1 => s.requestReset .warmReg
    | 2 => if via == .mctp then s.requestReset .coldReg else refuse
    | 4 => if s.inState [.ready, .readonly] then s.requestReset .diagnostic else refuse
    | _ => refuse

/-- A write with the WARM bit set. -/
def execSysRstWarm (via : Via) (v : Word) (s : State) : Res :=
  if !s.reaches via then .next s else .next (s.rstCtl via (v ||| 1).toNat)

/-- A write with the COLD bit set. -/
def execSysRstCold (via : Via) (v : Word) (s : State) : Res :=
  if !s.reaches via then .next s else .next (s.rstCtl via (v ||| 2).toNat)

/-- A write with the DIAG bit set. -/
def execSysRstDiag (via : Via) (v : Word) (s : State) : Res :=
  if !s.reaches via then .next s else .next (s.rstCtl via (v ||| 4).toNat)

/-! TAP (R492). -/

/-- The instruction in force: EXTEST, CLAMP and HIGHZ act only under STRAP_BOOT 0b11 and else as BYPASS. -/
def tapCode (straps : BitVec 5) (i : TapInstr) : TapInstr :=
  match i with
  | .extest | .clamp | .highz => if straps.toNat % 4 = 3 then i else .bypass
  | _ => i

/-- TAP_INSTRUCTION (R492): IDCODE shifts out 0x1410_0A67; what SAMPLE captures of the pins is a free value (log entry 3),
since the spec gives the boundary register no layout. -/
def execTapInstruction (i : TapInstr) (trstLow : Bool) (s : State) : Res :=
  if trstLow then .next (s.modSys fun x => { x with tapReset := true, tapInstr := TapInstr.idcode.code })
  else
    let c := tapCode s.sys.straps i
    let s := s.modSys fun x => { x with tapReset := false, tapInstr := c.code }
    match c with
    | .idcode => .next (s.emit (.tap c.code 0x14100A67))
    | .samplePreload | .extest => .next ((s.emit (.tap c.code (Config.freeWord s.free).toNat)).useFree)
    | _ => .next (s.emit (.tap c.code 0))

end Sys2Proof.Machine
end

