-- ==== Sys2Proof/Machine/Cipher.lean ====
section
/-! DEFINITION. The cipher engine: submissions, their end, key slots, randomness (R363 to R376, R380 to R382). -/

namespace Sys2Proof.Machine

/-! The ENGINE partition. -/

def memByte (m : SMap Byte) (a : Nat) : Byte := mapGet (fun _ => 0) m a

def memRead (m : SMap Byte) (a n : Nat) : List Byte := (List.range n).map fun i => memByte m (a + i)

def memWrite (m : SMap Byte) (a : Nat) : List Byte → SMap Byte
  | [] => m
  | b :: rest => memWrite (mapSet (fun _ => 0) m a b) (a + 1) rest

/-- The quarantine area: the first 8 MiB (R368). -/
def quarArea : Nat := 8388608

/-! Randomness (R375). -/

/-- A health test fails: FAIL, the flag and the record. -/
def State.rngFails (s : State) : State :=
  let now := s.nowNs
  ((s.modCke fun c => { c with rngFail := true, rngAt := now }).flag Reg.CKE_ERR_STAT Reg.CKE_ERR_EN 4 true).raise 0xA102 0 0

/-- One request of the random bit generator. -/
def State.draw (s : State) : State × BitVec 256 :=
  let k := s.free
  ((s.modCke fun c => { c with rngRequests := c.rngRequests + 1 }).useFree, Config.random256 k)

/-- RNG_RETEST (R375): every 1 s while the source has failed. -/
def execRngRetest (ok : Bool) (atNs : Nat) (s : State) : Res :=
  let s := s.clockTo atNs
  if s.cke.rngFail && decide (s.cke.rngAt + 1000000000 ≤ s.nowNs) then
    let now := s.nowNs
    .next (s.modCke fun c => { c with rngFail := !ok, rngAt := now })
  else .next s

/-- DRBG_RESEED (R375): every 2^20 requests; the fresh seed may fail its health test. -/
def execDrbgReseed (ok : Bool) (s : State) : Res :=
  if 2 ^ 20 ≤ s.cke.rngRequests then
    let s := s.modCke fun c => { c with rngRequests := 0 }
    .next (if ok then s else s.rngFails)
  else .next s

/-! Key slots (R370 to R372, R381). -/

/-- The fixed field of a slot (R381): the low half of the die's number for slots 0 to 4, else a value drawn at load. -/
def State.fixedField (s : State) (i : Nat) : Word :=
  if i ≤ 4 then BitVec.ofNat 32 Config.dieUid.toNat else Config.freeWord s.free

/-- A slot takes a key: its counter starts at 0, that of the KEK where its reserved block starts (R381). -/
def State.setSlot (s : State) (i : Nat) (key : Option (BitVec 256)) : State :=
  let fx := s.fixedField i
  let s := s.modCke fun c => c.onSlot i fun x =>
    match key with
    | some k => { key := some k, fixed := fx, ctr := if i = 2 then x.ctr else 0 }
    | none => { key := none, fixed := 0, ctr := if i = 2 then x.ctr else 0 }
  if key.isSome then s.useFree else s

/-- The slots an operation names. -/
def CkeOp.names (o : CkeOp) (i : Nat) : Bool :=
  match o.code with
  | .gcmEncrypt | .gcmDecrypt | .gmac | .gmacVerify | .zeroSlot | .ideMove => o.slot == i
  | .wrap | .unwrap | .derive => o.slot == i || o.dest == i
  | .genKey => o.dest == i
  | .sha384 => false

/-- Queued operations that name a slot end with KEY_INVALID (R371). -/
def Cke.spoil (c : Cke) (i : Nat) : Cke :=
  { c with queue := match c.queue with
      | [] => []
      | x :: rest => x :: rest.map fun o => if o.names i && o.code != .zeroSlot then { o with keyInvalid := true } else o }

/-- A write of a slot: it waits for the running operation that uses the slot, and takes effect before queued ones
(R371). -/
def State.writeSlot (s : State) (i : Nat) (key : Option (BitVec 256)) : State :=
  let s := s.modCke (·.spoil i)
  let busy := match s.cke.queue with
    | (x : CkeOp) :: _ => x.names i && x.code != CkeCode.zeroSlot
    | [] => false
  if busy then
    s.modCke fun c => { c with waiting := c.waiting ++ [match key with | some k => KeyWrite.load i k | none => KeyWrite.zero i] }
  else s.setSlot i key

/-- The writes that waited take effect when the operation ends. -/
def State.runWaiting (s : State) : State :=
  let l := s.cke.waiting
  l.foldl (fun s w => match w with
    | .load i k => s.setSlot i (some k)
    | .zero i => s.setSlot i none) (s.modCke fun c => { c with waiting := [] })

/-! Register access (R366). -/

/-- The register interface is open in DIAG only; elsewhere a write is ignored and DENIED sets (R366). -/
def State.ckeOpen (s : State) : Bool := s.sys.state == .diag

def State.ckeDenied (s : State) : State := s.flag Reg.CKE_ERR_STAT Reg.CKE_ERR_EN 7 false

/-- A write of CKE_KEY_DATA (R370). -/
def execKeyDataWrite (via : Via) (v : Word) (s : State) : Res :=
  if !s.reaches via then .next s else
  let s := s.emit (.regWriteDone via Reg.CKE_KEY_DATA)
  if !s.ckeOpen then .next s.ckeDenied
  else .next (s.modCke fun c => if c.keyData.length < 8 then { c with keyData := c.keyData ++ [v] } else c)

/-- The key that eight data words spell, word 0 lowest. -/
def keyOfWords (l : List Word) : BitVec 256 := BitVec.ofNat 256 (l.foldr (fun w n => w.toNat + 2 ^ 32 * n) 0)

/-- CKE_KEY_CTL with CMD LOAD (R370, R371). -/
def execKeyLoad (via : Via) (slot : Fin 16) (s : State) : Res :=
  if !s.reaches via then .next s else
  let s := s.emit (.regWriteDone via Reg.CKE_KEY_CTL)
  if !s.ckeOpen then .next s.ckeDenied
  else
    let l := s.cke.keyData
    let s := s.modCke fun c => { c with keyData := [] }
    if l.length < 8 || slot.val < 5 then .next (s.modCke fun c => { c with loadErr := true })
    else .next ((s.modCke fun c => { c with loadErr := false }).writeSlot slot.val (some (keyOfWords l)))

/-- CKE_KEY_CTL with CMD ZERO (R371). A locked slot is written by hardware only and stays (log entry 27). -/
def execKeyZero (via : Via) (slot : Fin 16) (s : State) : Res :=
  if !s.reaches via then .next s else
  let s := s.emit (.regWriteDone via Reg.CKE_KEY_CTL)
  if !s.ckeOpen then .next s.ckeDenied
  else if slot.val < 5 then .next s
  else .next (s.writeSlot slot.val none)

/-! Submission (R366). -/

/-- CKE_IV and CKE_TAG words. -/
def ckeIvReg (i : Nat) : Nat := Reg.CKE_IV_0 + 4 * i
def ckeTagReg (i : Nat) : Nat := Reg.CKE_TAG_0 + 4 * i

/-- The arguments of a register submission: CKE_OP_CTL and the registers beside it. -/
def State.ckeRegs (s : State) (v : Nat) : CkeArgs :=
  let w (i : Nat) : Nat := s.regNat (ckeIvReg i)
  let t (i : Nat) : Nat := s.regNat (ckeTagReg i)
  { slot := bitsAt v 24 4, dest := bitsAt v 20 4, arg := bitsAt v 8 12, from_ := s.regNat Reg.CKE_SRC * 16,
    to_ := s.regNat Reg.CKE_DST * 16, len := s.regNat Reg.CKE_LEN, aadLen := s.regNat Reg.CKE_AAD_LEN,
    iv := BitVec.ofNat 96 (w 0 + 2 ^ 32 * w 1 + 2 ^ 64 * w 2),
    tag := BitVec.ofNat 128 (t 0 + 2 ^ 32 * t 1 + 2 ^ 64 * t 2 + 2 ^ 96 * t 3) }

def mkCkeOp (code : CkeCode) (src : CkeSrc) (a : CkeArgs) : CkeOp :=
  { code := code, src := src, slot := a.slot, dest := a.dest, arg := a.arg, from_ := a.from_, to_ := a.to_, len := a.len,
    aadLen := a.aadLen, iv := a.iv, tag := a.tag, keyInvalid := false, reran := false }

/-- An operation joins the queue. An engine finds at most 4 entries behind the running one; a further submission is not
taken (log entry 27). The register interface holds one operation, and is open in DIAG only (R366). -/
def State.submit (s : State) (code : CkeCode) (b : Submit) : State :=
  match b with
  | .engine a =>
    if 4 < (s.cke.queue.filter fun o => o.src == .engine).length then s
    else s.modCke fun c => { c with queue := c.queue ++ [mkCkeOp code .engine a] }
  | .register via v =>
    if !s.reaches via then s else
    let s := s.emit (.regWriteDone via Reg.CKE_OP_CTL)
    if !s.ckeOpen then s.ckeDenied
    else if s.cke.regBusy then s
    else
      let a := s.ckeRegs v.toNat
      let s := s.setNat Reg.CKE_OP_CTL (v.toNat &&& 0x0FFFFF1F)
      s.modCke fun c => { c with queue := c.queue ++ [mkCkeOp code .register a], regBusy := true, regDone := false }

/-- The submission of each operation of Table CKE-1. -/
def execGcmEncrypt (b : Submit) (s : State) : Res := .next (s.submit .gcmEncrypt b)
def execGcmDecrypt (b : Submit) (s : State) : Res := .next (s.submit .gcmDecrypt b)
def execGmac (b : Submit) (s : State) : Res := .next (s.submit .gmac b)
def execGmacVerify (b : Submit) (s : State) : Res := .next (s.submit .gmacVerify b)
def execWrap (b : Submit) (s : State) : Res := .next (s.submit .wrap b)
def execUnwrap (b : Submit) (s : State) : Res := .next (s.submit .unwrap b)
def execDerive (b : Submit) (s : State) : Res := .next (s.submit .derive b)
def execSha384 (b : Submit) (s : State) : Res := .next (s.submit .sha384 b)
def execGenKey (b : Submit) (s : State) : Res := .next (s.submit .genKey b)
def execIdeMove (b : Submit) (s : State) : Res := .next (s.submit .ideMove b)

/-- ZERO_SLOT takes effect ahead of queued operations that name the slot (R371). -/
def execZeroSlot (b : Submit) (s : State) : Res :=
  let n := s.cke.queue.length
  let s := s.submit .zeroSlot b
  if s.cke.queue.length = n then .next s
  else match s.cke.queue.getLast? with
    | some o => .next (if o.slot < 5 && o.src == .register then s else s.writeSlot o.slot none)
    | none => .next s

/-! The end of an operation. -/

/-- How an operation ends: STATUS of CKE_OP_STAT, the tag it gives, and its effect. -/
structure CkeEnd where
  status : Nat
  tag : Option (BitVec 128)
  next : State
  deriving DecidableEq, Repr

def ckeEnd (s : State) (status : Nat) : CkeEnd := { status := status, tag := none, next := s }

/-- AAD and payload within 64 MiB, AAD in whole blocks (R367). -/
def CkeOp.lengthOk (o : CkeOp) : Bool := decide (o.len + o.aadLen ≤ 67108864) && o.aadLen % 16 == 0

/-- The destination of n bytes lies wholly in the quarantine area, or wholly outside it (R368). -/
def CkeOp.inQuar (o : CkeOp) (n : Nat) : Bool := decide (o.to_ + n ≤ quarArea)
def CkeOp.outQuar (o : CkeOp) : Bool := decide (quarArea ≤ o.to_)

/-- The IV of the slot and its counter after it; none where the counter would roll over (R381, R382). -/
def State.takeIv (s : State) (i : Nat) : Option (BitVec 96 × State) :=
  let x := s.cke.slot i
  if 2 ^ 64 - 1 ≤ x.ctr then none
  else if i = 2 then some (x.iv, s.useKek)
  else some (x.iv, s.modCke (·.onSlot i fun x => { x with ctr := x.ctr + 1 }))

/-- NONCE_EXH (R382). -/
def State.nonceExh (s : State) (slot : Nat) : State := (s.flag Reg.CKE_ERR_STAT Reg.CKE_ERR_EN 3 true).raise 0xA103 slot 0

/-- TAG_FAIL (R369). -/
def State.tagFail (s : State) : State := (s.incReg Reg.CKE_TAG_FAIL_CNT).flag Reg.CKE_ERR_STAT Reg.CKE_ERR_EN 0 false

/-- GCM_ENCRYPT and GMAC (R363, R381). -/
def State.endEncrypt (s : State) (o : CkeOp) (key : BitVec 256) (payload : Bool) : CkeEnd :=
  if payload && !o.outQuar then ckeEnd s 6
  else match s.takeIv o.slot with
    | none => ckeEnd (s.nonceExh o.slot) 3
    | some (iv, s) =>
      let aad := memRead s.cke.mem o.from_ o.aadLen
      let ct := if payload then Config.gcmCrypt key iv (memRead s.cke.mem (o.from_ + o.aadLen) o.len) else []
      { status := 0, tag := some (Config.gcmTag key iv aad ct),
        next := s.modCke fun c => { c with mem := memWrite c.mem o.to_ ct } }

/-- GCM_DECRYPT (R368, R369): on a wrong tag the destination range holds zeros. -/
def State.endDecrypt (s : State) (o : CkeOp) (key : BitVec 256) : CkeEnd :=
  if !o.inQuar o.len then ckeEnd s 6
  else
    let aad := memRead s.cke.mem o.from_ o.aadLen
    let ct := memRead s.cke.mem (o.from_ + o.aadLen) o.len
    if Config.gcmTag key o.iv aad ct = o.tag then
      ckeEnd (s.modCke fun c => { c with mem := memWrite c.mem o.to_ (Config.gcmCrypt key o.iv ct) }) 0
    else ckeEnd ((s.modCke fun c => { c with mem := memWrite c.mem o.to_ (List.replicate o.len 0) }).tagFail) 1

/-- A record's bytes (Table CKE-3). -/
def wrapBytes (hdr : List Byte) (iv : BitVec 96) (ct : List Byte) (tag : BitVec 128) : List Byte :=
  hdr ++ byteList iv.toNat 12 ++ ct ++ byteList tag.toNat 16 ++ List.replicate 4 0

/-- WRAP (R376): the header of the record stands at the source, the record goes to the destination. KEY_SLOT holds the
wrapping key and DEST_SLOT the key that is wrapped (log entry 27). -/
def State.endWrap (s : State) (o : CkeOp) (key : BitVec 256) : CkeEnd :=
  match (s.cke.slot o.dest).key with
  | none => ckeEnd s 2
  | some d =>
    if !o.outQuar then ckeEnd s 6
    else match s.takeIv o.slot with
      | none => ckeEnd (s.nonceExh o.slot) 3
      | some (iv, s) =>
        let hdr := memRead s.cke.mem o.from_ 8
        let ct := Config.gcmCrypt key iv (byteList d.toNat 32)
        let tag := Config.gcmTag key iv hdr ct
        { status := 0, tag := some tag, next := s.modCke fun c => { c with mem := memWrite c.mem o.to_ (wrapBytes hdr iv ct tag) } }

/-- A failed passphrase attempt (R379). -/
def State.passFail (s : State) : State :=
  s.modSvc fun v =>
    let n := v.security.fails + 1
    let out := v.security.exhausted || decide (5 ≤ n)
    { v with security := { v.security with fails := n, exhausted := out } }

/-- UNWRAP (R376): the record stands at the source. -/
def State.endUnwrap (s : State) (o : CkeOp) (key : BitVec 256) : CkeEnd :=
  let r := memRead s.cke.mem o.from_ 72
  let iv := BitVec.ofNat 96 (bytesNat ((r.drop 8).take 12))
  let ct := (r.drop 20).take 32
  let tag := BitVec.ofNat 128 (bytesNat ((r.drop 52).take 16))
  if Config.gcmTag key iv (r.take 8) ct = tag then
    ckeEnd (s.setSlot o.dest (some (BitVec.ofNat 256 (bytesNat (Config.gcmCrypt key iv ct))))) 0
  else
    let s := s.flag Reg.CKE_ERR_STAT Reg.CKE_ERR_EN 6 true
    let underPk := ((r.drop 2).headD 0) == 1
    let s := if underPk then s.passFail else s.raise 0xA104 ((r.headD 0).toNat) 0
    ckeEnd (s.incReg Reg.CKE_TAG_FAIL_CNT) 1

/-- DERIVE (R373, R374): ARG 11:8 the holding, 7:4 the key in the order of Table CKE-4, bit 0 into the inline key store.
Keys 0 to 4 derive from the HUK (log entry 27). -/
def State.endDerive (s : State) (o : CkeOp) : CkeEnd :=
  let label := bitsAt o.arg 4 4
  let h := bitsAt o.arg 8 4
  let ctx := o.iv.toNat % 2 ^ 32
  let parent := if label < 5 then some Config.deviceSecret else (s.cke.slot o.slot).key
  match parent with
  | none => ckeEnd s 2
  | some p =>
    let context := if 6 ≤ label then BitVec.ofNat 8 h :: byteList ctx 4
      else if label = 5 then memRead s.cke.mem o.from_ 48 else byteList ctx 4
    if o.arg % 2 = 1 then
      ckeEnd (s.modIme fun m =>
        if label < 5 then { m with devKeys := some ctx }
        else if m.loaded.contains (h, ctx) then m else { m with loaded := m.loaded ++ [(h, ctx)] }) 0
    else if o.dest < 5 && o.src == .register then ckeEnd s 8
    else ckeEnd (s.setSlot o.dest (some (Config.kdf p label context))) 0

/-- A port's IDE key store takes a key for a stream, direction, key set and sub-stream (R380). -/
def State.ideStore (s : State) (port place : Nat) (key : BitVec 256) : State :=
  s.modPort port fun x => { x with ide := { x.ide with keys := (x.ide.keys.filter fun e => e.1 != place) ++ [(place, key)] } }

/-- A Key_Prog that waited takes a transit slot that has become free (R380). -/
def State.nextTransit (s : State) (slot : Nat) : State :=
  match s.cke.transitWait with
  | [] => s
  | (port, place, key) :: rest =>
    (s.modCke fun c => { c with transitWait := rest, transit := c.transit ++ [{ slot := slot, port := port, place := place }] }).setSlot
      slot (some key)

/-- IDE_MOVE (R380): ARG bit 0 the port, the rest the place in its store (log entry 27). -/
def State.endMove (s : State) (o : CkeOp) (key : BitVec 256) : CkeEnd :=
  if o.slot < 14 then ckeEnd s 8
  else
    let s := (s.ideStore (o.arg % 2) (o.arg / 2) key).setSlot o.slot none
    let s := s.modCke fun c => { c with transit := c.transit.filter fun t => t.slot != o.slot }
    ckeEnd (s.nextTransit o.slot) 0

/-- The end of an operation whose cores agree (Table CKE-1). -/
def State.ckeRun (s : State) (o : CkeOp) : CkeEnd :=
  let keyed (f : BitVec 256 → CkeEnd) : CkeEnd := match (s.cke.slot o.slot).key with
    | some k => if o.lengthOk then f k else ckeEnd s 4
    | none => ckeEnd s 2
  let locked := decide (o.dest < 5) && o.src == .register
  if o.keyInvalid then ckeEnd s 2
  else match o.code with
    | .gcmEncrypt => keyed fun k => s.endEncrypt o k true
    | .gmac => keyed fun k => s.endEncrypt o k false
    | .gcmDecrypt => keyed fun k => s.endDecrypt o k
    | .gmacVerify => keyed fun k =>
      if Config.gcmTag k o.iv (memRead s.cke.mem o.from_ o.aadLen) [] = o.tag then ckeEnd s 0 else ckeEnd s.tagFail 1
    | .wrap => keyed fun k => s.endWrap o k
    | .unwrap => if locked then ckeEnd s 8 else keyed fun k => s.endUnwrap o k
    | .derive => s.endDerive o
    | .sha384 =>
      if !o.lengthOk then ckeEnd s 4
      else if !o.outQuar then ckeEnd s 6
      else ckeEnd (s.modCke fun c =>
        { c with mem := memWrite c.mem o.to_ (byteList (Config.sha384 (memRead c.mem o.from_ o.len)).toNat 48) }) 0
    | .genKey =>
      if s.cke.rngFail then ckeEnd s.rngFails 7
      else if locked then ckeEnd s 8
      else
        let (s, k) := s.draw
        ckeEnd (s.setSlot o.dest (some k)) 0
    | .zeroSlot => ckeEnd s 0
    | .ideMove => keyed fun k => s.endMove o k

/-- The operation leaves the queue with its status and its tag, and writes that waited take effect (R366, R371). -/
def State.ckeFinish (s : State) (o : CkeOp) (status : Nat) (tag : Option (BitVec 128)) : State :=
  let s := s.modCke fun c => { c with queue := c.queue.drop 1 }
  let s := match o.src with
    | .register =>
      let s := s.modCke fun c => { c with regBusy := false, regDone := true, regStatus := status }
      (match tag with
        | some t => (List.range 4).foldl (fun (s : State) i => s.setNat (ckeTagReg i) (bitsAt t.toNat (32 * i) 32)) s
        | none => s).setBits Reg.CKE_INT_STAT 1
    | .engine => s.modCke fun c => { c with engStatus := status, engTag := tag.getD c.engTag }
  ((s.incReg Reg.CKE_OP_CNT).collect 36).runWaiting

/-- CKE_OP_COMPLETE (R364, R365): the running operation ends. A mismatch of the cores wipes what was written, and the
operation runs once more; a second one ends it with CORE_FAULT. -/
def execCkeOpComplete (mismatch : Bool) (s : State) : Res :=
  match s.cke.queue with
  | [] => .next s
  | o :: rest =>
    if mismatch then
      let s := (s.incReg Reg.CKE_MISMATCH_CNT).flag Reg.CKE_ERR_STAT Reg.CKE_ERR_EN 1 false
      if o.reran then
        let s := (s.flag Reg.CKE_ERR_STAT Reg.CKE_ERR_EN 2 true).raise 0xA101 0 0
        .next (s.ckeFinish o 5 none)
      else .next (s.modCke fun c => { c with queue := { o with reran := true } :: rest })
    else
      let e := s.ckeRun o
      .next (e.next.ckeFinish o e.status e.tag)

end Sys2Proof.Machine
end

