-- ==== Sys2Proof/Machine/Token.lean ====
section
/-! DEFINITION. Challenges, authorisation tokens and the SPDM responder (R383 to R388, R448). -/

namespace Sys2Proof.Machine

/-! Challenge and stage buffer (R383). -/

/-- NEW_CHAL: 128 random bits, valid for 60 s. A failed entropy source draws none (R375). -/
def execNewChal (via : Via) (s : State) : Res :=
  if !s.reaches via then .next s else
  let s := s.emit (.regWriteDone via Reg.CKE_AUTH_CTL)
  if s.cke.rngFail then .next s.rngFails
  else
    let (s, r) := s.draw
    let v := BitVec.ofNat 128 r.toNat
    let now := s.nowNs
    .next (s.modCke fun c => { c with challenge := some { value := v, drawnAt := now, expired := false }, chalReg := v })

/-- CHALLENGE_EXPIRY (R383, R199): a cycle after 60 s the challenge is no longer valid. -/
def execChallengeExpiry (atNs : Nat) (s : State) : Res :=
  let s := s.clockTo atNs
  match s.cke.challenge with
  | some c =>
    if !c.expired && decide (c.drawnAt + 60000000000 < s.nowNs) then
      .next ((s.modCke fun k => { k with challenge := some { c with expired := true } }).setBits Reg.CKE_INT_STAT 4)
    else .next s
  | none => .next s

/-- STAGE_DATA_WRITE: a word of the 512-byte stage buffer; the address advances (Table CKE-8). -/
def execStageDataWrite (via : Via) (v : Word) (s : State) : Res :=
  if !s.reaches via then .next s else
  let s := s.emit (.regWriteDone via Reg.CKE_STAGE_DATA)
  let k := s.regField Reg.CKE_STAGE_ADDR 2 7
  .next ((s.modCke fun c => { c with stage := memWrite c.stage (4 * k) (byteList v.toNat 4) }).setField
    Reg.CKE_STAGE_ADDR 2 7 ((k + 1) % 128))

/-! Tokens (R383, R384). -/

/-- The AAD of a token: "AX41TOKN", OP, ARG, the challenge, the die's number, the stage input. -/
def State.tokenAad (s : State) (op arg : Nat) (chal : BitVec 128) (input : Nat) : List Byte :=
  ([0x41, 0x58, 0x34, 0x31, 0x54, 0x4F, 0x4B, 0x4E] : List Byte) ++ byteList op 4 ++ byteList arg 4 ++ byteList chal.toNat 16 ++
    byteList Config.dieUid.toNat 8 ++ memRead s.cke.stage 0 input

/-- ARG of the stage buffer. -/
def State.tokenArg (s : State) : Nat := bytesNat (memRead s.cke.stage 0x110 4)

/-- The token in the stage buffer is the GMAC tag under AK. -/
def State.tokenOk (s : State) (op : Nat) (chal : BitVec 128) (input : Nat) : Bool :=
  match (s.cke.slot 3).key with
  | none => false
  | some ak =>
    Config.gcmTag ak (BitVec.ofNat 96 chal.toNat) (s.tokenAad op s.tokenArg chal input) [] ==
      BitVec.ofNat 128 (bytesNat (memRead s.cke.stage 0x100 16))

/-- RESULT of a submission. -/
def State.authResult (s : State) (op r : Nat) : State := s.modCke fun c => { c with authLastOp := op, authResult := r }

/-- An invalid or expired token (R384): counted, and after 8 in a row submissions are locked. -/
def State.tokenFail (s : State) (op r : Nat) : State :=
  let s := (s.modCke fun c => { c with challenge := none, authFails := c.authFails + 1 }).authResult op r
  let s := (s.incReg Reg.CKE_AUTH_FAIL_CNT).raise 0xA202 op r
  if 8 ≤ s.cke.authFails then
    ((s.modCke fun c => { c with authLocked := true }).flag Reg.CKE_ERR_STAT Reg.CKE_ERR_EN 5 true).raise 0xA203 op s.cke.authFails
  else s

/-- SUBMIT with an OP (R384). `states`: its column of Table CKE-6; `input`: bytes of stage input; `run`: the operation, none
where it is refused with ARG. -/
def State.token (s : State) (via : Via) (op : Nat) (states : List DevState) (input : Nat) (run : State → Option State) : State :=
  let s := s.emit (.regWriteDone via Reg.CKE_AUTH_CTL)
  if s.cke.authLocked then s.authResult op 5
  else if !s.inState states then s.authResult op 4
  else match s.cke.challenge with
    | none => s.authResult op 6
    | some c =>
      if c.expired || decide (c.drawnAt + 60000000000 < s.nowNs) then s.tokenFail op 3
      else if !s.tokenOk op c.value input then s.tokenFail op 2
      else
        let fails := s.cke.authFails
        let s := s.modEvr fun e => { e with batchFails := fails }
        let s := s.modCke fun k => { k with challenge := none, authFails := 0 }
        match run s with
        | none => s.authResult op 7
        | some s => ((s.authResult op 1).setBits Reg.CKE_INT_STAT 2).raise 0xA201 op 0

/-- An operation whose ARG must be 0 (Table CKE-6; log entry 27). -/
def zeroArg (f : State → State) (s : State) : Option State := if s.tokenArg = 0 then some (f s) else none

/-- The log is cleared behind a LOG_CLEARED record at the head of the queue (R448). -/
def State.clearLog (s : State) : State :=
  let n := s.evr.readable.length
  let fails := s.evr.batchFails
  let s := s.modEvr fun e => { e with queue := [] }
  let r := s.mkRec 0xD101 n fails
  let seq := s.evr.nextSeq
  (s.queueFront r).modEvr fun e => { e with clearSeq := some seq, batchFails := 0 }

/-- EVR_CLEAR (R385, R448). -/
def execEvrClear (via : Via) (s : State) : Res :=
  if !s.reaches via then .next s else
  .next (s.token via 1 [.ready, .readonly, .diag] 0 (zeroArg State.clearLog))

/-! Owner key (R387). -/

/-- The field prime and the constant of P-384 (log entry 28). -/
def p384 : Nat := 2 ^ 384 - 2 ^ 128 - 2 ^ 96 + 2 ^ 32 - 1
def b384 : Nat := 0xb3312fa7e23ee7e4988e056be3f82d19181d9c6efe8141120314088f5013875ac656398d8a2ed19d2a85c8edd3ec2aef

/-- The point lies on P-384: y² = x³ − 3x + b. -/
def onCurve (x y : Nat) : Bool :=
  decide (x < p384) && decide (y < p384) && y * y % p384 == (x * x % p384 * x + (p384 - 3) * x + b384) % p384

/-- A big-endian number. -/
def bytesBig (l : List Byte) : Nat := l.foldl (fun n b => n * 256 + b.toNat) 0

/-- The staged key as X, Y; none unless it is an uncompressed point on the curve. -/
def State.stagedKey (s : State) : Option (BitVec 768) :=
  let l := memRead s.cke.stage 0 97
  let x := bytesBig ((l.drop 1).take 48)
  let y := bytesBig (l.drop 49)
  if l.headD 0 = 4 && onCurve x y then some (BitVec.ofNat 768 (x * 2 ^ 384 + y)) else none

/-- OWNER_ENROLL: the key is recorded in a configuration deed as pending. -/
def execOwnerEnroll (via : Via) (s : State) : Res :=
  if !s.reaches via then .next s else
  .next (s.token via 2 [.ready, .diag] 97 fun s =>
    (s.stagedKey).map fun k => s.queueConfig fun c => { c with pendOwner := some (some k) })

/-- OWNER_REMOVE. -/
def execOwnerRemove (via : Via) (s : State) : Res :=
  if !s.reaches via then .next s else
  .next (s.token via 3 [.ready, .diag] 0 (zeroArg fun s => s.queueConfig fun c => { c with pendOwner := some none }))

/-! The other operations (R385). -/

/-- The newest generation of a key's records (Table CKE-3). -/
def Pst.wrapGen (p : Pst) (keyRef : Nat) : Nat :=
  p.inForce.foldl (fun n e => match e.2.2 with
    | .keyWrap w => if w.keyRef = keyRef then max n w.gen else n
    | _ => n) 0

/-- AK_REPLACE: record 0x10 under the KEK, and slot 3. -/
def execAkReplace (via : Via) (s : State) : Res :=
  if !s.reaches via then .next s else
  .next (s.token via 4 [.ready, .diag] 32 fun s =>
    let ak := BitVec.ofNat 256 (bytesNat (memRead s.cke.stage 0 32))
    let (s, w) := s.wrapKey 0x10 (s.pst.wrapGen 0x10 + 1) none (some ak)
    some ((s.queueWrap w).writeSlot 3 (some ak)))

/-- DEBUG_UNLOCK: every slot and the inline key store are cleared, engine debug opens, and no host memory is served until
the next cold reset. -/
def execDebugUnlock (via : Via) (s : State) : Res :=
  if !s.reaches via then .next s else
  .next (s.token via 5 [.diag] 0 (zeroArg fun s =>
    let s := (List.range 16).foldl (fun (s : State) i => s.writeSlot i none) s
    (s.modIme fun m => { m with loaded := [], devKeys := none }).modCke fun c => { c with debug := true }))

/-- REVOKE_FOARO_KEY: the fuse of a key is burnt, unless it is the last key left. -/
def execRevokeFoaroKey (via : Via) (s : State) : Res :=
  if !s.reaches via then .next s else
  .next (s.token via 6 [.ready, .diag] 0 fun s =>
    let k := s.tokenArg
    let r := s.cke.revoked ||| 2 ^ k
    if 4 ≤ k || r = 15 then none else some (s.modCke fun c => { c with revoked := r }))

/-! SPDM (R388). Response codes and the order of requests are those of SPDM 1.2 (log entry 28). -/

/-- The responder of an endpoint. -/
def State.spdm (s : State) : Via → Spdm
  | .bar2 p => if p.val = 0 then s.cke.spdm0 else s.cke.spdm1
  | .mctp => s.cke.spdmMctp

def State.onSpdm (s : State) (via : Via) (f : Spdm → Spdm) : State :=
  s.modCke fun c => match via with
    | .bar2 p => if p.val = 0 then { c with spdm0 := f c.spdm0 } else { c with spdm1 := f c.spdm1 }
    | .mctp => { c with spdmMctp := f c.spdmMctp }

/-- An SPDM message leaves: the response code, then its fields. -/
def State.spdmSay (s : State) (via : Via) (fields : List Nat) : State := s.emit (.doe via 2 fields)

/-- ERROR with UnexpectedRequest. -/
def State.spdmErr (s : State) (via : Via) : State := s.spdmSay via [0x7F, 4]

/-- A signature of the alias key over what a response carries. -/
def spdmSign (fields : List Nat) : Nat := (Config.aliasSign (Config.sha384 (fields.flatMap fun n => byteList n 64))).toNat

/-- GET_VERSION: version 1.2; the connection starts anew. -/
def execSpdmGetVersion (via : Via) (s : State) : Res :=
  if !s.reaches via then .next s else
  .next ((s.onSpdm via fun _ => { version := true, caps := false, algs := false, session := none, finished := false }).spdmSay via
    [0x04, 0x12])

/-- GET_CAPABILITIES: CERT, CHAL, MEAS with signature, ENCRYPT, MAC and KEY_EX. -/
def execSpdmGetCapabilities (via : Via) (s : State) : Res :=
  if !s.reaches via then .next s else
  if (s.spdm via).version then .next ((s.onSpdm via fun x => { x with caps := true }).spdmSay via [0x61, 0x2D6])
  else .next (s.spdmErr via)

/-- NEGOTIATE_ALGORITHMS: ECDSA P-384, SHA-384, secp384r1, AES-256-GCM. -/
def execSpdmNegotiateAlgorithms (via : Via) (s : State) : Res :=
  if !s.reaches via then .next s else
  if (s.spdm via).caps then .next ((s.onSpdm via fun x => { x with algs := true }).spdmSay via [0x63, 0x80, 0x2, 0x10, 0x2])
  else .next (s.spdmErr via)

/-- GET_DIGESTS: the digest of the chain in slot 0. -/
def execSpdmGetDigests (via : Via) (s : State) : Res :=
  if !s.reaches via then .next s else
  if (s.spdm via).algs then .next (s.spdmSay via [0x01, 1, (Config.sha384 Config.certChain).toNat]) else .next (s.spdmErr via)

/-- GET_CERTIFICATE: a part of the chain in slot 0, with what remains after it. -/
def execSpdmGetCertificate (via : Via) (slot : Fin 8) (offset length : Nat) (s : State) : Res :=
  if !s.reaches via then .next s else
  if (s.spdm via).algs && slot == 0 then
    let part := (Config.certChain.drop offset).take length
    .next (s.spdmSay via ([0x02, 0, part.length, Config.certChain.length - offset - part.length] ++ part.map (·.toNat)))
  else .next (s.spdmErr via)

/-- The running firmware's slot. -/
def State.fwSlot (s : State) : Option FwSlot := match s.svc.fwRun with
  | some true => s.svc.fwB
  | some false => s.svc.fwA
  | none => none

/-- The digest of the enrolled owner key, or 48 zero bytes. -/
def State.ownerDigest (s : State) : Nat := match s.cke.owner with
  | some k => (Config.sha384 (byteList k.toNat 96)).toNat
  | none => 0

/-- Measurement i (Table CKE-7). -/
def State.measurement (s : State) (i : Nat) : Nat :=
  match i with
  | 1 => (Config.imageDigest 1 0 0).toNat
  | 2 => match s.fwSlot with
    | some x => (Config.imageDigest 2 x.version x.svn).toNat
    | none => 0
  | 3 => match s.plat.image with
    | some x => (Config.imageDigest 3 x.serial x.buildId).toNat
    | none => 0
  | 4 => s.ownerDigest
  | 5 => ((s.fwSlot.map (·.svn)).getD 0) + 2 ^ 32 * s.pst.counter 1 + 2 ^ 64 * s.cke.revoked
  | _ => ((s.plat.image.map (·.fp)).getD 0) + (if s.cke.debug then 2 ^ 64 else 0)

/-- CHALLENGE: the response with the requester's nonce, the chain's digest and a summary of the measurements, signed. -/
def execSpdmChallenge (via : Via) (nonce : BitVec 256) (s : State) : Res :=
  if !s.reaches via then .next s else
  if (s.spdm via).algs then
    let (s, r) := s.draw
    let sum := (Config.sha384 ((List.range 6).flatMap fun i => byteList (s.measurement (i + 1)) 48)).toNat
    let body := [0x03, nonce.toNat, r.toNat, (Config.sha384 Config.certChain).toNat, sum]
    .next (s.spdmSay via (body ++ [spdmSign body]))
  else .next (s.spdmErr via)

/-- GET_MEASUREMENTS: one index, or all six for 0xFF, signed (Table CKE-7). -/
def execSpdmGetMeasurements (via : Via) (index : Nat) (nonce : BitVec 256) (s : State) : Res :=
  if !s.reaches via then .next s else
  if (s.spdm via).algs && (within index 1 6 || index == 0xFF) then
    let l := if index = 0xFF then [1, 2, 3, 4, 5, 6] else [index]
    let body := [0x60, l.length] ++ l.flatMap (fun i => [i, s.measurement i]) ++ [nonce.toNat]
    .next (s.spdmSay via (body ++ [spdmSign body]))
  else .next (s.spdmErr via)

/-- KEY_EXCHANGE: session keys go into slots 12 and 13 (Table CKE-2). The secret of the exchange is random (log entry 4). -/
def execSpdmKeyExchange (via : Via) (session : Nat) (s : State) : Res :=
  if !s.reaches via then .next s else
  if (s.spdm via).algs && !s.cke.rngFail then
    let (s, a) := s.draw
    let (s, b) := s.draw
    let s := (s.writeSlot 12 (some a)).writeSlot 13 (some b)
    let s := s.onSpdm via fun x => { x with session := some session, finished := false }
    let body := [0x64, session]
    .next (s.spdmSay via (body ++ [spdmSign body]))
  else if s.cke.rngFail then .next (s.rngFails.spdmErr via)
  else .next (s.spdmErr via)

/-- FINISH: the session is established. -/
def execSpdmFinish (via : Via) (s : State) : Res :=
  if !s.reaches via then .next s else
  if (s.spdm via).session.isSome then .next ((s.onSpdm via fun x => { x with finished := true }).spdmSay via [0x65])
  else .next (s.spdmErr via)

/-- END_SESSION: the session ends and its keys leave slots 12 and 13. -/
def execSpdmEndSession (via : Via) (s : State) : Res :=
  if !s.reaches via then .next s else
  if (s.spdm via).session.isSome then
    let s := (s.writeSlot 12 none).writeSlot 13 none
    .next ((s.onSpdm via fun x => { x with session := none, finished := false }).spdmSay via [0x6C])
  else .next (s.spdmErr via)

end Sys2Proof.Machine
end

