-- ==== Sys2Proof/Machine/Engines.lean ====
section
/-! DEFINITION. Engines: roles and their placement, rings, watchdogs, failover, self-test, the energy pair (R390 to R404). A
role is its code × 32 + ARG, as E[n]_STAT.ROLE1 lays it out. -/

namespace Sys2Proof.Machine

def Eng.engine (e : Eng) (n : Nat) : Engine := e.engines.getD n
  { st := .off, roles := [], kickAt := 0, failedAt := none, again := false, hold := false, selftest := false }

def Eng.onEngine (e : Eng) (n : Nat) (f : Engine → Engine) : Eng := { e with engines := listUpd e.engines n f }

def State.onEngine (s : State) (n : Nat) (f : Engine → Engine) : State := s.modEng (·.onEngine n f)

/-- The steward of a pair, a cadastre role, reclaim, security (Table ENG-1). -/
def stewardRole (k : Nat) : Nat := 32 + k
def cadastreRole (a : Nat) : Nat := 64 + a
def reclaimRole : Nat := 96
def securityRole : Nat := 128

/-- An engine runs a role and no failover holds it back. -/
def Eng.serves (e : Eng) (role : Nat) : Bool :=
  (e.engines.any fun x => x.st == .running && x.roles.contains role) && !e.failovers.any fun f => f.roles.contains role

/-- The lowest spare (R397). -/
def Eng.spare (e : Eng) : Option Nat := (List.range 22).find? fun n => (e.engine n).st == .spare && !(e.engine n).hold

/-! Where a role goes (R397, R400, Table ENG-4). -/

/-- The groups of engines of a role's preference order. -/
def Eng.preference (e : Eng) (role : Nat) : List (List Nat) :=
  let hosts (p : Nat → Bool) : List Nat := (List.range 22).filter fun n => (e.engine n).st == .running && (e.engine n).roles.any p
  let a := role % 32
  match role / 32 with
  | 1 => [hosts (· == stewardRole (a ^^^ 1)), hosts fun r => r / 32 == 1]
  | 2 => [hosts (· == cadastreRole ((a + 1) % 3)), hosts (· == cadastreRole ((a + 2) % 3)), hosts (· == reclaimRole)]
  | 3 => [hosts (· == cadastreRole 0), hosts (· == cadastreRole 1), hosts (· == cadastreRole 2)]
  | _ => [hosts (· == reclaimRole), hosts (· == cadastreRole 0), hosts (· == cadastreRole 1), hosts (· == cadastreRole 2)]

/-- The engine a role doubles up on: the first group with an engine in service; in it the fewest roles, then the lowest
index. Past the table's order any engine in service serves (log entry 29). -/
def Eng.doubleOn (e : Eng) (role : Nat) : Option Nat :=
  let any := (List.range 22).filter fun n => (e.engine n).st == .running
  match (e.preference role ++ [any]).find? (fun l => !l.isEmpty) with
  | some (x :: rest) => some (rest.foldl (fun b n => if (e.engine n).roles.length < (e.engine b).roles.length then n else b) x)
  | _ => none

/-- ROLE_LOST holds while no engine from E[0] to E[21] is in service (R401). -/
def State.settleRoles (s : State) : State :=
  let on := (List.range 22).any fun n => (s.eng.engine n).st == .running || (s.eng.engine n).st == .spare
  s.modEng fun e => { e with roleLost := !on && e.engines.any fun x => x.st == .retired || x.st == .failingOver || x.st == .selftest }

/-- A failover of roles onto a target starts (R396). -/
def State.startFailover (s : State) (failed : Nat) (roles : List Nat) (target origin : Nat) : State :=
  s.modEng fun e =>
    { (e.onEngine target fun x => { x with st := .running }) with
      failovers := e.failovers ++ [{ failed := failed, roles := roles, target := target, origin := origin, late := false }] }

/-- One role doubles up (R400). -/
def State.double (s : State) (failed origin role : Nat) : State :=
  match s.eng.doubleOn role with
  | some t =>
    let s := s.startFailover failed [role] t origin
    (s.modEng fun e => { e with doubled := (role, t) :: e.doubled }).setBits Reg.ENG_INT_STAT 2
  | none => s.modEng fun e => { e with unplaced := e.unplaced ++ [role] }

/-- Place the roles of a failed engine: on the lowest spare, else each doubled up (R397). In DIAG with NO_RESTORE they are
not placed. -/
def State.place (s : State) (failed origin : Nat) (roles : List Nat) : State :=
  if roles.isEmpty then s
  else if s.sys.state == .diag && s.bit Reg.ENG_CTL 1 then s.modEng fun e => { e with unplaced := e.unplaced ++ roles }
  else match s.eng.spare with
    | some t => s.startFailover failed roles t origin
    | none => roles.foldl (fun s r => s.double failed origin r) s

/-! The energy pair (R402 to R404). -/

/-- An assay in progress ends with NO_RESULT, to be retried (R403). -/
def State.pairAssay (s : State) : State :=
  if s.pwr.assay.phase == .idle || s.pwr.assay.phase == .waitGate then s else s.closeAssay 5 true

/-- The pair fails: both engines restart from the energy role area; at the second failure within 1 s the pair is retired
until cold reset. -/
def State.pairFail (s : State) (origin : Nat) : State :=
  if s.eng.pairRetired then s
  else
    let now := s.nowNs
    let near := (s.eng.pairFails.filter fun t => decide (now ≤ t + 1000000000)) ++ [now]
    let s := s.modEng fun e => { e with pairFails := near }
    let s := s.pairAssay
    if 2 ≤ near.length then
      let s := s.modEng fun e => { ((e.onEngine 22 fun x => { x with st := .retired }).onEngine 23 fun x => { x with st := .retired })
        with pairRetired := true, pairDown := false }
      (s.raise 0xB103 0 0).setBudget
    else
      s.modEng fun e => { ((e.onEngine 22 fun x => { x with st := .failingOver }).onEngine 23 fun x => { x with st := .failingOver })
        with pairDown := true, pairOrigin := origin }

/-- ENERGY_PAIR_RESTART_DONE (R403): the pair runs again and the budget may rise. -/
def execEnergyPairRestartDone (atNs : Nat) (s : State) : Res :=
  let s := s.clockTo atNs
  if s.eng.pairDown && !(s.eng.engine 22).hold && !(s.eng.engine 23).hold then
    let ns := s.nowNs - s.eng.pairOrigin
    let s := s.modEng fun e => { ((e.onEngine 22 fun x => { x with st := .running }).onEngine 23 fun x => { x with st := .running })
      with pairDown := false }
    let s := ((s.incReg Reg.ENG_FAILOVER_CNT).maxReg Reg.ENG_FAILOVER_MAX ns).setBits Reg.ENG_INT_STAT 8
    .next s.setBudget
  else .next s

/-- LOCKSTEP_MISMATCH (R403). -/
def execLockstepMismatch (atNs : Nat) (s : State) : Res :=
  let s := (s.clockTo atNs).flag Reg.ENG_ERR_STAT Reg.ENG_ERR_EN 4 false
  .next (s.pairFail s.nowNs)

/-! Failure of an engine (R395 to R399). -/

/-- E[n] is recorded as retired. -/
def State.retireEngine (s : State) (n : Nat) : State :=
  ((s.onEngine n fun x => { x with st := .retired, roles := [] }).flag Reg.ENG_ERR_STAT Reg.ENG_ERR_EN 0 false).settleRoles

/-- Its failover over, a failed engine runs its self-test, or is retired at its second failure within 3,600 s (R399). -/
def State.afterFailover (s : State) (n : Nat) : State :=
  if (s.eng.engine n).st != .failingOver then s
  else if (s.eng.engine n).hold then s.onEngine n fun x => { x with st := .off }
  else if (s.eng.engine n).again then s.retireEngine n
  else s.onEngine n fun x => { x with st := .selftest }

/-- The failovers onto an engine that has failed restart on the next target, with a new time origin (R397). -/
def State.retarget (s : State) (n origin : Nat) : State :=
  let mine := s.eng.failovers.filter fun f => f.target == n
  let s := s.modEng fun e => { e with failovers := e.failovers.filter fun f => f.target != n }
  mine.foldl (fun s f => s.place f.failed origin f.roles) s

/-- E[n] is failed and its roles move (R395, R396). -/
def State.engineFail (s : State) (n origin : Nat) : State :=
  if 22 ≤ n then s.pairFail origin
  else
    let x := s.eng.engine n
    if x.st != .running && x.st != .spare then s
    else
      let now := s.nowNs
      let again := match x.failedAt with | some t => decide (now ≤ t + 3600000000000) | none => false
      let s := s.onEngine n fun x => { x with st := .failingOver, roles := [], failedAt := some now, again := again }
      let s := s.modEng fun e => { e with doubled := e.doubled.filter fun d => d.2 != n }
      let s := (s.retarget n now).place n origin x.roles
      let s := if s.eng.failovers.any fun f => f.failed == n then s else s.afterFailover n
      s.settleRoles

/-- Engines are held in reset and in STRAP_BOOT 0b11's BOOT. -/
def State.enginesRun (s : State) : Bool := s.running && !s.sys.poweredDown

/-- ENGINE_WATCHDOG_EXPIRY (R394): `kickNs` is the last kick; `kicked`: a kick lands in the expiry cycle and is on time. -/
def execEngineWatchdogExpiry (n : Fin 24) (kickNs : Nat) (kicked : Bool) (atNs : Nat) (s : State) : Res :=
  let s := s.clockTo atNs
  let now := s.nowNs
  if !s.enginesRun || (s.eng.engine n.val).st != .running || (s.sys.state == .diag && s.bit Reg.ENG_CTL 0) ||
      decide (now < kickNs + 10000) then .next s
  else
    let off := Reg.En_WDOG n.val
    let s := s.setField off 0 16 (max (s.regField off 0 16) (min 65535 (now - kickNs)))
    if kicked then .next ((s.satField off 16 8 1).onEngine n.val fun x => { x with kickAt := now })
    else
      let s := (s.satField off 24 8 1).flag Reg.ENG_ERR_STAT Reg.ENG_ERR_EN 1 false
      .next (s.engineFail n.val kickNs)

/-- ENGINE_TRAP (R395). -/
def execEngineTrap (n : Fin 24) (atNs : Nat) (s : State) : Res :=
  let s := s.clockTo atNs
  if !s.enginesRun || (s.eng.engine n.val).st != .running then .next s
  else .next ((s.flag Reg.ENG_ERR_STAT Reg.ENG_ERR_EN 2 false).engineFail n.val s.nowNs)

/-- ENGINE_SRAM_UE (R395). -/
def execEngineSramUe (n : Fin 24) (atNs : Nat) (s : State) : Res :=
  let s := s.clockTo atNs
  if !s.enginesRun || ((s.eng.engine n.val).st != .running && (s.eng.engine n.val).st != .spare) then .next s
  else .next ((s.flag Reg.ENG_ERR_STAT Reg.ENG_ERR_EN 3 false).engineFail n.val s.nowNs)

/-! Rings (R391 to R393). -/

def Eng.area (e : Eng) (role : Nat) : Option RoleArea := e.areas.find? fun a => a.role == role

def Eng.onArea (e : Eng) (role : Nat) (f : RoleArea → RoleArea) : Eng :=
  { e with areas := e.areas.map fun a => if a.role == role then f a else a }

/-- A waiting producer's entry takes a free place. -/
def RoleArea.fillRing (a : RoleArea) : RoleArea :=
  match a.waiting with
  | x :: rest =>
    if a.ring.length < 256 then { a with ring := a.ring ++ [x], waiting := rest, doorbell := true } else a
  | [] => a

/-- Service of the ring resumes: redo steps not marked done are re-run, and the first entry is served (R396). -/
def RoleArea.serve (a : RoleArea) : RoleArea := ({ a with ring := a.ring.drop 1, redo := 0 } : RoleArea).fillRing

/-- RING_ENTRY_POST (R391, R392): a producer whose ring is full waits. -/
def execRingEntryPost (role src op : Nat) (payload : List Byte) (s : State) : Res :=
  .next (s.modEng fun e => e.onArea role fun a =>
    let x : RingEntry := { src := src % 256, op := op % 65536, seq := a.posted % 2 ^ 32, payload := payload.take 56 }
    ({ a with waiting := a.waiting ++ [x], posted := a.posted + 1 } : RoleArea).fillRing)

/-! Failover's end (R396, R398, R399). -/

/-- FAILOVER_LOAD_DONE (R396, R398): the target serves its first ring entry. -/
def execFailoverLoadDone (target : Fin 24) (atNs : Nat) (s : State) : Res :=
  let s := s.clockTo atNs
  match s.eng.failovers.find? fun f => f.target == target.val with
  | none => .next s
  | some f =>
    let ns := s.nowNs - f.origin
    let s := if ns = 40000 && !f.late then s.nearMiss 0x12 else s
    let served := (f.roles.filter fun r => ((s.eng.area r).map fun a => !a.ring.isEmpty).getD false).length
    let s := s.modEng fun e =>
      let e := e.onEngine target.val fun x => { x with roles := x.roles ++ f.roles }
      { f.roles.foldl (fun e r => e.onArea r RoleArea.serve) e with
        failovers := e.failovers.filter fun g => !(g.target == target.val && g.roles == f.roles) }
    let s := s.pmc 0xB003 target.val served pmcNone
    let s := ((s.incReg Reg.ENG_FAILOVER_CNT).maxReg Reg.ENG_FAILOVER_MAX ns).setBits Reg.ENG_INT_STAT 1
    let s := s.raise 0xB101 ns (f.failed * 256 + target.val)
    let s := if s.eng.failovers.any fun g => g.failed == f.failed then s else s.afterFailover f.failed
    .next s.settleRoles

/-- FAILOVER_TIMEOUT (R398): 40 µs from the time origin. -/
def execFailoverTimeout (target : Fin 24) (atNs : Nat) (s : State) : Res :=
  let s := s.clockTo atNs
  match s.eng.failovers.find? fun f => f.target == target.val && !f.late with
  | none => .next s
  | some f =>
    if f.origin + 40000 ≤ s.nowNs then
      let s := s.modEng fun e => { e with failovers := e.failovers.map fun g => if g == f then { g with late := true } else g }
      .next ((s.flag Reg.ENG_ERR_STAT Reg.ENG_ERR_EN 5 true).raise 0xB102 (s.nowNs - f.origin) f.failed)
    else .next s

/-- A spare has joined: roles without an engine go to it, else the most recently doubled role (R400). -/
def State.spareJoined (s : State) (n : Nat) : State :=
  let s := s.setBits Reg.ENG_INT_STAT 4
  match s.eng.unplaced, s.eng.doubled with
  | [], [] => s
  | [], (role, host) :: rest =>
    let s := s.modEng fun e =>
      { (e.onEngine host fun x => { x with roles := x.roles.filter (· != role) }) with doubled := rest }
    s.startFailover host [role] n s.nowNs
  | l, _ => (s.modEng fun e => { e with unplaced := [] }).startFailover n l n s.nowNs

/-- ENGINE_SELFTEST_DONE (R399): the engine joins the spares, or is retired. -/
def execEngineSelftestDone (n : Fin 24) (pass : Bool) (s : State) : Res :=
  let x := s.eng.engine n.val
  if x.st != .selftest then .next s
  else
    let s := s.onEngine n.val fun x => { x with selftest := false }
    if pass && !x.again then
      .next ((s.onEngine n.val fun x => { x with st := .spare }).settleRoles.spareJoined n.val)
    else .next (s.retireEngine n.val)

/-- ENGINE_SELFTEST_WRITE (R399): in DIAG, of a spare or retired engine; a retired one stays retired after it. -/
def execEngineSelftestWrite (via : Via) (n : Fin 24) (s : State) : Res :=
  if !s.reaches via then .next s else
  let s := s.emit (.regWriteDone via (Reg.En_CTL n.val))
  let x := s.eng.engine n.val
  if s.sys.state == .diag && (x.st == .spare || x.st == .retired) then
    let again := x.st == .retired
    .next ((s.onEngine n.val fun x => { x with st := .selftest, selftest := true, again := again }).settleRoles)
  else .next s

/-- ENGINE_HOLD (R396, Table ENG-9): in DIAG, HOLD set holds the engine and fails its roles over; cleared, the engine joins
the spares (log entry 29). Ignored elsewhere. -/
def execEngineHold (via : Via) (n : Fin 24) (hold : Bool) (s : State) : Res :=
  if !s.reaches via then .next s else
  let s := s.emit (.regWriteDone via (Reg.En_CTL n.val))
  let x := s.eng.engine n.val
  if s.sys.state != .diag || x.hold == hold then .next s
  else
    let now := s.nowNs
    let s := s.onEngine n.val fun x => { x with hold := hold }
    if 22 ≤ n.val then
      if hold then .next (s.modEng fun e => { (e.onEngine n.val fun x => { x with st := .off }) with pairDown := true, pairOrigin := now })
      else .next s
    else if hold then
      let roles := x.roles
      let s := s.onEngine n.val fun x => { x with st := if x.st == .retired then .retired else .failingOver, roles := [] }
      let s := (s.retarget n.val now).place n.val now roles
      .next (if s.eng.failovers.any fun f => f.failed == n.val then s.settleRoles else (s.afterFailover n.val).settleRoles)
    else if x.st == .off || x.st == .failingOver then
      .next ((s.onEngine n.val fun x => { x with st := .spare }).settleRoles.spareJoined n.val)
    else .next s

/-! Placement at LOAD (R390). -/

/-- The role areas of an image. -/
def roleAreas (p : Plat) : List RoleArea :=
  (p.roles.filterMap fun e => if e.1 = 0 then none else some (e.1 * 32 + e.2)).map fun r =>
    { role := r, ring := [], waiting := [], posted := 0, redo := 0, doorbell := false }

/-- Every role goes to the engine the image names; that of a retired engine goes to a spare. Engines that already run keep
their roles (R408). -/
def State.placeRoles (s : State) (p : Plat) : State :=
  if s.eng.engines.any fun x => !x.roles.isEmpty then s
  else
    let now := s.nowNs
    let s := s.modEng fun e =>
      { e with areas := roleAreas p,
               engines := e.engines.zipIdx.map fun (x, n) =>
                 let r := p.roles.getD n (0, 0)
                 if x.st == .retired then x
                 else if r.1 = 0 then { x with st := .spare, kickAt := now }
                 else { x with st := .running, roles := [r.1 * 32 + r.2], kickAt := now } }
    (List.range 22).foldl (fun (s : State) n =>
      let r := p.roles.getD n (0, 0)
      if (s.eng.engine n).st == .retired && r.1 != 0 then s.place n now [r.1 * 32 + r.2] else s) s

end Sys2Proof.Machine
end

