-- ==== Sys2Proof/Machine/Care.lean ====
section
/-! DEFINITION. Medium care: weighted age, read levels, anneal planning, patrol, retirement, degraded bands and their rebuild,
decode accounting (R239 to R270). -/

namespace Sys2Proof.Machine

/-! Weighted age (R254 to R256). -/

/-- AF(T) in units of 10^-9 for −40 to 125 °C in 1 °C steps, the formula of R254 rounded to the nearest (log entry 31). -/
def afTable : List Nat :=
  [
  24, 30, 38, 48, 60, 75, 94, 118, 147, 183, 227, 281, 348, 430, 531, 653, 803, 986, 1208, 1478, 1805, 2201, 2679,
  3257, 3954, 4792, 5800, 7009, 8457, 10191, 12262, 14734, 17680, 21185, 25352, 30297, 36158, 43097, 51302, 60990,
  72416, 85874] ++
  [
  101708, 120314, 142152, 167751, 197726, 232784, 273739, 321531, 377237, 442097, 517533, 605174, 706885, 824801,
  961360, 1119347, 1301934, 1512740, 1755880, 2036035, 2358523, 2729377, 3155443, 3644470, 4205234, 4847655, 5582944,
  6423753, 7384353, 8480825, 9731273, 11156065, 12778092, 14623062, 16719825, 19100725, 21802001, 24864216, 28332745,
  32258300, 36697516, 41713596] ++
  [
  47377017, 53766309, 60968909, 69082103, 78214051, 88484921, 100028122, 112991661, 127539625, 143853798, 162135436,
  182607198, 205515254, 231131590, 259756510, 291721373, 327391560, 367169713, 411499245, 460868167, 515813229,
  576924427, 644849881, 720301127, 804058854, 896979106, 1000000000, 1114148992, 1240550724, 1380435510, 1535148489,
  1706159510, 1895073789, 2103643398, 2333779642, 2587566390, 2867274418, 3175376844, 3514565717, 3887769849,
  4298173967, 4749239275] ++
  [
  5244725513, 5788714620, 6385636103, 7040294216, 7757897067, 8544087782, 9404977843, 10347182750, 11377860142,
  12504750522, 13736220768, 15081310570, 16549781989, 18152172318, 19899850440, 21805076888, 23881067825,
  26142063171, 28603399109, 31281585234, 34194386590, 37360910882, 40801701154, 44538834214, 48596025155,
  52998738277, 57774304765, 62952047494, 68563413329, 74642113322, 81224271227, 88348580752, 96056472019,
  104392287684, 113403469235, 123140753959, 133658383130, 145014321973, 157270491988, 170493016239]

/-- AF at a temperature in 1/16 °C, interpolated, in units of 10^-9. -/
def accel (t : Int) : Nat :=
  let c := min (max t (-640)) 2000
  let k := (c + 640).toNat / 16
  let f := (c + 640).toNat % 16
  let a := afTable.getD k 0
  a + (afTable.getD (k + 1) a - a) * f / 16

/-- A die's temperature for its clock: its own, else the hottest read on its channel, else the hottest sensor (R254; log
entry 31). -/
def State.dieTemp (s : State) (c : Channel) (d : Nat) : Int :=
  match (c.dies[d]?).bind (·.temp) with
  | some t => t
  | none => match c.dies.filterMap (·.temp) with
    | [] => (s.thm.maxReading s.conf.crit).1
    | x :: rest => rest.foldl max x

/-- Units of the weighted clocks: 10^-11 s at 70 °C. An hour of weighted age. -/
def ageHour : Nat := 360000000000000

/-- The oldest member's weighted age of a band. -/
def State.bandAge (s : State) (b : Band) : Nat :=
  ((b.members.zip b.bornAt).map fun e => s.mdc.clocks.getD (e.1.1 * 4 + e.1.2.1) 0 - e.2).foldl max 0

/-- The band of a tract. -/
def Cds.bandOfTract (c : Cds) (k : Nat) : Option (Nat × Band) := c.bands.find? fun e => e.2.tracts.contains k

/-- The age bin of a weighted age (Table MDC-4). -/
def ageBin (a : Nat) : Nat := ([1, 12, 48, 144, 336, 600, 864].filter fun h => decide (h * ageHour ≤ a)).length

/-- The weighted age of a tract. -/
def State.tractAge (s : State) (k : Nat) : Nat :=
  match s.cds.bandOfTract k with
  | some (_, b) => ((b.tracts.zip b.bornAt).find? fun e => e.1 == k).elim 0 fun e => s.mdc.clocks.getD (k / 16384) 0 - e.2
  | none => 0

/-! Anneal planning (R241, R258 to R260). -/

/-- An anneal of a band is planned at priority 2; `due`: it is due at once. Monument bands are not annealed. -/
def State.planAnneal (s : State) (id : Nat) (due : Bool) : State :=
  match s.cds.band id with
  | none => s
  | some b =>
    if b.role == .monument || (b.annealPlanned && (!due || b.annealDue)) then s
    else
      let s := s.modCds fun c =>
        (c.onBand id fun b => { b with annealPlanned := true, annealDue := b.annealDue || due }).addWork (.anneal id) 2 none
      if due then s.setBits Reg.MDC_INT_STAT 2 else s

/-- Bands that have reached the planning start or the retention target (R258). -/
def State.planByAge (s : State) : State :=
  let target := s.regNat Reg.MDC_RETAIN_H * ageHour
  let start := target * s.regNat Reg.MDC_ANNEAL_PLAN / 100
  s.cds.bands.foldl (fun s e =>
    let a := s.bandAge e.2
    if target ≤ a then s.planAnneal e.1 true
    else if decide (start ≤ a) && s.bit Reg.MDC_CTL 1 then s.planAnneal e.1 false else s) s

/-- WEIGHTED_CLOCK_TICK (R254): each die's clock advances by 0.01 s × AF. -/
def execWeightedClockTick (atNs : Nat) (s : State) : Res :=
  if !s.running then .next s
  else
    let s := s.clockTo atNs
    let w := s.mdc.clocks.zipIdx.map fun (x, i) =>
      x + (match s.trv.channels[i / 4]? with | some c => accel (s.dieTemp c (i % 4)) | none => 0)
    .next ((s.modMdc fun m => { m with clocks := w }).planByAge)

/-- Time without supply, stepped over by the datum (R255). -/
def State.ageGap (s : State) (ns : Nat) : State :=
  let d := ns * accel (s.regNat Reg.MDC_UNPWR_TEMP * 16) / 10000000
  (s.modMdc fun m => { m with clocks := m.clocks.map (· + d) }).planByAge

/-! Read levels (R256, R257). -/

/-- The key of a die and bin, and of a threshold there. -/
def levelKey (die bin : Nat) : Nat := die * 8 + bin

/-- A misread count that exceeds twice the other moves the threshold one step: lines read too high more often move it up,
toward the side misread less often (R257). -/
def levelStep (old : Int) (high low : Nat) : Int :=
  if 2 * low < high then min 127 (old + 1) else if 2 * high < low then max (-127) (old - 1) else old

/-- LEVEL_ADJUST (R257): the steward's new offsets are queued as SET_LEVEL commands. -/
def execLevelAdjust (die : Fin 128) (bin : Fin 8) (s : State) : Res :=
  let k := levelKey die.val bin.val
  if mapGet (fun _ => 0) s.mdc.decoded k < 4096 then .next s
  else
    let old (t : Nat) : Int := ((s.trv.channels[die.val / 4]?).bind fun c => (c.dies[die.val % 4]?).map fun d =>
      mapGet (fun _ => (0 : Int)) d.levels (bin.val * 3 + t)).getD 0
    let n (t : Nat) : Nat × Nat := mapGet (fun _ => (0, 0)) s.mdc.misreads (k * 3 + t)
    let moved := (List.range 3).filter fun t => levelStep (old t) (n t).1 (n t).2 != old t
    let s := s.modMdc fun m =>
      { m with decoded := mapErase m.decoded k, misreads := ((List.range 3).foldl (fun x t => mapErase x (k * 3 + t)) m.misreads) }
    if s.bit Reg.MDC_CTL 3 then
      .next (s.modTrv fun t => { t with channels := listUpd t.channels (die.val / 4) fun c =>
        { c with intQ := c.intQ ++ moved.map fun i =>
            { cls := .internal, opcode := 0x12, die := die.val % 4, tract := bin.val * 8 + i + 1, parcel := 0, line := 0,
              arg := (levelStep (old i) (n i).1 (n i).2 % 256).toNat } } })
    else .next s

/-! Degraded bands and retirement (R262 to R265). -/

/-- Members of a band on lost ground become missing: an open band of the log closes, and the rebuild is due within 10 ms. -/
def State.degradeBand (s : State) (id : Nat) (gone : Nat → Bool) : State :=
  match s.cds.band id with
  | none => s
  | some b =>
    let new := ((b.tracts.zipIdx).filter fun e => gone e.1 && !b.missing.contains e.2).map (·.2)
    if new.isEmpty then s
    else
      let s := if b.role == .logOpen || b.role == .stream then s.closeLog id else s
      let due := s.nowNs + 10000000
      let s := s.modCds fun c => (c.onBand id fun b => { b with missing := b.missing ++ new }).addWork (.rebuild id) 1 (some due)
      s.setBits Reg.MDC_INT_STAT 8

/-- Every band with a member on lost ground, in ascending ID (R263, R265). -/
def State.degradeAll (s : State) (gone : Nat → Bool) : State := s.cds.bands.foldl (fun s e => s.degradeBand e.1 gone) s

/-- A die is retired (R263). -/
def State.retireDie (s : State) (d : Nat) : State :=
  if s.mdc.retired.contains d then s
  else
    let s := s.modMdc fun m => { m with retired := insertUniq d m.retired }
    let s := s.modTrv fun t => { t with channels := listUpd t.channels (d / 4) fun c =>
      { c with dies := listUpd c.dies (d % 4) fun x => { x with lost := true } } }
    let s := (s.flag Reg.MDC_ERR_STAT Reg.MDC_ERR_EN 5 true).raise 0x6202 d 0
    (s.degradeAll fun k => k / 16384 == d).checkReadonly

/-- Events of the last 24 h of the datum. -/
def recent (now : Nat) (l : List (Nat × Nat)) : List (Nat × Nat) := l.filter fun e => decide (now ≤ e.2 + 86400000000000)

/-- A tract is retired for errors, a member of a band to be rebuilt; at 64 in 24 h its die is (R262, R263). -/
def State.retireTract (s : State) (k : Nat) : State :=
  if (s.cds.tract k).st == .retired then s
  else
    let now := s.datumNs
    let s := s.modCds (·.onTract k fun t => { t with st := .retired })
    let s := (s.flag Reg.MDC_ERR_STAT Reg.MDC_ERR_EN 4 true).raise 0x6201 k 0
    let s := s.modMdc fun m => { m with retirements := recent now m.retirements ++ [(k, now)] }
    let s : State := match s.cds.bandOfTract k with
      | some (id, _) => s.degradeBand id (· == k)
      | none => s
    let n : Nat := (s.mdc.retirements.filter fun e => e.1 / 16384 == k / 16384).length
    if 64 ≤ n then s.retireDie (k / 16384) else s.checkReadonly

/-- A program of a tract fails: at the second one since its last reset it is retired (R262). -/
def State.tractProgFail (s : State) (k : Nat) : State :=
  let s := s.modCds (·.onTract k fun t => { t with fails := t.fails + 1 })
  if 2 ≤ (s.cds.tract k).fails then s.retireTract k else s

/-! Decode accounting (R239 to R243, R257, R259). -/

/-- A line read counts against its tract (R259). -/
def State.countRead (s : State) (k lines : Nat) : State :=
  if s.bit Reg.MDC_CTL 2 then s.modCds (·.onTract k fun t => { t with reads := t.reads + lines }) else s

/-- Plan an anneal of the band of a tract. -/
def State.planTract (s : State) (k : Nat) (due : Bool) : State :=
  match s.cds.bandOfTract k with
  | some (id, _) => s.planAnneal id due
  | none => s

/-- READ_COUNT_ANNEAL (R259): the count of a tract has reached 2^MDC_RDCNT_LOG2. -/
def execReadCountAnneal (die : Fin 128) (tract : Fin 16384) (s : State) : Res :=
  let k := tractKey die.val tract.val
  if s.bit Reg.MDC_CTL 2 && decide (2 ^ s.regNat Reg.MDC_RDCNT_LOG2 ≤ (s.cds.tract k).reads) &&
      ((s.cds.bandOfTract k).any fun e => !e.2.annealDue && e.2.role != .monument) then
    .next ((s.incReg Reg.MDC_RDCNT_ANNEAL).planTract k true)
  else .next s

/-- A line decodes: bits corrected and, for R257, the side of each misread (R241, R257). -/
def State.decodeOk (s : State) (place bits : Nat) (high low : List Nat) : State :=
  let t := keyTract place
  let k := levelKey (t / 16384) (ageBin (s.tractAge t))
  let s := (s.addPair Reg.MDC_CORR_LO bits).modMdc fun m =>
    { m with decoded := mapSet (fun _ => 0) m.decoded k (mapGet (fun _ => 0) m.decoded k + 1),
             misreads := (List.range 3).foldl (fun x i =>
               let o := mapGet (fun _ => (0, 0)) x (k * 3 + i)
               mapSet (fun _ => (0, 0)) x (k * 3 + i) (o.1 + high.getD i 0, o.2 + low.getD i 0)) m.misreads }
  let s := (s.pmc 0x6001 0 1 pmcNone).pmc 0x6002 0 bits pmcNone
  if s.regNat Reg.MDC_REFRESH_BITS ≤ bits then
    (s.flag Reg.MDC_ERR_STAT Reg.MDC_ERR_EN 0 false).planTract t false
  else s

/-- A line fails decode or its address check (R240). -/
def State.decodeFail (s : State) (addrChk : Bool) : State :=
  let s := ((s.incReg Reg.MDC_BCH_FAIL).pmc 0x6001 0 1 pmcNone).pmc 0x6003 0 1 pmcNone
  if addrChk then s.flag Reg.MDC_ERR_STAT Reg.MDC_ERR_EN 2 false else s.flag Reg.MDC_ERR_STAT Reg.MDC_ERR_EN 1 false

/-- A line recovered counts against its tract, which is retired at 4 within 24 h (R242, R262). -/
def State.recovered (s : State) (place step : Nat) (line : Option Nat) : State :=
  let t := keyTract place
  let now := s.datumNs
  let s := if step ≤ 1 then
      (s.incReg Reg.MDC_PARITY_OK).raise 0x6102 ((line.getD 0) * 64) 0
    else s.incReg Reg.MDC_RETRY_OK
  let s := (s.planTract t false).modMdc fun m => { m with recoveries := recent now m.recoveries ++ [(t, now)] }
  if 4 ≤ (s.mdc.recoveries.filter fun e => e.1 == t).length then s.retireTract t else s

/-- An unrecoverable line is poison, in the list, with its record (R243). -/
def State.unrecoverable (s : State) (line : Nat) : State :=
  let s := ((s.addPoison line).incReg Reg.MDC_UNRECOV).setPair Reg.MDC_ERR_ADDR_LO (line * 64)
  (s.flag Reg.MDC_ERR_STAT Reg.MDC_ERR_EN 3 true).raise 0x6101 (line * 64) 0

/-- The accounting of one decode of a host line at a place. -/
def State.account (s : State) (line place : Nat) (d : Decoded) : State :=
  let s := s.countRead (keyTract place) 1
  match d with
  | .ok bits high low => s.decodeOk place bits high low
  | .recovered a step => (s.decodeFail a).recovered place step (some line)
  | .lost a => (s.decodeFail a).unrecoverable line

/-! Patrol (R261). -/

/-- A pass starts at the lowest band. -/
def State.startPatrol (s : State) : State :=
  if s.mdc.patrol.active then s
  else
    let now := s.nowNs
    (s.modMdc fun m => { m with patrol := { active := true, pos := (s.cds.bands.head?.map (·.1)).getD 0, startedAt := now } }).modCds
      (·.addWork .patrol 8 none)

/-- PATROL_PASS_START (R261): the period is over. -/
def execPatrolPassStart (atNs : Nat) (s : State) : Res :=
  if !s.running then .next s
  else
    let s := s.clockTo atNs
    if s.bit Reg.MDC_CTL 0 &&
        decide (s.mdc.patrol.startedAt + s.regNat Reg.MDC_PATROL_DAYS * 86400000000000 ≤ s.nowNs) then .next s.startPatrol
    else .next s

/-- PATROL_NOW (R261). -/
def execPatrolNow (via : Via) (s : State) : Res :=
  if !s.reaches via then .next s else
  .next (((s.emit (.regWriteDone via Reg.MDC_CTL)).setBits Reg.MDC_CTL 16).startPatrol)

/-! Rebuild (R265, R266). -/

/-- A FREE tract on a logical channel with no member of the band, from the bins in order. -/
def State.rebuildTarget (s : State) (b : Band) : Option ((Nat × Nat × Nat) × Cds) :=
  let v := s.allocEnv
  let free := v.plat.logical.filter fun ch => !(b.members.any fun m => m.1 == ch) &&
    !((s.trv.channels[ch]?).elim true fun c => c.lost)
  let young := b.role != .plot || decide (8 ≤ (s.cds.plot b.plot).heat)
  (binOrder young).findSome? fun bin =>
    match s.cds.rank v bin free with
    | [] => none
    | ch :: _ => (s.cds.takeOn v bin [ch]).bind fun r => (r.1.head?).map fun m => (m, r.2)

/-- The lines of a tract stand on another tract. -/
def State.moveLines (s : State) (old new : Nat) : State :=
  let mine := s.med.filter fun e => keyTract e.1 == old
  let rest := s.med.filter fun e => keyTract e.1 != old
  s.modMed fun _ => mine.foldl (fun m e => mapInsert m (new * 32768 + e.1 % 32768) e.2) rest

/-- REBUILD_COMMIT (R265, R266): a missing member of a band is replaced by one map commit. `lost`: lines that a second fault
made unrecoverable. Without a tract the band's plot is merged. -/
def execRebuildCommit (band : Nat) (lost : List Nat) (s : State) : Res :=
  match s.cds.band band with
  | none => .next s
  | some b =>
    match b.missing with
    | [] => .next s
    | pos :: rest =>
      match s.rebuildTarget b with
      | none => .next (s.modCds (·.addWork (.mergePlot b.plot true) 1 none))
      | some (m, c) =>
        let old := (b.tracts).getD pos 0
        let new := tractKey (m.1 * 4 + m.2.1) m.2.2
        let p := s.conf
        let stamp := s.mdc.clocks.getD (m.1 * 4 + m.2.1) 0
        let b2 : Band := { b with members := listSet b.members pos m, bornAt := listSet b.bornAt pos stamp, missing := rest }
        let s := s.modCds fun d => { d with tracts := c.tracts, planes := c.planes }
        let s := s.mapCommit [p.pageOfBand band, p.pageOfTract old, p.pageOfTract new] fun c =>
          let c := (c.onTract old fun t => { t with st := .retired }).onTract new fun t => { t with st := .allocated }
          let c := c.onBand band fun _ => b2
          { c with work := if rest.isEmpty then c.work.filter fun w => w.kind != .rebuild band else c.work }
        let s := s.moveLines old new
        let s := lost.foldl (fun s l => s.unrecoverable l) s
        let s := if lost.isEmpty then s.raise 0x6301 band pos
          else (s.flag Reg.MDC_ERR_STAT Reg.MDC_ERR_EN 6 true).raise 0x6302 band pos
        let s := s.modMdc fun m => { m with rebuild := none }
        .next ((s.setBits Reg.MDC_INT_STAT 1).checkReadonly)

/-! Registers (R270). -/

/-- Offset and range. -/
def MdcParam.row : MdcParam → Nat × Nat × Nat
  | .retainH => (Reg.MDC_RETAIN_H, 240, 1080)
  | .annealPlan => (Reg.MDC_ANNEAL_PLAN, 50, 95)
  | .rdcntLog2 => (Reg.MDC_RDCNT_LOG2, 20, 26)
  | .unpwrTemp => (Reg.MDC_UNPWR_TEMP, 25, 85)
  | .patrolDays => (Reg.MDC_PATROL_DAYS, 1, 30)
  | .refreshBits => (Reg.MDC_REFRESH_BITS, 6, 12)

/-- MDC_PARAM_WRITE (R270): a value outside its range is ignored. -/
def execMdcParamWrite (via : Via) (p : MdcParam) (v : Word) (s : State) : Res :=
  if !s.reaches via then .next s else
  let s := s.emit (.regWriteDone via p.row.1)
  .next (if within v.toNat p.row.2.1 p.row.2.2 then s.setReg p.row.1 v else s)

end Sys2Proof.Machine
end

