-- ==== Sys2Proof/Machine/Traverse.lean ====
section
/-! DEFINITION. The Traverse bus: packets, their bus cycles, the rules of the dies, completions, timeouts, resends, retrains and
loss (R206 to R238). Times on the bus are counted in CK cycles of 5/12 ns. -/

namespace Sys2Proof.Machine

/-! Channels and dies. -/

def State.channel (s : State) (ch : Nat) : Channel := s.trv.channels.getD ch channelInit

def State.onChannel (s : State) (ch : Nat) (f : Channel → Channel) : State :=
  s.modTrv fun t => { t with channels := listUpd t.channels ch f }

def Channel.die (c : Channel) (d : Nat) : Die := c.dies.getD d dieInit

def Channel.onDie (c : Channel) (d : Nat) (f : Die → Die) : Channel := { c with dies := listUpd c.dies d f }

def State.die (s : State) (ch d : Nat) : Die := (s.channel ch).die d

def State.onDie (s : State) (ch d : Nat) (f : Die → Die) : State := s.onChannel ch (·.onDie d f)

/-- The channels a packet for one goes to: both of a locked pair that are in service (R223, R226). -/
def State.lockstep (s : State) (ch : Nat) : List Nat :=
  if (s.channel ch).mode = 1 then [ch / 2 * 2, ch / 2 * 2 + 1].filter fun c => !(s.channel c).lost else [ch]

/-- The die's name in the map: the dies of a locked pair go by the lower channel (R36, R239). -/
def State.logicalDie (s : State) (ch d : Nat) : Nat := (if (s.channel ch).mode = 1 then ch / 2 * 2 else ch) * 4 + d

/-! Bus cycles (R206, R215, R218, R223). -/

/-- The CK cycle of now. -/
def State.ckNow (s : State) : Nat := s.dtm.mono * 3 / 10000000

/-- Two stretches of cycles, first and length, share a cycle. -/
def overlaps (a b : Nat × Nat) : Bool := decide (a.1 < b.1 + b.2) && decide (b.1 < a.1 + a.2)

/-- The stretches `need`, counted from `start`, are free. -/
def fits (taken need : List (Nat × Nat)) (start : Nat) : Bool :=
  need.all fun n => !(taken.any fun t => overlaps (start + n.1, n.2) t)

/-- The first cycle from `now` at which they are. -/
def firstFit (taken need : List (Nat × Nat)) (now : Nat) : Nat :=
  let ends : List Nat := (taken.flatMap fun t => need.map fun n => t.1 + t.2 - n.1).filter fun x => decide (now ≤ x)
  let last : Nat := (taken.map fun (t : Nat × Nat) => t.1 + t.2).foldl max now
  ((now :: ends).filter (fits taken need)).foldl min last

def Channel.burstLines (c : Channel) : List Nat := match c.burst with | some (_, l) => l | none => []

/-- Cycles booked from now on, the lines of a parcel burst among them. -/
def Channel.taken (c : Channel) (now : Nat) : List (Nat × Nat) :=
  (c.booked ++ c.burstLines.map fun x => (x, 32)).filter fun (e : Nat × Nat) => decide (now < e.1 + e.2)

/-- Lines of a burst, each at the first free 32 cycles after the one before. -/
def placeLines (taken : List (Nat × Nat)) : Nat → Nat → List Nat
  | _, 0 => []
  | from_, n + 1 =>
    let t := firstFit taken [(0, 32)] from_
    t :: placeLines taken (t + 32) n

/-- A read packet pauses a running parcel burst at the next line boundary (R218): the lines not begun give up their cycles
and follow after the packet and a chip-select change. -/
def Channel.pause (c : Channel) (now : Nat) : Channel × Option (Nat × Nat) :=
  match c.burst with
  | none => (c, none)
  | some (d, l) =>
    let rest := (l.filter fun x => decide (now < x)).length
    if rest = 0 then (c, none) else ({ c with burst := some (d, l.filter fun x => decide (x ≤ now)) }, some (d, rest))

/-- Book a packet to a die at the first fitting cycle: 6 cycles for a change of chip select, 12 of the packet, then
`data`, counted from its last cycle. Answers the packet's first cycle. -/
def Channel.book (c : Channel) (now die : Nat) (data : List (Nat × Nat)) : Nat × Channel :=
  let css := if c.sel = die then 0 else 6
  let need := (0, css + 12) :: data.map fun e => (css + 12 + e.1, e.2)
  let t := firstFit (c.taken now) need now
  (t, { c with sel := die, booked := (c.booked.filter fun e => decide (now < e.1 + e.2)) ++ need.map fun n => (t + n.1, n.2) })

/-- A read is placed through a paused burst, which then resumes. -/
def Channel.bookRead (c : Channel) (now die : Nat) (data : List (Nat × Nat)) : Channel :=
  let (c, left) := c.pause now
  let (t, c) := c.book now die data
  match left with
  | some (d, n) =>
    { c with burst := some (d, c.burstLines ++ placeLines (c.taken now) (t + 18 + 6) n), sel := d }
  | none => c

/-! What a die does with an accepted packet (R209, R211, R216, R217). -/

/-- An operation runs and is not suspended. -/
def running (o : Option DieOp) : Bool := o.any fun x => !x.suspended

def Die.plane (d : Die) (p : Nat) : Option DieOp := d.planes.getD p none

def DieOp.new (opcode tract parcel now : Nat) : DieOp :=
  { opcode := opcode, tract := tract, parcel := parcel, start := now, elapsed := 0, suspended := false, suspends := 0, asked := none }

/-- A read is accepted: its plane does not program, no reset runs, its tract is not the suspended one. -/
def Die.readOk (d : Die) (tract : Nat) : Bool :=
  !running (d.plane (tract % 4)) && match d.reset with
    | some r => r.suspended && r.tract != tract
    | none => true

/-- The result of a program packet: 0 accepted, 4 ILLEGAL, 5 REPROGRAM. -/
def Die.progResult (d : Die) (tract : Nat) (old mask : Quad) : Nat :=
  let okReset := match d.reset with | some r => r.suspended && r.tract != tract | none => true
  if mask = 0 || (d.plane (tract % 4)).isSome || !okReset then 4 else if old &&& mask != 0 then 5 else 0

/-- A reset takes all four planes of an idle die. -/
def Die.resetOk (d : Die) : Bool := d.reset.isNone && d.planes.all (·.isNone)

/-- The operation that a SUSPEND or RESUME names: the die's reset, or the parcel program of a plane. -/
def Die.named (d : Die) (what : Option (Fin 4)) : Option DieOp :=
  match what with
  | none => d.reset
  | some p => (d.plane p.val).filter fun o => o.opcode == 5

def Die.setNamed (d : Die) (what : Option (Fin 4)) (f : DieOp → DieOp) : Die :=
  match what with
  | none => { d with reset := d.reset.map f }
  | some p => { d with planes := listUpd d.planes p.val (·.map f) }

def Die.pushDone (d : Die) (c : Completion) : Die := { d with completions := d.completions ++ [c] }

/-! Loss (R226 to R229, R263, R267). -/

/-- Entries for a die or a whole channel end with a lost status. -/
def Channel.dropFor (c : Channel) (p : TrvReq → Bool) : Channel :=
  { c with hostQ := c.hostQ.filter (fun r => !p r), progQ := c.progQ.filter (fun r => !p r), bgQ := c.bgQ.filter (fun r => !p r),
           intQ := c.intQ.filter fun r => !p r }

/-- The frame of an unfinished write-back that has its slot on a place: the write-back ends, its lines stay dirty and are
placed afresh (R213). -/
def State.replaceWb (s : State) (place : Nat) : State :=
  let hit := s.stg.wbt.filter fun w => match s.cds.band w.band with
    | some b => (b.place (w.slot % 8192) 0).any fun k => k / 64 == place
    | none => false
  hit.foldl (fun s w =>
    let s := s.modStg fun g => { (g.onFrame w.frame fun f => { f with wb := false }) with wbt := g.wbt.filter (· != w) }
    s.tryWb w.frame w.forced) s

/-- The plots of mirrored holdings with a member on a pair are merged (R267). -/
def State.mergeMirrored (s : State) (pair : Nat) : State :=
  let p := s.conf
  (s.cds.bands.filter fun e => e.2.role == .plot && e.2.members.any fun m => m.1 / 2 == pair).foldl (fun s e =>
    match holdingOfParcel p (e.2.plot * 8192) with
    | some (h, _, _) => if h.mirror then s.modCds (·.addWork (.mergePlot e.2.plot false) 1 none) else s
    | none => s) s

/-- A pair goes on with one channel (R226). -/
def State.mirrorDegrade (s : State) (ch : Nat) : State :=
  let pair := ch / 2
  if (s.channel ch).mirrorDegraded then s
  else
    let s := (s.onChannel (pair * 2) fun c => { c with mirrorDegraded := true }).onChannel (pair * 2 + 1) fun c =>
      { c with mirrorDegraded := true }
    ((s.setBits Reg.TRV_INT_STAT 8).raise 0x5103 pair 0).mergeMirrored pair

/-- The twin of a die on the other channel of its pair still works. -/
def State.twinWorks (s : State) (ch d : Nat) : Bool :=
  let o := if ch % 2 = 0 then ch + 1 else ch - 1
  (s.channel ch).mode == 1 && !(s.channel o).lost && !(s.die o d).lost

/-- A die is gone from its channel: its operations and entries end, and its writes are placed afresh. -/
def State.endDie (s : State) (ch d : Nat) : State :=
  let ops := (s.die ch d).planes.filterMap id
  let s := s.onChannel ch fun c => (c.dropFor fun r => r.die == d).onDie d fun x =>
    { x with lost := true, planes := List.replicate 4 none, reset := none, completions := [], timedOut := none, answer := none }
  ops.foldl (fun s o => s.replaceWb (placeKey (s.logicalDie ch d) o.tract o.parcel)) s

/-- A die that no twin stands in for is retired; one with a twin degrades its mirror (R226, R263). -/
def State.dieGone (s : State) (ch d : Nat) : State :=
  if s.twinWorks ch d then s.mirrorDegrade ch
  else s.retireDie (s.logicalDie ch d)

/-- A channel is lost, with all its dies (R229, R263). -/
def State.channelLost (s : State) (ch : Nat) : State :=
  if (s.channel ch).lost then s
  else
    let s := s.onChannel ch fun c => { c.dropFor (fun _ => true) with lost := true, retraining := false, booked := [], burst := none }
    let s := (s.flag Reg.TRV_ERR_STAT Reg.TRV_ERR_EN 4 true).setBits Reg.TRV_INT_STAT 2
    let s := s.raise 0x5102 ch 0
    (List.range s.conf.diesPerCh).foldl (fun s d => (s.endDie ch d).dieGone ch d) s

/-- A die is lost (R228); the last one of a channel takes the channel with it (R229). -/
def State.dieLost (s : State) (ch d : Nat) : State :=
  if (s.die ch d).lost then s
  else
    let s := s.endDie ch d
    let s := (s.flag Reg.TRV_ERR_STAT Reg.TRV_ERR_EN 3 true).setBits Reg.TRV_INT_STAT 1
    let s := (s.raise 0x5101 (ch * 4 + d) 0).dieGone ch d
    if (List.range s.conf.diesPerCh).all fun k => (s.die ch k).lost then s.channelLost ch else s

/-! Errors of the bus (R229). -/

/-- An error on a channel: the 16th within 100 µs brings a retrain, or the loss of a channel just retrained. -/
def State.busError (s : State) (ch : Nat) : State :=
  let now := s.nowNs
  let l := ((s.channel ch).errs.filter fun t => decide (now < t + 100000)) ++ [now]
  let s := s.onChannel ch fun c => { c with errs := l }
  if l.length < 16 then s
  else if (s.channel ch).retrainedAt.any fun t => decide (now ≤ t + 100000) then s.channelLost ch
  else s.onChannel ch fun c => { c with retraining := true, errs := [] }

/-- A packet was discarded, or SEQ differs. -/
def State.pktError (s : State) (ch : Nat) : State :=
  ((s.flag Reg.TRV_ERR_STAT Reg.TRV_ERR_EN 0 false).satField (Reg.TRVn_ERR_CNT ch) 24 8 1).busError ch

/-- A burst CRC differed (R212). -/
def State.burstError (s : State) (ch : Nat) : State :=
  ((s.flag Reg.TRV_ERR_STAT Reg.TRV_ERR_EN 1 false).satField (Reg.TRVn_ERR_CNT ch) 16 8 1).busError ch

/-- A program failed (R213, R262). -/
def State.progFailed (s : State) (ch d tract parcel : Nat) : State :=
  let s := s.flag Reg.TRV_ERR_STAT Reg.TRV_ERR_EN 5 false
  let x := s.logicalDie ch d
  (s.tractProgFail (tractKey x tract)).replaceWb (placeKey x tract parcel)

/-- Send a command again, up to three times. -/
def State.resend (s : State) (ch d : Nat) (r : TrvReq) (failed : State → State) : State :=
  if (s.die ch d).resends < 3 then
    (s.onDie ch d fun x => { x with resends := x.resends + 1 }).onChannel ch fun c => { c with intQ := r :: c.intQ }
  else failed (s.onDie ch d fun x => { x with resends := 0 })

/-! Packets (R206, R209, R219, R223). -/

/-- ARG and ADDR of a packet as one number: ARG above the 29 bits of ADDR (Table TRV-3). -/
def pktArg (arg tract parcel line : Nat) : Nat := arg * 2 ^ 29 + (tract * 512 + parcel) * 64 + line

/-- The sequencer may send a packet to a die: the medium is out of reset, the channel trained and in service, not held in
DIAG (TRV[n]_CTL.HOLD), the die present and not lost. -/
def State.canSend (s : State) (ch d : Nat) : Bool :=
  let c := s.channel ch
  s.running && !s.sys.poweredDown && !s.trv.rstLow && c.mode != 2 && c.trained && !c.lost && !c.retraining &&
    !(s.sys.state == .diag && s.bit (Reg.TRVn_CTL ch) 1) && decide (d < s.conf.diesPerCh) && !(c.die d).lost

/-- The entry of the queues that a packet serves leaves its queue. -/
def eraseFirst (p : TrvReq → Bool) : List TrvReq → List TrvReq
  | [] => []
  | x :: rest => if p x then rest else x :: eraseFirst p rest

def Channel.unqueue (c : Channel) (p : TrvReq → Bool) : Channel :=
  if c.intQ.any p then { c with intQ := eraseFirst p c.intQ }
  else if c.hostQ.any p then { c with hostQ := eraseFirst p c.hostQ }
  else if c.progQ.any p then { c with progQ := eraseFirst p c.progQ }
  else { c with bgQ := eraseFirst p c.bgQ }

/-- What a packet is: opcode, ARG, address, and the bus cycles of its data, counted from its last cycle. -/
structure Packet where
  opcode : Nat
  arg : Nat
  tract : Nat
  parcel : Nat
  line : Nat
  data : List (Nat × Nat)
  deriving DecidableEq, Repr

def Packet.is (p : Packet) (d : Nat) (r : TrvReq) : Bool :=
  r.opcode == p.opcode && r.die == d && r.tract == p.tract && r.parcel == p.parcel && r.line == p.line

/-- Send a packet on one channel: its cycles are booked, it counts in SEQ, and the die, where the packet arrived whole, does
`act`; a die that discards it records CRC_ERR (R209). -/
def State.sendOn (s : State) (ch d : Nat) (p : Packet) (read accepted : Bool) (act : State → State) : State :=
  let now := s.ckNow
  let host := (s.channel ch).hostQ.any (p.is d)
  let s := s.onChannel ch fun c =>
    let c := if read then c.bookRead now d p.data else (c.book now d p.data).2
    (c.unqueue (p.is d)).onDie d fun x => { x with sent := (x.sent + 1) % 256 }
  let s := (s.emit (.packet ch p.opcode d (pktArg p.arg p.tract p.parcel p.line))).pmc 0x5001 ch 1 pmcNone
  let s := if host then s.pmc 0x5002 ch 1 pmcNone else s
  if accepted then act (s.onDie ch d fun x => { x with seq := (x.seq + 1) % 256 })
  else s.onChannel ch fun c =>
    { c.onDie d (·.pushDone { op := p.opcode, result := 3, plane := p.tract % 4, value := 0, tract := p.tract, parcel := p.parcel }) with
      rdyLow := true }

/-- Send a packet on every channel of its pair. -/
def State.send (s : State) (chs : List Nat) (d : Nat) (p : Packet) (read accepted : Bool) (act : Nat → State → State) : State :=
  chs.foldl (fun s ch => if s.canSend ch d then s.sendOn ch d p read accepted (act ch) else s) s

/-- A die that performs nothing records a result (R209, R211). -/
def State.refuse (s : State) (ch d : Nat) (p : Packet) (result : Nat) : State :=
  s.onChannel ch fun c =>
    { c.onDie d (·.pushDone { op := p.opcode, result := result, plane := p.tract % 4, value := 0, tract := p.tract, parcel := p.parcel }) with
      rdyLow := true }

/-- The channels a read goes to: both of a pair while RACE_EN is 1, else the one named (R225). -/
def State.readOn (s : State) (ch : Nat) : List Nat := if s.bit Reg.TRV_CTL 0 then s.lockstep ch else [ch]

/-- A read packet. -/
def State.readPkt (s : State) (ch d : Nat) (p : Packet) (accepted : Bool) : State :=
  s.send (s.readOn ch) d p true accepted fun ch s =>
    if (s.die ch d).readOk p.tract then
      let now := s.nowNs
      s.onDie ch d fun x => { x with answer := some (p.opcode, now) }
    else s.refuse ch d p 4

/-- READ_LINE (R206, R215): the line burst comes at tRL, with MARGIN at tRL + tMRG. -/
def execReadLine (ch : Fin 32) (die : Fin 4) (level : Fin 8) (margin : Bool) (tract : Fin 16384) (parcel : Fin 512)
    (line : Fin 64) (accepted : Bool) (s : State) : Res :=
  let m := if margin then 1 else 0
  .next (s.readPkt ch.val die.val
    { opcode := 1, arg := level.val + 8 * m, tract := tract.val, parcel := parcel.val, line := line.val,
      data := [(336 + 96 * m, 36)] } accepted)

/-- READ_PARCEL (R206, R215): 64 line bursts from tRP. -/
def execReadParcel (ch : Fin 32) (die : Fin 4) (level : Fin 8) (margin : Bool) (tract : Fin 16384) (parcel : Fin 512)
    (accepted : Bool) (s : State) : Res :=
  let m := if margin then 1 else 0
  .next (s.readPkt ch.val die.val
    { opcode := 2, arg := level.val + 8 * m, tract := tract.val, parcel := parcel.val, line := 0,
      data := [(432 + 96 * m, 2052)] } accepted)

/-- What a die counts at for its channel's medium level, 1/16 °C: a failed read at THM_MED_LIMIT + 12 °C (R456). -/
def Die.medTemp (x : Die) (limit : Nat) : Option Int := if x.tempBad then some ((limit + 12) * 16 : Nat) else x.temp

/-- The hottest die of a channel and its reading (R456). -/
def State.hotDie (s : State) (ch : Nat) : Option (Int × Nat) :=
  let limit := s.regField Reg.THM_MED_LIMIT 0 8
  let l := (List.range s.conf.diesPerCh).filterMap fun d =>
    if (s.die ch d).lost then none else ((s.die ch d).medTemp limit).map fun t => (t, d)
  match l with
  | [] => none
  | x :: rest => some (rest.foldl (fun a y => if a.1 < y.1 then y else a) x)

/-- The medium level of a reading: 0 below THM_MED_LIMIT, else k from THM_MED_LIMIT + 2 × (k − 1) °C (R456). -/
def medLevelOf (limit : Nat) (t : Int) : Nat := if t < (limit * 16 : Nat) then 0 else min 7 ((t - (limit * 16 : Nat)).toNat / 32 + 1)

/-- A channel's medium level (R456). -/
def State.mediumLevel (s : State) (ch : Nat) : Nat :=
  match s.hotDie ch with
  | some (t, _) => medLevelOf (s.regField Reg.THM_MED_LIMIT 0 8) t
  | none => 0

/-- n of R220 for a channel: the larger of the applied level and its medium level; none from Seal to Rest (R456, R457). -/
def State.pauseLevel (s : State) (ch : Nat) : Nat := if s.inFlush then 0 else max s.appliedNow (s.mediumLevel ch)

/-- The next program of a die may start: n × 1 µs after the last one's burst (R220). -/
def State.progSpaced (s : State) (ch d : Nat) : Bool :=
  match (s.die ch d).progEnd with
  | some t => decide (t + s.pauseLevel ch * 1000 ≤ s.nowNs)
  | none => true

/-- ns from now to the end of `ck` cycles. -/
def ckNs (ck : Nat) : Nat := (ck * 5 + 11) / 12

/-- A program packet: with its mask, one line of PROG_LINE. -/
def State.progPkt (s : State) (ch d : Nat) (p : Packet) (mask : Quad) (accepted : Bool) : State :=
  let chs := s.lockstep ch
  let place (c : Nat) : Nat := placeKey (c * 4 + d) p.tract p.parcel
  if !(chs.all fun c => s.progSpaced c d) then s
  else s.send chs d p false accepted fun ch s =>
    let old := mapGet (fun _ => 0) s.trv.programmed (place ch)
    let now := s.nowNs
    match (s.die ch d).progResult p.tract old mask with
    | 0 =>
      let stop := now + ckNs (12 + (p.data.map fun e => e.1 + e.2).foldl max 0)
      let s := s.onDie ch d fun x =>
        { x with planes := listSet x.planes (p.tract % 4) (some (.new p.opcode p.tract p.parcel now)), progEnd := some stop }
      (s.modTrv fun t => { t with programmed := mapSet (fun _ => 0) t.programmed (place ch) (old ||| mask) }).pmc 0x5003 ch 1 pmcNone
    | r => s.refuse ch d p r

/-- PROG_LINE (R211): one line burst at tCAD. -/
def execProgLine (ch : Fin 32) (die : Fin 4) (tract : Fin 16384) (parcel : Fin 512) (line : Fin 64) (accepted : Bool)
    (s : State) : Res :=
  .next (s.progPkt ch.val die.val
    { opcode := 4, arg := 0, tract := tract.val, parcel := parcel.val, line := line.val, data := [(2, 33)] }
    (oneBit line.val) accepted)

/-- The lines of a parcel burst are booked singly, so that a read can pass between them (R218). -/
def Channel.startBurst (c : Channel) (d start n : Nat) : Channel :=
  { c with burst := some (d, placeLines (c.taken start) start n) }

/-- PROG_PARCEL (R211): the 8-byte MASK at tCAD, then the masked lines in ascending order. -/
def execProgParcel (ch : Fin 32) (die : Fin 4) (tract : Fin 16384) (parcel : Fin 512) (mask : Quad) (accepted : Bool)
    (s : State) : Res :=
  let p : Packet := { opcode := 5, arg := 0, tract := tract.val, parcel := parcel.val, line := 0, data := [(2, 4)] }
  let sent := s.progPkt ch.val die.val p mask accepted
  .next ((s.lockstep ch.val).foldl (fun (t : State) c =>
    if (t.die c die.val).sent = (s.die c die.val).sent then t
    else
      let n := Quad.count mask
      let now := s.ckNow
      let t := t.onChannel c fun x => x.startBurst die.val (((x.booked.map fun e => e.1 + e.2).foldl max now)) n
      t.onDie c die.val fun x => { x with progEnd := x.progEnd.map fun e => e + ckNs (32 * n + 1) }) sent)

/-- RESET_TRACT (R216, R221): not in BRACED, nor once Seal has begun. -/
def execResetTract (ch : Fin 32) (die : Fin 4) (tract : Fin 16384) (accepted : Bool) (s : State) : Res :=
  if s.sys.state == .braced || s.inFlush then .next s
  else
    let p : Packet := { opcode := 8, arg := 0, tract := tract.val, parcel := 0, line := 0, data := [] }
    let d := die.val
    .next (s.send (s.lockstep ch.val) d p false accepted fun ch s =>
      if (s.die ch d).resetOk then
        let now := s.nowNs
        let s := s.onDie ch d fun x => { x with reset := some (.new 8 tract.val 0 now) }
        s.modTrv fun t => { t with programmed := t.programmed.filter fun e => e.1 / 512 != tractKey (ch * 4 + d) tract.val }
      else s.refuse ch d p 4)

/-- ARG of SUSPEND and RESUME. -/
def suspendArg (what : Option (Fin 4)) : Nat := match what with | none => 0 | some p => 1 + 2 * p.val

/-- SUSPEND (R217): asked of the die's reset or of a parcel program; it completes with OP 0x0A. -/
def execSuspend (ch : Fin 32) (die : Fin 4) (what : Option (Fin 4)) (accepted : Bool) (s : State) : Res :=
  let p : Packet := { opcode := 0xA, arg := suspendArg what, tract := 0, parcel := 0, line := 0, data := [] }
  let d := die.val
  .next (s.send (s.lockstep ch.val) d p false accepted fun ch s =>
    let s := (s.incReg Reg.TRV_SUSP_CNT).pmc 0x5004 ch 1 pmcNone
    if ((s.die ch d).named what).any fun o => !o.suspended then
      let now := s.nowNs
      s.onDie ch d (·.setNamed what fun o => { o with asked := some now })
    else s.refuse ch d p 4)

/-- RESUME (R217, R221): once no read for the die is queued; a reset not in BRACED nor in a flush. -/
def execResume (ch : Fin 32) (die : Fin 4) (what : Option (Fin 4)) (accepted : Bool) (s : State) : Res :=
  let p : Packet := { opcode := 0xB, arg := suspendArg what, tract := 0, parcel := 0, line := 0, data := [] }
  let d := die.val
  if (s.channel ch.val).hostQ.any (fun r => r.die == d) || s.inFlush || (what.isNone && s.sys.state == .braced) then .next s
  else .next (s.send (s.lockstep ch.val) d p false accepted fun ch s =>
    if ((s.die ch d).named what).any (·.suspended) then
      let now := s.nowNs
      s.onDie ch d (·.setNamed what fun o => { o with suspended := false, start := now })
    else s.refuse ch d p 4)

/-- SET_LEVEL (R210, R257): one threshold offset of a level set, in 5 mV steps. -/
def execSetLevel (ch : Fin 32) (die : Fin 4) (set : Fin 8) (threshold : Fin 3) (offset : BitVec 8) (accepted : Bool)
    (s : State) : Res :=
  let t := threshold.val
  let p : Packet := { opcode := 0x12, arg := set.val + 8 * (t + 1), tract := 0, parcel := 0, line := 0, data := [] }
  let d := die.val
  let s := if !s.canSend ch.val d then s else s.onChannel ch.val fun c => { c with intQ := eraseFirst (fun r =>
    r.opcode == 0x12 && r.die == d && r.tract == set.val * 8 + t + 1 && r.arg == offset.toNat) c.intQ }
  .next (s.send (s.lockstep ch.val) d { p with parcel := offset.toNat / 64, line := offset.toNat % 64 } false accepted fun ch s =>
    s.onDie ch d fun x => { x with levels := mapSet (fun _ => 0) x.levels (set.val * 3 + t) offset.toInt })

/-- GET_TEMP (R232): the temperature arrives with the completion. -/
def execGetTemp (ch : Fin 32) (die : Fin 4) (accepted : Bool) (s : State) : Res :=
  let p : Packet := { opcode := 0x14, arg := 0, tract := 0, parcel := 0, line := 0, data := [] }
  .next (s.send (s.lockstep ch.val) die.val p false accepted fun ch s =>
    let now := s.nowNs
    s.onDie ch die.val fun x => { x with answer := some (0x14, now) })

/-- Every die is out of reset: level sets and packet counts start at 0 (R210, R230). -/
def State.releaseMedium (s : State) : State :=
  if !s.trv.rstLow then s
  else (s.modDtm fun t => { t with pllT := true }).modTrv fun t =>
    { t with rstLow := false, training := true,
             channels := t.channels.map fun c =>
               { c with dies := c.dies.map fun d => { d with levels := [], seq := 0, sent := 0 } } }

/-- READ_ID (R230): the first step of training; the identity burst comes within 1 µs. -/
def execReadId (ch : Fin 32) (die : Fin 4) (s : State) : Res :=
  if !s.running || s.sys.poweredDown || (s.channel ch.val).mode == 2 || !(s.inState [.boot, .diag] || !s.trv.rstLow) then .next s
  else
    let s := s.releaseMedium
    let p : Packet := { opcode := 0x18, arg := 0, tract := 0, parcel := 0, line := 0, data := [(0, 2408)] }
    .next (s.sendOn ch.val die.val p false true fun s =>
      let now := s.nowNs
      s.onDie ch.val die.val fun x => { x with answer := some (0x18, now) })

/-! Completions (R212 to R214, R224, R227, R228). -/

/-- The timeout of a command, ns (Table TRV-7). -/
def cmdTimeout (opcode : Nat) : Nat :=
  match opcode with
  | 4 => 10000 | 5 => 20000 | 8 => 5000000 | 0xA => 5000 | 0x14 => 5000 | 0x10 => 1000 | 0x18 => 1000 | _ => 0

/-- ns a command has run against its timeout; none where it is not outstanding, or suspended (R227). -/
def Die.age (d : Die) (opcode plane now : Nat) : Option Nat :=
  let run (o : DieOp) : Option Nat := if o.suspended || o.opcode != opcode then none else some (o.elapsed + (now - o.start))
  match opcode with
  | 4 => (d.plane plane).bind run
  | 5 => (d.plane plane).bind run
  | 8 => d.reset.bind run
  | 0xA => ((d.reset.toList ++ d.planes.filterMap id).findSome? (·.asked)).map fun t => now - t
  | k => match d.answer with
    | some (o, t) => if o = k then some (now - t) else none
    | none => none

/-- The operation that completes leaves the die; a SUSPEND leaves its operation suspended. Its tract and parcel. -/
def Die.complete (d : Die) (opcode plane now : Nat) : Die × Nat × Nat :=
  let stop (o : DieOp) : DieOp := if o.asked.isSome then
      { o with suspended := true, asked := none, elapsed := o.elapsed + (now - o.start), suspends := min 255 (o.suspends + 1) } else o
  let at_ (o : Option DieOp) : Nat × Nat := (o.map fun x => (x.tract, x.parcel)).getD (0, 0)
  match opcode with
  | 4 => ({ d with planes := listSet d.planes plane none }, at_ (d.plane plane))
  | 5 => ({ d with planes := listSet d.planes plane none }, at_ (d.plane plane))
  | 8 => ({ d with reset := none }, at_ d.reset)
  | 0xA => ({ d with reset := d.reset.map stop, planes := d.planes.map (·.map stop) }, (0, 0))
  | _ => ({ d with answer := none }, (0, 0))

/-- A result the completing opcode can have (Table TRV-5). -/
def resultFor (opcode result : Nat) : Bool :=
  match opcode with
  | 4 => decide (result ≤ 1)
  | 5 => decide (result ≤ 1)
  | 8 => result == 0 || result == 2
  | 0xA => result == 0
  | 0x14 => result == 0
  | _ => false

/-- A completion came after its timeout: it counts, and the third within 1 s loses the die (R228). -/
def State.lateDone (s : State) (ch d : Nat) : State :=
  let now := s.nowNs
  let l := ((s.die ch d).late.filter fun t => decide (now ≤ t + 1000000000)) ++ [now]
  let s := (s.satField (Reg.TRVn_ERR_CNT ch) 8 8 1).onDie ch d fun x => { x with late := l, timedOut := none }
  if 3 ≤ l.length then s.dieLost ch d else s

/-- RDY_N_ASSERT (R214): an operation of a die ends and its completion waits. In its expiry cycle it is a near miss
(R199). -/
def execRdyNAssert (ch : Fin 32) (die : Fin 4) (op : Fin 32) (result : Fin 8) (plane : Fin 4) (value : BitVec 16)
    (atNs : Nat) (s : State) : Res :=
  let s := s.clockTo atNs
  let now := s.nowNs
  let x := s.die ch.val die.val
  match x.age op.val plane.val now with
  | none => .next s
  | some age =>
    if !s.running || s.trv.rstLow || x.lost || !resultFor op.val result.val then .next s
    else
      let (y, tract, parcel) := x.complete op.val plane.val now
      let v := if op.val = 4 || op.val = 5 || op.val = 0x14 then value.toNat else 0
      let s := s.onChannel ch.val fun c =>
        { c.onDie die.val fun _ => y.pushDone
            { op := op.val, result := result.val, plane := plane.val, value := v, tract := tract, parcel := parcel } with rdyLow := true }
      let s := if age = cmdTimeout op.val then (s.incReg Reg.TRV_TMO_NEAR).nearMiss 1 else s
      .next (if x.timedOut.any fun t => t.1 == op.val then s.lateDone ch.val die.val else s)

/-- The effect of a collected completion (R212, R213, R229, R232, R262). -/
def State.collected (s : State) (ch d : Nat) (c : Completion) (burstOk : Bool) : State :=
  let prog := c.op == 4 || c.op == 5
  let s := if c.op == 0x14 && c.result != 0 then s.onDie ch d fun x => { x with tempBad := true } else s
  let again : TrvReq := { cls := .internal, opcode := c.op, die := d, tract := c.tract, parcel := c.parcel, line := 0, arg := 0 }
  match c.result with
  | 0 =>
    if prog && !burstOk then (s.burstError ch).resend ch d again fun s => s.progFailed ch d c.tract c.parcel
    else
      let s := s.onDie ch d fun x => { x with resends := 0 }
      if c.op = 0x14 then s.onDie ch d fun x => { x with temp := some (BitVec.ofNat 16 c.value).toInt, tempBad := false } else s
  | 1 => s.progFailed ch d c.tract c.parcel
  | 2 => (s.flag Reg.TRV_ERR_STAT Reg.TRV_ERR_EN 6 false).retireTract (tractKey (s.logicalDie ch d) c.tract)
  | 3 =>
    let s := (s.pktError ch).onDie ch d fun x => { x with sent := x.seq }
    s.resend ch d again fun s => if prog then s.progFailed ch d c.tract c.parcel else s
  | _ => if prog then s.progFailed ch d c.tract c.parcel else s

/-- READ_STATUS (R214): the oldest completion is collected and retired; RDY_N stays low while others remain. `burstOk`: the
CRC the die returned equals the one sent. -/
def execReadStatus (ch : Fin 32) (die : Fin 4) (burstOk : Bool) (s : State) : Res :=
  if !s.canSend ch.val die.val then .next s
  else
    let p : Packet := { opcode := 0x10, arg := 0, tract := 0, parcel := 0, line := 0, data := [(4, 8)] }
    let s := s.sendOn ch.val die.val p false true id
    match (s.die ch.val die.val).completions with
    | [] => .next s
    | c :: rest =>
      let s := s.onChannel ch.val fun x =>
        let x := x.onDie die.val fun y => { y with completions := rest }
        { x with rdyLow := x.dies.any fun y => !y.completions.isEmpty }
      .next ((s.collect ch.val).collected ch.val die.val c burstOk)

/-- TRV_CMD_TIMEOUT (R227, R228): status reads begin. -/
def execTrvCmdTimeout (ch : Fin 32) (die : Fin 4) (op : Fin 32) (plane : Fin 4) (atNs : Nat) (s : State) : Res :=
  let s := s.clockTo atNs
  let x := s.die ch.val die.val
  match x.age op.val plane.val s.nowNs with
  | none => .next s
  | some age =>
    if !s.running || s.trv.rstLow || x.lost || x.timedOut.isSome || age < cmdTimeout op.val then .next s
    else
      let s := s.flag Reg.TRV_ERR_STAT Reg.TRV_ERR_EN 2 false
      let s := s.onDie ch.val die.val fun y => { y with timedOut := some (op.val, 1), tempBad := y.tempBad || op.val == 0x14 }
      .next (s.emit (.packet ch.val 0x10 die.val 0))

/-- STATUS_RETRY (R228): a status read after a timeout. A valid one finds the operation ended, or still running, which loses
the die; the third without a valid status loses it too. -/
def execStatusRetry (ch : Fin 32) (die : Fin 4) (valid stillRunning : Bool) (atNs : Nat) (s : State) : Res :=
  let s := s.clockTo atNs
  match (s.die ch.val die.val).timedOut with
  | none => .next s
  | some (op, n) =>
    if !s.running || n = 0 then .next s
    else if valid then
      if stillRunning then .next (s.dieLost ch.val die.val)
      else
        let spent := op == 1 || op == 2 || op == 0x10 || op == 0x18
        .next (s.onDie ch.val die.val fun y =>
          { y with timedOut := if spent then none else some (op, 0), answer := if spent then none else y.answer })
    else if 3 ≤ n then .next (s.dieLost ch.val die.val)
    else
      let s := s.onDie ch.val die.val fun y => { y with timedOut := some (op, n + 1) }
      .next (s.emit (.packet ch.val 0x10 die.val 0))

/-! Training and retraining (R229 to R233). -/

/-- TRV_RETRAIN_DONE (R229): `ok` or the second failure in a row, which loses the channel. -/
def execTrvRetrainDone (ch : Fin 32) (ok : Bool) (atNs : Nat) (s : State) : Res :=
  let s := s.clockTo atNs
  if !s.running || !(s.channel ch.val).retraining then .next s
  else
    let now := s.nowNs
    let s := s.clearBits (Reg.TRVn_CTL ch.val) 1
    if ok then
      let s := s.onChannel ch.val fun c => { c with retraining := false, retrainFails := 0, retrainedAt := some now }
      let s := (s.satField (Reg.TRVn_ERR_CNT ch.val) 0 8 1).setBits Reg.TRV_INT_STAT 4
      .next (s.raise 0x5201 ch.val 0)
    else
      let s := s.onChannel ch.val fun c => { c with retrainFails := c.retrainFails + 1 }
      .next (if 2 ≤ (s.channel ch.val).retrainFails then s.channelLost ch.val else s)

/-- TRV_RETRAIN_WRITE (R229): the bit clears when the retrain is done. -/
def execTrvRetrainWrite (via : Via) (ch : Fin 32) (s : State) : Res :=
  if !s.reaches via then .next s else
  let off := Reg.TRVn_CTL ch.val
  let s := s.emit (.regWriteDone via off)
  let c := s.channel ch.val
  if c.mode == 2 || c.lost || !c.trained || s.trv.rstLow then .next s
  else .next ((s.setBits off 1).onChannel ch.val fun c => { c with retraining := true, errs := [] })

/-- TRAINING_DONE (R230): the channels that passed, in ascending order of bits, and their PHY codes. A channel that fails is
lost where the medium is laid out. -/
def execTrainingDone (passed : BitVec 32) (dies : List (BitVec 4)) (phy : List Word) (atNs : Nat) (s : State) : Res :=
  let s := s.clockTo atNs
  if !s.running || !s.inState [.boot, .diag] || !(s.trv.rstLow || s.trv.training) then .next s
  else
    let s := s.releaseMedium.modTrv fun t => { t with training := false }
    .next ((List.range 32).foldl (fun s ch =>
      if (s.channel ch).mode = 2 || (s.channel ch).lost then s
      else if passed.toNat.testBit ch then
        (s.setReg (Reg.TRVn_PHY ch) (phy.getD ch 0x8800)).onChannel ch fun c =>
          { c with trained := true, dieMask := (dies.getD ch 0).toNat }
      else
        let s := (s.flag Reg.TRV_ERR_STAT Reg.TRV_ERR_EN 7 true).raise 0x5202 ch 0
        if s.laidOut then s.channelLost ch else s) s)

/-- RETUNE (R231, R238): takes 72 free cycles of the bus; waiting PHY codes take effect. -/
def execRetune (ch : Fin 32) (s : State) : Res :=
  let c := s.channel ch.val
  if !s.running || s.trv.rstLow || !c.trained || c.lost || c.mode == 2 || !s.bit Reg.TRV_CTL 3 then .next s
  else
    let now := s.ckNow
    let t := firstFit (c.taken now) [(0, 72)] now
    let s := s.onChannel ch.val fun c =>
      { c with phyNext := none, booked := (c.booked.filter fun e => decide (now < e.1 + e.2)) ++ [(t, 72)] }
    .next (match c.phyNext with
      | some w => s.setReg (Reg.TRVn_PHY ch.val) w
      | none => s)

/-- TEMP_POLL (R232, R456): each die's temperature is asked for; a move of 5 °C of the package or of the hotter PHY sensor
gives new drive and termination codes for the next retune. -/
def execTempPoll (ch : Fin 32) (s : State) : Res :=
  let c := s.channel ch.val
  if !s.running || s.trv.rstLow || !c.trained || c.lost || c.mode == 2 then .next s
  else
    let ask := ((List.range s.conf.diesPerCh).filter fun d => !(c.die d).lost).map fun d =>
      ({ cls := .internal, opcode := 0x14, die := d, tract := 0, parcel := 0, line := 0, arg := 0 } : TrvReq)
    let phy := wholeC ((s.thm.sensor (if ch.val < 16 then 10 else 11)).reading s.conf.crit)
    let pkg := (c.dies.filterMap (·.temp)).map wholeC
    let hot := pkg.foldl max phy
    let s := s.onChannel ch.val fun c => { c with intQ := c.intQ ++ ask.filter (fun r => !c.intQ.contains r) }
    if 5 ≤ (hot - c.compAt).natAbs then
      let old := (c.phyNext.getD (s.getReg (Reg.TRVn_PHY ch.val))).toNat
      let drive := (Config.trimCode 2 (hot + 128).toNat).toNat % 16
      let odt := (Config.trimCode 3 (hot + 128).toNat).toNat % 16
      let w := old / 65536 * 65536 + drive * 4096 + odt * 256 + old % 256
      .next (s.onChannel ch.val fun c => { c with compAt := hot, phyNext := some (BitVec.ofNat 32 w) })
    else .next s

/-- TRV_PHY_WRITE (R238): in DIAG only, at the next retune. -/
def execTrvPhyWrite (via : Via) (ch : Fin 32) (v : Word) (s : State) : Res :=
  if !s.reaches via then .next s else
  let s := s.emit (.regWriteDone via (Reg.TRVn_PHY ch.val))
  .next (if s.sys.state == .diag then s.onChannel ch.val fun c => { c with phyNext := some v } else s)

/-- TRV_PARAM_WRITE (R237): TRV_WAIT_LIMIT 200 to 2,000, TRV_RETUNE_CFG.PERIOD 600 to 9,600; another value is ignored. -/
def execTrvParamWrite (via : Via) (retune : Bool) (v : Word) (s : State) : Res :=
  if !s.reaches via then .next s else
  if retune then
    let s := s.emit (.regWriteDone via Reg.TRV_RETUNE_CFG)
    let p := v.toNat / 65536
    .next (if within p 600 9600 then s.setField Reg.TRV_RETUNE_CFG 16 16 p else s)
  else
    let s := s.emit (.regWriteDone via Reg.TRV_WAIT_LIMIT)
    .next (if within v.toNat 200 2000 then s.setReg Reg.TRV_WAIT_LIMIT v else s)

end Sys2Proof.Machine
end

