-- ==== Sys2Proof/Machine/Cadastre.lean ====
section
/-! DEFINITION. The cadastre's commits and tuning: merges and stream switches (R169 to R171), closing of bands and slots (R164,
R167), checkpoints (R166), tract resets and the dump reservation (R172, R177, R178, R184), wear (R175, R176), releases'
completion (R182), and its registers (R188). -/

namespace Sys2Proof.Machine

/-! Work that waited. -/

/-- The level of dirty metadata parcels above which they are written back (R342). -/
def State.metaHigh (s : State) : Nat := min (s.regNat Reg.IME_META_HIGH) (s.stg.budget / 2)

/-- Dirty metadata parcels are written back at the rank of forced write-back: each takes a slot of its metadata plot (R342). -/
def State.forceMeta : Nat → State → State
  | 0, s => s
  | fuel + 1, s =>
    if s.ime.metaDirty.length ≤ s.metaHigh then s
    else match s.ime.metaDirty with
      | [] => s
      | parcel :: rest =>
        match s.takeSlot parcel false with
        | none => s
        | some (_, slot, t) =>
          let p := t.conf
          let t := t.mapCommit (t.cds.recordPages p slot parcel) fun c => c.commitRecord p slot parcel allLines false
          State.forceMeta fuel (t.modIme fun m => { m with metaDirty := rest })

/-- Write-backs that are owed start: forced ones first (R137), with those of the metadata (R342), then those of a disable drain
(R145) and of a clean-all. -/
def State.pushWb (s : State) : State :=
  if s.inFlush then s
  else
    let s := s.forceWb
    let s := s.forceMeta s.ime.metaDirty.length
    let l := if s.stg.draining then (s.stg.frames.filter fun e => e.2.isDirty).map (·.1) else s.stg.cleaning
    l.foldl (fun s i => s.tryWb i false) s

/-- Log bands are free again: write-backs no longer wait at the floor (Table CDS-4). -/
def State.leaveFloor (s : State) : State :=
  (if s.cds.floorWait && !s.logFloorNow then s.modCds fun c => { c with floorWait := false } else s).pushWb

/-! The dump reservation and the merge reserve (R178, R184). -/

/-- FREE tracts refill the merge reserve to 34. -/
def State.refill (s : State) : State :=
  if s.cds.mergeReserve < 34 then
    let n := s.cds.freeTracts s.conf
    s.modCds fun c => { c with mergeReserve := min 34 n }
  else s

/-- Form the next band of the dump reservation under a spare ordinal; the cap on the budget follows (R184, R285). -/
def State.reserveDump (s : State) : State :=
  match s.cds.ordinalsSpare with
  | [] => s
  | o :: _ =>
    if s.conf.dumpBands ≤ s.cds.dumpBands.length then s
    else match s.cds.formBand s.allocEnv s.mdc.clocks .dump (some o) 0 true false false s.nowNs with
      | none => s
      | some (id, b) => s.mapCommit (s.conf.pagesOfBand id b) fun c =>
          { c.addBand id b with ordinalsSpare := c.ordinalsSpare.filter (· != o), dumpBands := c.dumpBands ++ [id] }

/-- An ordinal goes to the spares until DUMP_BANDS are there or reserved, else to the free log bands (R184). -/
def Cds.freeOrdinal (c : Cds) (p : Plat) (o : Nat) : Cds :=
  if c.ordinalsSpare.length < p.dumpBands then { c with ordinalsSpare := c.ordinalsSpare ++ [o] }
  else { c with ordinalsFree := c.ordinalsFree ++ [o] }

/-! Wear (R175, R176). -/

/-- Plots whose base band has a member in bin 0, with their HEAT, no merge open. -/
def State.youngPlots (s : State) : List (Nat × Nat) :=
  let v := s.allocEnv
  s.cds.plots.filterMap fun e =>
    if e.2.valid && !e.2.merging && ((s.cds.band e.2.band).any fun b => b.tracts.any fun k =>
        wearBin v.wmin v.width (s.cds.tract k).resets == 0) then some (e.1, e.2.heat) else none

/-- The spread schedules a wear move of the coldest plot on the youngest tracts, until it has fallen by CDS_WEAR_HYST. -/
def State.wearCheck (s : State) : State :=
  let spread := s.cds.wearMax - s.cds.wearMin s.conf
  let limit := s.regNat Reg.CDS_WEAR_SPREAD
  let above := decide (limit < spread)
  let s := if above && !s.cds.wearActive then
      (s.modCds fun c => { c with wearActive := true }).setBits Reg.CDS_INT_STAT 128
    else if s.cds.wearActive && decide (spread ≤ limit - s.regNat Reg.CDS_WEAR_HYST) then
      s.modCds fun c => { c with wearActive := false, work := c.work.filter fun w => match w.kind with | .wearMove _ => false | _ => true }
    else s
  if s.cds.wearActive && s.bit Reg.CDS_CTL 1 then
    match s.youngPlots with
    | [] => s
    | x :: rest => s.modCds (·.addWork (.wearMove (rest.foldl (fun (a : Nat × Nat) b => if b.2 < a.2 then b else a) x).1) 7 none)
  else s

/-- HEAT_HALVING (R175): every HEAT value halves each 10 minutes. -/
def execHeatHalving (atNs : Nat) (s : State) : Res :=
  let s := s.clockTo atNs
  let now := s.nowNs
  if s.running && decide (s.cds.heatAt + 600000000000 ≤ now) then
    .next (s.modCds fun c => { c with heatAt := now, plots := c.plots.map fun e => (e.1, { e.2 with heat := e.2.heat / 2 }) })
  else .next s

/-! Bands and slots that close by time (R164, R167). -/

/-- STREAM_BAND_IDLE (R164): 1 s without a write-back closes a stream band. -/
def execStreamBandIdle (band : Nat) (atNs : Nat) (s : State) : Res :=
  let s := s.clockTo atNs
  match s.cds.band band with
  | some b =>
    if s.running && b.role == .stream && decide (b.lastAt + 1000000000 ≤ s.nowNs) then .next (s.closeLog band) else .next s
  | none => .next s

/-- WT_SLOT_IDLE (R167): 1 s without a write closes a write-through slot. -/
def execWtSlotIdle (parcel : Nat) (atNs : Nat) (s : State) : Res :=
  let s := s.clockTo atNs
  let now := s.nowNs
  let idle (w : WtSlot) : Bool := w.parcel == parcel && decide (w.lastAt + 1000000000 ≤ now)
  if s.running && s.cds.wtSlots.any idle then
    .next (s.modCds fun c => { c with wtSlots := c.wtSlots.filter fun w => !idle w }).closeStripes
  else .next s

/-! Merges (R169 to R171). -/

/-- Open a plot's cut and form its target band; none while 4 merges run, the cut is open (R171) or no band can be formed. -/
def State.startMerge (s : State) (plot why : Nat) : Option State :=
  let e := s.cds.plot plot
  if e.merging || decide (4 ≤ s.cds.merges.length) then none
  else
    let young := why != 1 && decide (s.regNat Reg.CDS_HEAT_HOT % 16 ≤ e.heat)
    let mirror := ((holdingOfParcel s.conf (plot * 8192)).map fun x => x.1.mirror).getD false
    (s.cds.formBand s.allocEnv s.mdc.clocks .mergeTarget none plot young mirror true s.nowNs).map fun (id, b) =>
      s.mapCommit (s.conf.pageOfPlot plot :: s.conf.pagesOfBand id b) fun c =>
        { (c.addBand id b).onPlot plot fun e => { e with merging := true } with merges := c.merges ++ [(plot, id, why)] }

/-- The device line of a place of a plot band: member, offset, line (R161). -/
def Band.lineAt (b : Band) (plot key : Nat) : Option Nat :=
  ((b.tracts.zipIdx).find? fun e => e.1 == keyTract key && decide (e.2 < 16)).map fun e =>
    (plot * 8192 + key % 32768 / 64 * 16 + e.2) * 64 + key % 64

/-- The lines of a plot that have a medium copy, by their records and their base band. -/
def State.plotLines (s : State) (plot : Nat) : List Nat :=
  let logged := (s.cds.plotRecords plot).flatMap fun e => (Quad.bits e.2.mask).map fun n => e.2.parcel * 64 + n
  let base := match s.cds.band (s.cds.plot plot).band with
    | some b => s.med.filterMap fun e => b.lineAt plot e.1
    | none => []
  (logged ++ base).eraseDups

/-- Copy the newest copy of each line of a plot into a band as it stands: counters and tags belong to the address
(Table CDS-4's merge). Lines of `lost` are written with their poison mark. -/
def State.copyPlot (s : State) (plot : Nat) (nb : Band) (lost : List Nat) : State :=
  (s.plotLines plot).foldl (fun s line =>
    match (s.cds.lookup s.conf line).1 with
    | .place k _ =>
      match mapFind s.med k, nb.place (line / 64 % 8192) (line % 64) with
      | some m, some key => s.programLine key { m with poison := m.poison || lost.contains line }
      | _, _ => s
    | _ => s) s

/-- After the commit: the plot points at its new base band, records from before the cut are unlinked, survivors lose
POST_CUT, the old band is OBSOLETE (R170). -/
def Cds.mergeMap (c : Cds) (p : Plat) (gone : List Nat) (plot nb : Nat) : Cds :=
  let old := (c.plot plot).band
  let tracts := ((c.band old).map Band.tracts).getD []
  let dead := (c.plotRecords plot).filter fun e => !e.2.postCut
  let c := dead.foldl (fun (c : Cds) e =>
    ({ c with records := mapInsert c.records e.1 { e.2 with live := false, mask := 0 } } : Cds).unlink p e.1 e.2.parcel) c
  let c := { c with records := c.records.map fun (e : Nat × LogRec) => if parcelPlot e.2.parcel = plot then (e.1, { e.2 with postCut := false }) else e }
  let c := c.onBand nb fun b => { b with role := .plot, plot := plot }
  let c := c.onPlot plot fun e => { e with valid := true, band := nb, merging := false }
  let c := ((c.dropBand gone old).resetWork tracts).recount plot
  { c with merges := c.merges.filter fun m => m.1 != plot }

/-- The plot no longer belongs to a MERGE_ALL; the last one ends it. -/
def State.endMergeAll (s : State) (plot : Nat) : State :=
  if s.cds.mergeAll.contains plot then
    let s := s.modCds fun c => { c with mergeAll := c.mergeAll.filter (· != plot) }
    if s.cds.mergeAll.isEmpty then (s.clearBits Reg.CDS_CTL 8).setBits Reg.CDS_INT_STAT 64 else s
  else s

/-- Bands with a planned anneal that have left the table count as annealed; rebuilds of bands that are gone stop (R260,
R265). -/
def State.settleBands (s : State) (before : SMap Band) : State :=
  let here (id : Nat) : Bool := (s.cds.band id).isSome
  let done := (before.filter fun e => e.2.annealPlanned && !here e.1).length
  let s := if done = 0 then s else s.addReg Reg.MDC_ANNEAL_CNT done
  let s := s.modCds fun c => { c with work := c.work.filter fun w => match w.kind with
    | .rebuild id => here id
    | .anneal id => here id
    | _ => true }
  s.modMdc fun m => { m with rebuild := m.rebuild.filter fun r => here r.1 }

/-- Counters of a committed merge, switch or wear move (`parcels` written). -/
def State.countMerge (s : State) (parcels : Nat) : State :=
  ((s.addPair Reg.CDS_MERGE_CNT_LO 1).addPair Reg.CDS_MERGE_PARCELS_LO parcels).modCds fun c => c.waCount (s.nowNs / 1000000000) 0 parcels

/-- What follows a commit that retires records: reclaimed log bands, the dump reservation, waiting write-backs, READONLY. -/
def State.afterRetire (s : State) (before : SMap Band) (plot : Nat) : State :=
  let p := s.conf
  let gone := s.mdc.retired
  let s := ((s.modMap (·.reclaim p gone)).settleBands before).endMergeAll plot
  (s.reserveDump.logTriggers.ckptTrigger false).leaveFloor.checkReadonly

/-! Releases (R181, R182). -/

/-- The holdings under crypto-erase that are still so after a release has ended. -/
def State.stillErasing (s : State) : List Nat :=
  match s.cds.release with
  | some r =>
    if r.opcode = 0xC020 then
      s.svc.erasingHoldings.filter fun h => !((holdingBases 0 s.conf.holdings).any fun e => e.1.id == h && e.2.1 == r.first)
    else s.svc.erasingHoldings
  | none => s.svc.erasingHoldings

/-- A release ends (R181, R182); the next one follows. The command has ended when none is left and every key of its holdings is
erased. -/
def State.finishRelease (s : State) : State :=
  let left := s.stillErasing
  let s := s.modSvc fun v => { v with erasingHoldings := left }
  match s.cds.releases with
  | r :: rest => s.modMap fun c => { c with release := some r, releases := rest }
  | [] =>
    let s := s.modMap fun c => { c with release := none, marked := [] }
    if left.isEmpty then (s.setBits Reg.CDS_INT_STAT 16).endBackground 0 else s

/-- Frames, fills and poison of released parcels (R181 step 2): a frame with a data error is retired (R144). -/
def State.clearFrames (s : State) (lo n : Nat) : State :=
  let hit (q : Nat) : Bool := decide (lo ≤ q) && decide (q < lo + n)
  let mine := s.stg.frames.filter fun e => e.2.st == .inUse && hit e.2.parcel
  let s := mine.foldl (fun (s : State) e => s.modStg fun g =>
    if e.2.ue then g.onFrame e.1 fun _ => { frameInit with st := .retired, ue := true } else g.freeFrame e.1) s
  let s := s.modStg fun g => { g with fills := g.fills.map fun f => if hit (f.line / 64) then { f with install := false } else f }
  s.modSvc fun v => { v with poison := v.poison.filter fun l => !hit (l / 64), injected := v.injected.filter fun l => !hit (l / 64) }

/-- The commit that releases a whole plot (R181 step 3). -/
def Cds.dropPlot (c : Cds) (p : Plat) (gone : List Nat) (plot : Nat) : Cds :=
  let old := (c.plot plot).band
  let tracts := ((c.band old).map Band.tracts).getD []
  let dead := (c.plotRecords plot).filter fun e => !e.2.postCut
  let c := dead.foldl (fun (c : Cds) e =>
    ({ c with records := mapInsert c.records e.1 { e.2 with live := false, mask := 0 } } : Cds).unlink p e.1 e.2.parcel) c
  let c := c.onPlot plot fun e => { e with valid := false, band := 0x1FFFF }
  ((c.dropBand gone old).resetWork tracts).recount plot

/-- Tombstones for parcels, in order, while log slots can be had (R181 step 3); the parcels released. -/
def State.tombstones : List Nat → State → Nat × State
  | [], s => (0, s)
  | q :: rest, s =>
    match s.takeSlot q false with
    | none => (0, s)
    | some (_, slot, t) =>
      let p := t.conf
      let t := (t.clearFrames q 1).mapCommit (t.cds.recordPages p slot q) fun c => c.commitRecord p slot q allLines true
      let (n, t) := State.tombstones rest t
      (n + 1, t)

/-- The parcels of a release that lie in its next plot: first parcel and number. -/
def Release.next (r : Release) : Nat × Nat :=
  let q := r.first + (r.count - r.left)
  (q, min r.left (8192 - q % 8192))

/-- A release has released `k` more parcels. -/
def State.countRelease (s : State) (k : Nat) : State :=
  s.modMap fun c => { c with release := c.release.map fun r => { r with left := r.left - k } }

/-- A release goes on with its next plot (R181): none while a write-back of its part of the plot is in flight, a merge of the plot
is open, or no log slot can be had. -/
def State.releasePlot (s : State) (r : Release) : Option State :=
  let (q, n) := r.next
  let plot := parcelPlot q
  let waits := s.stg.wbt.any (fun w => decide (q ≤ w.parcel) && decide (w.parcel < q + n)) || (s.cds.plot plot).merging
  if waits then none
  else if n = 8192 then
    let p := s.conf
    let gone := s.mdc.retired
    let s := s.clearFrames q n
    if !(s.cds.plot plot).valid && (s.cds.plotRecords plot).isEmpty then some (s.countRelease n)
    else
      let before := s.cds.bands
      let pages := p.pageOfPlot plot :: s.cds.bandPages p (s.cds.plot plot).band
      some (((s.mapCommit pages fun c => c.dropPlot p gone plot).afterRetire before plot).countRelease n)
  else
    match s.tombstones ((List.range n).map (q + ·)) with
    | (0, _) => none
    | (k, s) => some (s.countRelease k)

/-- Every place that holds a copy of the range now is marked for reset (R182): base bands, bands of the log with a record, live or
dead, of the range, OBSOLETE and RESETTING tracts. The twin of a mirror-locked member is reset with it. -/
def State.markSecure (s : State) (first count : Nat) : State :=
  let hit (q : Nat) : Bool := decide (first ≤ q) && decide (q < first + count)
  let base := s.cds.bands.filter fun e => e.2.role == .plot && decide (first < (e.2.plot + 1) * 8192) && decide (e.2.plot * 8192 < first + count)
  let logs := s.cds.bands.filter fun e => match e.2.ordinal with
    | some o => s.cds.records.any fun x => x.1 / 8192 == o && hit x.2.parcel
    | none => false
  let dead := (s.cds.tracts.filter fun e => e.2.st == .obsolete || e.2.st == .resetting).map fun e => (e.1 / 16384 / 4, e.1 / 16384 % 4, e.1 % 16384)
  s.modMap fun c => { c with marked := c.marked ++ (base ++ logs).flatMap (fun e => e.2.members) ++ dead }

/-- Once a secure release has unmapped its range, the marked bands that are still mapped are reclaimed by merges (R182). -/
def State.mergeMarked (s : State) : State :=
  let held := s.cds.bands.filter fun e => e.2.members.any fun m => s.cds.marked.contains m
  held.foldl (fun (s : State) e =>
    if e.2.role == .plot then s.modCds (·.addWork (.mergePlot e.2.plot false) 6 none)
    else
      let s := if e.2.role == .logOpen || e.2.role == .stream then s.closeLog e.1 else s
      (s.cds.plotsIn e.1).foldl (fun (s : State) q => s.modCds (·.addWork (.mergePlot q false) 6 none)) s) s

/-- A release goes on as far as it can; `fuel` bounds its plots (R181, R182). -/
def State.pushRelease : Nat → State → State
  | 0, s => s
  | fuel + 1, s =>
    match s.cds.release with
    | none => s
    | some r =>
      if r.left = 0 || s.inState [.flush, .safe, .quench] then s
      else match s.releasePlot r with
        | none => s
        | some s =>
          match s.cds.release with
          | some r =>
            if r.left ≠ 0 then State.pushRelease fuel s
            else
              let s := s.endDrains.closeMark
              if !r.secure || !s.cds.releases.isEmpty then State.pushRelease fuel s.finishRelease
              else
                let s := s.mergeMarked
                if s.cds.marked.isEmpty then s.finishRelease else s
          | none => s

/-- A waiting release is tried again. -/
def State.retryRelease (s : State) : State :=
  match s.cds.release with
  | some r => s.pushRelease (r.left / 8192 + 2)
  | none => s

/-- The releases of a command begin (R181, R182): one for each range of parcels. -/
def State.startRelease (s : State) (opcode : Nat) (ranges : List (Nat × Nat)) (secure : Bool) : State :=
  let s := if secure then ranges.foldl (fun s e => s.markSecure e.1 e.2) s else s
  match ranges.map fun e => ({ opcode := opcode, first := e.1, count := e.2, secure := secure, left := e.2 } : Release) with
  | [] => s
  | r :: rest => (s.modMap fun c => ({ c with release := some r, releases := rest } : Cds)).retryRelease

/-- MERGE_COMMIT (R169, R170): every program of the target has verified. `lost`: lines that not even band parity
recovered. -/
def execMergeCommit (plot : Nat) (lost : List Nat) (s : State) : Res :=
  match s.cds.merges.find? (fun m => m.1 == plot) with
  | none => .next s
  | some (_, id, why) =>
    match s.cds.band id with
    | none => .next s
    | some nb =>
      if !s.running then .next s
      else
        let lost := lost.filter fun l => parcelPlot (l / 64) == plot
        let before := s.cds.bands
        let p := s.conf
        let gone := s.mdc.retired
        let s := lost.foldl (fun s l => s.unrecoverable l) (s.copyPlot plot nb lost)
        let pages := p.pageOfPlot plot :: s.cds.bandPages p (s.cds.plot plot).band ++ s.cds.bandPages p id ++
          (s.cds.plotRecords plot).map fun e => pageOfRecord e.1
        let s := s.mapCommit pages fun c => c.mergeMap p gone plot id
        let s := if why = 1 then s.incReg Reg.CDS_WEAR_MOVES else s
        .next ((s.countMerge 8192).afterRetire before plot).retryRelease

/-- A closed stream band may be switched in: its 8,192 slots hold live full-mask records of its plot, none a tombstone
(R170). -/
def Cds.switchable (c : Cds) (plot id : Nat) : Bool :=
  match (c.band id).bind (·.ordinal) with
  | some o =>
    let l := c.records.filter fun e => e.1 / 8192 == o
    decide (l.length = 8192) && l.all fun e => e.2.live && !e.2.zero && e.2.mask == allLines && parcelPlot e.2.parcel == plot
  | none => false

/-- The switch: one map commit, no data copied (R170). -/
def Cds.switchMap (c : Cds) (p : Plat) (gone : List Nat) (plot id : Nat) : Cds :=
  let o := ((c.band id).bind (·.ordinal)).getD 0
  let old := (c.plot plot).band
  let tracts := ((c.band old).map Band.tracts).getD []
  let mine := c.records.filter fun e => e.1 / 8192 == o
  let c := mine.foldl (fun (c : Cds) (e : Nat × LogRec) => c.unlink p e.1 e.2.parcel) c
  let c := { c with records := c.records.filter fun e => e.1 / 8192 != o }
  let c := c.onBand id fun b => { b with role := .plot, ordinal := none, plot := plot }
  let c := { c with fullLogs := c.fullLogs.filter (· != id) }
  let c := c.onPlot plot fun e => { e with valid := true, band := id }
  (((c.dropBand gone old).resetWork tracts).recount plot).freeOrdinal p o

/-- A stream switch in one commit (R170). -/
def State.streamSwitch (s : State) (plot id : Nat) : State :=
  let before := s.cds.bands
  let p := s.conf
  let gone := s.mdc.retired
  let pages := p.pageOfPlot plot :: s.cds.bandPages p id ++ s.cds.bandPages p (s.cds.plot plot).band
  let s := s.mapCommit pages fun c => c.switchMap p gone plot id
  (s.countMerge 0).afterRetire before plot

/-! Checkpoints (R166). -/

/-- CKPT_NOW: a checkpoint of every dirty page is asked for. -/
def execCkptNow (via : Via) (s : State) : Res :=
  if !s.reaches via then .next s else
  let s := s.emit (.regWriteDone via Reg.CDS_CTL)
  .next ((s.setBits Reg.CDS_CTL 16).modCds fun c => { (c.addWork (.checkpoint true) 5 none) with ckptAll := true })

/-- CHECKPOINT_SEAL (R166): the directory is sealed; all pages but the CDS_CKPT_LOW newest are clean, every page where
CKPT_NOW asked; the journal starts afresh (log entry 18). -/
def execCheckpointSeal (s : State) : Res :=
  if !s.cds.ckptBusy || !s.running then .next s
  else
    let low := if s.cds.ckptAll then 0 else s.regNat Reg.CDS_CKPT_LOW
    let s := s.gateFree Config.sealEnergy
    let s := s.modCds fun c =>
      { c with dirtyPages := c.dirtyPages.drop (c.dirtyPages.length - low), journal := 0, ckptBusy := false, ckptAll := false }
    let s := s.saveMap
    let gen := s.pfl.newest
    let s := s.modPfl fun p => { p with ckptGen := gen }
    .next (((s.setBits Reg.CDS_INT_STAT 32).clearBits Reg.CDS_CTL 16).closeMark.collect 34)

/-! MERGE_ALL and stream bands by register. -/

/-- MERGE_ALL (Table CDS-4): every plot with LOGGED set. -/
def execMergeAll (via : Via) (s : State) : Res :=
  if !s.reaches via then .next s else
  let s := s.emit (.regWriteDone via Reg.CDS_CTL)
  let l := (s.cds.plots.filter fun e => e.2.logged).map (·.1)
  if l.isEmpty then .next (s.setBits Reg.CDS_INT_STAT 64)
  else
    .next ((s.setBits Reg.CDS_CTL 8).modCds fun c =>
      l.foldl (fun c p => c.addWork (.mergePlot p false) 7 none) { c with mergeAll := l })

/-- STREAM_EN_CLEAR (R164): the open stream bands close. -/
def execStreamEnClear (via : Via) (s : State) : Res :=
  if !s.reaches via then .next s else
  let s := (s.emit (.regWriteDone via Reg.CDS_CTL)).clearBits Reg.CDS_CTL 4
  .next (s.cds.openStreams.foldl (fun s id => s.closeLog id) s)

/-! Resets of tracts (R172, R177, R182, R315). -/

/-- A marked tract of a secure release has been reset; the last one ends the release (R182). -/
def State.unmark (s : State) (k : Nat) : State :=
  match s.cds.release with
  | some r =>
    if !r.secure || s.cds.marked.isEmpty then s
    else
      let s := s.modMap fun c => { c with marked := c.marked.filter fun m => tractKey (m.1 * 4 + m.2.1) m.2.2 != k }
      if s.cds.marked.isEmpty && r.left = 0 && s.cds.releases.isEmpty then s.finishRelease else s
  | none => s

/-- A tract of the monument set being reset; the last one empties the set (R315). -/
def State.monTractReset (s : State) (k : Nat) : State :=
  match s.pfl.resetSet with
  | none => s
  | some one =>
    let s := s.modPfl fun p => { p with resetLeft := p.resetLeft.filter (· != k) }
    if s.pfl.resetLeft.isEmpty then
      (s.modPfl fun p => if one then { p with set1 := emptySet, resetSet := none } else { p with set0 := emptySet, resetSet := none }).setBudget
    else s

/-- TRACT_RESET_DONE (R172, R177): the tract is FREE again with one more reset, RETIRED after its 300,000th; a tract of a
monument set stays in its band. -/
def execTractResetDone (die : Fin 128) (tract : Fin 16384) (s : State) : Res :=
  let k := tractKey die.val tract.val
  if !s.running || (s.cds.tract k).st != .resetting then .next s
  else
    let mon := s.pfl.resetLeft.contains k
    let n := (s.cds.tract k).resets + 1
    let worn := decide (300000 ≤ n)
    let st := if worn then TractSt.retired else if mon then .allocated else .free
    let p := s.conf
    let s := s.eraseTract k
    let s := s.mapCommit [p.pageOfTract k] fun c => c.onTract k fun _ => { st := st, resets := n, fails := 0, recovered := 0, reads := 0 }
    let s := if worn then (s.flag Reg.CDS_ERR_STAT Reg.CDS_ERR_EN 5 true).raise 0x4301 k 0 else s
    let s := if mon then s.monTractReset k else s
    .next ((((s.unmark k).refill.reserveDump.wearCheck).leaveFloor.checkReadonly.collect 34).retryRelease)

/-- CHAIN_REBUILD_DONE (R185): the chain of a bucket has been rebuilt from the record array. -/
def execChainRebuildDone (bucket : Nat) (s : State) : Res :=
  if !s.running || bucket ≥ s.conf.buckets then .next s
  else
    let p := s.conf
    let l := (s.cds.records.filter fun e => e.2.live && p.bucket e.2.parcel == bucket).map (·.1)
    let old := mapGet (fun _ => []) s.cds.chains bucket
    let chain := old.filter l.contains ++ l.filter fun k => !old.contains k
    let s := s.modCds fun c => { c with chains := mapSet (fun _ => []) c.chains bucket chain, rebuilding := c.rebuilding.filter (· != bucket) }
    .next ((s.flag Reg.CDS_ERR_STAT Reg.CDS_ERR_EN 3 true).raise 0x4103
      ((((l.head?).bind fun k => mapFind s.cds.records k).map fun r => r.parcel * 4096).getD 0) 0)

/-! Registers (R188). -/

def CdsParam.off : CdsParam → Nat
  | .logFloor => Reg.CDS_LOG_FLOOR | .chainMax => Reg.CDS_CHAIN_MAX | .wearSpread => Reg.CDS_WEAR_SPREAD
  | .wearHyst => Reg.CDS_WEAR_HYST | .binWidth => Reg.CDS_BIN_WIDTH | .ckptHigh => Reg.CDS_CKPT_HIGH
  | .ckptLow => Reg.CDS_CKPT_LOW | .bwsCtl => Reg.CDS_BWS_CTL

/-- The constraints of R188. -/
def State.cdsParamOk (s : State) (p : CdsParam) (n : Nat) : Bool :=
  match p with
  | .logFloor => within n 2 64
  | .chainMax => within n 4 64
  | .wearSpread => within n 1024 65535 && decide (s.regNat Reg.CDS_WEAR_HYST < n)
  | .wearHyst => decide (n < s.regNat Reg.CDS_WEAR_SPREAD)
  | .binWidth => [64, 128, 256, 512, 1024, 2048, 4096, 8192].contains n
  | .ckptHigh => decide (s.regNat Reg.CDS_CKPT_LOW < n) && decide (n ≤ 262144)
  | .ckptLow => decide (n < s.regNat Reg.CDS_CKPT_HIGH)
  | .bwsCtl => decide (bitsAt n 16 8 ≤ s.conf.bgShare)

/-- CDS_PARAM_WRITE (R188): a value that would break a constraint is ignored. -/
def execCdsParamWrite (via : Via) (p : CdsParam) (v : Word) (s : State) : Res :=
  if !s.reaches via then .next s else
  let s := s.emit (.regWriteDone via p.off)
  if s.cdsParamOk p v.toNat then
    let v := if p == .bwsCtl then v &&& 0x00FF0001 else v
    .next ((s.setReg p.off v).ckptTrigger false)
  else .next s

end Sys2Proof.Machine
end

