-- ==== Sys2Proof/Machine/Maint.lean ====
section
/-! DEFINITION. The checks of a line at acceptance (Table ORD-1, R89) and LINE_MAINT (R83, R113, R140, R141, Tables HPT-9 and
STG-3). -/

namespace Sys2Proof.Machine

/-! Admission. -/

/-- The holding of a line admits no write: its keys are locked, or it is being erased (R84, R378). -/
def State.holdingShut (s : State) (line : Nat) : Bool :=
  match s.conf.holdingOfLine line with
  | some h => (s.ime.rekey h.id).locked || s.svc.erasingHoldings.contains h.id
  | none => true

/-- Host memory is served: the state serves it, no Sanitize or Secure Erase runs, and debug has not been opened (R79, R386,
Table SCP-6). -/
def State.hostOpen (s : State) : Bool := s.serving && !s.svc.erasing && !s.cke.debug

/-- Why a write in READONLY is refused: the reserve is sealed, or the line is not staged (R153, R154, Table HPT-12). -/
def State.roRefuses (s : State) (line : Nat) : Bool :=
  s.stg.rsvActive && (s.stg.rsvSealed || match s.stg.find (line / 64) with
    | some (_, f) => !Quad.at f.valid (line % 64)
    | none => true)

/-- The checks of a line at acceptance, in the order of Table ORD-1 (R89). -/
def State.admitLine (s : State) (line : Nat) (mask : Quad) : Option Refuse :=
  if !s.hostOpen then some .state
  else if s.holdingShut line then some .holding
  else if (s.ime.block (line / 64)).exh then some .counter
  else if s.quarRefuses line (mask != allLines) then some .quarantine
  else if mask != allLines && s.isPoison line then some .poison
  else if s.roRefuses line then some .readonly
  else none

/-- The checks at acceptance, in the order of Table ORD-1. -/
def State.admitWrite (s : State) (p : Nat) (dpa line : Nat) (mask : Quad) : Option Refuse :=
  if !(s.port p).decodes dpa then some .decoder else s.admitLine line mask

/-! LINE_MAINT. -/

/-- A write of 64 bytes on behalf of a LINE_MAINT unit or of Clear Poison enters the port's buffer behind its writes (R113; log
entry 38); none while the buffer is full. -/
def State.pushUnit (s : State) (p line dpa : Nat) (data : Line) : Option State :=
  if 256 ≤ (s.port p).pwb.length then none
  else
    let e : PwbEntry :=
      { line := line, portDpa := dpa, data := data, mask := allLines, seq := (s.port p).nextSeq, writeBack := s.writeBack ||
          (s.stg.rsvActive && !s.stg.rsvSealed), refused := s.admitLine line allLines, merged := 0, unit := true,
        lastSeq := (s.port p).nextSeq, acceptedAt := s.nowNs, begun := false, placed := none, degraded := false, stalled := false }
    some (s.modPort p fun x => { x with pwb := x.pwb ++ [e], nextSeq := x.nextSeq + 1 })

/-- Push the writes of several lines. -/
def State.pushUnits (p : Nat) : List (Nat × Nat) → State → Option State
  | [], s => some s
  | (line, dpa) :: rest, s => (s.pushUnit p line dpa 0).bind (State.pushUnits p rest)

/-- The lines of the unit a LINE_MAINT is at: device line and port DPA. -/
def State.unitLines (s : State) (m : Maint) : List (Nat × Nat) :=
  let k := m.first + m.next
  let ports := if m.op = 3 then (List.range 64).map (k * 64 + ·) else [k]
  ports.map fun l => ((s.conf.fromPort m.port l).getD 0, l * 64)

/-- FLUSH_LINE or INVAL_LINE of a line whose write would be refused is refused; in READONLY only where the line is dirty (R89,
R140). -/
def State.maintRefused (s : State) (line : Nat) (dirty : Bool) : Bool :=
  match s.admitLine line allLines with
  | none => s.stg.rsvActive && dirty
  | some .readonly => dirty
  | some _ => true

/-- What a unit does now: the state it leaves, and none while it waits, else whether it was refused (Tables STG-3, STG-4). -/
def State.maintUnit (s : State) (m : Maint) : State × Option Bool :=
  let lines := s.unitLines m
  let mine (l : Nat) : Bool := lines.any fun e => e.1 == l
  if 2 ≤ m.op then
    if m.pushed then (s, if (s.port m.port).pwb.any (fun e => e.unit && mine e.line) then none else some false)
    else match s.pushUnits m.port lines with
      | some t => (t.modStg fun g => { g with maint := g.maint.map fun x => if x.port = m.port then { x with pushed := true } else x }, none)
      | none => (s, none)
  else
    let line := (lines.headD (0, 0)).1
    let n := line % 64
    let staged := s.stg.find (line / 64)
    let dirty := staged.any fun f => Quad.at f.2.dirty n
    if (s.port m.port).pwb.any (fun e => mine e.line && decide (e.seq < m.cut)) then (s, none)
    else if s.maintRefused line dirty then (s, some true)
    else match s.stg.fills.find? fun f => f.line == line with
      | some f =>
        if m.op = 0 || f.merge.isSome then (s, none)
        else ((s.incReg Reg.STG_RACE_CNT).modStg fun g =>
          { g with fills := g.fills.map fun x => if x.line = line then { x with install := false } else x }, some false)
      | none =>
        match staged with
        | none => (s, some false)
        | some (i, _) =>
          if dirty then (if (s.stg.wbOf (line / 64)).isSome then s else s.tryWb i false, none)
          else if m.op = 0 then (s, some false)
          else ((s.modStg (·.onFrame i fun f => { f with valid := f.valid &&& ~~~ oneBit n })).settleFrame i, some false)

/-- A LINE_MAINT goes on through its units in ascending order, and is answered after the last (R83). `fuel` bounds the units. -/
def State.pushMaintAt (p : Nat) : Nat → State → State
  | 0, s => s
  | fuel + 1, s =>
    match s.stg.maint.find? fun m => m.port == p with
    | none => s
    | some m =>
      if s.inState [.flush, .safe, .quench] || s.inFlush then s
      else if m.count ≤ m.next then
        let s := s.modStg fun g => { g with maint := g.maint.filter fun x => x.port != p }
        s.mboxReply (.bar2 (if p = 0 then 0 else 1)) 0xC010 0 0 [m.ok, m.firstFail.getD 0xFFFFFFFF]
      else match s.maintUnit m with
        | (s, none) => s
        | (s, some refused) =>
          let s := match m.op with
            | 0 => s.incReg Reg.STG_MAINT_FLUSH
            | 1 => s.incReg Reg.STG_MAINT_INVAL
            | 2 => s.incReg Reg.STG_MAINT_ZERO
            | _ => s.addReg Reg.STG_MAINT_ZERO 64
          State.pushMaintAt p fuel (s.modStg fun g => { g with maint := g.maint.map fun x =>
            if x.port != p then x
            else
              let bad := refused || x.bad
              { x with next := x.next + 1, pushed := false, bad := false, ok := if bad then x.ok else x.ok + 1,
                       firstFail := if bad then some (x.firstFail.getD x.next) else x.firstFail } })

/-- Both ports' LINE_MAINT go on. -/
def State.pushMaint (s : State) : State := (s.pushMaintAt 0 4097).pushMaintAt 1 4097

/-- A unit's write, accepted as `seq`, was refused at its install (R83). -/
def State.failUnit (s : State) (p seq : Nat) : State :=
  s.modStg fun g => { g with maint := g.maint.map fun x => if x.port = p && decide (x.cut ≤ seq) then { x with bad := true } else x }

end Sys2Proof.Machine
end

