-- ==== Sys2Proof/Machine/Staging.lean ====
section
/-! DEFINITION. Staging's own commands: the two-hand clock (R133, R134), the commit of a write-back (R131, R132, R165), disable
and enable (R145 to R149), CLEAN_ALL (R156), invalidation (R150, R151), the clock's registers (R157). -/

namespace Sys2Proof.Machine

/-- Staging is in use: enabled, no invalidate running, its frames known. -/
def State.stagingUsed (s : State) : Bool := s.stg.enabled && s.stg.invalidating == 0 && decide (0 < s.stg.count)

/-- The back hand runs below STG_FREE_LOW and until STG_FREE_HIGH. -/
def State.backRuns (s : State) : Bool :=
  let n := s.stg.free
  if n < s.regNat Reg.STG_FREE_LOW then true else if s.regNat Reg.STG_FREE_HIGH ≤ n then false else s.stg.backRunning

/-- A line of a parcel is locked. -/
def Stg.locked (g : Stg) (parcel : Nat) : Bool := g.fills.any fun f => f.line / 64 == parcel

/-- CLOCK_FRONT_HAND (R133): the front hand, at most STG_CLOCK_SPREAD frames ahead, passes a frame. -/
def execClockFrontHand (s : State) : Res :=
  let n := s.stg.count
  if !s.running || !s.stagingUsed || s.inFlush || !s.backRuns ||
      decide (s.regNat Reg.STG_CLOCK_SPREAD ≤ (s.stg.front + n - s.stg.back) % n) then .next s
  else
    let i := s.stg.front
    let f := s.stg.frame i
    let s := s.modStg fun g => { g with front := (i + 1) % n, backRunning := true }
    if f.st != .inUse then .next s
    else if f.ref then .next (s.modStg (·.onFrame i fun f => { f with ref := false }))
    else if f.dirty != 0 then .next (s.tryWb i false)
    else .next s

/-- CLOCK_BACK_HAND (R133, R134): the back hand evicts a clean, unreferenced, unlocked frame, and skips any other. -/
def execClockBackHand (s : State) : Res :=
  let n := s.stg.count
  if !s.running || !s.stagingUsed || s.inFlush then .next s
  else if !s.backRuns then .next (s.modStg fun g => { g with backRunning := false })
  else
    let i := s.stg.back
    let f := s.stg.frame i
    let s := s.modStg fun g => { g with back := (i + 1) % n, backRunning := true }
    if f.st == .inUse && !f.ref && f.dirty == 0 && !f.wb && !s.stg.locked f.parcel then
      .next ((s.modStg (·.freeFrame i)).addPair Reg.STG_EVICT_LO 1)
    else .next s

/-- WRITE_BACK_COMMIT (R165): the slot's program has verified. `misses`: inverse checks of its lines that failed, by line and
lane; `stuck`: a line that failed three times on the last write lane holds the write-back (R344). -/
def execWriteBackCommit (parcel : Nat) (misses : List (Fin 64 × Fin 2)) (stuck : Option (Fin 64)) (s : State) : Res :=
  match s.stg.wbOf parcel with
  | some w =>
    if !s.running then .next s
    else
      let s := s.inverseMisses parcel misses
      match s.inverseStuck parcel stuck with
      | some line => .next (s.stick line)
      | none =>
        let s := s.modIme fun m => { m with stuck := m.stuck.filter fun l => l / 64 != parcel }
        .next (s.commitWb w).pushWb.pushMaint.retryRelease
  | none => .next s

/-- STG_ENABLE_CLEAR (R145): in READY and DIAG; every dirty frame is written back, then staging is disabled and STALE. -/
def execStgEnableClear (via : Via) (keep : Bool) (s : State) : Res :=
  if !s.reaches via then .next s else
  let s := s.emit (.regWriteDone via Reg.STG_CTL)
  let s := s.setField Reg.STG_CTL 1 1 (if keep then 1 else 0)
  if s.inState [.ready, .diag] && s.stg.enabled then
    let s := (s.clearBits Reg.STG_CTL 1).modStg fun g => { g with draining := true }
    .next s.pushWb.endDrains
  else .next s

/-- STG_ENABLE_SET (R147, R148): stops a drain; a disabled staging is invalidated first, or resumes with its stale contents
under KEEP. -/
def execStgEnableSet (via : Via) (keep : Bool) (s : State) : Res :=
  if !s.reaches via then .next s else
  let s := s.emit (.regWriteDone via Reg.STG_CTL)
  let s := (s.setField Reg.STG_CTL 1 1 (if keep then 1 else 0)).setBits Reg.STG_CTL 1
  if s.stg.draining then .next (s.modStg fun g => { g with draining := false })
  else if s.stg.enabled then .next s
  else if keep then .next (s.modStg fun g => { g with enabled := true, stale := false })
  else .next (s.modStg fun g => { g with invalidating := 2 })

/-- CLEAN_ALL (Table STG-5): every frame dirty now is written back. -/
def execCleanAll (via : Via) (s : State) : Res :=
  if !s.reaches via then .next s else
  let s := s.emit (.regWriteDone via Reg.STG_CTL)
  let l := (s.stg.frames.filter fun e => e.2.isDirty).map (·.1)
  let l := s.stg.cleaning ++ l.filter fun i => !s.stg.cleaning.contains i
  if l.isEmpty then .next (s.setBits Reg.STG_INT_STAT 4)
  else .next ((s.setBits Reg.STG_CTL 4).modStg fun g => { g with cleaning := l }).pushWb

/-- TAG_CACHE_INVALIDATE_DONE (R150). -/
def execTagCacheInvalidateDone (s : State) : Res :=
  .next (if s.running && s.stg.invalidating == 1 then s.modStg fun g => { g with invalidating := 0 } else s)

/-- Every tag entry is FREE, or RESERVE in the reserve; the free list is rebuilt (R151). -/
def Stg.invalidate (g : Stg) : Stg :=
  { g with frames := [], freeNext := 0, freeTail := [], invalidating := 0, enabled := true, stale := false, wbt := [], fills := [],
           cleaning := [], maint := [] }

/-- STAGING_INVALIDATE_DONE (R148, R151). -/
def execStagingInvalidateDone (s : State) : Res :=
  .next (if s.running && s.stg.invalidating == 2 then (s.modStg Stg.invalidate).setBits Reg.STG_INT_STAT 2 else s)

def StgParam.off : StgParam → Nat
  | .freeLow => Reg.STG_FREE_LOW | .freeHigh => Reg.STG_FREE_HIGH | .spread => Reg.STG_CLOCK_SPREAD

/-- The constraints of R157: STG_FREE_LOW < STG_FREE_HIGH ≤ STG_FRAMES ÷ 4, STG_CLOCK_SPREAD ≤ STG_FRAMES ÷ 4. -/
def State.stgParamOk (s : State) (p : StgParam) (n : Nat) : Bool :=
  let low := if p == .freeLow then n else s.regNat Reg.STG_FREE_LOW
  let high := if p == .freeHigh then n else s.regNat Reg.STG_FREE_HIGH
  let spread := if p == .spread then n else s.regNat Reg.STG_CLOCK_SPREAD
  decide (low < high) && decide (high ≤ s.stg.count / 4) && decide (spread ≤ s.stg.count / 4)

/-- STG_CLOCK_PARAM_WRITE (R157). -/
def execStgClockParamWrite (via : Via) (p : StgParam) (v : Word) (s : State) : Res :=
  if !s.reaches via then .next s else
  let s := s.emit (.regWriteDone via p.off)
  .next (if s.stgParamOk p v.toNat then s.setReg p.off v else s)

end Sys2Proof.Machine
end

