-- ==== Sys2Proof/Machine/Host.lean ====
section
/-! DEFINITION. The host data path: admission (Table ORD-1, R61, R87 to R89), the port write buffer (R92 to R97), installs
(R127 to R138), write-through (R18, R95, R130, R167), reads (R98 to R101, R126, R141, R222, R249), lines from the medium
(R17, R242, R343 to R349), port drains and Global Persistent Flush (R114 to R119). -/

namespace Sys2Proof.Machine

/-! Responses. -/

/-- A response leaves through its port: nothing leaves with the link down (R121), and it is held while transmission is
stopped (R70). Under link IDE it takes one transmit invocation (log entry 36). -/
def State.respond (s : State) (p : Fin 2) (o : Output) : State :=
  let x := s.port p.val
  if !x.linkUp then s
  else if x.ide.state == .refreshWait then s.modPort p.val fun x => { x with heldOut := x.heldOut ++ [o] }
  else if x.ide.state == .secure then
    (s.modPort p.val fun x => { x with ide := { x.ide with txIv := min (x.ide.txIv + 1) (2 ^ 64 - 1) } }).emit o
  else s.emit o

/-- An HPT_ERR_STAT flag of a port. -/
def State.hptFlag (s : State) (p n : Nat) (listed : Bool) : State := s.flag (Reg.HPT_ERR_STAT p) (Reg.HPT_ERR_EN p) n listed

/-- The last sequence number of the writes merged into an entry is covered (R114). -/
def PwbEntry.before (e : PwbEntry) (cut : Nat) : Bool := decide (e.seq < cut)

/-! The end of drains, Phase 2 and function-level resets (R114, R116, R122). -/

/-- A port drain ends when no covered write is left. -/
def State.settleDrain (s : State) (p : Nat) : State :=
  match (s.port p).drain with
  | some cut =>
    if (s.port p).pwb.any (·.before cut) then s
    else ((s.modPort p fun x => { x with drain := none }).clearBits (Reg.HPT_DRAIN_STAT p) 1).setBits (Reg.HPT_INT_STAT p) 1
  | none => s

/-- Phase 2 ends likewise; its time is kept, and an end in the expiry cycle is a near miss (R71, R199). -/
def State.settleGpf (s : State) (p : Fin 2) : State :=
  match (s.port p.val).gpf with
  | some (cut, at_) =>
    if (s.port p.val).pwb.any (·.before cut) then s
    else
      let t := s.nowNs - at_
      let s := (s.modPort p.val fun x => { x with gpf := none }).clearBits (Reg.HPT_GPF_STAT p.val) 1
      let s := (s.setNat (Reg.HPT_GPF_TIME p.val) t).setBits (Reg.HPT_INT_STAT p.val) 2
      let s := if t = 100000 then (s.incReg (Reg.HPT_TMO_NEAR p.val)).nearMiss 0x13 else s
      s.emit (.gpfDone p 2)
  | none => s

/-- A function-level reset ends with the port's last accepted write (R91, R122, R380). -/
def State.settleFlr (s : State) (p : Fin 2) : State :=
  let x := s.port p.val
  if !x.flr || !x.pwb.isEmpty then s
  else
    let s := (s.clearReg (Reg.HPT_CTL p.val)).clearReg (Reg.HPT_ERR_EN p.val)
    let s := s.clearReg (Reg.HPT_INT_EN p.val)
    let s := s.modPort p.val fun x => { x with flr := false, ide := { ideInit with txIv := x.ide.txIv, rxIv := x.ide.rxIv } }
    (s.satField Reg.SYS_RST_CNT 0 8 1).emit (.flrDone p)

/-- What the end of a write of a port may bring about. -/
def State.settlePort (s : State) (p : Fin 2) : State := ((s.settleDrain p.val).settleGpf p).settleFlr p

/-! Admission. -/

/-- The admission pause has passed: n × 64 ns at temper level n (R61). -/
def State.paused (s : State) (p : Nat) : Bool :=
  match (s.port p).admitAt with
  | some t => decide (s.nowNs < t + 64 * s.appliedNow)
  | none => false

/-- A port takes requests: it exists, its link is up, its stream has not failed, and its function is not being reset. -/
def State.portTakes (s : State) (p : Nat) : Bool :=
  let x := s.port p
  s.running && !s.sys.poweredDown && s.portPresent p && x.linkUp && x.ide.state != .error && !x.flr && !s.paused p

/-- M2S_RWD (R92, R93): the write merges into the youngest entry when that is for its line and has not begun, else takes an
entry; a full buffer withholds credits. `line`: port DPA divided by 64. -/
def execM2sRwd (port : Fin 2) (line : Nat) (data : Line) (mask : Quad) (atNs : Nat) (s : State) : Res :=
  let s := s.clockTo atNs
  let p := port.val
  if !s.portTakes p then .next s
  else
    let now := s.nowNs
    let dev := (s.conf.fromPort p line).getD 0
    let refused := if (s.conf.fromPort p line).isNone then some Refuse.decoder else s.admitWrite p (line * 64) dev mask
    let wb := s.writeBack || (s.stg.rsvActive && !s.stg.rsvSealed)
    let x := s.port p
    let seq := x.nextSeq
    let merges := match x.pwb.getLast? with
      | some e => e.portDpa == line * 64 && !e.begun && e.placed.isNone && e.writeBack == wb && e.refused == refused
      | none => false
    if !merges && decide (256 ≤ x.pwb.length) then .next s
    else
      let s := if refused.isNone && s.sys.state == .readonly then s.incReg Reg.STG_RO_ACCEPT else s
      let s := s.modPort p fun x =>
        let l := if merges then (x.pwb.take (x.pwb.length - 1)) ++ (x.pwb.getLast?.toList.map fun e =>
            { e with data := mergeLine e.data data mask, mask := e.mask ||| mask, merged := e.merged + 1, lastSeq := seq })
          else x.pwb ++ [{ line := dev, portDpa := line * 64, data := data, mask := mask, seq := seq, writeBack := wb,
                           refused := refused, merged := 1, unit := false, lastSeq := seq, acceptedAt := now, begun := false, placed := none,
                           degraded := false, stalled := false }]
        { x with pwb := l, nextSeq := seq + 1, admitAt := some now }
      let n := (s.port p).pwb.length
      let s := (s.maxReg (Reg.HPT_PWB_HWM p) n).pmc 0x2002 p 1 (pmcArg dev)
      let s := if refused == some .counter then (s.incReg Reg.IME_EXH_REFUSED).raise 0x9303 (dev * 64) 0 else s
      .next s

/-- M2S_REQ (R92): the read takes a slot; one that is not admitted is answered with poison (Table HPT-12). -/
def execM2sReq (port : Fin 2) (line tag : Nat) (atNs : Nat) (s : State) : Res :=
  let s := s.clockTo atNs
  let p := port.val
  if !s.portTakes p || (s.port p).reads.any (fun r => r.tag == tag) then .next s
  else
    let now := s.nowNs
    let dev := s.conf.fromPort p line
    let refused := dev.isNone || !(s.port p).decodes (line * 64) || !s.hostOpen || s.holdingShut (dev.getD 0)
    let s := s.modPort p fun x =>
      { x with reads := x.reads ++ [{ tag := tag, line := dev.getD 0, seq := x.nextSeq, acceptedAt := now, refused := refused, fetching := false }],
               nextSeq := x.nextSeq + 1, admitAt := some now }
    .next (s.pmc 0x2001 p 1 (pmcArg (dev.getD 0)))

/-! Completions of writes (R87, R93, R97). -/

/-- The head entry leaves its buffer with one completion for each write merged into it. -/
def State.finishWrite (s : State) (p : Fin 2) (e : PwbEntry) : State :=
  let n := p.val
  let t := s.nowNs - e.acceptedAt
  let s := s.modPort n fun x => { x with pwb := x.pwb.drop 1 }
  let s := (List.range e.merged).foldl (fun s _ => s.respond p (.ndrCmp p (e.portDpa / 64))) s
  let s := ((s.addPair (Reg.HPT_WR_CNT_LO n) e.merged).maxReg (Reg.HPT_LAT_WR n) t).pmc 0x2003 n e.merged (pmcArg e.line)
  (s.settlePort p).endDrains.pushMaint

/-- An error completion (R87): the line is unchanged in every byte. -/
def State.refuseWrite (s : State) (p : Fin 2) (e : PwbEntry) : State :=
  let n := e.merged + if e.unit then 1 else 0
  let s := (s.addReg (Reg.HPT_WR_REFUSED p.val) n).hptFlag p.val 2 true
  let s := if e.unit then s.failUnit p.val e.seq else s
  let s := if e.mask != allLines && s.quarPoison e.line then s.incReg Reg.IME_PARTIAL_REFUSED else s
  (s.raise 0x2301 (e.line * 64) p.val).finishWrite p e

/-- Durable-degraded: a barrier that covers a redirected write reports it (R119). -/
def State.noteDegraded (s : State) (p : Fin 2) (e : PwbEntry) : State :=
  if !e.degraded then s
  else
    let n := p.val
    let hit (c : Nat) : Bool := e.before c
    let d := (s.port n).drain.any hit
    let g := ((s.port n).gpf.map (·.1)).any hit
    let s := if d then s.setBits (Reg.HPT_DRAIN_STAT n) 2 else s
    let s := if g then s.setBits (Reg.HPT_GPF_STAT n) 2 else s
    if d || g then s.raise 0x2302 (e.line * 64) n else s

/-! Faults of staging's DRAM (R125, R142 to R144). -/

/-- The address of the last error. -/
def State.stgErrAt (s : State) (line : Nat) : State := s.setPair Reg.STG_ERR_ADDR_LO (line * 64)

def State.stgFlag (s : State) (n : Nat) (listed : Bool) : State := s.flag Reg.STG_ERR_STAT Reg.STG_ERR_EN n listed

/-- A fault met at line `line` of frame i. -/
def State.stgFault (s : State) (i line : Nat) (k : StgFault) : State :=
  let n := line % 64
  let f := s.stg.frame i
  match k with
  | .corrected => (s.incReg Reg.STG_ECC_CORR).stgFlag 0 false
  | .tagCache => (s.incReg Reg.STG_TC_PAR_ERR).stgFlag 3 false
  | .tagCopy => (s.incReg Reg.STG_TAG_COPY_ERR).stgFlag 4 false
  | .tagDirtyLost =>
    let s := (s.incReg Reg.STG_TAG_COPY_ERR).stgFlag 4 false
    (s.stgErrAt line).modStg (·.onFrame i fun f => { f with poison := allLines, valid := allLines, dirty := allLines })
  | .tagParcelLost =>
    let s := (((s.incReg Reg.STG_TAG_COPY_ERR).stgFlag 5 true).raise 0x3103 i 0).stgErrAt line
    s.modStg fun g => { (g.onFrame i fun _ => { frameInit with st := .retired, ue := true }) with wbt := g.wbt.filter (·.frame != i) }
  | .dataUe =>
    let s := (s.stgErrAt line).modStg (·.onFrame i fun f => { f with ue := true })
    if Quad.at f.dirty n then
      (((s.incReg Reg.STG_UE_DIRTY).stgFlag 2 true).raise 0x3102 (line * 64) 0).modStg (·.onFrame i fun f => { f with poison := f.poison ||| oneBit n })
    else
      let s := ((s.incReg Reg.STG_UE_CLEAN).stgFlag 1 true).raise 0x3101 (line * 64) 0
      (s.modStg (·.onFrame i fun f => { f with valid := f.valid &&& ~~~ oneBit n })).settleFrame i

/-- A fault at a line with a resident frame. -/
def State.stgFaultAt (s : State) (line : Nat) (k : Option StgFault) : State :=
  match k, s.stg.find (line / 64) with
  | some k, some (i, _) => s.stgFault i line k
  | _, _ => s

/-! Installs into staging (R127 to R137, R152 to R154). -/

/-- The opening mark of R314, before the first install that dirties a frame. -/
def State.openMark (s : State) : State :=
  if s.pfl.wbOpen then s
  else s.modPfl fun p =>
    let up (m : MonSet) : MonSet :=
      { a := m.a.map fun x => { x with marks := x.marks + 1 }, b := m.b.map fun x => { x with marks := x.marks + 1 } }
    match p.newestMon with
    | some (one, m) => if m.kind != .run then p else if one then { p with set1 := up p.set1 } else { p with set0 := up p.set0 }
    | none => p

/-- The bytes of a line go into its frame: VALID, DIRTY and REF set, POISON cleared, REDIRTY under a write-back; in READONLY a
clean frame made dirty takes from the reserve (R128, R132, R153). -/
def State.dirtyLine (s : State) (i n : Nat) (data : Line) : State :=
  let f := s.stg.frame i
  let s := if f.isDirty then s else s.openMark
  let takes := s.stg.rsvActive && !f.isDirty && !f.fromReserve
  let s := s.modStg fun g =>
    { (g.onFrame i fun f => { (f.setLine n data) with valid := f.valid ||| oneBit n, dirty := f.dirty ||| oneBit n,
                                                      poison := f.poison &&& ~~~ oneBit n, ref := true }) with
      wbt := g.wbt.map fun w => if w.frame = i then { w with redirty := w.redirty ||| oneBit n } else w,
      rsvLeft := if takes then g.rsvLeft - 1 else g.rsvLeft }
  s.checkReserve

/-- The install would make a clean frame dirty while nothing more may be dirty (R136). Seal installs every accepted entry
(R111). -/
def State.noBudget (s : State) (f : Frame) : Bool :=
  !f.isDirty && decide (s.dataLimit ≤ s.stg.dirty) && !s.inFlush && !s.stg.rsvActive

/-- The install waits for budget, counted once. -/
def State.stallBudget (s : State) (p : Nat) (e : PwbEntry) : State :=
  if e.stalled then s
  else
    let s := ((s.incReg Reg.STG_BUDGET_STALL).setBits Reg.STG_INT_STAT 8).modStg fun g => { g with budgetStall := true }
    s.modPort p fun x => { x with pwb := match x.pwb with | y :: rest => { y with stalled := true } :: rest | [] => [] }

/-- An entry's bytes are installed and its completions leave. -/
def State.installEntry (s : State) (p : Fin 2) (e : PwbEntry) (i : Nat) (data : Line) (hit : Bool) : State :=
  let s := s.dirtyLine i (e.line % 64) data
  let s := if e.mask = allLines then s.dropPoison e.line else s
  let s := s.modStg fun g => { g with budgetStall := g.budgetStall && !e.stalled }
  let s := if hit then s.addPair Reg.STG_WR_HIT_LO 1 else s.addPair Reg.STG_WR_ALLOC_LO 1
  s.finishWrite p e

/-- The frame of a parcel for an install, and whether it was resident; none while the free list is empty (R134). -/
def State.frameFor (s : State) (parcel : Nat) : Option (Nat × Bool × State) :=
  match s.stg.find parcel with
  | some (i, _) => some (i, true, s)
  | none => (s.allocFrame parcel true).map fun r => (r.1, false, r.2)

/-! Reads of the medium (R163, R219, R222, R249, R259). -/

/-- The lookup of a line with its accounting: the walk, its mark, and the merge of a plot with long chains (R163). -/
def State.lookupCounted (s : State) (line : Nat) : Found × State :=
  let (f, n) := s.cds.lookup s.conf line
  let s := ((s.pmc 0x4001 0 1 (pmcArg line)).pmc 0x4002 0 n (pmcArg line)).maxReg Reg.CDS_CHAIN_HWM n
  let s := if s.regNat Reg.CDS_CHAIN_MAX < n then s.modCds (·.addWork (.mergePlot (parcelPlot (line / 64)) true) 3 none) else s
  (f, s)

/-- ns a read of a plane is predicted to wait (R222): the rest of the running operation's typical time, else of its maximum;
a lost die or a channel that retrains has no end. -/
def State.readWait (s : State) (key : Nat) : Option Nat :=
  let die := keyDie key
  let tract := keyTract key % 16384
  let c := s.channel (die / 4)
  let d := c.die (die % 4)
  let now := s.nowNs
  let rest (o : DieOp) (typ most : Nat) : Nat :=
    let t := o.elapsed + (now - o.start)
    if t < typ then typ - t else max 1 (most - t)
  if c.lost || d.lost || c.retraining then none
  else
    let a := match d.reset with
      | some r => if r.suspended then 0 else rest r 1600000 2400000
      | none => 0
    let b := match d.plane (tract % 4) with
      | some o => if o.suspended then 0 else if o.opcode = 4 then rest o 1100 1600 else rest o 3200 4500
      | none => 0
    some (max a b)

/-- A place is busy for a read; of a locked pair, when both dies are (R225, R249). -/
def State.busyFor (s : State) (key : Nat) : Bool :=
  let limit := s.regNat Reg.TRV_WAIT_LIMIT
  let busy (k : Nat) : Bool := match s.readWait k with | some w => decide (limit < w) | none => true
  busy key && ((s.channel (keyDie key / 4)).mode != 1 || busy (key + 4 * 16384 * 32768))

/-- A read of a place for its sequencer's queue of host reads. -/
def placeReq (cls : TrvClass) (key : Nat) : TrvReq :=
  { cls := cls, opcode := 1, die := keyDie key % 4, tract := keyTract key % 16384, parcel := key % 32768 / 64, line := key % 64, arg := 0 }

def State.queueRead (s : State) (key : Nat) : State :=
  s.onChannel (keyDie key / 4) fun c => { c with hostQ := c.hostQ ++ [placeReq .hostRead key] }

/-- The same parcel and line places of the other members of a band: the rest of the stripe (R248). -/
def Band.stripe (b : Band) (key : Nat) : List Nat :=
  (b.tracts.filter fun t => t != keyTract key).map fun t => t * 32768 + key % 32768

/-- Suspend the operation that a read waits for (R217, R249). -/
def State.queueSuspend (s : State) (key : Nat) : State :=
  if !s.bit Reg.TRV_CTL 2 then s
  else
    let d := (s.channel (keyDie key / 4)).die (keyDie key % 4)
    let p := keyTract key % 4
    let arg : Option Nat := if (d.reset.any fun r => !r.suspended) then some 0
      else if (d.plane p).any (fun o => o.opcode == 5 && !o.suspended) then some (1 + 2 * p) else none
    match arg with
    | some a => (s.incReg Reg.MDC_SUSP_READ).onChannel (keyDie key / 4) fun c =>
        { c with intQ := { cls := .internalHost, opcode := 0xA, die := keyDie key % 4, tract := 0, parcel := 0, line := 0, arg := a } :: c.intQ }
    | none => s

/-- Send the reads of a line: its own, or those of its stripe when its die is busy and no other member is, or its own after a
suspend (R222, R249). None while the queue is full (R219). -/
def State.fetchAt (s : State) (key band : Nat) : Option State :=
  if 32 ≤ (s.channel (keyDie key / 4)).hostQ.length then none
  else if !s.busyFor key || !s.bit Reg.TRV_CTL 1 then some (s.queueRead key)
  else
    let mates := match s.cds.band band with | some b => b.stripe key | none => []
    let s := (s.incReg Reg.TRV_RECON_CNT).pmc 0x5005 (keyDie key / 4) 1 pmcNone
    if !mates.isEmpty && mates.all (fun k => !s.busyFor k) then
      some (mates.foldl (fun s k => s.queueRead k) (s.incReg Reg.MDC_RECON_CNT))
    else some ((s.queueSuspend key).queueRead key)

/-- Start the fetch of a line; `reader` waits for it. A fetch in flight takes the reader too. -/
def State.startFill (s : State) (line key band : Nat) (frame : Option Nat) (merge : Option (Line × Quad))
    (reader : Option (Fin 2 × Nat)) : Option State :=
  match s.stg.fills.find? fun f => f.line == line with
  | some f =>
    let s := s.incReg Reg.STG_RACE_CNT
    some (s.modStg fun g => { g with fills := g.fills.map fun x =>
      if x.line != line then x
      else if f.install then { x with readers := x.readers ++ reader.toList, merge := merge.or x.merge, frame := x.frame.or frame }
      else { x with fresh := x.fresh ++ reader.toList, merge := merge.or x.merge } })
  | none =>
    (s.fetchAt key band).map fun s =>
      let s := s.modStg fun g => { g with fills := g.fills ++
        [{ line := line, frame := frame, install := true, merge := merge, readers := reader.toList, fresh := [] }] }
      s.maxReg Reg.STG_LLT_HWM s.stg.fills.length

/-! Lines that arrive from the medium (R17, R242 to R249, R340 to R349). -/

/-- The region that a lost counter block (level 0) or tree node of a level covers, within the line's holding: first line and
length (R349, R351). -/
def State.nodeRegion (s : State) (line level : Nat) : Nat × Nat :=
  let (hb, hn) := s.conf.holdingLines line
  match s.conf.integrityIndex (line / 64) with
  | some g =>
    let first := (line / 64) * 64 - (g % 8 ^ level) * 64
    let base := max hb first
    (base, min (8 ^ level * 64 - (base - first)) (hb + hn - base))
  | none => (line, 1)

/-- A region is quarantined as unverifiable (R349, R350). -/
def State.unverifiable (s : State) (line level : Nat) : State :=
  let (b, n) := s.nodeRegion line level
  (((((s.imeFlag 0 true).secInfo 0x9201 line level).raise 0x9201 (line * 64) level).incReg Reg.IME_UNVERIF_CNT)).quarantine b n false

/-- An uncorrectable error of the cache or the pinned area (R350). -/
def State.imeUe (s : State) (line : Nat) (u : ImeUe) : State :=
  let s := (s.incReg Reg.IME_DRAM_UE).imeFlag 6 false
  match u with
  | .clean | .node _ true => s
  | .node level false => s.unverifiable line level
  | .counter => s.unverifiable line 0
  | .tagLine => (List.range 8).foldl (fun s k =>
      let n := line / 8 * 8 + k
      let held := (s.stg.find (n / 64)).any fun f => Quad.at f.2.dirty (n % 64)
      if held then s else s.addPoison n) s

/-- A fault of a line's metadata (R346, R349). -/
def State.metaFault (s : State) (line : Nat) (m : MetaFault) : State :=
  match m with
  | .tagLine => (List.range 8).foldl (fun s k => s.addPoison (line / 8 * 8 + k)) s
  | .node level true =>
    let (b, n) := s.nodeRegion line level
    (s.tamper 1 0x9102 line level).quarantine b n true
  | .node level false => s.unverifiable line level
  | .dram u => s.imeUe line u

/-- The metadata of the line are good after all: a clean line was fetched again, a node recomputed (R350). -/
def MetaFault.mended : MetaFault → Bool
  | .dram .clean => true
  | .dram (.node _ agrees) => agrees
  | _ => false

/-- A tag mismatch that both read lanes confirm (R346). -/
def State.tamperLine (s : State) (line : Nat) : State := (s.addPoison line).tamper 0 0x9101 line 0

/-- The check of a decoded line's tag on the read lanes (R344, R346): the result is whether the line may be released. -/
def State.tagCheck (s : State) (line : Nat) (r : LineRead) (sealed : Bool) : Bool × State :=
  let lane := 2 + s.ime.nextRead
  let both := s.ime.lanes.getD 2 false && s.ime.lanes.getD 3 false
  let s := (s.pmc 0x9002 s.ime.nextRead 1 (pmcArg line)).modIme fun m => { m with nextRead := if both then 1 - m.nextRead else m.nextRead }
  let h := s.conf.holdingOfLine line
  if !(h.any (·.integrity)) then (sealed, s)
  else
    let s := s.addPair Reg.IME_TAG_CHECK_LO 1
    if sealed && r.tagA then (true, s)
    else
    let retry := s.bit Reg.IME_CTL 1
    let s := (if retry then s.incReg Reg.IME_LANE_RETRY else s).laneMiss lane
    if sealed && r.tagB && retry then (true, s) else (false, s.tamperLine line)

/-- A line from the medium whose metadata are good: decode, poison and tag decide what is released (R17, R340). -/
def State.release (s : State) (line key : Nat) (r : LineRead) : Option Line × State :=
  match r.decoded with
  | .lost _ => (none, s)
  | _ =>
    match s.openPlace line key with
    | .poison => (none, s)
    | .mismatch =>
      let (_, s) := s.tagCheck line r false
      (none, s)
    | .data l =>
      let (ok, s) := s.tagCheck line r true
      (if ok then some l else none, s)

/-- A line from the medium: its decode is accounted, then metadata, poison and tag decide what is released (R17, R340). None:
poison. -/
def State.arrive (s : State) (line key : Nat) (r : LineRead) : Option Line × State :=
  let s := s.account line key r.decoded
  match r.lost with
  | some m => if m.mended then (s.metaFault line m).release line key r else (none, s.metaFault line m)
  | none => s.release line key r

/-! Read responses. -/

/-- A read is answered (R87): data, or poison. -/
def State.answerRead (s : State) (p : Fin 2) (tag : Nat) (d : Option Line) : State :=
  let n := p.val
  match (s.port n).reads.find? fun r => r.tag == tag with
  | none => s
  | some r =>
    let t := s.nowNs - r.acceptedAt
    let s := s.modPort n fun x => { x with reads := x.reads.filter fun r => r.tag != tag }
    let s := ((s.respond p (.drs p tag (d.getD 0) d.isNone)).addPair (Reg.HPT_RD_CNT_LO n) 1).maxReg (Reg.HPT_LAT_RD n) t
    if d.isNone then (s.incReg (Reg.HPT_POISON_TX n)).hptFlag n 3 false else s

/-- The fetched line goes into its frame, clean (R126). -/
def State.installFill (s : State) (i n : Nat) (d : Option Line) : State :=
  match d with
  | some l => (s.modStg (·.onFrame i fun f => { (f.setLine n l) with valid := f.valid ||| oneBit n, ref := true })).addPair Reg.STG_FILL_LO 1
  | none => s

/-- The head write that waits for a line completes with the merged bytes, or is refused (R128, R347). -/
def State.endMerge (s : State) (line : Nat) (d : Option Line) : State :=
  ([0, 1] : List (Fin 2)).foldl (fun s p =>
    match (s.port p.val).pwb with
    | e :: _ =>
      if e.line != line || !e.begun then s
      else match d, s.stg.find (line / 64) with
        | some l, some (i, _) => s.installEntry p e i (mergeLine l e.data e.mask) true
        | _, _ => s.refuseWrite p e
    | [] => s) s

/-- A partial write whose merge source failed its tag check is counted (R347); `before`: the tamper count before the check. -/
def State.countPartial (s : State) (r : LineRead) (before : Nat) (merging : Bool) : State :=
  if merging && (r.lost.all (·.mended)) && s.regNat Reg.IME_TAMPER_CNT != before then s.incReg Reg.IME_PARTIAL_REFUSED else s

/-- A racing read won by the odd channel is counted (R225). -/
def State.countRace (s : State) (key : Nat) (r : LineRead) : State :=
  if r.odd && s.bit Reg.TRV_CTL 0 && (s.channel (keyDie key / 4)).mode == 1 then s.incReg Reg.TRV_RACE_ODD else s

/-- LINE_READ_RETURN (R17, R126, R141, R242): the line of a fetch arrives. -/
def execLineReadReturn (line : Nat) (r : LineRead) (s : State) : Res :=
  match s.stg.fills.find? fun f => f.line == line with
  | none => .next s
  | some f =>
    let found := (s.cds.lookup s.conf line).1
    let before := s.regNat Reg.IME_TAMPER_CNT
    let (d, s) : Option Line × State := match found with
      | .place k _ => (s.countRace k r).arrive line k r
      | .zero => (some 0, s)
      | .rebuilding => (none, s)
    let s := s.countPartial r before f.merge.isSome
    let s := s.modStg fun g => { g with fills := g.fills.filter fun x => x.line != line }
    let s := f.readers.foldl (fun s q => (s.answerRead q.1 q.2 d).addPair Reg.STG_RD_MISS_LO 1) s
    let s := (s.pmc 0x3002 0 f.readers.length (pmcArg line)).collect 33
    let s : State := match f.frame with
      | some i => if f.install && (s.stg.frame i).st == .inUse && (s.stg.frame i).parcel == line / 64 && !Quad.at (s.stg.frame i).valid (line % 64)
          then (s.installFill i (line % 64) d).pmc 0x3003 0 1 (pmcArg line) else s
      | none => s
    let s := if f.merge.isSome then s.endMerge line d else s
    .next (State.pushMaint (match f.fresh, found with
      | [], _ => s
      | q :: rest, .place k b =>
        match s.startFill line k b f.frame none (some q) with
        | some t => rest.foldl (fun t q => (t.startFill line k b f.frame none (some q)).getD t) t
        | none => (q :: rest).foldl (fun s q => s.modPort q.1.val fun x =>
            { x with reads := x.reads.map fun r => if r.tag = q.2 then { r with fetching := false } else r }) s
      | l, _ => l.foldl (fun s q => s.answerRead q.1 q.2 (some 0)) s))

/-! Performing reads (R98 to R101, R126). -/

/-- The entry of the read's own port for its line that was accepted before it: the youngest (R99). -/
def Port.ahead (x : Port) (r : RdReq) : Option PwbEntry := (x.pwb.filter fun e => e.line == r.line && decide (e.seq < r.seq)).getLast?

/-- An earlier read of the port to the same line has not been performed (R101). -/
def Port.readBehind (x : Port) (r : RdReq) : Bool := x.reads.any fun q => q.line == r.line && decide (q.seq < r.seq) && !q.fetching

/-- A read that goes to the medium (R126): resident frame, else a new one where READ_ALLOC is set. -/
def State.readMiss (s : State) (p : Fin 2) (r : RdReq) : State :=
  let (found, s) := s.lookupCounted r.line
  match found with
  | .zero => s.answerRead p r.tag (some 0)
  | .rebuilding => s.answerRead p r.tag none
  | .place k b =>
    let resident := if s.stagingUsed then (s.stg.find (r.line / 64)).map (·.1) else none
    let alloc := s.stagingUsed && resident.isNone && (s.conf.holdingOfLine r.line).any (·.readAlloc)
    let (i, s) : Option Nat × State :=
      if !alloc then (resident, s)
      else match s.allocFrame (r.line / 64) false with
        | some (i, s) => (some i, s)
        | none => (none, s)
    match s.startFill r.line k b i none (some (p, r.tag)) with
    | some t => t.modPort p.val fun x => { x with reads := x.reads.map fun q => if q.tag = r.tag then { q with fetching := true } else q }
    | none => s

/-- READ_PERFORM (R98, R99, R126): a read is forwarded, served from staging, or fetched. -/
def execReadPerform (port : Fin 2) (tag : Nat) (fault : Option StgFault) (s : State) : Res :=
  let x := s.port port.val
  match x.reads.find? fun r => r.tag == tag with
  | none => .next s
  | some r =>
    if !s.running || s.sys.poweredDown || r.fetching || x.readBehind r then .next s
    else if r.refused then .next (s.answerRead port tag none)
    else match x.ahead r with
      | some e =>
        if e.writeBack && e.mask == allLines && e.refused.isNone then .next (s.answerRead port tag (some e.data)) else .next s
      | none =>
        let s := if s.stagingUsed then s.stgFaultAt r.line fault else s
        let hit := if s.stagingUsed then s.stg.find (r.line / 64) else none
        match hit with
        | some (i, f) =>
          if Quad.at f.valid (r.line % 64) then
            let s := ((s.modStg (·.onFrame i fun f => { f with ref := true })).addPair Reg.STG_RD_HIT_LO 1).pmc 0x3001 0 1 (pmcArg r.line)
            .next (s.answerRead port tag (if Quad.at f.poison (r.line % 64) then none else some (f.line (r.line % 64))))
          else if s.isPoison r.line || s.quarPoison r.line then .next (s.answerRead port tag none)
          else .next (s.readMiss port r)
        | none =>
          if s.isPoison r.line || s.quarPoison r.line then .next (s.answerRead port tag none) else .next (s.readMiss port r)

/-! Installs (R94, R95). -/

/-- Why an admitted entry is refused at its install: a partial write to a poisoned line, or to one that quarantine shuts (R87,
R128, R347). -/
def State.installRefuses (s : State) (e : PwbEntry) : Bool :=
  let part := e.mask != allLines
  let framed := match s.stg.find (e.line / 64) with
    | some (_, f) => Quad.at f.valid (e.line % 64) && Quad.at f.poison (e.line % 64)
    | none => false
  let staged := match s.stg.find (e.line / 64) with
    | some (_, f) => Quad.at f.valid (e.line % 64) && !Quad.at f.poison (e.line % 64)
    | none => false
  part && (framed || (!staged && s.isPoison e.line)) || s.quarRefuses e.line part

/-- A write-back entry installs, fills first, or waits (R128, R134, R136). -/
def State.installBack (s : State) (p : Fin 2) (e : PwbEntry) (fault : Option StgFault) : State :=
  let n := e.line % 64
  match s.frameFor (e.line / 64) with
  | none => s
  | some (i, hit, s) =>
    let s := if hit then s.stgFaultAt e.line fault else s
    let f := s.stg.frame i
    if f.st != .inUse then s
    else if e.mask = allLines || Quad.at f.valid n then
      if e.mask != allLines && Quad.at f.poison n then s.refuseWrite p e
      else if s.noBudget f then s.stallBudget p.val e
      else
        let s := if s.stg.fills.any (fun x => x.line == e.line) then
            (s.incReg Reg.STG_RACE_CNT).modStg fun g => { g with fills := g.fills.map fun x => if x.line = e.line then { x with install := false } else x }
          else s
        s.installEntry p e i (mergeLine (f.line n) e.data e.mask) hit
    else if s.noBudget f then s.stallBudget p.val e
    else
      let (found, s) := s.lookupCounted e.line
      match found with
      | .place k b =>
        match s.startFill e.line k b (some i) (some (e.data, e.mask)) none with
        | some s => s.modPort p.val fun x => { x with pwb := match x.pwb with | y :: rest => { y with begun := true } :: rest | [] => [] }
        | none => s
      | .zero => s.installEntry p e i (mergeLine 0 e.data e.mask) hit
      | .rebuilding => s.refuseWrite p e

/-- A verified write-through entry takes effect (R95, R130, R167, R345): one map commit with its journal line, its counters,
the staged copy. -/
def State.installThrough (s : State) (p : Fin 2) (e : PwbEntry) (w : Placed) : State :=
  let c := s.conf
  let parcel := e.line / 64
  let now := s.nowNs
  let old : Quad := match mapFind s.cds.records w.slot with
    | some r => if r.live && r.parcel = parcel then r.mask else 0
    | none => 0
  let mask := old ||| w.mask
  let s := s.mapCommit (s.cds.recordPages c w.slot parcel) fun m => m.commitRecord c w.slot parcel mask false
  let s := s.modCds fun m =>
    { m with wtSlots := m.wtSlots.map fun x => if x.slot = w.slot then { x with mask := mask, lastAt := now } else x }
  let s := s.commitSeals parcel w.seals
  let s : State := match s.stg.find parcel with
    | some (i, f) =>
      if Quad.at f.valid (e.line % 64) then
        (s.modStg (·.onFrame i fun f => { (f.setLine (e.line % 64) w.data) with
          dirty := f.dirty &&& ~~~ oneBit (e.line % 64), poison := f.poison &&& ~~~ oneBit (e.line % 64) })).settleFrame i
      else s
    | none => s
  let s := (s.dropPoison e.line).noteDegraded p e
  let gone := s.mdc.retired
  ((s.modMap (·.reclaim c gone)).finishWrite p e).closeMark.logTriggers.checkReadonly

/-- PWB_INSTALL (R94 to R96): the oldest entry of a port installs, is refused, or waits. -/
def execPwbInstall (port : Fin 2) (fault : Option StgFault) (s : State) : Res :=
  match (s.port port.val).pwb with
  | [] => .next s
  | e :: _ =>
    if !s.running || s.sys.poweredDown || e.begun then .next s
    else if e.refused.isSome || s.installRefuses e then .next (s.refuseWrite port e)
    else match e.placed with
      | some w => .next (s.installThrough port e w)
      | none => if e.writeBack && s.stagingUsed then .next (s.installBack port e fault) else .next s

/-! Write-through programs (R18, R118, R130, R167). -/

/-- The slot of a write-through line (R167): the parcel's open slot where the line is not programmed in it, else a new slot of
an ordinary log band, the oldest open slot closing at 4,096. None at the floor, or without a band. -/
def State.wtSlot (s : State) (parcel : Nat) (mask : Quad) : Option (Nat × Nat × State) :=
  let now := s.nowNs
  match s.cds.wtSlots.find? fun w => w.parcel == parcel && w.mask &&& mask == 0 with
  | some w =>
    (s.cds.bandOfOrdinal (w.slot / 8192)).map fun (id, _) =>
      (id, w.slot, s.modCds fun c => { c with wtSlots := c.wtSlots.map fun x => if x.slot = w.slot then { x with mask := x.mask ||| mask, lastAt := now } else x })
  | none => (s.takeSlot parcel false).map fun (id, slot, s) =>
      let new : WtSlot := { parcel := parcel, slot := slot, mask := mask, lastAt := now }
      (id, slot, s.modCds fun c =>
        let l := c.wtSlots.filter fun w => w.parcel != parcel
        { c with wtSlots := (if 4096 ≤ l.length then l.drop 1 else l) ++ [new] })

/-- The merge source of a write-through line: the staged copy when VALID, else the medium copy (R130, R347). -/
def State.wtSource (s : State) (e : PwbEntry) (r : LineRead) : Option Line × State :=
  if e.mask = allLines then (some 0, s)
  else
    let staged := if s.stagingUsed then s.stg.find (e.line / 64) else none
    match staged with
    | some (_, f) =>
      if Quad.at f.valid (e.line % 64) then (if Quad.at f.poison (e.line % 64) then none else some (f.line (e.line % 64)), s)
      else match (s.cds.lookup s.conf e.line).1 with
        | .place k _ => s.arrive e.line k r
        | .zero => (some 0, s)
        | .rebuilding => (none, s)
    | none => match (s.cds.lookup s.conf e.line).1 with
      | .place k _ => s.arrive e.line k r
      | .zero => (some 0, s)
      | .rebuilding => (none, s)

/-- The lines a write-through program takes: the line, or after a minor wrap every line of the parcel with a copy (R330). -/
def State.wtLines (s : State) (e : PwbEntry) (data : Line) : List (Nat × Line × Bool) :=
  let n := e.line % 64
  if !s.wraps (e.line / 64) (oneBit n) then [(n, data, false)]
  else (List.range 64).filterMap fun k =>
    if k = n then some (k, data, false)
    else if s.hasCopy (e.line / 64 * 64 + k) then
      match s.readLine (e.line / 64 * 64 + k) with
      | .data l => some (k, l, false)
      | _ => some (k, 0, true)
    else none

/-- Program the lines of a write-through entry into a slot. -/
def State.wtProgram (s : State) (band slot parcel : Nat) (lines : List (Nat × Line × Bool)) (seals : List (Nat × Seal)) : State :=
  match s.cds.band band with
  | none => s
  | some b =>
    let s := s.pmc 0x5003 (((b.members[slot % 8192 % 16]?).map (·.1)).getD 0) 1 (pmcArg (parcel * 64))
    lines.foldl (fun s x =>
      match b.place (slot % 8192) x.1, seals.find? fun q => q.1 == x.1 with
      | some key, some q => s.programLine key { data := x.2.1, under := q.2, poison := x.2.2, kind := .host }
      | _, _ => s) s

/-- Change the entry of a write in a port's buffer. -/
def State.setWrite (s : State) (p seq : Nat) (f : PwbEntry → PwbEntry) : State :=
  s.modPort p fun x => { x with pwb := x.pwb.map fun y => if y.seq = seq then f y else y }

/-- WRITE_THROUGH_VERIFY (R18, R95, R118): the lines of write `seq` of a port have programmed and its data line has verified.
`src`: the merge source as it was read; `redirected`: the program went to easement. -/
def execWriteThroughVerify (port : Fin 2) (seq : Nat) (src : LineRead) (redirected : Bool) (s : State) : Res :=
  let p := port.val
  match (s.port p).pwb.find? fun e => e.seq == seq with
  | none => .next s
  | some e =>
    let earlier := (s.port p).pwb.any fun x => x.line == e.line && decide (x.seq < e.seq)
    let through := !e.writeBack || !s.stagingUsed
    if !s.running || !through || e.placed.isSome || e.refused.isSome || earlier then .next s
    else
      let before := s.regNat Reg.IME_TAMPER_CNT
      let (source, s) := s.wtSource e src
      let s := s.countPartial src before (e.mask != allLines)
      match source with
      | none => .next (s.setWrite p seq fun y => { y with refused := some .unrecoverable })
      | some l =>
        let data := mergeLine l e.data e.mask
        let parcel := e.line / 64
        let lines := s.wtLines e data
        let mask := maskOfList (lines.map (·.1))
        let wrapped := s.wraps parcel (oneBit (e.line % 64))
        if !wrapped && !s.pctRoom parcel mask then .next (s.modIme fun m => { m with pctWait := true })
        else match s.wtSlot parcel mask with
          | none => .next s
          | some (band, slot, s) =>
            match s.openStripe band (slot % 8192 / 16) with
            | none => .next s
            | some s =>
              let (s, seals) := s.sealMask parcel mask wrapped
              let s := if wrapped then s.wrapGroup parcel else s
              let s := s.wtProgram band slot parcel lines seals
              let w : Placed := { slot := slot, band := band, mask := mask, seals := seals, data := data }
              .next ((s.setWrite p seq fun y => { y with placed := some w, degraded := redirected }).collect 32)

/-! Barriers (R114 to R117). -/

/-- PORT_DRAIN (R114): the cut is here and now; a busy drain's cut moves forward. -/
def execPortDrain (via : Via) (port : Fin 2) (s : State) : Res :=
  if !s.reaches via then .next s else
  let p := port.val
  let s := s.emit (.regWriteDone via (Reg.HPT_DRAIN_CTL p))
  if !s.running || !s.portPresent p then .next s
  else
    let s := if (s.port p).drain.isNone then s.setNat (Reg.HPT_DRAIN_STAT p) 1 else s
    .next ((s.modPort p fun x => { x with drain := some x.nextSeq }).settleDrain p)

/-- GPF_PHASE1 (R116). -/
def execGpfPhase1 (port : Fin 2) (s : State) : Res :=
  .next (if s.running && s.portPresent port.val && (s.port port.val).linkUp then s.emit (.gpfDone port 1) else s)

/-- GPF_PHASE2 (R71, R116). -/
def execGpfPhase2 (port : Fin 2) (atNs : Nat) (s : State) : Res :=
  let s := s.clockTo atNs
  let p := port.val
  if !s.running || !s.portPresent p || !(s.port p).linkUp then .next s
  else
    let now := s.nowNs
    let s := (s.setNat (Reg.HPT_GPF_STAT p) 1).modPort p fun x => { x with gpf := some (x.nextSeq, now) }
    .next (s.settleGpf port)

/-- GPF_PHASE2_TIMEOUT (R71, R199): the timer's expiry itself does nothing more; Phase 2 goes on until its writes are durable
(log entry 34). -/
def execGpfPhase2Timeout (port : Fin 2) (atNs : Nat) (s : State) : Res :=
  let s := s.clockTo atNs
  .next (s.settleGpf port)

end Sys2Proof.Machine
end

