-- ==== Sys2Proof/Machine/Datum.lean ====
section
/-! DEFINITION. Clocks, the datum and its discipline, strobe requests and the performance counters' registers (R191 to
R197, R202 to R205, R474 to R476). -/

namespace Sys2Proof.Machine

/-- Queue a datum deed with the datum of now (R194). -/
def State.datumDeed (s : State) : State := s.queueDeed 0 (.datum s.datumNs s.dtm.everSet)

/-- XO_LOSS (R191): the PLLs run from the IRO, nothing is interrupted. `ppm` is the measured deviation. -/
def execXoLoss (ppm : Int) (s : State) : Res :=
  let s := s.setReg Reg.DTM_XO_FREQ (BitVec.ofInt 32 ppm)
  if s.dtm.xoLost then .next s
  else
    let s := (s.modDtm fun t => { t with xoLost := true }).incReg Reg.DTM_XO_LOSS_CNT
    .next ((s.flag Reg.DTM_ERR_STAT Reg.DTM_ERR_EN 0 true).raise 0x7101 0 0)

/-- XO_RETURN (R191): back to XO once it has been valid for 10 ms; otherwise ignored. -/
def execXoReturn (via : Via) (validNs : Nat) (s : State) : Res :=
  if !s.reaches via then .next s else
  let s := s.emit (.regWriteDone via Reg.DTM_CTL)
  .next (if s.dtm.xoLost && decide (10000000 ≤ validNs) then s.modDtm fun t => { t with xoLost := false } else s)

/-- DATUM_DEED_TIMER (R194): 3,600 s of DTM_MONO after the first READY or the last such deed. -/
def execDatumDeedTimer (atNs : Nat) (s : State) : Res :=
  let s := s.clockTo atNs
  match s.dtm.deedAt with
  | some t =>
    if t + 3600000000000 ≤ s.nowNs then .next ((s.modDtm fun d => { d with deedAt := some s.nowNs }).datumDeed) else .next s
  | none => .next s

/-- SLEW_COMPLETE (R194, R196): the offset is absorbed. -/
def execSlewComplete (atNs : Nat) (s : State) : Res :=
  let s := s.clockTo atNs
  if s.dtm.slewing && s.dtm.offset == 0 then
    .next (((s.modDtm fun t => { t with slewing := false }).setBits Reg.DTM_INT_STAT 2).datumDeed)
  else .next s

/-- DTM_PARAM_WRITE (R205): DTM_STEP_US where `step`, else DTM_SLEW_PPM; out of range, the write is ignored. -/
def execDtmParamWrite (via : Via) (step : Bool) (v : Word) (s : State) : Res :=
  if !s.reaches via then .next s else
  let off := if step then Reg.DTM_STEP_US else Reg.DTM_SLEW_PPM
  let hi := if step then 1000000 else 1000
  let s := s.emit (.regWriteDone via off)
  .next (if within v.toNat 100 hi then s.setReg off v else s)

/-- SURVEY_STROBE_WRITE (R202). -/
def execSurveyStrobeWrite (via : Via) (s : State) : Res :=
  if !s.reaches via then .next s else
  .next ((s.emit (.regWriteDone via Reg.DTM_SVY_STROBE)).strobe 1)

/-- SURVEY_IN_EDGE (R202): two cycles of synchronisation, the request in the next one. -/
def execSurveyInEdge (s : State) : Res :=
  .next (if s.bit Reg.DTM_SVY_CTL 2 then s.strobeAt (s.dtm.mono + 3 * cycleUnits) 4 else s)

/-- SURVEY_OUT_END (R203): the pulse ends 64 cycles after its latch. -/
def execSurveyOutEnd (s : State) : Res :=
  match s.dtm.outUntil with
  | some u =>
    let s := if s.dtm.mono < u then s.elapse (u - s.dtm.mono) else s
    .next (s.modDtm fun t => { t with outUntil := none })
  | none => .next s

/-- PLL_UNLOCK (R205): 0 PLL_F, 1 PLL_E, 2 PLL_T, 3 PLL_H. -/
def execPllUnlock (pll : Fin 4) (s : State) : Res :=
  let s := s.modDtm fun t => match pll with
    | 0 => { t with pllF := false }
    | 1 => { t with pllE := false }
    | 2 => { t with pllT := false }
    | _ => { t with pllH := false }
  .next (s.flag Reg.DTM_ERR_STAT Reg.DTM_ERR_EN 1 false)

/-! Discipline (R195 to R197, Table DTM-2). -/

/-- Why and how a Set Timestamp ends. -/
inductive Discipline
  | refused
  | first (delta : Int)
  | step (ns : Nat)
  | slew (ns : Int)
  deriving DecidableEq, Repr

/-- The row of Table DTM-2 for a value T, with D the datum at the doorbell and N the current datum, ns. -/
def disciplineRow (lock everSet : Bool) (stepUs : Nat) (t d n : Int) : Discipline :=
  let offset := t - d
  let step : Int := stepUs * 1000
  if lock then .refused
  else if !everSet then (if n ≤ t + (n - d) then .first (t + (n - d) - n) else .refused)
  else if step ≤ offset ∧ offset ≤ 34560000000000000 then .step offset.toNat
  else if 34560000000000000 < offset then .refused
  else if -step < offset ∧ offset < step then .slew offset
  else if -60000000000 ≤ offset then .slew offset
  else .refused

/-- Apply a Set Timestamp; `ago` is how long before now its doorbell was (R195, R196). Whether it was accepted. -/
def State.discipline (s : State) (t ago : Nat) : State × Bool :=
  let d : Int := (s.datumNs : Int) - ago
  match disciplineRow (s.bit Reg.DTM_CTL 0) s.dtm.everSet (s.regNat Reg.DTM_STEP_US) t d s.datumNs with
  | .refused =>
    (((s.incReg Reg.DTM_SET_REFUSED).flag Reg.DTM_ERR_STAT Reg.DTM_ERR_EN 2 true).raise 0x7202 t 0, false)
  | .first delta =>
    let s := s.modDtm fun x =>
      { x with datum := x.datum + delta.toNat * nsUnits, everSet := true, slewing := false, offset := 0 }
    let s := s.modPwr fun p => { p with assayTimer := p.assayTimer + delta.toNat, assayDatum := p.assayDatum + delta.toNat }
    (((s.setPair Reg.DTM_LAST_SET_LO t).incReg Reg.DTM_SET_CNT), true)
  | .step ns =>
    let s := s.modDtm fun x => { x with datum := x.datum + ns * nsUnits, slewing := false, offset := 0 }
    let s := ((s.setPair Reg.DTM_LAST_SET_LO t).setPair Reg.DTM_GAP_LO ns).incReg Reg.DTM_SET_CNT
    (((s.setBits Reg.DTM_INT_STAT 1).raise 0x7201 ns 0).datumDeed, true)
  | .slew ns =>
    let s := s.modDtm fun x => { x with slewing := true, offset := ns * (nsUnits : Int) }
    (((s.setPair Reg.DTM_LAST_SET_LO t).incReg Reg.DTM_SET_CNT), true)

/-! Performance counter registers (R474 to R476). -/

/-- The countable events with the number of filter indexes of each, 0 where it has no filter (Table SVY-2). -/
def pmcEvents : List (Nat × Nat) := [
  (0x0001, 0), (0x2001, 2), (0x2002, 2), (0x2003, 2), (0x2004, 2), (0x2005, 2), (0x3001, 0), (0x3002, 0), (0x3003, 0),
  (0x3004, 0), (0x3005, 0), (0x3006, 0), (0x3007, 0), (0x4001, 0), (0x4002, 0), (0x4003, 0), (0x4004, 0), (0x5001, 32),
  (0x5002, 32), (0x5003, 32), (0x5004, 32), (0x5005, 32), (0x5006, 32), (0x5007, 40), (0x6001, 0), (0x6002, 0), (0x6003, 0),
  (0x9001, 2), (0x9002, 2), (0x9003, 0), (0xB001, 24), (0xB002, 24), (0xB003, 24), (0xB004, 24), (0xD001, 0), (0xD002, 0),
  (0xE001, 0)]

/-- The event exists and the filter is one listed for it, or 0xFF (R474). -/
def pmcCfgValid (event filter : Nat) : Bool :=
  match pmcEvents.lookup event with
  | some n => filter == 0xFF || decide (filter < n)
  | none => false

/-- PMC_CFG_WRITE (R474). -/
def execPmcCfgWrite (via : Via) (n : Fin 48) (v : Word) (s : State) : Res :=
  if !s.reaches via then .next s else
  let s := s.emit (.regWriteDone via (Reg.PMC_CFG n.val))
  if pmcCfgValid (bitsAt v.toNat 0 16) (bitsAt v.toNat 16 8) then
    .next (s.setNat (Reg.PMC_CFG n.val) (v.toNat &&& 0xF0FFFFFF))
  else .next (s.flag Reg.SVY_ERR_STAT Reg.SVY_ERR_EN 1 false)

/-- PMC_CNT_WRITE (R474): the written value plus the increment of the same cycle. -/
def execPmcCntWrite (via : Via) (n : Fin 48) (v : Word) (inc : Nat) (s : State) : Res :=
  if !s.reaches via then .next s else
  let s := (s.emit (.regWriteDone via (Reg.PMC_CNT n.val))).setReg (Reg.PMC_CNT n.val) v
  .next (if inc = 0 then s else s.pmcAdd 48 n.val (inc % 64) false 0 pmcNone)

/-- The requester's pair state. -/
def State.shadow (s : State) : Requester → Shadow
  | .bar2 => s.bar2
  | .mctp => s.mctp

/-- A read of counter n by a requester: its shadow where one is latched, and the counter chained to it is latched (R475). -/
def State.pmcRead (s : State) (q : Requester) (n : Nat) : Word × State :=
  let off := Reg.PMC_CNT n
  let v := match (s.shadow q).pmcShadow with
    | some (o, w) => if o = off then w else s.getReg off
    | none => s.getReg off
  let next := if s.pmcFeeds n then some (Reg.PMC_CNT (n + 1), s.getReg (Reg.PMC_CNT (n + 1))) else none
  (v, s.modShadow q fun x => { x with pmcShadow := next })

/-- PMC_CNT_READ (R475): a read of a counter latches the counter chained to it for the same requester. -/
def execPmcCntRead (via : Via) (n : Fin 48) (s : State) : Res :=
  if !s.reaches via then .next s else
  let r := s.pmcRead via.requester n.val
  .next (r.2.emit (.regRead via (Reg.PMC_CNT n.val) r.1))

/-- PMC_OVERFLOW (R476): the increments that take an enabled counter to 0 arrive. -/
def execPmcOverflow (n : Fin 48) (src : Nat) (arg : Nat) (s : State) : Res :=
  if s.bit (Reg.PMC_CFG n.val) 31 && s.bit Reg.PMC_CTL 31 && !s.bit Reg.PMC_CTL 0 then
    .next (s.pmcAdd 48 n.val (2 ^ 32 - s.regNat (Reg.PMC_CNT n.val))
      (bitsAt (s.regField (Reg.PMC_CFG n.val) 0 16) 12 4 == 0xB) src arg)
  else .next s

end Sys2Proof.Machine
end

