-- ==== Sys2Proof/Machine/Link.lean ====
section
/-! DEFINITION. The links (R58, R60, R91, R121, R122), link IDE (R67 to R70, R380), the HDM decoders (R65, R66) and the
answers of a port's DOE instance (R64). The DOE protocols are numbered in the order Table HPT-2 lists them: 0 Discovery,
1 CDAT table access, 2 CMA/SPDM, 3 secured CMA/SPDM, 4 CXL IDE_KM. -/

namespace Sys2Proof.Machine

/-! The link. -/

/-- Lanes of a port (Table HPT-1). -/
def State.lanes (s : State) : Nat := if s.conf.bifurc == 1 then 8 else 16

/-- The map of w lanes from lane `lo`. -/
def laneMap (lo w : Nat) : Nat := (2 ^ w - 1) * 2 ^ lo

/-- The widest of x16, x8, x4, x2 and x1 that a partner's width and the failed lanes leave, as a map of its lanes: the lowest
aligned group with no failed lane (R60; log entry 35). 0 when no lane works. -/
def laneGroup (lanes most failed : Nat) : Nat × Nat :=
  let fits := [16, 8, 4, 2, 1].filter fun w => decide (w ≤ lanes) && decide (w ≤ most)
  let groups := fits.flatMap fun w => ((List.range (lanes / w)).map fun k => (w, laneMap (k * w) w))
  (groups.find? fun g => g.2 &&& failed == 0).getD (0, 0)

/-- The link goes down: held responses are discarded with it (R121). -/
def Port.down (x : Port) : Port := { x with linkUp := false, width := 0, laneOk := 0, heldOut := [] }

/-- A port exists and its link is not disabled. -/
def State.linkable (s : State) (p : Nat) : Bool :=
  s.running && !s.sys.poweredDown && s.portPresent p && !s.bit (Reg.HPT_CTL p) 0

/-- HOST_LINK_TRAIN (R58, R60): the highest rate of the port's cap, MAX_RATE and the partner, over the lanes that work. The
cap counts rates below MAX_RATE (log entry 35). `flit68`: the partner asks for 68-byte flits. -/
def execHostLinkTrain (port : Fin 2) (rate : Fin 4) (width : Nat) (flit68 : Bool) (s : State) : Res :=
  let p := port.val
  if !s.linkable p then .next s
  else
    let r := min rate.val (s.conf.maxRate - s.regField (Reg.HPT_LINK_CTL p) 0 2)
    let (w, map) := laneGroup s.lanes width (s.regNat (Reg.HPT_LANE_FAIL p))
    if w = 0 then .next (s.modPort p Port.down)
    else
      let big := r == 3 || !(flit68 && s.conf.flit68 == 1)
      .next (s.modPort p fun x => { x with linkUp := true, rate := r, width := w, laneOk := map, flit256 := big })

/-- A lane has failed: the port retrains through Recovery at the same rate to the widest working width (R60). -/
def State.laneFails (s : State) (p lane : Nat) : State :=
  let s := (s.setBits (Reg.HPT_LANE_FAIL p) (2 ^ lane)).hptFlag p 0 true
  let s := ((s.setBits (Reg.HPT_INT_STAT p) 8).incReg (Reg.HPT_RETRAIN_CNT p)).raise 0x2101 lane p
  let (w, map) := laneGroup s.lanes (s.port p).width (s.regNat (Reg.HPT_LANE_FAIL p))
  if w = 0 then s.modPort p Port.down else s.modPort p fun x => { x with width := w, laneOk := map }

/-- One more uncorrectable flit error on a lane: its count within the running 1 ms window, and the window's start. -/
def laneErr (l : List (Nat × Nat × Nat)) (lane now : Nat) : Nat × Nat :=
  match l.find? fun e => e.1 == lane with
  | some (_, n, at_) => if now < at_ + 1000000 then (n + 1, at_) else (1, now)
  | none => (1, now)

/-- LANE_FAIL (R60): an uncorrectable flit error on a lane, whose flit is replayed, or the loss of its receiver lock. The 16th
error within 1 ms fails the lane. -/
def execLaneFail (port : Fin 2) (lane : Fin 16) (lock : Bool) (atNs : Nat) (s : State) : Res :=
  let s := s.clockTo atNs
  let p := port.val
  if !s.linkable p || !(s.port p).linkUp || !(s.port p).laneOk.testBit lane.val then .next s
  else if lock then .next (s.laneFails p lane.val)
  else
    let (n, at_) := laneErr (s.port p).laneErrs lane.val s.nowNs
    let s := s.incReg (Reg.HPT_FLIT_ERR_CNT p)
    let rest (x : Port) : List (Nat × Nat × Nat) := x.laneErrs.filter fun e => e.1 != lane.val
    if n < 16 then .next (s.modPort p fun x => { x with laneErrs := rest x ++ [(lane.val, n, at_)] })
    else .next ((s.modPort p fun x => { x with laneErrs := rest x }).laneFails p lane.val)

/-- LINK_DOWN (R121). -/
def execLinkDown (port : Fin 2) (s : State) : Res :=
  .next (if s.running && s.portPresent port.val then s.modPort port.val Port.down else s)

/-- LINK_DISABLE (R91): a write of HPT_CTL.LINK_DISABLE. -/
def execLinkDisable (via : Via) (port : Fin 2) (disable : Bool) (s : State) : Res :=
  if !s.reaches via then .next s else
  let p := port.val
  let s := s.emit (.regWriteDone via (Reg.HPT_CTL p))
  if !s.running || !s.portPresent p then .next s
  else if disable then .next ((s.setBits (Reg.HPT_CTL p) 1).modPort p Port.down)
  else .next (s.clearBits (Reg.HPT_CTL p) 1)

/-- LINK_RETRAIN (R91): the link enters Recovery and the bit clears itself. -/
def execLinkRetrain (via : Via) (port : Fin 2) (s : State) : Res :=
  if !s.reaches via then .next s else
  let p := port.val
  let s := s.emit (.regWriteDone via (Reg.HPT_CTL p))
  .next (if s.linkable p && (s.port p).linkUp then s.incReg (Reg.HPT_RETRAIN_CNT p) else s)

/-- FUNCTION_LEVEL_RESET (R91, R122): it completes once every accepted write of the port has installed. -/
def execFunctionLevelReset (port : Fin 2) (s : State) : Res :=
  let p := port.val
  if !s.running || !s.portPresent p then .next s
  else .next ((s.modPort p fun x => { x with flr := true }).settlePort port)

/-! Link IDE. -/

def State.modIde (s : State) (p : Nat) (f : Ide → Ide) : State := s.modPort p fun x => { x with ide := f x.ide }

/-- A MAC is checked on flits received in these states. -/
def Ide.covered (i : Ide) : Bool := i.state == .secure || i.state == .refreshWait

/-- IDE_RX_FLIT (R68): a MAC verifies, or the stream goes insecure. -/
def execIdeRxFlit (port : Fin 2) (macOk : Bool) (s : State) : Res :=
  let p := port.val
  if !s.running || !(s.port p).linkUp || !(s.port p).ide.covered then .next s
  else if macOk then .next (s.modIde p fun i => { i with rxIv := (i.rxIv + 1) % 2 ^ 64 })
  else
    let s := s.modIde p fun i => { i with state := .insecure, rxMacFail := true, waitSince := none }
    let s := s.modPort p fun x => { x with heldOut := [] }
    .next ((s.incReg (Reg.HPT_IDE_ERR_CNT p)).raise 0x2201 p 0)

/-- IDE_TX_MAC_FAIL_REPORT (R69): the error state in either mode; the record in the port's Failure log names the stream and,
in ARG1, whether data may have been consumed (log entry 36). -/
def execIdeTxMacFailReport (port : Fin 2) (s : State) : Res :=
  let p := port.val
  if !s.running || !(s.port p).linkUp || !(s.port p).ide.covered then .next s
  else
    let skid := if (s.port p).ide.skid then 1 else 0
    let s := ((s.modIde p fun i => { i with state := .error, waitSince := none }).hptFlag p 1 true).raise 0x2204 p skid
    .next (s.portCopy p { s.mkRec 0x2204 p skid with sev := 2 })

/-- IDE_IV_THRESHOLD (R70): the transmit counter reaches 2^63. -/
def execIdeIvThreshold (port : Fin 2) (s : State) : Res :=
  let p := port.val
  if !s.running || (s.port p).ide.state != .secure || decide (2 ^ 63 ≤ (s.port p).ide.txIv) then .next s
  else .next (((s.modIde p fun i => { i with txIv := 2 ^ 63 }).setBits (Reg.HPT_INT_STAT p) 4).raise 0x2202 p 0)

/-- IDE_IV_EXHAUST (R70): the counter would repeat; transmission stops, a second request is logged. -/
def execIdeIvExhaust (port : Fin 2) (atNs : Nat) (s : State) : Res :=
  let s := s.clockTo atNs
  let p := port.val
  if !s.running || (s.port p).ide.state != .secure then .next s
  else
    let now := s.nowNs
    let s := s.modIde p fun i => { i with state := .refreshWait, txIv := 2 ^ 64 - 1, waitSince := some now, waitMs := 0 }
    .next ((s.setBits (Reg.HPT_INT_STAT p) 4).raise 0x2202 p 1)

/-- IDE_REFRESH_TIMEOUT (R70, R201): a cycle after 10 ms without a K_SET_GO the stream is insecure; what it held is not sent. -/
def execIdeRefreshTimeout (port : Fin 2) (atNs : Nat) (s : State) : Res :=
  let s := s.clockTo atNs
  let p := port.val
  match (s.port p).ide.waitSince with
  | some t =>
    if !s.running || decide (s.nowNs ≤ t + 10000000) then .next s
    else
      let s := s.modIde p fun i => { i with state := .insecure, waitSince := none, waitMs := 10 }
      .next ((s.modPort p fun x => { x with heldOut := [] }).raise 0x2203 p 0)
  | none => .next s

/-- A message of IDE_KM is answered (R67). -/
def State.ideSay (s : State) (p : Fin 2) (fields : List Nat) : State := s.emit (.doe (.bar2 p) 4 fields)

/-- A port's DOE instance answers. -/
def State.doeOn (s : State) (p : Nat) : Bool := s.running && !s.sys.poweredDown && s.portPresent p

/-- The modes the host may choose: HPT_IDE_CTL within IDE_MODES. -/
def State.ideModes (s : State) (p : Nat) : Nat := s.regField (Reg.HPT_IDE_CTL p) 0 2 &&& s.conf.ideModes

/-- IDE_KM_QUERY (R67): the port, its two streams, two key sets, and the modes permitted. -/
def execIdeKmQuery (port : Fin 2) (s : State) : Res :=
  .next (if s.doeOn port.val then s.ideSay port [0, port.val, 2, 2, s.ideModes port.val] else s)

/-- The place of a key in a port's store: stream (0 CXL.cachemem, 1 PCIe link), direction (0 receive, 1 transmit), key set,
sub-stream (R380). -/
def idePlace (stream dir set sub : Nat) : Nat := stream * 32 + dir * 16 + set * 8 + sub

/-- Slot 14 or 15, when it is empty (R380). -/
def Cke.transitSlot (c : Cke) : Option Nat :=
  [14, 15].find? fun i => (c.slot i).key.isNone && !c.transit.any fun t => t.slot == i

/-- IDE_KM_KEY_PROG (R380): the key enters a transit slot, or waits while both are full. -/
def execIdeKmKeyProg (port : Fin 2) (stream dir set : Fin 2) (sub : Fin 8) (key : BitVec 256) (s : State) : Res :=
  let p := port.val
  if !s.doeOn p then .next s
  else
    let place := idePlace stream.val dir.val set.val sub.val
    let s : State := match s.cke.transitSlot with
      | some i => (s.modCke fun (c : Cke) => { c with transit := c.transit ++ [{ slot := i, port := p, place := place }] }).setSlot i (some key)
      | none => s.modCke fun (c : Cke) => { c with transitWait := c.transitWait ++ [(p, place, key)] }
    .next (s.ideSay port [1, stream.val, dir.val, set.val, sub.val])

/-- Both directions of a stream have their key of a set. -/
def Ide.hasSet (i : Ide) (stream set : Nat) : Bool :=
  [0, 1].all fun d => i.keys.any fun e => e.1 / 8 == idePlace stream d set 0 / 8

/-- IDE_KM_K_SET_GO (R67, R70): the set becomes active, in a mode that is permitted, and both counters start under it; from
REFRESH_WAIT a new set resumes transmission when it comes within 10 ms (R199). Without its keys, or in another mode, nothing
changes (log entry 36). -/
def execIdeKmKSetGo (port : Fin 2) (stream set : Fin 2) (skid : Bool) (atNs : Nat) (s : State) : Res :=
  let s := s.clockTo atNs
  let p := port.val
  let i := (s.port p).ide
  let allowed := (s.ideModes p).testBit (if skid then 1 else 0)
  if !s.doeOn p then .next s
  else if !i.hasSet stream.val set.val || !allowed then .next (s.ideSay port [3, stream.val, set.val, 0])
  else
    let s := s.ideSay port [3, stream.val, set.val, 1]
    if stream.val = 1 then .next (s.modIde p fun i => { i with io := some set.val })
    else
      let same := i.keySet == (set.val == 1)
      let go (i : Ide) : Ide :=
        { i with state := .secure, skid := skid, rxMacFail := false, keySet := set.val == 1, txIv := 0, rxIv := 0, waitSince := none }
      match i.waitSince with
      | some t =>
        let ms := (s.nowNs - t) / 1000000
        if same then .next s
        else if t + 10000000 < s.nowNs then .next s
        else
          let s := if s.nowNs = t + 10000000 then (s.incReg (Reg.HPT_TMO_NEAR p)).nearMiss 0x24 else s
          let held := (s.port p).heldOut
          let s := s.modPort p fun x => { x with heldOut := [], ide := { go x.ide with waitMs := ms } }
          .next (held.foldl (fun (s : State) o => s.respond port o) s)
      | none => if i.state == .secure && same then .next s else .next (s.modIde p go)

/-- IDE_KM_K_SET_STOP (R380): the set's keys leave the store; the stream that used it is insecure (log entry 36). -/
def execIdeKmKSetStop (port : Fin 2) (stream set : Fin 2) (s : State) : Res :=
  let p := port.val
  if !s.doeOn p then .next s
  else
    let gone (e : Nat × BitVec 256) : Bool := e.1 / 32 == stream.val && e.1 / 8 % 2 == set.val
    let s := s.modIde p fun i => { i with keys := i.keys.filter fun e => !gone e }
    let i := (s.port p).ide
    let s :=
      if stream.val = 1 then s.modIde p fun i => { i with io := if i.io == some set.val then none else i.io }
      else if i.covered && i.keySet == (set.val == 1) then
        (s.modIde p fun i => { i with state := .insecure, waitSince := none }).modPort p fun x => { x with heldOut := [] }
      else s
    .next (s.ideSay port [4, stream.val, set.val])

/-- IDE_KM_GET_KEY (R67): a key for the host to program, drawn for it; keys in the store are never read (log entry 36). A failed
entropy source gives none (R375). -/
def execIdeKmGetKey (port : Fin 2) (stream sub : Fin 2) (s : State) : Res :=
  if !s.doeOn port.val then .next s
  else if s.cke.rngFail then .next (s.rngFails.ideSay port [5, stream.val, sub.val])
  else
    let (s, k) := s.draw
    .next (s.ideSay port [5, stream.val, sub.val, k.toNat])

/-! HDM decoders (R65). -/

/-- 256 MiB. -/
def hdmUnit : Nat := 268435456

/-- The phases in which no decoder commits: MIGRATE, SANITIZE, COMMIT (Table PLT-14, R51). -/
def State.replatting (s : State) : Bool := [0xC, 0xD, 0xE].contains (s.regField Reg.PLT_STAT 16 4)

/-- Where the DPA range of decoder n starts: after those before it, plus its skip. -/
def Port.dpaStart (x : Port) (n skip : Nat) : Nat :=
  skip + ((x.decoders.take n).filter (·.committed)).foldl (fun m d => max m (d.dpaBase + d.dpaSize)) 0

/-- Lower decoders that forbid the order of decoder n: uncommitted, or with an HPA range that ends above its base. -/
def Port.disordered (x : Port) (n base : Nat) : Bool :=
  (x.decoders.take n).any fun d => !d.committed || decide (base < d.hpaBase + d.size)

/-- A range of port DPA covers a holding under crypto-erase, or Sanitize or Secure Erase runs. -/
def State.erasingIn (s : State) (p base size : Nat) : Bool :=
  s.svc.erasing || (holdingBases 0 s.conf.holdings).any fun e =>
    s.svc.erasingHoldings.contains e.1.id && match s.conf.toPort p (e.2.1 * 4096) with
      | some b => decide (b < base + size) && decide (base < b + e.2.2 * 4096)
      | none => false

/-- The code of the first check of Table HPT-3 that fails; 0 when all pass. -/
def State.decoderCheck (s : State) (p n hpa size skip ways gran : Nat) : Nat :=
  let x := s.port p
  let start := x.dpaStart n skip
  let len := size / max 1 ways
  if !s.inState [.ready, .readonly] then 1
  else if s.replatting then 2
  else if x.disordered n hpa then 3
  else if hpa % hdmUnit != 0 || size % hdmUnit != 0 || skip % hdmUnit != 0 then 4
  else if ! [1, 2, 4, 8].contains ways || ! [256, 512, 1024, 2048, 4096, 8192, 16384].contains gran then 5
  else if s.conf.portBytes p < start + len then 6
  else if s.erasingIn p start len then 7
  else 0

/-- HDM_DECODER_COMMIT (R65): the checks of Table HPT-3 in order. A decoder already committed stays as it is. -/
def execHdmDecoderCommit (port : Fin 2) (n : Fin 4) (hpa size skip ways gran : Nat) (lock : Bool) (s : State) : Res :=
  let p := port.val
  if !s.running || !s.portPresent p || decide (s.conf.decoders ≤ n.val) ||
      ((s.port p).decoders.getD n.val decoderInit).committed then .next s
  else
    let code := s.decoderCheck p n.val hpa size skip ways gran
    let d : Decoder :=
      { hpaBase := hpa, size := size, skip := skip, ways := ways, granularity := gran, lockOnCommit := lock, committed := code == 0,
        dpaBase := (s.port p).dpaStart n.val skip, dpaSize := size / max 1 ways, errNotCommitted := code != 0 }
    let s := s.modPort p fun x => { x with decoders := listSet x.decoders n.val d }
    .next (if code = 0 then s else s.setNat (Reg.HPT_DEC_ERR p) (n.val * 16 + code))

/-- HDM_DECODER_UNCOMMIT (R51): not of a decoder locked on commit. -/
def execHdmDecoderUncommit (port : Fin 2) (n : Fin 4) (s : State) : Res :=
  let p := port.val
  let d := (s.port p).decoders.getD n.val decoderInit
  if !s.running || !s.portPresent p || !d.committed || d.lockOnCommit then .next s
  else .next (s.modPort p fun x => { x with decoders := listSet x.decoders n.val { d with committed := false, errNotCommitted := false } })

/-! DOE (Table HPT-2). -/

/-- DOE_DISCOVERY: the protocol at an index, and the next index, 0 after the last. -/
def execDoeDiscovery (port : Fin 2) (index : Fin 5) (s : State) : Res :=
  .next (if s.doeOn port.val then s.emit (.doe (.bar2 port) 0 [index.val, if index.val = 4 then 0 else index.val + 1]) else s)

/-- The DSMAS entry of a holding (kind 0): HOLDING_ID, port DPA, bytes, non-volatile; and its DSLBIS entries (kind 1): read
latency and write latency in ns, read and write bandwidth in MB/s (R64, Table HPT-1). -/
def State.cdatOf (s : State) (p : Nat) (h : Holding) (base n : Nat) : List Nat :=
  let bw := if s.conf.bifurc == 1 then 60500 else 121000
  [0, h.id, (s.conf.toPort p (base * 4096)).getD 0, n * 4096, 1, 1, h.id, 198, 58, bw, bw]

/-- CDAT_TABLE_ACCESS (R64). -/
def execCdatTableAccess (port : Fin 2) (s : State) : Res :=
  let p := port.val
  if !s.doeOn p then .next s
  else
    let own := (holdingBases 0 s.conf.holdings).filter fun e => (s.conf.portMask p).testBit e.1.id
    .next (s.emit (.doe (.bar2 port) 1 (own.flatMap fun e => s.cdatOf p e.1 e.2.1 e.2.2)))

end Sys2Proof.Machine
end

