-- ==== Sys2Proof/Machine/Mailbox.lean ====
section
/-! DEFINITION. The mailbox (R72 to R80, R90, R406, R407, R427, R447, Tables HPT-4 to HPT-6, PFL-6): when a command runs, and the
commands of the CXL sets. Return codes are those of CXL mailboxes (log entry 33). -/

namespace Sys2Proof.Machine

/-! When a command runs. -/

/-- A command of this mailbox is still to be answered: a LINE_MAINT, a REPLAT WRITE or a SURVEY STROBE. -/
def State.mboxBusy (s : State) (via : Via) : Bool :=
  s.svc.strobing.contains via ||
  (match s.svc.writing with | some w => w.via == via && w.opcode == 0xC030 | none => false) ||
  match via with
  | .bar2 p => s.stg.maint.any fun m => m.port == p.val
  | .mctp => false

/-- The security and management role is in no engine's hands now (R396, R401). -/
def Eng.mgmtAway (e : Eng) : Bool :=
  e.roleLost || e.unplaced.contains securityRole || e.failovers.any fun f => f.roles.contains securityRole

/-- No command runs: FLUSH, SAFE and QUENCH, a reset flush, BOOT before its firmware runs, while the parameter store programs
or erases, while no engine serves the mailbox (R73, R306, R401, R427). -/
def State.mboxHeld (s : State) : Bool :=
  s.inState [.boot, .flush, .safe, .quench] || s.inFlush || s.pst.run.isSome || s.eng.mgmtAway

/-- The doorbell is set (HPT_MBOX_STAT); over MCTP there is none. -/
def State.ringMbox (s : State) (via : Via) : State :=
  match via with
  | .bar2 p => (s.modPort p.val fun x => { x with doorbell := true }).setBits (Reg.HPT_MBOX_STAT p.val) 1
  | .mctp => s

/-- A command that cannot run leaves its doorbell set; it runs when it is issued again (R73, R427). -/
def State.holdMbox (s : State) (via : Via) : State :=
  match via with
  | .bar2 p => if s.pst.run.isSome then (s.ringMbox via).setBits (Reg.HPT_MBOX_STAT p.val) 2 else s.ringMbox via
  | .mctp => s

/-- Opcodes answered as Unsupported in a DIAG without firmware (R407) and in one without a valid monument (R310). -/
def State.mboxShut (s : State) (op : Nat) : Bool :=
  s.sys.state == .diag &&
    ((s.svc.fwRun.isNone && ! [0x0001, 0x0200, 0x0201, 0x0202].contains op) ||
     (s.pfl.report.lost && ! [0x0001, 0x4200, 0x0401, 0x0200, 0x0201, 0x0202, 0x4400].contains op))

/-- A mailbox command arrives (R72, R73): `braced` is its answer in BRACED where it has one; `bg`: it needs the background
slot. -/
def State.mbox (s : State) (via : Via) (op : Nat) (braced : Option (Nat × Nat)) (bg : Bool) (run : State → State) : Res :=
  if !s.running || s.sys.poweredDown || !s.portPresent via.port || s.mboxBusy via then .next s
  else if s.mboxHeld then .next (s.holdMbox via)
  else if s.mboxShut op then .next (s.mboxReply via op 3 0 [])
  else match s.sys.state == .braced, braced with
    | true, some (ret, ext) => .next (s.mboxReply via op ret ext [])
    | _, _ => .next (if bg && s.svc.background.isSome then s.mboxReply via op 6 0 [] else run s)

/-- A command without any condition of its own. -/
def State.query (s : State) (via : Via) (op : Nat) (run : State → State) : Res := s.mbox via op none false run

/-- Retry Required in BRACED: the command needs a parameter-store write or a tract reset (R73). -/
def retryBraced : Option (Nat × Nat) := some (5, 0)

/-- The command has run: its output. -/
def State.done (s : State) (via : Via) (op : Nat) (fields : List Nat) : State := s.mboxReply via op 0 0 fields

/-- The command fails with a return code, or as a vendor command with an extended status (R81, Table HPT-7). -/
def State.fails (s : State) (via : Via) (op ret : Nat) : State := s.mboxReply via op ret 0 []
def State.vendorFails (s : State) (via : Via) (op ext : Nat) : State := s.mboxReply via op 2 ext []

/-- The background operation starts (R72): the slot is taken and the command answered. -/
def State.background (s : State) (via : Via) (op : Nat) : State :=
  (s.modSvc fun v => { v with background := some { via := via, opcode := op } }).mboxReply via op 1 0 []

/-- The map is in the device's hands: an image is accepted, and RECOVER is over. -/
def State.mapReady (s : State) : Bool := s.inState [.ready, .readonly, .locked, .braced, .diag] && s.plat.active.isSome

/-! Identify, background status (R72). -/

/-- IDENTIFY (R72): device ID, stepping, class code (Table HPT-2's configuration header). -/
def execIdentify (via : Via) (s : State) : Res :=
  s.query via 0x0001 fun s => s.done via 0x0001 [s.regField Reg.SYS_ID 12 16, s.regField Reg.SYS_ID 0 4, 0x050210]

/-- BACKGROUND_OPERATION_STATUS (R72): the opcode, percent, and once it has ended its return code. How far an operation is, is
not given (log entry 3). -/
def execBackgroundOperationStatus (via : Via) (s : State) : Res :=
  s.query via 0x0002 fun s =>
    match s.svc.background, s.svc.lastBackground with
    | some b, _ => (s.done via 0x0002 [b.opcode, (Config.freeWord s.free).toNat % 100, 0]).useFree
    | none, some (op, ret) => s.done via 0x0002 [op, 100, ret]
    | none, none => s.done via 0x0002 [0, 0, 0]

/-! Event records (R90). -/

/-- The fields of a record in a port log. -/
def recFields (r : EvrRec) : List Nat := [r.code, r.sev, r.seq, r.datum, r.arg0, r.arg1]

/-- GET_EVENT_RECORDS (R90): the overflow flag, the number of records, and the records, oldest first. -/
def execGetEventRecords (via : Via) (log : Fin 4) (s : State) : Res :=
  s.query via 0x0100 fun s =>
    let x := s.port via.port
    let l := x.logs.getD log.val []
    s.done via 0x0100 ([if x.logOvf.getD log.val false then 1 else 0, l.length] ++ l.flatMap recFields)

/-- CLEAR_EVENT_RECORDS (R90): all records of a log with its overflow flag, or those named by SEQ; a SEQ without a record clears
nothing. -/
def execClearEventRecords (via : Via) (log : Fin 4) (all : Bool) (seqs : List Nat) (s : State) : Res :=
  s.query via 0x0101 fun s =>
    let p := via.port
    let l := (s.port p).logs.getD log.val []
    if all then
      (s.modPort p fun x => { x with logs := listUpd x.logs log.val fun _ => [], logOvf := listUpd x.logOvf log.val fun _ => false }).done
        via 0x0101 []
    else if seqs.all fun q => l.any fun r => r.seq == q then
      (s.modPort p fun x => { x with logs := listUpd x.logs log.val fun l => l.filter fun r => !seqs.contains r.seq }).done via 0x0101 []
    else s.fails via 0x0101 0xE

/-- GET_EVENT_INTERRUPT_POLICY (R90). -/
def execGetEventInterruptPolicy (via : Via) (s : State) : Res :=
  s.query via 0x0102 fun s => s.done via 0x0102 [(s.port via.port).evtPolicy]

/-- SET_EVENT_INTERRUPT_POLICY (R90). -/
def execSetEventInterruptPolicy (via : Via) (policy : Word) (s : State) : Res :=
  s.query via 0x0103 fun s => (s.modPort via.port fun x => { x with evtPolicy := policy.toNat }).done via 0x0103 []

/-! Firmware (R406, R407). -/

/-- Whether the inactive firmware slot is B, and what it holds. -/
def State.fwSpare (s : State) : Bool := !s.config.activeFw
def Svc.fwSlot (v : Svc) (b : Bool) : Option FwSlot := if b then v.fwB else v.fwA
def State.setFwSlot (s : State) (b : Bool) (x : Option FwSlot) : State :=
  s.modSvc fun v => if b then { v with fwB := x } else { v with fwA := x }

/-- The page programs of a chunk that starts at a byte address; `fuel` bounds the pages. -/
def chunkPages : Nat → Nat → List Nat → List PstOp
  | 0, _, _ => []
  | fuel + 1, addr, bytes =>
    if bytes.isEmpty then []
    else
      let n := 256 - addr % 256
      .imagePage addr (bytes.take n) :: chunkPages fuel (addr + n) (bytes.drop n)

/-- The operations of a chunk: at offset 0 the slot's sectors are erased first (R85, R406). -/
def chunkOps (sector sectors offset : Nat) (bytes : List Nat) : List PstOp :=
  (if offset = 0 then (List.range sectors).map fun k => PstOp.erase (sector + k) .slot else []) ++
    chunkPages (bytes.length / 256 + 2) (sector * 65536 + offset) bytes

/-- GET_FW_INFO (R407): slots, the slot that runs (1 A, 2 B, 0 none), the pending one, the versions of A and B. -/
def execGetFwInfo (via : Via) (s : State) : Res :=
  s.query via 0x0200 fun s =>
    let num (x : Option Bool) : Nat := match x with | some false => 1 | some true => 2 | none => 0
    let ver (x : Option FwSlot) : Nat := (x.map (·.version)).getD 0
    s.done via 0x0200 [2, num s.svc.fwRun, num s.svc.fwPending, ver s.svc.fwA, ver s.svc.fwB]

/-- TRANSFER_FW (R406): a chunk of an image for the inactive slot, written in the background; `fw` is what the slot holds once
the image is whole, after the chunk marked `last`. -/
def execTransferFw (via : Via) (offset : Nat) (bytes : List Byte) (last : Bool) (fw : FwSlot) (s : State) : Res :=
  s.mbox via 0x0201 retryBraced true fun s =>
    let spare := s.fwSpare
    let have_ := ((s.svc.fwSlot spare).map (·.written)).getD 0
    let stop := offset + bytes.length
    if bytes.isEmpty || decide (4194304 < stop) then s.fails via 0x0201 2
    else if offset ≠ 0 ∧ offset ≠ have_ then s.fails via 0x0201 9
    else
      let slot : FwSlot := { fw with check := if last then fw.check else 1, written := stop }
      let ops := chunkOps (if spare then 64 else 0) 64 offset (bytes.map (·.toNat))
      let s := s.setFwSlot spare (if offset = 0 then none else some { slot with check := 1, written := offset })
      let s := s.modSvc fun v => { v with writing := some { via := via, opcode := 0x0201, failed := false, image := none, fw := some slot } }
      (s.modPst fun p => { p with queue := p.queue ++ ops }).background via 0x0201

/-- ACTIVATE_FW (R406): the inactive slot is recorded as pending. -/
def execActivateFw (via : Via) (slot : Fin 2) (s : State) : Res :=
  s.mbox via 0x0202 retryBraced false fun s =>
    if (slot == 1) == s.fwSpare then
      let b := s.fwSpare
      (s.queueConfig fun c => { c with pendFw := some b }).done via 0x0202 []
    else s.fails via 0x0202 0xB

/-! Time (R77, R195, R196). `ago`: ns from the doorbell, or the whole MCTP message, to now. -/

/-- GET_TIMESTAMP (R196): the datum at the doorbell. -/
def execGetTimestamp (via : Via) (ago : Nat) (s : State) : Res :=
  s.query via 0x0300 fun s => s.done via 0x0300 [s.datumNs - ago]

/-- SET_TIMESTAMP (R77, R195 to R197): a forward step ages the medium (R255). -/
def execSetTimestamp (via : Via) (t : Quad) (ago : Nat) (s : State) : Res :=
  s.query via 0x0301 fun s =>
    let set_ := s.dtm.everSet
    let before := s.datumNs
    let (s, ok) := s.discipline t.toNat ago
    if ok then (if set_ && decide (before < s.datumNs) then s.ageGap (s.datumNs - before) else s).done via 0x0301 []
    else s.fails via 0x0301 2

/-! Logs (R320, R447, Table HPT-6). -/

/-- The opcodes of Table HPT-4, as the CEL lists them. -/
def celOpcodes : List Nat :=
  [0x0001, 0x0002, 0x0100, 0x0101, 0x0102, 0x0103, 0x0200, 0x0201, 0x0202, 0x0300, 0x0301, 0x0400, 0x0401, 0x4000, 0x4102, 0x4103,
   0x4200, 0x4203, 0x4204, 0x4300, 0x4301, 0x4302, 0x4303, 0x4304, 0x4305, 0x4400, 0x4401] ++
  [0x4500, 0x4501, 0x4502, 0x4503, 0x4504, 0x4505, 0xC000, 0xC001, 0xC010, 0xC020, 0xC030, 0xC040, 0xC050]

/-- FLAGS of a monument (Table PFL-4). -/
def Monument.flags (m : Monument) : Nat :=
  (if m.short then 1 else 0) + (if m.metaShort then 2 else 0) + (if m.unflOvf then 4 else 0) + (if m.wtAtTrip then 8 else 0) +
    (if m.braced then 16 else 0) + if m.carried then 32 else 0

/-- The flush report as Get Log gives it (Table PFL-6). -/
def FlushReport.bytes (r : FlushReport) : List Nat :=
  let extra := (if r.monSkipped then 256 else 0) + if r.missing then 512 else 0
  match r.mon with
  | none => List.replicate 10 0 ++ leBytes extra 2 ++ List.replicate 52 0 ++ leBytes r.recoverMs 4 ++ List.replicate 12 0
  | some m =>
    let words (l : List Nat) : List Nat := l.flatMap fun n => leBytes n 4
    leBytes (if m.kind == .run then 0 else m.tripDatum) 8 ++ [m.kind.code, m.fromState] ++ leBytes (m.flags + extra) 2 ++
      words [m.gen % 2 ^ 32, m.sealUs, m.drainUs, m.monUs, r.restUs, m.sealMj, m.drainMj, m.monMj, r.restMj, m.usableAtTrip, m.drained,
             m.unflTotal, m.unflushed.length, r.recoverMs] ++
      List.replicate 12 0 ++ (m.unflushed.flatMap fun e => leBytes (e.1 * 4096) 8 ++ leBytes e.2.toNat 8) ++
      m.overflow.flatMap fun n => leBytes n 8

/-- The UUIDs of the logs: CEL (log entry 33), event recorder, flush report (Table HPT-6). -/
def logUuid : List Nat :=
  [0x0da9c0b5bf414b788f7996b1623b3f17, 0x5c1e9a402b7d4f089a630d41e8b27c55, 0xa93f0e1266c44b1d8e0731d5f2a9c860]

/-- GET_SUPPORTED_LOGS (R72): UUID and size in bytes of each log. -/
def execGetSupportedLogs (via : Via) (s : State) : Res :=
  s.query via 0x0400 fun s =>
    s.done via 0x0400 ((logUuid.zip [celOpcodes.length * 4, s.evr.readable.length * 32, s.pfl.report.bytes.length]).flatMap fun e => [e.1, e.2])

/-- The bytes of the CEL: each opcode with its effects, which the spec does not give (log entry 3). -/
def State.celBytes (s : State) : List Nat :=
  celOpcodes.zipIdx.flatMap fun e => leBytes e.1 2 ++ leBytes ((Config.freeWord (s.free + e.2)).toNat % 65536) 2

/-- GET_LOG (R447): 0 the CEL, 1 the event recorder's records from the oldest readable one, 2 the flush report. -/
def execGetLog (via : Via) (log : Fin 3) (offset length : Nat) (s : State) : Res :=
  s.query via 0x0401 fun s =>
    let cut (l : List Nat) : List Nat := (l.drop offset).take length
    match log.val with
    | 0 => (s.useFrees celOpcodes.length).done via 0x0401 (cut s.celBytes)
    | 1 =>
      if offset % 32 ≠ 0 ∨ length % 32 ≠ 0 then s.fails via 0x0401 2
      else s.done via 0x0401 (((s.evr.readable.drop (offset / 32)).take (length / 32)).flatMap fun r => recBytes r.1 (if r.2 then 0xFFFF else 0))
    | _ => s.done via 0x0401 (cut s.pfl.report.bytes)

/-! Memory device, LSA, health, shutdown state (R75, R76, R80). -/

/-- IDENTIFY_MEMORY_DEVICE (R75): total, persistent only and volatile only capacity and alignment in 256 MiB units, LSA bytes,
poison list and inject limits, poison handling (bit 0: injected poison persistent), QoS telemetry (bit 0: DevLoad). -/
def execIdentifyMemoryDevice (via : Via) (s : State) : Res :=
  s.query via 0x4000 fun s =>
    let units := s.conf.portBytes via.port / 268435456
    s.done via 0x4000 [units, units, 0, 0, 131072, 256, 64, 1, 1]

/-- GET_LSA (R76). -/
def execGetLsa (via : Via) (offset length : Nat) (s : State) : Res :=
  s.query via 0x4102 fun s =>
    if 131072 < offset + length then s.fails via 0x4102 2
    else if !s.mapReady then s.fails via 0x4102 5
    else s.done via 0x4102 ((memRead (s.port via.port).lsa offset length).map (·.toNat))

/-- SET_LSA (R76): it completes once both copies hold the bytes. -/
def execSetLsa (via : Via) (offset : Nat) (bytes : List Byte) (s : State) : Res :=
  s.query via 0x4103 fun s =>
    if 131072 < offset + bytes.length then s.fails via 0x4103 2
    else if !s.mapReady then s.fails via 0x4103 5
    else (s.modPort via.port fun x => { x with lsa := memWrite x.lsa offset bytes, lsaCopy := memWrite x.lsaCopy offset bytes }).done via 0x4103 []

/-- Channel `ch` has k tracts to give. -/
def bandsFit (free : List Nat) (k : Nat) : Bool := decide (17 * k ≤ (free.map (min k)).sum)

/-- Bands formable from the FREE tracts (CDS_EASE_BANDS): 17 channels to a band. -/
def State.easeBands (s : State) : Nat :=
  let v := s.allocEnv
  let free := s.conf.logical.map fun ch => ((List.range 8).map (s.cds.chanFree v ch)).sum
  (List.range 18).foldl (fun k b => if bandsFit free (k + 2 ^ (17 - b)) then k + 2 ^ (17 - b) else k) 0

/-- Health Status (Table HPT-5). -/
def State.healthBits (s : State) : Nat :=
  let care := s.pwr.bank == .degraded || decide (s.easeBands * 100 < 6 * (layoutOf s.conf).maxBands) || s.evr.memLost
  let lane := s.regNat (Reg.HPT_LANE_FAIL 0) != 0 || s.regNat (Reg.HPT_LANE_FAIL 1) != 0
  let slow := !s.writeBack || s.thm.applied != 0 || !s.eng.doubled.isEmpty || lane
  (if care then 1 else 0) + (if slow then 2 else 0) + if s.sys.state == .readonly then 4 else 0

/-- GET_HEALTH_INFO (R80, Table HPT-5): status, media status (0 Normal, 1 Not Ready), life used, temperature, Dirty Shutdown
Count, corrected error counts, volatile and persistent. -/
def execGetHealthInfo (via : Via) (s : State) : Res :=
  s.query via 0x4200 fun s =>
    let t := (s.thm.maxReading s.conf.crit).1.tdiv 16
    s.done via 0x4200
      [s.healthBits, if s.inState [.ready, .readonly] then 0 else 1, min 100 (s.cds.wearMax * 100 / 300000), int64 t % 65536,
       s.pst.counter 0, s.regNat Reg.STG_ECC_CORR, s.regNat Reg.MDC_PARITY_OK]

/-- GET_SHUTDOWN_STATE (R80): 0 Clean, 1 Dirty. -/
def execGetShutdownState (via : Via) (s : State) : Res :=
  s.query via 0x4203 fun s => s.done via 0x4203 [if s.svc.shutdownDirty then 1 else 0]

/-- SET_SHUTDOWN_STATE (R80): a deed records it. -/
def execSetShutdownState (via : Via) (dirty : Bool) (s : State) : Res :=
  s.mbox via 0x4204 retryBraced false fun s => (s.queueDeed 0 (.shutdown dirty)).done via 0x4204 []

/-! Poison and scan (R78). Addresses are port DPA, in bytes. -/

/-- The device line of a port DPA: 64-byte aligned and inside the capacity. -/
def State.portLine (s : State) (p dpa : Nat) : Option Nat :=
  if dpa % 64 = 0 ∧ dpa < s.conf.portBytes p then s.conf.fromPort p (dpa / 64) else none

/-- A range of port lines: not empty and inside the capacity. -/
def State.portRangeOk (s : State) (p first count : Nat) : Bool :=
  count != 0 && decide ((first + count) * 64 ≤ s.conf.portBytes p)

/-- The port DPAs of listed lines in a range of port lines, each with its source: 1 injected, 0 the device. -/
def State.poisonIn (s : State) (p first count : Nat) (l : List Nat) : List Nat :=
  let dpas := l.filterMap fun line => (s.conf.toPort p (line * 64)).map fun d => (d, line)
  (dpas.filter fun e => decide (first * 64 ≤ e.1) && decide (e.1 < (first + count) * 64)).flatMap fun e =>
    [e.1, if s.svc.injected.contains e.2 then 1 else 0]

/-- GET_POISON (R75, R78): up to 256 lines of the range; the first field counts them. -/
def execGetPoison (via : Via) (first count : Nat) (s : State) : Res :=
  s.query via 0x4300 fun s =>
    if !s.portRangeOk via.port first count then s.fails via 0x4300 0xF
    else
      let l := (s.poisonIn via.port first count s.svc.poison).take 512
      s.done via 0x4300 (l.length / 2 :: l)

/-- A staged copy of the line takes or loses its poison mark. -/
def State.markStaged (s : State) (line : Nat) : State :=
  match s.stg.find (line / 64) with
  | some (i, f) =>
    if Quad.at f.valid (line % 64) then s.modStg (·.onFrame i fun f => { f with poison := f.poison ||| oneBit (line % 64) }) else s
  | none => s

/-- INJECT_POISON (R75, R78): at most 64 lines hold injected poison. -/
def execInjectPoison (via : Via) (dpa : Nat) (s : State) : Res :=
  s.query via 0x4301 fun s =>
    match s.portLine via.port dpa with
    | none => s.fails via 0x4301 0xF
    | some line =>
      if !s.mapReady then s.fails via 0x4301 5
      else if s.svc.injected.contains line then s.done via 0x4301 []
      else if 64 ≤ s.svc.injected.length then s.fails via 0x4301 0x10
      else ((s.addPoison line).modSvc fun v => { v with injected := insertUniq line v.injected }).markStaged line |>.done via 0x4301 []

/-- CLEAR_POISON (R78): the poison ends and the 64 bytes are written through the port's buffer (log entry 38). A line that admits no
write now, or a full buffer, gives Retry Required. -/
def execClearPoison (via : Via) (dpa : Nat) (data : Line) (s : State) : Res :=
  s.query via 0x4302 fun s =>
    match s.portLine via.port dpa with
    | none => s.fails via 0x4302 0xF
    | some line =>
      if (s.admitLine line allLines).isSome then s.fails via 0x4302 5
      else match s.pushUnit via.port line dpa data with
        | some t => (t.dropPoison line).done via 0x4302 []
        | none => s.fails via 0x4302 5

/-- GET_SCAN_MEDIA_CAPABILITIES (R78): the time a scan takes is not given exactly (log entry 3). -/
def execGetScanMediaCapabilities (via : Via) (first count : Nat) (s : State) : Res :=
  s.query via 0x4303 fun s =>
    if s.portRangeOk via.port first count then (s.done via 0x4303 [(Config.freeWord s.free).toNat]).useFree
    else s.fails via 0x4303 0xF

/-- SCAN_MEDIA (R78). -/
def execScanMedia (via : Via) (first count : Nat) (s : State) : Res :=
  s.mbox via 0x4304 none true fun s =>
    if !s.portRangeOk via.port first count then s.fails via 0x4304 0xF
    else if !s.mapReady then s.fails via 0x4304 5
    else (s.modSvc fun v => { v with scan := some (via, first, count) }).background via 0x4304

/-- The medium copy of a line carries the poison mark, or its seal is not the one in force. -/
def State.markedCopy (s : State) (line : Nat) : Bool :=
  match (s.cds.lookup s.conf line).1 with
  | .place key _ => (mapFind s.med key).any fun m => m.poison || m.under != s.openSeal line
  | _ => false

/-- A listed line still reads as poison: injected, staged with the mark, or marked on the medium. -/
def State.stillPoison (s : State) (line : Nat) : Bool :=
  s.svc.injected.contains line ||
  match s.stg.find (line / 64) with
  | some (_, f) => if Quad.at f.valid (line % 64) then Quad.at f.poison (line % 64) else s.markedCopy line
  | none => s.markedCopy line

/-- SCAN_MEDIA_COMPLETE (R78): `lost` are the device lines the scan found lost; the list of the range is refreshed. -/
def execScanMediaComplete (lost : List Nat) (s : State) : Res :=
  match s.svc.scan with
  | none => .next s
  | some (via, first, count) =>
    if !s.running || !s.mapReady || s.inFlush then .next s
    else
      let inRange (line : Nat) : Bool := match s.conf.toPort via.port (line * 64) with
        | some d => decide (first * 64 ≤ d) && decide (d < (first + count) * 64)
        | none => false
      let found := lost.filter inRange
      let keep := s.svc.poison.filter fun l => !inRange l || found.contains l || s.stillPoison l
      let list := found.foldl (fun l n => insertUniq n l) keep
      .next ((s.modSvc fun v => { v with poison := list, scan := none, scanResults := list.filter inRange }).endBackground 0)

/-- GET_SCAN_MEDIA_RESULTS (R78): the lines of the last scan that read as poison. -/
def execGetScanMediaResults (via : Via) (s : State) : Res :=
  s.query via 0x4305 fun s =>
    let l := s.svc.scanResults.filterMap fun line => s.conf.toPort via.port (line * 64)
    s.done via 0x4305 (l.length :: l)

/-- UNSUPPORTED_OPCODE (R74). -/
def execUnsupportedOpcode (via : Via) (opcode : BitVec 16) (s : State) : Res :=
  if celOpcodes.contains opcode.toNat then .next s
  else s.query via opcode.toNat fun s => s.fails via opcode.toNat 3

end Sys2Proof.Machine
end

