-- ==== Sys2Proof/Machine/Layout.lean ====
section
/-! DEFINITION. Laying out the medium (R39, R47, R166, R175, R184, R307): the bands of the monuments, the checkpoint and the dump
reservation, the ordinals of the log. -/

namespace Sys2Proof.Machine

/-- A tract as a reset of the whole medium leaves it: FREE with one more reset where it held something, RETIRED ones stay. -/
def Tract.wiped (t : Tract) : Tract :=
  if t.st == .retired then t else { tractInit with resets := t.resets + if t.st == .free then 0 else 1 }

/-- Rotate a list left by k. -/
def rotate {α : Type} (l : List α) (k : Nat) : List α := l.drop k ++ l.take k

/-- The members of a copy B band so placed that no parcel lies on the channel of the same parcel of copy A (R307). -/
def offChannel (a b : List (Nat × Nat × Nat)) : List (Nat × Nat × Nat) :=
  (((List.range 17).map (rotate b)).find? fun l => (a.zip l).all fun e => e.1.1 != e.2.1).getD b

/-- Form a band of a use and add it; nothing where none can be formed. -/
def Cds.addFormed (c : Cds) (v : AllocEnv) (stamps : List Nat) (role : BandRole) (ordinal : Option Nat) (now : Nat)
    (twin : Option Nat) : Cds :=
  match c.formBand v stamps role ordinal 0 true false true now with
  | none => c
  | some (id, b) =>
    match twin.bind c.band with
    | some a => c.addBand id { b with members := offChannel a.members b.members }
    | none => c.addBand id b

/-- The eight monument bands, in ascending ID: sets 0 and 1, in each the two bands of copy A, then those of copy B (R307). -/
def Cds.addMonuments (c : Cds) (v : AllocEnv) (stamps : List Nat) (now : Nat) : Cds :=
  [none, none, some 0, some 1, none, none, some 4, some 5].foldl (fun c t => c.addFormed v stamps .monument none now t) c

/-- Reserve the next band of the dump reservation under a spare ordinal (R184). -/
def Cds.addDump (c : Cds) (v : AllocEnv) (stamps : List Nat) (now : Nat) : Cds :=
  match c.ordinalsSpare with
  | [] => c
  | o :: rest =>
    match c.formBand v stamps .dump (some o) 0 true false true now with
    | none => c
    | some (id, b) => { c.addBand id b with ordinalsSpare := rest, dumpBands := c.dumpBands ++ [id] }

/-- The map of a medium laid out afresh over its tracts. -/
def layoutCds (p : Plat) (v : AllocEnv) (stamps : List Nat) (tracts : SMap Tract) (now : Nat) : Cds :=
  let log := (layoutOf p).log
  let c := { cdsInit with tracts := tracts, ordinalsFree := List.range log, ordinalsSpare := (List.range (2 * p.dumpBands)).map (log + ·) }
  let c := c.addMonuments v stamps now
  let c := (List.range p.ckptBands).foldl (fun c _ => c.addFormed v stamps .checkpoint none now none) c
  let c := (List.range p.dumpBands).foldl (fun c _ => c.addDump v stamps now) c
  { c with mergeReserve := min 34 (c.freeTracts p) }

/-- The medium is laid out from the configuration in force; RECOVER then loads this map (R47). -/
def State.layOut (s : State) : State :=
  let p := s.conf
  let v : AllocEnv := { plat := p, wmin := s.saved.cds.wearMin p, width := s.regNat Reg.CDS_BIN_WIDTH, gone := s.mdc.retired }
  let c := layoutCds p v s.mdc.clocks s.saved.cds.tracts s.nowNs
  s.modSaved fun v => { v with cds := c, ctr := [], quar := [], root := imeInit.root }

/-- The roles of bands that a Sanitize leaves: monuments, the checkpoint, the dump reservation. -/
def BandRole.kept : BandRole → Bool
  | .monument | .checkpoint | .dump => true
  | _ => false

/-- Every tract of every holding, of the log and of the integrity metadata is reset (R79): the map is empty, the bands of the
monuments, the checkpoint and the dump reservation stay. -/
def Cds.wipe (c : Cds) (p : Plat) : Cds :=
  let bands := c.bands.filter fun e => e.2.role.kept
  let keep := bands.flatMap fun e => e.2.tracts
  let used := bands.filterMap fun e => e.2.ordinal
  let free := (List.range p.ordinals).filter fun o => !used.contains o
  let spare := 2 * p.dumpBands - c.dumpBands.length
  { cdsInit with
    bands := bands, planes := c.planes, dumpBands := c.dumpBands, dumpUsed := c.dumpUsed, mergeReserve := c.mergeReserve,
    tracts := c.tracts.map fun e => (e.1, if keep.contains e.1 then e.2 else e.2.wiped),
    work := c.work.filter fun w => match w.kind with | .checkpoint _ | .patrol => true | _ => false, workBorn := c.workBorn,
    dirtyPages := c.dirtyPages, journal := c.journal, ckptBusy := c.ckptBusy, ckptAll := c.ckptAll, heatAt := c.heatAt,
    ordinalsSpare := free.take spare, ordinalsFree := free.drop spare }

end Sys2Proof.Machine
end

