-- ==== Sys2Proof/Machine/Security.lean ====
section
/-! DEFINITION. Erasing and the passphrase (R79, R84, R377 to R379, Table CKE-5): the mailbox commands 0x4400 to 0x4505 and
HOLDING_CRYPTO_ERASE, and the ends of Sanitize and Secure Erase. -/

namespace Sys2Proof.Machine

/-! Key-wrap records in force (R376). -/

/-- The record in force of a KEY_REF and generation. -/
def Pst.wrapRec (p : Pst) (keyRef gen : Nat) : Option WrapRec :=
  match p.deed 0x10 (keyRef + gen % 4 * 256) with
  | some (.keyWrap w) => if w.gen = gen then some w else none
  | _ => none

/-- The records in force that hold a key of a KEY_REF. -/
def Pst.wrapRecs (p : Pst) (keyRef : Nat) : List WrapRec :=
  p.inForce.filterMap fun e => match e.2.2 with
    | .keyWrap w => if w.keyRef = keyRef ∧ w.present then some w else none
    | _ => none

/-- Unwrap a record with a wrapping key: the key, or none where the tag fails (R376). -/
def WrapRec.open (w : WrapRec) (k : BitVec 256) : Option (BitVec 256) :=
  let ct := byteList w.wrapped.toNat 32
  if Config.gcmTag k w.iv (wrapHeader w.keyRef 0 (if w.underPk then 1 else 0) w.gen) ct = w.tag then
    some (BitVec.ofNat 256 (bytesNat (Config.gcmCrypt k w.iv ct)))
  else none

/-- The passphrase holdings. -/
def Plat.passHoldings (p : Plat) : List Holding := p.holdings.filter (·.passlock)

/-- The records of PASSLOCK holdings that are wrapped under a passphrase. -/
def State.pkRecs (s : State) : List WrapRec :=
  s.conf.passHoldings.flatMap fun h => (s.pst.wrapRecs h.keyRef).filter (·.underPk)

/-- A passphrase is right: it unwraps every record under PK; without one it is compared with the one set (R377). -/
def State.passOk (s : State) (pass : BitVec 256) : Bool :=
  let l := s.pkRecs
  if l.isEmpty then s.svc.security.passphrase == some pass else l.all fun w => (w.open (s.passKey pass)).isSome

/-- A failed unwrap under PK (R376, R379). -/
def State.passWrong (s : State) (via : Via) (op : Nat) : State :=
  ((s.passFail.incReg Reg.CKE_TAG_FAIL_CNT).flag Reg.CKE_ERR_STAT Reg.CKE_ERR_EN 6 false).fails via op 0x14

/-- Wrap the keys of the PASSLOCK holdings again, same generations, under `new` or under the KEK (Table CKE-5). -/
def State.rewrap (s : State) (old new : Option (BitVec 256)) : State :=
  let recs := s.conf.passHoldings.flatMap fun h => s.pst.wrapRecs h.keyRef
  recs.foldl (fun (s : State) w =>
    let k := if w.underPk then (old.map s.passKey).getD 0 else (s.cke.slot 2).key.getD 0
    match w.open k with
    | some d =>
      let (s, w) := s.wrapKey w.keyRef w.gen new (some d)
      s.queueWrap w
    | none => s.raise 0xA104 w.keyRef 0) s

/-! Erasing keys (R79, R84, Table CKE-5). -/

/-- The keys of a holding are replaced: generation CUR + 2 fresh, CUR and any NEXT destroyed. A locked holding's fresh key is
wrapped under the KEK. -/
def State.eraseKeys (s : State) (h : Holding) : State :=
  let r := s.ime.rekey h.id
  let (s, w) := s.freshKey (if r.locked then { h with passlock := false } else h) (r.cur + 2)
  let s := s.queueWrap w
  let (s, d) := s.wrapKey h.keyRef r.cur none none
  let s := s.queueWrap d
  if r.active then
    let (s, d) := s.wrapKey h.keyRef (r.cur + 1) none none
    s.queueWrap d
  else s

/-- A command that needs a random key fails while the source has failed (R375). -/
def State.drawn (s : State) (via : Via) (op : Nat) (run : State → State) : State :=
  if s.cke.rngFail then s.fails via op 4 else run s

/-- SANITIZE (R79, R310): the keys of every holding are replaced; the resets are taken at SANITIZE_COMPLETE. -/
def execSanitize (via : Via) (s : State) : Res :=
  s.mbox via 0x4400 retryBraced true fun s =>
    if !(s.mapReady || s.pfl.report.lost) then s.fails via 0x4400 5
    else s.drawn via 0x4400 fun s =>
      let s := s.modSvc fun v => { v with erasing := true }
      let s := s.conf.holdings.foldl State.eraseKeys s
      (s.pstQueue (.tally 3 1)).background via 0x4400

/-- SECURE_ERASE (R79). -/
def execSecureErase (via : Via) (s : State) : Res :=
  s.mbox via 0x4401 retryBraced true fun s =>
    if !s.mapReady then s.fails via 0x4401 5
    else s.drawn via 0x4401 fun s =>
      let s := s.modSvc fun v => { v with erasing := true }
      (s.conf.holdings.foldl State.eraseKeys s).background via 0x4401

/-- The parameter store still has a key record or the sanitize count to write. -/
def Pst.erasePending (p : Pst) : Bool :=
  let due (o : PstOp) : Bool := match o with
    | .deed _ (.keyWrap _) => true
    | .tally 3 _ => true
    | _ => false
  p.queue.any due || match p.run with | some r => due r.op | none => false

/-- The operation of an opcode is running and its keys are persistent: it may end. -/
def State.eraseEnds (s : State) (op : Nat) : Bool :=
  s.running && s.svc.erasing && !s.inFlush && !s.pst.erasePending &&
    (s.svc.background.map (·.opcode)) == some op

/-- Merges in progress are given up: their targets go back. -/
def Cds.dropMerges (c : Cds) (gone : List Nat) : Cds :=
  let ids := c.merges.map (·.2.1)
  let c := ids.foldl (fun (c : Cds) id => (c.dropBand gone id).resetWork (((c.band id).map Band.tracts).getD [])) c
  { c with merges := [], records := c.records.map fun e => (e.1, { e.2 with postCut := false }),
           plots := c.plots.filterMap fun e => let x := { e.2 with merging := false }
                                               if x = plotNone then none else some (e.1, x) }

/-- Every mapping of every holding is released (R79): base bands, and every record of the log. -/
def Cds.releaseAll (c : Cds) (p : Plat) (gone : List Nat) : Cds :=
  let c := c.dropMerges gone
  let logged := (c.records.filter fun e => isHostParcel e.2.parcel).map fun e => parcelPlot e.2.parcel
  let based := (c.plots.filter fun e => e.2.valid).map (·.1)
  let plots := ((based ++ logged).filter fun n => decide (n < metaPlot)).eraseDups
  { plots.foldl (fun c n => c.dropPlot p gone n) c with wtSlots := [], release := none, releases := [], marked := [] }

/-- Counters, quarantine, poison and frames belong to data that is gone (R79). -/
def State.forgetData (s : State) : State :=
  let s := s.modStg fun g =>
    (g.frames.filter fun e => e.2.st == .inUse).foldl (fun g e => g.freeFrame e.1)
      { g with wbt := [], fills := g.fills.map fun f => { f with install := false } }
  let s := s.modSvc fun v => { v with poison := [], injected := [], erasing := false, erasingHoldings := [] }
  s.modIme fun m => { m with ctr := [], pct := [], pctWait := false, quar := [], metaDirty := [] }

/-- SECURE_ERASE_COMPLETE (R79): every mapping is released, no tract is reset. -/
def execSecureEraseComplete (atNs : Nat) (s : State) : Res :=
  let s := s.clockTo atNs
  if !s.eraseEnds 0x4401 then .next s
  else
    let p := s.conf
    let gone := s.mdc.retired
    let before := s.cds.bands
    let s := s.forgetData.mapCommit [] fun c => c.releaseAll p gone
    let s := s.modSaved fun v => { v with ctr := [], quar := [] }
    .next ((s.afterRetire before 0).endBackground 0)

/-- Sanitize of a medium without a valid monument (R310): every band goes, the monuments with them; the device then restarts. -/
def State.sanitizeLost (s : State) : State :=
  let tracts := s.cds.tracts.map fun e => (e.1, e.2.wiped)
  let s := s.forgetData.modCds fun _ => { cdsInit with tracts := tracts }
  let s := s.modPfl fun p => { p with set0 := emptySet, set1 := emptySet, newest := 0, ckptGen := 0 }
  let s := (s.modMed fun _ => []).modTrv fun t => { t with programmed := [] }
  let s := s.saveMap.queueConfig fun c => { c with fp := none }
  (s.endBackground 0).performReset .sanitizeDone

/-- Sanitize of a medium that carries its map (R79): only the bands of the monuments, the checkpoint and the dump reservation
stay; the device's own keys are new, every counter starts afresh. -/
def State.sanitizeMap (s : State) : State :=
  let p := s.conf
  let keep := (s.cds.bands.filter fun e => e.2.role.kept).flatMap fun e => e.2.tracts
  let held (k : Nat) : Bool := keep.contains k
  let s := s.forgetData.modCds fun c => c.wipe p
  let s := s.modMed fun m => m.filter fun e => held (tractKey (keyDie e.1) (keyTract e.1 % 16384))
  let s := s.modTrv fun t => { t with programmed := t.programmed.filter fun e => held (e.1 / 512) }
  let s := s.modMdc fun m => { m with stripes := [], stripeFull := false, rebuild := none }
  let s := s.modIme fun m => { m with devKeys := some (s.pst.counter 3) }
  s.saveMap

/-! The passphrase (R377 to R379). -/

/-- A security command: refused while frozen, and, where it needs the passphrase, once the attempts are used up; it waits
while rewrapped keys are not persistent yet. -/
def State.secured (s : State) (via : Via) (op : Nat) (counted : Bool) (run : State → State) : State :=
  let x := s.svc.security
  if x.frozen || (counted && x.exhausted) then s.fails via op 0x13
  else if s.pst.wrapQueued then s.holdMbox via
  else run s

/-- GET_SECURITY_STATE (R377 to R379): bit 0 a passphrase is set, 1 locked, 2 frozen, 3 the attempts are used up. -/
def execGetSecurityState (via : Via) (s : State) : Res :=
  s.query via 0x4500 fun s =>
    let x := s.svc.security
    let locked := s.ime.rekeys.any fun e => e.2.locked
    s.done via 0x4500 [(if x.passphrase.isSome then 1 else 0) + (if locked then 2 else 0) + (if x.frozen then 4 else 0) +
      if x.exhausted then 8 else 0]

/-- The attempts count consecutive failures. -/
def State.passRight (s : State) : State := s.modSvc fun v => { v with security := { v.security with fails := 0 } }

/-- What the passphrase becomes; it takes effect at once where no key has to be rewrapped. -/
def State.setPass (s : State) (p : Option (BitVec 256)) : State :=
  (s.modSvc fun v => { v with security := { v.security with next := some p } }).settlePass

/-- SET_PASSPHRASE (R377). -/
def execSetPassphrase (via : Via) (master : Bool) (cur new : BitVec 256) (s : State) : Res :=
  s.mbox via 0x4501 retryBraced false fun s => s.secured via 0x4501 true fun s =>
    if master then s.fails via 0x4501 2
    else if s.svc.security.passphrase.isSome && !s.passOk cur then s.passWrong via 0x4501
    else ((s.passRight.rewrap (some cur) (some new)).setPass (some new)).done via 0x4501 []

/-- DISABLE_PASSPHRASE (R377): without a passphrase there is none to disable. -/
def execDisablePassphrase (via : Via) (cur : BitVec 256) (s : State) : Res :=
  s.mbox via 0x4502 retryBraced false fun s => s.secured via 0x4502 true fun s =>
    if s.svc.security.passphrase.isNone then s.fails via 0x4502 0x13
    else if !s.passOk cur then s.passWrong via 0x4502
    else ((s.passRight.rewrap (some cur) none).setPass none).done via 0x4502 []

/-- The keys of locked holdings are loaded. -/
def State.unlockKeys (s : State) : State :=
  let ids := (s.ime.rekeys.filter fun e => e.2.locked && (s.conf.holding e.1).any (·.passlock)).map (·.1)
  let s := s.modIme fun m =>
    { m with rekeys := m.rekeys.map fun e => (e.1, { e.2 with locked := e.2.locked && !ids.contains e.1 }),
             loaded := m.loaded.filter (fun e => !ids.contains e.1) ++ ids.map fun h => (h, (m.rekey h).cur) }
  s.modSvc fun v => { v with security := { v.security with unlocked := true } }

/-- UNLOCK (R378, Table APP-8): out of LOCKED the device goes to READY, or READONLY under its condition. -/
def execUnlock (via : Via) (pass : BitVec 256) (s : State) : Res :=
  s.mbox via 0x4503 none false fun s => s.secured via 0x4503 true fun s =>
    if !s.ime.rekeys.any fun e => e.2.locked then s.fails via 0x4503 0x13
    else if !s.passOk pass then s.passWrong via 0x4503
    else
      let s := (s.passRight.unlockKeys).modSvc fun v => { v with security := { v.security with passphrase := some pass } }
      (if s.sys.state == .locked then s.goReady.checkReadonly else s).done via 0x4503 []

/-- FREEZE_SECURITY_STATE (R378). -/
def execFreezeSecurityState (via : Via) (s : State) : Res :=
  s.query via 0x4504 fun s => s.secured via 0x4504 false fun s =>
    (s.modSvc fun v => { v with security := { v.security with frozen := true } }).done via 0x4504 []

/-- PASSPHRASE_SECURE_ERASE (R379): the keys of every PASSLOCK holding are replaced, and the passphrase is cleared. -/
def execPassphraseSecureErase (via : Via) (master : Bool) (s : State) : Res :=
  s.mbox via 0x4505 retryBraced true fun s => s.secured via 0x4505 false fun s =>
    if master then s.fails via 0x4505 2
    else if !s.mapReady then s.fails via 0x4505 5
    else s.drawn via 0x4505 fun s =>
      let l := s.conf.passHoldings
      let s := s.modSvc fun v =>
        { v with erasingHoldings := l.foldl (fun l h => insertUniq h.id l) v.erasingHoldings,
                 security := { v.security with next := some none } }
      let s := (l.foldl (fun s h => s.eraseKeys { h with passlock := false }) s).background via 0x4505
      if l.isEmpty then s.settlePass.endBackground 0 else s

/-- HOLDING_CRYPTO_ERASE (R84): a holding that no committed decoder covers. -/
def execHoldingCryptoErase (via : Via) (id : Nat) (rsvOk : Bool) (s : State) : Res :=
  s.mbox via 0xC020 retryBraced true fun s =>
    match (holdingBases 0 s.conf.holdings).find? fun e => e.1.id == id with
    | none => s.vendorFails via 0xC020 8
    | some (h, base, n) =>
      let covers (p : Nat) : Bool := match s.conf.toPort p (base * 4096) with
        | some d => (s.port p).decoders.any fun x =>
            x.committed && decide (d < x.dpaBase + x.dpaSize) && decide (x.dpaBase < d + n * 4096)
        | none => false
      if !rsvOk then s.vendorFails via 0xC020 8
      else if covers 0 || covers 1 then s.vendorFails via 0xC020 2
      else if !s.mapReady then s.vendorFails via 0xC020 3
      else s.drawn via 0xC020 fun s =>
        let s := s.modSvc fun v => { v with erasingHoldings := insertUniq h.id v.erasingHoldings }
        (s.eraseKeys h).background via 0xC020

end Sys2Proof.Machine
end

