-- ==== Sys2Proof/Machine/Replat.lean ====
section
/-! DEFINITION. Replat (R48 to R54, R85, R387, Tables PLT-14 to PLT-16, HPT-10): the sub-operations of the command, the classes, and
the migration that the background scheduler carries out. -/

namespace Sys2Proof.Machine

/-! Validation of a replat image. -/

/-- The dies that READ_ID found on each channel, none where the channel was not read. -/
def State.mediumDies (s : State) : List (Option Nat) :=
  s.trv.channels.map fun c => if c.dieMask = 0 then none else some ((List.range 4).filter c.dieMask.testBit).length

/-- What validation reads of the device; `pending`: a recorded owner change counts (R387). -/
def State.platEnv (s : State) (pending : Bool) : PlatEnv :=
  let owner := match pending, s.cke.pendOwner with
    | true, some x => x
    | _, _ => s.cke.owner
  { step := s.regField Reg.SYS_ID 0 4, svnMin := s.pst.counter 1, enrolled := owner.isSome, medium := s.mediumDies }

/-- The holding of an ID, its first parcel and its parcels. -/
def Plat.baseOf (p : Plat) (id : Nat) : Option (Holding × Nat × Nat) := (holdingBases 0 p.holdings).find? fun e => e.1.id == id

/-- A range of parcels holds mapped or staged data. -/
def State.mappedIn (s : State) (lo n : Nat) : Bool :=
  let hit (q : Nat) : Bool := decide (lo ≤ q) && decide (q < lo + n)
  s.cds.plots.any (fun e => e.2.valid && decide (lo < (e.1 + 1) * 8192) && decide (e.1 * 8192 < lo + n)) ||
    s.cds.records.any (fun e => e.2.live && !e.2.zero && hit e.2.parcel) ||
    s.stg.frames.any fun e => e.2.isDirty && hit e.2.parcel

/-- The holdings of the old layout that hold data. -/
def State.dataHoldings (s : State) : List (Holding × Nat × Nat) :=
  (holdingBases 0 s.conf.holdings).filter fun e => s.mappedIn e.2.1 e.2.2

/-- Units of the holdings with INTEGRITY. -/
def Plat.integUnits (p : Plat) : Nat := ((p.holdings.filter (·.integrity)).map (·.units)).sum

/-- Pairs locked or unlocked, or a channel with mapped tracts disabled (Table PLT-15). -/
def State.channelsMove (s : State) (new : Plat) : Bool :=
  let old := s.conf
  (List.range 32).any fun n =>
    (byteOf old.channel n == 1) != (byteOf new.channel n == 1) ||
    (byteOf new.channel n == 2 && byteOf old.channel n != 2 && s.cds.bands.any fun e => e.2.members.any fun m => m.1 == n)

/-- A holding with data whose lines a data move rebuilds. -/
def State.rebuilds (s : State) (new : Plat) (e : Holding × Nat × Nat) : Bool :=
  s.channelsMove new || match new.baseOf e.1.id with
    | some (h, base, _) => base != e.2.1 || h.integrity != e.1.integrity || h.mirror != e.1.mirror
    | none => false

/-- The class of a replat (R48, Table PLT-15): 1 light, 2 map-only, 3 data move, 4 sanitize. -/
def State.replatClass (s : State) (new : Plat) : Nat :=
  let old := s.conf
  let keyed := old.holdings.any fun h => (new.baseOf h.id).any fun e => e.1.keyRef != h.keyRef
  if old.diesPerCh ≠ new.diesPerCh || keyed then 4
  else if s.dataHoldings.any (s.rebuilds new) || s.channelsMove new || (old.integUnits != new.integUnits && !s.dataHoldings.isEmpty) then 3
  else
    let light : Plat :=
      { new with temper1 := old.temper1, step := old.step, crit := old.crit, quench := old.quench, quenchMs := old.quenchMs,
                 restart := old.restart, restartS := old.restartS, rise := old.rise, bgShare := old.bgShare, bgCrit := old.bgCrit,
                 logCrit := old.logCrit, weights := old.weights, evRate := old.evRate, evBurst := old.evBurst, evOver := old.evOver }
    if light = old then 1 else 2

/-- Bands of a holding under a layout (R52). -/
def Plat.holdingBands (p : Plat) (h : Holding) : Nat :=
  let plots := h.units * 64
  let ctr := ceilDiv plots 64
  plots + ceilDiv (plots * p.logShare) 256 + if h.integrity then ceilDiv plots 8 + ctr + treeBands ctr else 0

/-- A migration of a class fits (R52). -/
def State.migFits (s : State) (new : Plat) (cls : Nat) : Bool :=
  if cls ≠ 3 then true
  else
    let l := layoutOf new
    let most := (((s.dataHoldings.filter (s.rebuilds new)).map fun e => s.conf.holdingBands e.1)).foldl max 0
    decide ((l.used + most) * 100 ≤ l.maxBands * (100 - new.minEase))

/-- A removed or shrunk range still holds mapped data (R51). -/
def State.unreleased (s : State) (new : Plat) : Bool :=
  (holdingBases 0 s.conf.holdings).any fun (h, base, n) =>
    let left := match new.baseOf h.id with
      | some (_, _, m) => m
      | none => 0
    decide (left < n) && s.mappedIn (base + left) (n - left)

/-! Refusals. -/

def State.platPhase (s : State) : Nat := s.regField Reg.PLT_STAT 16 4
def State.setPlatPhase (s : State) (n : Nat) : State := s.setField Reg.PLT_STAT 16 4 n

/-- PLT_ERR takes a failure. -/
def State.setPlatErr (s : State) (e : PlatErr) : State :=
  (s.setNat Reg.PLT_ERR (e.code * 2 ^ 24 + e.phase * 2 ^ 20 + e.sec)).setNat Reg.PLT_ERR_OFFSET e.off

/-- A replat is pending or under way. -/
def State.replatBusy (s : State) : Bool := s.plat.pend.isSome || s.plat.lightDeed || [9, 0xC, 0xD, 0xE].contains s.platPhase

/-- APPLY fails: PLT_ERR, the failed phase, the interrupt flag and the record (R85, Table PLT-13). -/
def State.replatFails (s : State) (via : Via) (cls : Nat) (e : PlatErr) : State :=
  let busy := s.replatBusy
  let s := s.setPlatErr e
  let s := if busy then s else s.setPlatPhase 0xB
  let s := (s.setBits Reg.PLT_INT_STAT 8).raise 0x1202 (s.regNat Reg.PLT_ERR) 0
  s.mboxReply via 0xC030 2 5 [s.regNat Reg.PLT_ERR, cls]

/-- A failure of phase STATE, or of a slot. -/
def stateErr (code : Nat) : PlatErr := { code := code, phase := 8, sec := 0, off := 0 }

/-- A WRITE refused with extended status PLAT. -/
def State.writeFails (s : State) (via : Via) (code : Nat) : State :=
  let s := s.setPlatErr (stateErr code)
  s.mboxReply via 0xC030 2 5 [s.regNat Reg.PLT_ERR, 0]

/-! WRITE. -/

/-- REPLAT_WRITE (R85): a chunk of an image for the inactive slot. `image` is what the slot holds once the chunk marked `last` is
in. The command is answered when its last program has verified. -/
def execReplatWrite (via : Via) (offset : Nat) (bytes : List Byte) (last : Bool) (image : Image) (rsvOk : Bool) (s : State) : Res :=
  s.mbox via 0xC030 retryBraced false fun s =>
    let n := bytes.length
    if s.bit Reg.PLT_CTL 0 then s.writeFails via 0x56
    else if s.replatBusy || s.svc.writing.isSome then s.writeFails via 0x54
    else if !rsvOk || offset % 8 ≠ 0 || n = 0 || decide (32768 < n) || (n % 8 ≠ 0 && !last) then s.vendorFails via 0xC030 8
    else if decide (524288 < offset + n) || (offset ≠ 0 && offset ≠ s.plat.written) then s.vendorFails via 0xC030 7
    else
      let inB := !s.config.slotB
      let ops := chunkOps (if inB then 136 else 128) 8 offset (bytes.map (·.toNat))
      let s := s.modPlat fun p =>
        let p := { p with written := offset + n }
        if offset ≠ 0 then p else if inB then { p with slotB := none } else { p with slotA := none }
      let s := s.clearBits Reg.PLT_STAT 0x40
      let s := s.modSvc fun v =>
        { v with writing := some { via := via, opcode := 0xC030, failed := false, image := if last then some image else none, fw := none } }
      (s.modPst fun p => { p with queue := p.queue ++ ops }).ringMbox via

/-! APPLY. -/

/-- The image in the inactive slot. -/
def State.spareImage (s : State) : Option Image := if s.config.slotB then s.plat.slotA else s.plat.slotB

/-- The owner key that an applied image brings with it (R387). -/
def ConfigDeed.applyOwner (c : ConfigDeed) : ConfigDeed :=
  match c.pendOwner with
  | some x => { c with owner := x, pendOwner := none }
  | none => c

/-- A light replat takes effect at once; its deed follows (R49, R50). -/
def State.applyLight (s : State) (im : Image) (svn : Option Nat) : State :=
  let p := platOfImage im
  let s := s.modPlat fun q => { q with active := some p, image := some im, lightDeed := true, raiseSvn := svn }
  let s := s.modEvr fun e => { e with supp := e.supp.map fun x => { x with tokens := min x.tokens (s.evLimits x.code).2 } }
  let s := (s.queueConfig fun c => { c.applyOwner with slotB := !c.slotB }).setPlatPhase 0xA
  s.setBits Reg.PLT_STAT 0x40

/-- A structural replat is pending: the migration is work of the scheduler (R51, R53). -/
def State.pendReplat (s : State) (im : Image) (cls : Nat) (svn : Option Nat) : State :=
  let s := s.modPlat fun q => { q with pend := some (im, cls), raiseSvn := svn }
  let s := ((s.setPlatPhase 9).setField Reg.PLT_STAT 20 4 cls).setBits Reg.PLT_STAT 0x40
  s.modCds (·.addWork .migrate 7 none)

/-- REPLAT_APPLY (R45, R48 to R52, R54, R85). -/
def execReplatApply (via : Via) (sanitizeOk raiseSvn rsvOk : Bool) (s : State) : Res :=
  s.mbox via 0xC030 none true fun s =>
    if !rsvOk then s.vendorFails via 0xC030 8
    else if s.bit Reg.PLT_CTL 0 then s.replatFails via 0 (stateErr 0x56)
    else if s.replatBusy || s.svc.writing.isSome || s.sys.state != .ready then s.replatFails via 0 (stateErr 0x54)
    else
      let blank : PlatErr := { code := 2, phase := 1, sec := 0, off := 0 }
      match s.spareImage with
      | none => s.replatFails via 0 blank
      | some im =>
        match validateErr (s.platEnv true) im with
        | some e => s.replatFails via 0 e
        | none =>
          let new := platOfImage im
          let cls := s.replatClass new
          let svn := if raiseSvn then some im.svn else none
          if cls = 1 then ((s.applyLight im svn).done via 0xC030 [0, 1])
          else if (s.port0.decoders ++ s.port1.decoders).any (·.committed) then s.replatFails via cls (stateErr 0x51)
          else if cls ≠ 4 && s.unreleased new then s.replatFails via cls (stateErr 0x52)
          else
            let cls := if s.migFits new cls then cls else 4
            if cls = 4 && !sanitizeOk then s.replatFails via cls (stateErr 0x53)
            else
              let s := (s.pendReplat im cls svn).modSvc fun v => { v with background := some { via := via, opcode := 0xC030 } }
              s.mboxReply via 0xC030 1 0 [0, cls]

/-! ABORT and the lock. -/

/-- A pending image whose migration has not begun is discarded (PLT_CTL.ABORT). -/
def State.abortReplat (s : State) : State :=
  if s.platPhase = 9 && s.plat.pend.isSome then
    let s := s.modPlat fun q => { q with pend := none, raiseSvn := none }
    let s := ((s.setPlatPhase 0).setField Reg.PLT_STAT 20 4 0).clearBits Reg.PLT_STAT 0x40
    (s.modCds fun c => { c with work := c.work.filter fun w => w.kind != .migrate }).endBackground 0
  else s

/-- REPLAT_ABORT (R85). -/
def execReplatAbort (via : Via) (rsvOk : Bool) (s : State) : Res :=
  s.query via 0xC030 fun s => if rsvOk then s.abortReplat.done via 0xC030 [s.regNat Reg.PLT_ERR, 0] else s.vendorFails via 0xC030 8

/-- PLT_ABORT: a 1 is written to PLT_CTL.ABORT. -/
def execPltAbort (via : Via) (s : State) : Res :=
  if !s.reaches via then .next s else .next (s.abortReplat.emit (.regWriteDone via Reg.PLT_CTL))

/-- REPLAT_LOCK (PLT_CTL.REPLAT_LOCK, W1S): until cold reset. -/
def execReplatLock (via : Via) (s : State) : Res :=
  if !s.reaches via then .next s else .next ((s.setBits Reg.PLT_CTL 1).emit (.regWriteDone via Reg.PLT_CTL))

/-! The migration (R53). -/

/-- The k-th plot of a list of ranges. -/
def nthPlot : List (Nat × Nat) → Nat → Option Nat
  | [], _ => none
  | (a, n) :: rest, k => if k < n then some (a + k) else nthPlot rest (k - n)

def rangesTotal (l : List (Nat × Nat)) : Nat := (l.map (·.2)).sum

/-- Host plots of a configuration. -/
def Plat.hostPlots (p : Plat) : Nat := (layoutOf p).host

/-- The plots whose owner a map-only replat changes: parts of holdings of the new layout that the old one did not place there, and
what the old layout has beyond the new one. -/
def changedPlots (old new : Plat) : List (Nat × Nat) :=
  let parts := (holdingBases 0 new.holdings).map fun (h, base, n) =>
    match old.baseOf h.id with
    | some (_, b, m) => if b = base then ((base + min m n) / 8192, (n - m) / 8192) else (base / 8192, n / 8192)
    | none => (base / 8192, n / 8192)
  (parts ++ [(new.hostPlots, old.hostPlots - new.hostPlots)]).filter fun e => e.2 != 0

/-- The plots that are merged to bring the log within the new layout. -/
def State.logPlots (s : State) (new : Plat) (skip : List (Nat × Nat)) : List (Nat × Nat) :=
  if s.cds.logUsed ≤ (layoutOf new).log then []
  else ((s.cds.plots.filter fun e => e.2.logged && !skip.any fun r => decide (r.1 ≤ e.1) && decide (e.1 < r.1 + r.2)).map (·.1)).map (·, 1)

/-- Ranges in ascending order. -/
def sortRanges (l : List (Nat × Nat)) : List (Nat × Nat) :=
  l.foldl (fun acc e => acc.takeWhile (fun x => decide (x.1 ≤ e.1)) ++ [e] ++ acc.dropWhile fun x => decide (x.1 ≤ e.1)) []

/-- The counted plots of a migration (R53). -/
def State.migRanges (s : State) (new : Plat) (cls : Nat) : List (Nat × Nat) :=
  let old := s.conf
  let l := layoutOf old
  match cls with
  | 2 =>
    let c := changedPlots old new
    sortRanges (c ++ s.logPlots new c)
  | 3 =>
    let host := (s.dataHoldings.filter (s.rebuilds new)).map fun e => (e.2.1 / 8192, e.2.2 / 8192)
    sortRanges (host ++ if old.integUnits = new.integUnits then [] else [(metaPlot, l.tag + l.ctr + l.tree)])
  | _ => [(0, l.host)]

/-- The next key generations of moved holdings with INTEGRITY set (R53). -/
def State.migGens (s : State) (new : Plat) : List (Nat × Nat) :=
  s.dataHoldings.filterMap fun (h, base, _) =>
    match new.baseOf h.id with
    | some (n, b, _) => if n.integrity && b != base then
        some (h.id, (s.ime.rekey h.id).cur + if (s.ime.rekey h.id).active then 2 else 1) else none
    | none => none

/-- The migration's place in the map changes; it is persistent at once. -/
def State.modMig (s : State) (f : MigMap → MigMap) : State :=
  s.modBoth fun c => { c with mig := c.mig.map f }

/-- The migration begins (R53): its total is fixed, fresh keys are wrapped, the deed records it. A sanitize erases every key. -/
def State.beginMigration (s : State) (im : Image) (cls : Nat) : State :=
  let new := platOfImage im
  let ranges := s.migRanges new cls
  let gens := if cls = 3 then s.migGens new else []
  let m : MigMap := { cls := cls, from_ := s.conf, image := im, ranges := ranges, total := rangesTotal ranges, cursor := 0, moved := [], gens := gens,
                      raiseSvn := s.plat.raiseSvn }
  let s := s.modBoth fun c => { c with mig := some m }
  let s := s.modPlat fun q => { q with pend := none, raiseSvn := none }
  let s := (s.setPlatPhase (if cls = 4 then 0xD else 0xC)).setNat Reg.PLT_MIG_STAT (2 ^ 31 + cls)
  let s := s.queueConfig fun c => { c with pendReplat := some cls, migTotal := m.total, migCursor := 0 }
  if cls = 4 then s.conf.holdings.foldl State.eraseKeys (s.modSvc fun v => { v with erasing := true })
  else gens.foldl (fun (s : State) e =>
    match s.conf.holding e.1 with
    | some h =>
      let (s, w) := s.freshKey h e.2
      s.queueWrap w
    | none => s) s

/-- The cursor has reached the total: the deed makes the other slot active, the old keys of moved holdings are destroyed (R53). -/
def State.commitMigration (s : State) (m : MigMap) : State :=
  let s := m.gens.foldl (fun (s : State) e =>
    match s.conf.holding e.1 with
    | some h =>
      let (s, w) := s.wrapKey h.keyRef (s.ime.rekey h.id).cur none none
      s.queueWrap w
    | none => s) s
  let s := s.queueConfig fun c =>
    { c.applyOwner with slotB := !c.slotB, fp := some m.image.fp, pendReplat := none, migCursor := m.total, migTotal := m.total }
  (s.setPlatPhase 0xE).endBackground 0

/-- The parcel at which a moved parcel of the old layout lies in the new one. -/
def Plat.moveParcel (old new : Plat) (q : Nat) : Nat :=
  match holdingOfParcel old q with
  | some (h, base, _) => match new.baseOf h.id with
    | some (_, b, _) => q - base + b
    | none => q
  | none => q

/-- What a moved line is sealed under (R53). -/
def State.moveSeal (s : State) (m : MigMap) (new : Plat) (line : Nat) (old : Seal) : Seal :=
  let dest := s.conf.moveParcel new (line / 64) * 64 + line % 64
  match s.conf.holdingOfLine line, new.holdingOfLine dest with
  | some h, some n =>
    if n.integrity then
      if h.integrity && dest = line then old
      else { gen := (m.gens.lookup h.id).getD (s.keyGen line), major := 0, minor := 0, line := dest }
    else { gen := s.keyGen line, major := 0, minor := 0, line := dest }
  | _, _ => old

/-- The lines of a plot go into a band of the new layout, sealed again; a line that does not open keeps its poison mark. -/
def State.moveLines_ (s : State) (m : MigMap) (new : Plat) (plot : Nat) (nb : Band) : State :=
  (s.plotLines plot).foldl (fun (s : State) line =>
    match (s.cds.lookup s.conf line).1 with
    | .place k _ =>
      match mapFind s.med k, nb.place (line / 64 % 8192) (line % 64) with
      | some x, some key =>
        let bad := match s.readLine line with | .data _ => false | _ => true
        s.programLine key { x with under := s.moveSeal m new line x.under, poison := x.poison || bad }
      | _, _ => s
    | _ => s) s

/-- The migration's cursor goes to the next plot. -/
def State.nextPlot (s : State) : State := s.modMig fun m => { m with cursor := m.cursor + 1 }

/-- The old places of a moved plot go; `before`: the bands before its move. -/
def State.dropMoved (s : State) (before : SMap Band) (plot : Nat) : State :=
  let p := s.conf
  let gone := s.mdc.retired
  if !(s.cds.plot plot).valid && (s.cds.plotRecords plot).isEmpty then s
  else (s.mapCommit (p.pageOfPlot plot :: s.cds.bandPages p (s.cds.plot plot).band) fun c => c.dropPlot p gone plot).afterRetire before plot

/-- One plot of a data move: its write-backs end first, then its lines go into a new band; the old places go with the commit. None
while it must wait. -/
def State.movePlot (s : State) (m : MigMap) (plot : Nat) : Option State :=
  let mine := s.stg.frames.filter fun e => e.2.st == .inUse && parcelPlot e.2.parcel == plot
  let dirty := mine.filter fun e => e.2.isDirty
  let p := s.conf
  if (s.cds.plot plot).merging || s.stg.wbt.any fun w => parcelPlot w.parcel == plot then none
  else if !dirty.isEmpty then some (dirty.foldl (fun s e => s.tryWb e.1 true) s)
  else
    let lines := s.plotLines plot
    let s := s.clearFrames (plot * 8192) 8192
    let before := s.cds.bands
    if metaPlot ≤ plot || lines.isEmpty then some (s.dropMoved before plot).nextPlot
    else
      let new := platOfImage m.image
      let dest := parcelPlot (p.moveParcel new (plot * 8192))
      let mirror := ((holdingOfParcel new (dest * 8192)).map fun x => x.1.mirror).getD false
      (s.cds.formBand s.allocEnv s.mdc.clocks .moved none dest false mirror true s.nowNs).map fun (id, b) =>
        let s := s.moveLines_ m new plot b
        let s := s.mapCommit (p.pagesOfBand id b) fun c => c.addBand id b
        ((s.dropMoved before plot).modMig fun m => { m with moved := m.moved ++ [(dest, id)] }).nextPlot

/-- One plot of a map-only migration: a plot of the log is merged while the log is larger than the new layout's (R53). -/
def State.remapPlot (s : State) (m : MigMap) (plot : Nat) : Option State :=
  let e := s.cds.plot plot
  if e.logged && decide ((layoutOf (platOfImage m.image)).log < s.cds.logUsed) then
    if e.merging then none else s.startMerge plot 0
  else some s.nextPlot

/-- One step of the migration; none while it waits (R53). -/
def State.migStep (s : State) : Option State :=
  match s.cds.mig with
  | none => s.plat.pend.map fun e => s.beginMigration e.1 e.2
  | some m =>
    if m.cls = 4 || s.platPhase = 0xE then none
    else if s.pst.wrapQueued then none
    else match nthPlot m.ranges m.cursor with
      | none => some (s.commitMigration m)
      | some plot => if m.cls = 3 then s.movePlot m plot else s.remapPlot m plot

/-! The end of a Sanitize. -/

/-- A sanitize-class replat: the medium is laid out for the new image (R53, R79). -/
def State.sanitizeReplat (s : State) (m : MigMap) : State :=
  let p := platOfImage m.image
  let tracts := s.cds.tracts.map fun e => (e.1, e.2.wiped)
  let v : AllocEnv := { plat := p, wmin := s.cds.wearMin p, width := s.regNat Reg.CDS_BIN_WIDTH, gone := s.mdc.retired }
  let c := { layoutCds p v s.mdc.clocks tracts s.nowNs with mig := some { m with cursor := m.total } }
  let s := s.forgetData.modCds fun _ => c
  let s := (s.modMed fun _ => []).modTrv fun t => { t with programmed := [] }
  let s := s.modMdc fun x => { x with stripes := [], stripeFull := false, rebuild := none }
  s.saveMap.commitMigration m

/-- SANITIZE_COMPLETE (R79, R310, R53): every tract of every holding, of the log and of the integrity metadata has been reset. -/
def execSanitizeComplete (atNs : Nat) (s : State) : Res :=
  let s := s.clockTo atNs
  match s.cds.mig with
  | some m =>
    if m.cls = 4 && s.platPhase = 0xD && s.running && s.svc.erasing && !s.inFlush && !s.pst.erasePending then .next (s.sanitizeReplat m)
    else .next s
  | none =>
    if !s.eraseEnds 0x4400 then .next s
    else if s.pfl.report.lost then .next s.sanitizeLost
    else .next (s.sanitizeMap.endBackground 0).checkReadonly

/-! The map under the new image, at its first RECOVER. -/

/-- Ordinals from 0 up, in the order of the old ones: slots, buckets and chains follow (R158, R160). -/
def Cds.renumber (c : Cds) (p : Plat) : Cds :=
  let used := c.bands.filterMap fun e => e.2.ordinal
  let rank (o : Nat) : Nat := (used.filter (· < o)).length
  let recs := c.records.foldl (fun m e => mapInsert m (rank (e.1 / 8192) * 8192 + e.1 % 8192) e.2) ([] : SMap LogRec)
  let move (k : Nat) : Nat := rank (k / 8192) * 8192 + k % 8192
  let order := c.chains.flatMap fun e => e.2.map move
  let live := (recs.filter fun e => e.2.live).map (·.1)
  let chains := (order.filter live.contains).foldl (fun (m : SMap (List Nat)) k =>
    match mapFind recs k with
    | some r => mapSet (fun _ => []) m (p.bucket r.parcel) (mapGet (fun _ => []) m (p.bucket r.parcel) ++ [k])
    | none => m) []
  let n := used.length
  let rest := (List.range (p.ordinals - n)).map (n + ·)
  let spare := 2 * p.dumpBands - c.dumpBands.length
  { c with bands := c.bands.map fun e => (e.1, { e.2 with ordinal := e.2.ordinal.map rank }), records := recs, chains := chains,
           ordinalsSpare := rest.take spare, ordinalsFree := rest.drop spare, wtSlots := [], dirtyPages := [], journal := 0 }

/-- The plots of the new layout: moved bands become base bands; metadata of moved regions is rebuilt, so its old plots go. -/
def Cds.rebase (c : Cds) (old new : Plat) (gone : List Nat) (m : MigMap) : Cds :=
  let metas := if old.integUnits = new.integUnits then [] else
    ((c.plots.filter fun e => decide (metaPlot ≤ e.1)).map (·.1))
  let c := metas.foldl (fun c n => c.dropPlot old gone n) c
  let c := m.moved.foldl (fun (c : Cds) e =>
    (c.onBand e.2 fun b => { b with role := .plot, plot := e.1 }).onPlot e.1 fun x => { x with valid := true, band := e.2 }) c
  { c.renumber new with mig := none }

/-- Lists named by device lines follow moved holdings. -/
def moveLine (old new : Plat) (line : Nat) : Nat := old.moveParcel new (line / 64) * 64 + line % 64

/-- The counter blocks of the groups that moved bands hold, at (0, 0) of their generation (R53). -/
def State.movedBlocks (s : State) (c : Cds) (m : MigMap) (old new : Plat) : SMap CtrBlock :=
  let still := s.saved.ctr.filter fun e => old.moveParcel new e.1 = e.1
  m.moved.foldl (fun acc e =>
    match c.band e.2 with
    | none => acc
    | some b =>
      let lines := s.med.filterMap fun x => (b.lineAt e.1 x.1).map fun l => (l / 64, x.2.under.gen)
      lines.foldl (fun acc x =>
        match new.holdingOfLine (x.1 * 64) with
        | some h => if h.integrity && (mapFind acc x.1).isNone then mapInsert acc x.1 { ctrInit with gen := x.2 } else acc
        | none => acc) acc) still

/-- The saved image is brought under the image that a completed migration has made active (R53). -/
def State.rebase (s : State) : State :=
  match s.saved.cds.mig with
  | none => s
  | some m =>
    let new := s.conf
    let old := m.from_
    let c := s.saved.cds.rebase old new s.mdc.retired m
    let ctr := if m.cls = 3 then s.movedBlocks c m old new else s.saved.ctr
    let rk := m.gens.foldl (fun acc e => mapInsert acc e.1 { rekeyInit with cur := e.2 }) s.saved.rekeys
    let quar := s.saved.quar.map fun q => { q with base := moveLine old new q.base }
    let s := s.modSaved fun v => { v with cds := c, ctr := ctr, quar := quar, rekeys := rk }
    s.modSvc fun v => { v with poison := (v.poison.map (moveLine old new)).foldl (fun l n => insertUniq n l) [],
                               injected := (v.injected.map (moveLine old new)).foldl (fun l n => insertUniq n l) [] }

end Sys2Proof.Machine
end

