-- ==== Sys2Proof/Machine/Bws.lean ====
section
/-! DEFINITION. The background work scheduler (R173, R178 to R180, R258 to R261, R354 to R359, Table CDS-5): BWS_DISPATCH starts the
next eligible step. The scheduler's shares of channel time are not modelled (log entry 40). -/

namespace Sys2Proof.Machine

/-! Order (R180). -/

/-- Work `a` is served before `b`: priority, then deadline, then order of creation. -/
def Work.before (a b : Work) : Bool :=
  let key (d : Option Nat) : Nat × Nat := match d with | some t => (0, t) | none => (1, 0)
  let x := key a.deadline
  let y := key b.deadline
  if a.prio ≠ b.prio then decide (a.prio < b.prio)
  else if x.1 ≠ y.1 then decide (x.1 < y.1)
  else if x.2 ≠ y.2 then decide (x.2 < y.2) else decide (a.born < b.born)

/-- Work in the order it is served. -/
def sortWork (l : List Work) : List Work :=
  l.foldl (fun acc w => acc.takeWhile (fun x => x.before w) ++ [w] ++ acc.dropWhile fun x => x.before w) []

/-- The task is over. -/
def State.dropWork (s : State) (k : WorkKind) : State :=
  s.modCds fun c => { c with work := c.work.filter fun w => w.kind != k }

/-! Re-key granules (R355 to R359). -/

/-- The re-key of a holding ends (R359). -/
def State.finishRekey (s : State) (h : Holding) : State :=
  let r := s.ime.rekey h.id
  let (s, d) := s.wrapKey h.keyRef r.cur none none
  let s := s.queueWrap d
  let s := s.onRekey h.id fun x => { x with cur := r.cur + 1, active := false, deed := false, boundary := 0, queued := false }
  let s := s.modIme fun m => { m with loaded := m.loaded.filter (fun e => e.1 != h.id) ++ [(h.id, r.cur + 1)] }
  let s := (s.setBits Reg.IME_INT_STAT 1).raise 0x9502 (r.cur + 1) h.id
  if r.queued then s.startRekey h.id else s

/-- Quarantine entries behind the boundary are freed (R354). -/
def State.freeQuar (s : State) (id first : Nat) : State :=
  let behind (q : QuarEnt) : Bool := q.holding == id && decide (q.base + q.len ≤ first * 64)
  if s.ime.quar.any behind then
    (s.modIme fun m => { m with quar := m.quar.filter fun q => !behind q }).setBits Reg.IME_INT_STAT 4
  else s

/-- The boundary passes a granule. -/
def State.passGranule (s : State) (h : Holding) (q : Nat) : State :=
  (s.onRekey h.id fun x => { x with boundary := x.boundary + 1 }).freeQuar h.id (q + 1)

/-- A quarantined group: lines whose minor is 0 become poison, the others stay (R354). -/
def State.quarGranule (s : State) (h : Holding) (q : Nat) : State :=
  let b := s.ime.block q
  let lines := (List.range 64).filter fun n => b.minor n = 0 && s.hasCopy (q * 64 + n)
  let s := lines.foldl (fun s n => s.addPoison (q * 64 + n)) s
  let gen := (s.ime.rekey h.id).cur + 1
  (s.onBlock q fun b => { b with quar := false, gen := gen }).passGranule h q

/-- The lines of a granule that have a medium copy. -/
def State.copies (s : State) (q : Nat) : List Nat := (List.range 64).filter fun n => s.hasCopy (q * 64 + n)

/-- A granule in write-back mode (R356): every line is staged under CUR and made dirty; none while a write-back is in flight, or
nothing more may be dirty. -/
def State.rekeyBack (s : State) (h : Holding) (q : Nat) : Option State :=
  if (s.stg.wbOf q).isSome || s.stg.rsvActive then none
  else
    let staged := s.stg.find q
    if staged.isNone && (s.copies q).isEmpty then some (s.passGranule h q)
    else match s.frameFor q with
      | none => none
      | some (i, _, s) =>
        if s.noBudget (s.stg.frame i) then none
        else
          let s := if (s.stg.frame i).isDirty then s else s.openMark
          let s := s.fillAll i
          some ((s.modStg (·.onFrame i fun f => { f with dirty := f.valid })).passGranule h q)

/-- A granule in write-through mode (R357): its lines are programmed under NEW. -/
def State.rekeyThrough (s : State) (h : Holding) (q : Nat) : Option State :=
  let lines := (s.copies q).map fun n => match s.readLine (q * 64 + n) with
    | .data d => (n, d, false)
    | _ => (n, (0 : Line), true)
  if lines.isEmpty then some (s.passGranule h q)
  else (s.takeSlot q false).map fun (band, slot, s) =>
    let p := s.conf
    let mask := maskOfList (lines.map (·.1))
    let s := s.passGranule h q
    let (s, seals) := s.sealMask q mask false
    let s := s.wtProgram band slot q lines seals
    let s := s.mapCommit (s.cds.recordPages p slot q) fun c => c.commitRecord p slot q mask false
    (s.commitSeals q seals).logTriggers

/-- One step of a holding's re-key; none while it waits: for its key's deed, for a random key, or at REKEY_EN 0. -/
def State.rekeyStep (s : State) (e : Holding × Nat × Nat) : Option State :=
  let (h, base, n) := e
  let r := s.ime.rekey h.id
  if !r.active || r.locked then none
  else if !r.deed then
    if s.pst.wrapQueued || s.cke.rngFail then none
    else if (s.pst.wrapRec h.keyRef (r.cur + 1)).any (·.present) then some (s.onRekey h.id fun x => { x with deed := true })
    else
      let (s, w) := s.freshKey h (r.cur + 1)
      some (s.queueWrap w)
  else if !s.bit Reg.IME_CTL 2 then none
  else if n ≤ r.boundary then some (s.finishRekey h)
  else
    let q := base + r.boundary
    if (s.ime.block q).quar then some (s.quarGranule h q)
    else if s.writeBack && s.stagingUsed then s.rekeyBack h q else s.rekeyThrough h q

/-- A step of the first holding whose re-key can go on. -/
def State.rekeyNext (s : State) : Option State := (holdingBases 0 s.conf.holdings).findSome? s.rekeyStep

/-! Steps. -/

/-- A merge of a plot for a reason: 0 a merge, 1 a wear move, 2 an anneal. The task is over once the merge runs. -/
def State.mergeStep (s : State) (k : WorkKind) (plot why : Nat) : Option State :=
  let e := s.cds.plot plot
  if e.merging || !(e.valid || e.logged) then some (s.dropWork k)
  else (s.startMerge plot why).map fun t => t.dropWork k

/-- An anneal (R258, R260). ANNEAL_EN at 0 holds those not yet due. -/
def State.annealStep (s : State) (k : WorkKind) (id : Nat) : Option State :=
  match s.cds.band id with
  | none => some (s.dropWork k)
  | some b =>
    if !b.annealDue && !s.bit Reg.MDC_CTL 1 then none
    else match b.role with
      | .plot => s.startMerge b.plot 2
      | .logOpen | .stream =>
        let s := s.closeLog id
        some (((s.cds.plotsIn id).foldl (fun s q => s.modCds (·.addWork (.mergePlot q false) 2 none)) s).dropWork k)
      | .logFull | .dump => some (((s.cds.plotsIn id).foldl (fun s q => s.modCds (·.addWork (.mergePlot q false) 2 none)) s).dropWork k)
      | .checkpoint =>
        let s := s.modCds fun c =>
          { ((c.addWork (.checkpoint true) 2 none).onBand id fun b => { b with annealPlanned := false, annealDue := false }) with ckptAll := true }
        some (s.dropWork k)
      | _ => some (s.dropWork k)

/-- A stream switch, or the merge that takes its place (R170). -/
def State.streamStep (s : State) (k : WorkKind) (plot id : Nat) : Option State :=
  if (s.cds.plot plot).merging then none
  else if (s.cds.band id).isNone then some (s.dropWork k)
  else if s.cds.switchable plot id then some ((s.streamSwitch plot id).dropWork k)
  else some ((s.modCds (·.addWork (.mergePlot plot true) 3 none)).dropWork k)

/-- A tract reset is handed to its channel (R172, R315). -/
def State.resetStep (s : State) (w : WorkKind) (ch die tract : Nat) : Option State :=
  let k := tractKey (ch * 4 + die) tract
  let st := (s.cds.tract k).st
  if st == .resetting || !(st == .obsolete || s.pfl.resetLeft.contains k) then some (s.dropWork w)
  else if 32 ≤ (s.channel ch).bgQ.length then none
  else
    let r : TrvReq := { cls := .background, opcode := 8, die := die, tract := tract, parcel := 0, line := 0, arg := 0 }
    let s := s.mapCommit [s.conf.pageOfTract k] fun c => c.onTract k fun t => { t with st := .resetting }
    some ((s.onChannel ch fun c => { c with bgQ := c.bgQ ++ [r] }).dropWork w)

/-- A checkpoint: its directory seal is gated (R166, R180). -/
def State.ckptStep (s : State) (k : WorkKind) : Option State :=
  if s.cds.ckptBusy || !s.gateOk Config.sealEnergy then none
  else some (((s.gateTake Config.sealEnergy).modCds fun c => { c with ckptBusy := true }).dropWork k)

/-- Patrol reads the next band: `reads` are its lines, places and what became of them (R261). -/
def State.patrolStep (s : State) (k : WorkKind) (reads : List (Nat × Nat × Decoded)) : Option State :=
  match s.cds.bands.find? fun e => decide (s.mdc.patrol.pos ≤ e.1) with
  | none =>
    let s := s.modMdc fun m => { m with patrol := { m.patrol with active := false, pos := 0 } }
    some (((s.setBits Reg.MDC_INT_STAT 4).clearBits Reg.MDC_CTL 16).dropWork k)
  | some (id, b) =>
    let mine := reads.filter fun r => b.tracts.contains (keyTract r.2.1)
    let s := mine.foldl (fun s r => s.account r.1 r.2.1 r.2.2) s
    some (s.modMdc fun m => { m with patrol := { m.patrol with pos := id + 1 } })

/-- Start a task; none while it cannot start. -/
def State.startWork (s : State) (reads : List (Nat × Nat × Decoded)) (w : Work) : Option State :=
  match w.kind with
  | .rebuild id =>
    if s.mdc.rebuild.isSome then none
    else match s.cds.band id with
      | some b => match b.missing with
        | pos :: _ => some (s.modMdc fun m => { m with rebuild := some (id, pos) })
        | [] => some (s.dropWork w.kind)
      | none => some (s.dropWork w.kind)
  | .anneal id => s.annealStep w.kind id
  | .mergePlot plot _ => if w.prio = 7 && !s.bit Reg.CDS_CTL 0 then none else s.mergeStep w.kind plot 0
  | .streamSwitch plot id => s.streamStep w.kind plot id
  | .resetTract ch die tract => if s.sys.state == .braced then none else s.resetStep w.kind ch die tract
  | .checkpoint _ => s.ckptStep w.kind
  | .rekey => if s.ime.rekeys.any fun e => e.2.active then s.rekeyNext else some (s.dropWork w.kind)
  | .wearMove plot =>
    if !s.cds.wearActive then some (s.dropWork w.kind)
    else if s.bit Reg.CDS_CTL 1 then s.mergeStep w.kind plot 1 else none
  | .migrate =>
    if (s.plat.pend.isNone && s.cds.mig.isNone) || s.platPhase = 0xE then some (s.dropWork w.kind) else s.migStep
  | .patrol => s.patrolStep w.kind reads

/-- A step that its gate defers counts once (R180). -/
def State.deferWork (s : State) (w : Work) : State :=
  match w.kind with
  | .checkpoint _ =>
    if s.cds.ckptBusy || w.gateCounted || s.gateOk Config.sealEnergy then s
    else (s.incReg Reg.CDS_BWS_GATE_WAIT).modCds fun c =>
      { c with work := c.work.map fun x => if x.kind == w.kind then { x with gateCounted := true } else x }
  | _ => s

/-- A task that starts after its deadline counts once (CDS_BWS_LATE). -/
def State.lateWork (s : State) (w : Work) : State :=
  if w.deadline.any (fun d => decide (d < s.nowNs)) && !w.lateCounted then
    (s.incReg Reg.CDS_BWS_LATE).modCds fun c =>
      { c with work := c.work.map fun x => if x.kind == w.kind then { x with lateCounted := true } else x }
  else s

/-- PAUSE holds classes 4 to 9 (R180). -/
def State.pausedWork (s : State) (prio : Nat) : Bool := s.bit Reg.CDS_BWS_CTL 0 && decide (4 ≤ prio)

/-- The first task of a list that starts, and whether one did. -/
def State.startFirst (reads : List (Nat × Nat × Decoded)) : List Work → State → State × Bool
  | [], s => (s, false)
  | w :: rest, s =>
    if s.pausedWork w.prio then State.startFirst reads rest s
    else match s.startWork reads w with
      | some _ => (((s.lateWork w).startWork reads w).getD s, true)
      | none => State.startFirst reads rest (s.deferWork w)

/-- A release that can go on (class 6). -/
def State.releaseReady (s : State) : Bool :=
  !s.pausedWork 6 && match s.cds.release with
    | some r => r.left != 0 && (s.releasePlot r).isSome
    | none => false

/-- The scheduler runs: the map is the device's, no flush or commit of a replat holds it, and its engine serves (R53, R401). -/
def State.bwsRuns (s : State) : Bool :=
  s.running && !s.sys.poweredDown && !s.inFlush && s.mapReady && !s.eng.roleLost && s.platPhase != 0xE

/-- BWS_DISPATCH (R180): the next eligible step starts. `reads` is what a patrol step reads. -/
def execBwsDispatch (reads : List (Nat × Nat × Decoded)) (atNs : Nat) (s : State) : Res :=
  let s := s.clockTo atNs
  if !s.bwsRuns then .next s
  else
    let l := sortWork s.cds.work
    let (s, done) := State.startFirst reads (l.filter fun w => decide (w.prio < 6)) s
    if done then .next s
    else if s.releaseReady then .next s.retryRelease
    else .next (State.startFirst reads (l.filter fun w => decide (6 ≤ w.prio)) s).1

end Sys2Proof.Machine
end

