-- ==== Sys2Proof/Machine/Boot.lean ====
section
/-! DEFINITION. The way from reset to service: the end of BOOT (R190, R194, R372, R373, R381, R406, R407, R463, R489), LOAD (R46,
R47, R417, R509) and the steps of RECOVER (R309 to R321, R38, R184, R247, R338, R360, R374, R378). -/

namespace Sys2Proof.Machine

/-! BOOT. -/

/-- The PLLs have locked (R190): fabric, engines and Traverse; that of the host link follows its reference clock. -/
def State.bootPlls (s : State) : State := s.modDtm fun t => { t with pllF := true, pllE := true, pllT := true }

/-- The sensor self-test (R451): a reading in range returns its sensor to service; the indexes of those that fail now. -/
def Thm.selfTest (t : Thm) (r : List (Option Int)) : Thm × List Nat :=
  let l := t.sensors.zipIdx.map fun e =>
    match r.getD e.2 none with
    | some v =>
      if -640 ≤ v ∧ v ≤ 2400 then ({ value := v, valid := true, failed := false, misses := 0, jumpAt := none : Sensor }, none)
      else ({ e.1 with failed := true }, if e.1.failed then none else some e.2)
    | none => ({ e.1 with failed := true }, if e.1.failed then none else some e.2)
  ({ t with sensors := l.map (·.1) }, l.filterMap (·.2))

def State.bootSensors (s : State) (r : List (Option Int)) : State :=
  let x := s.thm.selfTest r
  x.2.foldl State.sensorFails (s.modThm fun _ => x.1)

/-- The hint that BOOT takes: the valid page with the highest generation (R424). -/
def Pst.bootHint (p : Pst) : Option Hint :=
  ((p.hints0 ++ p.hints1).filter (·.crcOk)).foldl (fun a h => match a with
    | some b => if b.gen < h.gen then some h else a
    | none => some h) none

/-- The datum after a loss of the always-on domain (R194): the later of the deed's and the hint's, plus 1 ms. A device that has
recorded none counts from 0. -/
def State.bootDatum (s : State) : State :=
  if s.dtm.retained then s
  else
    let (a, set_) := match s.pst.deed 3 0 with
      | some (.datum ns e) => (some ns, e)
      | _ => (none, false)
    let b := s.pst.bootHint.map (·.datum)
    match a, b with
    | none, none => s.modDtm fun t => { t with retained := true }
    | _, _ =>
      let ns := max (a.getD 0) (b.getD 0) + 1000000
      s.modDtm fun t => { t with datum := ns * nsUnits, everSet := set_, restored := true, retained := true }

/-- Deeds whose values the device works with from BOOT on (R80, R283, R287, R387): a pending owner key is dropped. -/
def State.bootDeeds (s : State) : State :=
  let s := s.pst.inForce.foldl (fun (s : State) e => match e.2.2 with
    | .shutdown _ => s.deedEffect e.2.2
    | .power _ _ _ => s.deedEffect e.2.2
    | .base _ _ => s.deedEffect e.2.2
    | _ => s) s
  let c := s.config
  let s := s.modCke fun k => { k with owner := c.owner, pendOwner := none }
  if c.pendOwner.isSome then s.queueConfig fun c => { c with pendOwner := none } else s

/-- The key of a KEY_REF from the record of its newest generation, unwrapped with the KEK; without a record the key of
manufacture (log entry 6). A tag that fails is KEY_UNWRAP_FAIL (R376). -/
def State.recordKey (s : State) (ref : Nat) (made : BitVec 256) : State × Option (BitVec 256) :=
  match (s.pst.wrapRecs ref).foldl (fun (a : Option WrapRec) w => match a with
      | some b => if b.gen < w.gen then some w else a
      | none => some w) none with
  | none => (s, some made)
  | some w =>
    match w.open ((s.cke.slot 2).key.getD 0) with
    | some k => (s, some k)
    | none => ((s.flag Reg.CKE_ERR_STAT Reg.CKE_ERR_EN 6 false).raise 0xA104 ref 0, none)

/-- Slots 1 to 4 (Tables CKE-2 and CKE-4); the next block of the KEK's invocation counter is reserved (R381). -/
def State.bootKeys (s : State) : State :=
  let derive (label : Nat) : BitVec 256 := Config.kdf Config.deviceSecret label (byteList 0 4)
  let first := s.cke.kekReserved
  let s := s.modCke (·.onSlot 2 fun x => { x with ctr := first })
  let s := (s.setSlot 1 (some (derive 1))).setSlot 2 (some (derive 0))
  let (s, ak) := s.recordKey 0x10 Config.authKey
  let s := s.setSlot 3 ak
  let (s, fk) := s.recordKey 0x12 Config.fwDistKey
  (s.setSlot 4 fk).pstQueue (.tally 4 1)

/-- The result of R406's checks of a slot, in their order, as RESULT codes of ENG_FW_STAT. -/
def State.fwResult (s : State) (slot : Bool) : Nat :=
  match s.svc.fwSlot slot with
  | none => 8
  | some f => if 1 ≤ f.check ∧ f.check ≤ 4 then f.check else if f.svn < s.pst.counter 2 then 5 else f.check

/-- A slot's result is recorded. -/
def State.fwRecord (s : State) (slot : Bool) : State :=
  let r := s.fwResult slot
  s.modEng fun e => if slot then { e with resultB := r } else { e with resultA := r }

/-- Boot code selects the firmware (R406, Table PKG-9): the pending slot, else the active one, and the other where the first
fails. A strap's choice keeps the pending record. -/
def State.bootFirmware (s : State) : State :=
  let c := s.config
  let strap := s.sys.straps.toNat % 4
  let first := if strap = 1 then false else if strap = 2 then true else c.pendFw.getD c.activeFw
  let ok1 := decide (s.fwResult first = 0)
  let ok2 := decide (s.fwResult (!first) = 0)
  let s := s.fwRecord first
  let s := if ok1 then s else s.fwRecord (!first)
  let run := if ok1 then some first else if ok2 then some (!first) else none
  let fell := !ok1 && ok2
  let s := s.modEng fun e => { e with fallback := fell }
  let s := s.modSvc fun v => { v with fwRun := run, fwPending := c.pendFw }
  let missed := !ok1 && (c.pendFw == some first || fell)
  let s := if missed then (s.flag Reg.ENG_ERR_STAT Reg.ENG_ERR_EN 6 true).raise 0xB201 (if first then 1 else 0) (s.fwResult first) else s
  match decide (strap = 1 ∨ strap = 2), c.pendFw with
  | false, some p => s.queueConfig fun c => { c with pendFw := none, activeFw := if ok1 then p else c.activeFw }
  | _, _ => s

/-- Where BOOT leads (Table APP-8, R463): DIAG without firmware, WARMUP below 5 °C, else LOAD. -/
def State.bootTarget (s : State) : DevState :=
  if s.svc.fwRun.isNone then .diag else if s.thm.warm then .load else .warmup

/-- A reset input still low after SAFE or QUENCH counts as a new warm reset (R489). -/
def State.bootPins (s : State) : State :=
  let kind := s.regField Reg.SYS_RST_CAUSE 28 4
  if (kind == 6 || kind == 7) && (s.sys.sysRstLow || s.sys.perstLow) then
    s.requestReset (if s.sys.sysRstLow then .warmSysRst else .warmPerst)
  else s

/-- BOOT_COMPLETE (R406): `readings`: the sensors' self-test; `drbgOk`: the health test of the reseed. Under STRAP_BOOT 0b11 the
device stays in BOOT (Table PKG-9). Two failed sensors are a quench condition (R460). -/
def execBootComplete (readings : List (Option Int)) (drbgOk : Bool) (atNs : Nat) (s : State) : Res :=
  if !s.running || s.sys.poweredDown || s.sys.state != .boot || s.sys.straps.toNat % 4 == 3 then .next s
  else
    let s := ((s.clockTo atNs).bootPlls).bootSensors readings
    let s := s.setNat Reg.SYS_BOOT_MS ((s.nowNs - s.sys.bootAt) / 1000000)
    let s := (s.bootDeeds.bootDatum).modCke fun c => { c with rngRequests := 0 }
    let s := if drbgOk then s else s.rngFails
    let s := s.bootKeys.bootFirmware
    if 2 ≤ s.thm.failed then .next (s.quench true) else .next (s.goState s.bootTarget).bootPins

/-! LOAD. -/

def State.slotImage (s : State) (b : Bool) : Option Image := if b then s.plat.slotB else s.plat.slotA

/-- The layout fingerprint on the medium, and whether there is a layout (R46, R47). -/
def State.mediumFp (s : State) : Option Nat := if s.laidOut then s.config.fp else none

/-- What LOAD finds wrong with a slot (R45, R46): an empty one fails its CRC. -/
def State.slotErr (s : State) (b : Bool) : Option PlatErr :=
  match s.slotImage b with
  | none => some ⟨0x01, 1, 0, 0x3C⟩
  | some im =>
    match validateErr (s.platEnv false) im, s.mediumFp with
    | some e, _ => some e
    | none, some f => if im.fp = f then none else some (stateErr 0x50)
    | none, none => none

/-- The bank starts afresh (R509): what is measured on the board and the base values of the deeds stay. -/
def Pwr.restart (q : Pwr) : Pwr :=
  { pwrInit with vin := q.vin, hb := q.hb, bankV := q.bankV, cellV := q.cellV, convI := q.convI, chgMw := q.chgMw, railWarn := q.railWarn,
                 gdIn := q.gdIn, capBase := q.capBase, esrBase := q.esrBase, baseReset := q.baseReset, pwrfail := q.pwrfail }

/-- The POWER section takes effect. The first acceptance after supplies good ends the wait of R509, and another number of cells
starts the bank afresh (R289). -/
def State.loadPower (s : State) (p : Plat) : State :=
  let s := if s.pwr.cells.any (· != p.cells) then s.modPwr Pwr.restart else s
  let first := s.pwr.cells.isNone
  let now := s.nowNs
  let s := s.modPwr fun q =>
    { q with cells := some p.cells, floatMv := p.cells * p.cellMv, chargeMa := p.chargeMa, cellMv := p.cellMv,
             chargeFrom := if first && p.cells != 0 then some now else q.chargeFrom,
             chargeV0 := if first then q.bankV else q.chargeV0 }
  let s := if p.cells = 0 then s.setBank .absent
    else if s.pwr.bank == .absent then s.setBank .charging else s
  s.convFollow

/-- An image is accepted (R30, R41, R46, R372): its configuration is in force. -/
def State.acceptPlat (s : State) (im : Image) : State :=
  let p := platOfImage im
  let b := s.config.slotB
  let s := s.modPlat fun q =>
    { q with active := some p, image := some im, slot := b, pend := none, lightDeed := false, raiseSvn := none, written := 0,
             fresh := false }
  let s := (s.setPlatPhase 0xA).clearBits Reg.PLT_STAT 0xF00040
  let (s, k) := s.recordKey 0x11 Config.platDistKey
  let s := (s.setSlot 0 k).placeRoles p
  let s := (s.modStg fun g => { g with count := stagingMib p * 256 }).stgLevels
  let s := s.modTrv fun t => { t with channels := t.channels.zipIdx.map fun (c, n) => { c with mode := byteOf p.channel n } }
  s.loadPower p

/-- A medium that carries no layout is laid out, and its fingerprint recorded (R47); staging is invalidated unless its frames
survived a reset flush (R151). The device goes to RECOVER. -/
def State.enterRecover (s : State) (im : Image) (laid : Bool) : State :=
  let s := if laid then s
    else (s.layOut.modPlat fun q => { q with fresh := true }).queueConfig fun c => { c with fp := some im.fp }
  let keep := laid && (s.pfl.newestMon.any fun m => m.2.kind == .reset)
  let s := if keep then s else s.modStg fun g => { g with invalidating := 2 }
  s.goState .recover

/-- LOAD finds no image to accept: DIAG (R46, R417). -/
def State.loadFails (s : State) : State := (s.setPlatPhase 0xB).goState .diag

/-- PLAT_LOAD (R46): the active slot, or the other one where it may stand in. -/
def execPlatLoad (atNs : Nat) (s : State) : Res :=
  if !s.running || s.sys.poweredDown || s.sys.state != .load then .next s
  else
    let s := s.clockTo atNs
    let b := s.config.slotB
    let laid := s.laidOut
    if (s.pst.deed 1 0).isNone && laid then
      .next ((s.flag Reg.PST_ERR_STAT Reg.PST_ERR_EN 6 false).loadFails)
    else
      match s.slotErr b, s.slotImage b with
      | none, some im => .next (((s.clearBits Reg.PLT_STAT 0x80).acceptPlat im).enterRecover im laid)
      | e, _ =>
        let s := match e with | some e => s.setPlatErr e | none => s
        let s := (s.setBits Reg.PLT_INT_STAT 1).raise 0x1101 (s.regNat Reg.PLT_ERR) (if b then 1 else 0)
        match s.slotErr (!b), s.slotImage (!b) with
        | none, some im =>
          let s := ((s.setBits Reg.PLT_STAT 0x80).setBits Reg.PLT_INT_STAT 2).raise 0x1102 (if b then 0 else 1) 0
          .next ((s.acceptPlat im).enterRecover im laid)
        | _, _ => .next s.loadFails

end Sys2Proof.Machine
end

