-- ==== Sys2Proof/Machine/Recover.lean ====
section
/-! DEFINITION. RECOVER (Table PFL-5; R38, R80, R166, R184, R247, R308 to R321, R338, R345, R351, R360, R374, R378): its eight
steps, taken together when RECOVER_COMPLETE says they have ended. -/

namespace Sys2Proof.Machine

/-! Step 1: the monument (R308, R309). -/

/-- Write-back was open and no flush followed (R319). -/
def Monument.opened (m : Monument) : Bool := m.kind == .run && m.marks % 2 == 1

/-- A migration has been committed: its image is the active one and the saved map is still that of the old (R53). -/
def State.rebaseDue (s : State) : Bool :=
  match s.saved.cds.mig with
  | some m => s.config.pendReplat.isNone && decide (m.total ≤ m.cursor) && (s.plat.image.map (·.fp)) == some m.image.fp
  | none => false

/-- A monument's FP is that of the configuration deed, or of the image a committed migration left (R308; log entry 39). -/
def State.fpFits (s : State) (m : Monument) : Bool := s.config.fp == some m.fp || s.rebaseDue

/-- A set with the copies that fail R308 marked. -/
def State.fitSet (s : State) (x : MonSet) : MonSet :=
  let f (m : Monument) : Monument := { m with bad := m.bad || !s.fpFits m }
  { a := x.a.map f, b := x.b.map f }

/-- The selected monument and its set (R309). -/
def State.selected (s : State) : Option (Bool × Monument) :=
  ({ s.pfl with set0 := s.fitSet s.pfl.set0, set1 := s.fitSet s.pfl.set1 } : Pfl).newestMon

/-- Copies A and B of the selected set, whether each is valid (R309). -/
def State.selectedOk (s : State) (one : Bool) : Bool × Bool :=
  let x := s.fitSet (s.pfl.monSet one)
  (x.a.any (!·.bad), x.b.any (!·.bad))

/-- Both copies are valid and differ (R309). -/
def State.twinConflict (s : State) (one : Bool) : Bool :=
  s.selectedOk one == (true, true) && (s.pfl.monSet one).a != (s.pfl.monSet one).b

/-- What R309 reports of the copies; on a conflict copy A is programmed into copy B. -/
def State.settleCopies (s : State) (one : Bool) : State :=
  let ok := s.selectedOk one
  if s.twinConflict one then
    let f (x : MonSet) : MonSet := { x with b := x.a }
    (s.modPfl fun p => if one then { p with set1 := f p.set1 } else { p with set0 := f p.set0 }).flag
      Reg.PFL_ERR_STAT Reg.PFL_ERR_EN 5 false
  else if ok.1 != ok.2 then s.flag Reg.PFL_ERR_STAT Reg.PFL_ERR_EN 4 false else s

/-- The datum is at least the monument's plus 1 ms; the step is a forward step (R197, R318). -/
def State.monumentDatum (s : State) (m : Monument) : State :=
  let d := m.datum + 1000000 - s.datumNs
  if d = 0 then s
  else
    let s := s.modDtm fun x => { x with datum := x.datum + d * nsUnits, slewing := false, offset := 0 }
    let s := ((s.setPair Reg.DTM_GAP_LO d).setBits Reg.DTM_INT_STAT 1).raise 0x7201 d 0
    (s.ageGap d).datumDeed

/-- The hint against the selected generation: older is HINT_STALE, newer the ROLLBACK alarm (R311, R338). -/
def State.hintCheck (s : State) (gen : Nat) : State :=
  match s.pst.bootHint with
  | none => s
  | some h =>
    if h.gen < gen then s.flag Reg.PFL_ERR_STAT Reg.PFL_ERR_EN 7 false
    else if gen < h.gen then
      ((((s.setBits Reg.IME_SEC_STAT 8).incReg Reg.IME_TAMPER_CNT).secInfo 0x9104 0 0).raise 0x9104 h.gen gen)
    else s

/-! Steps 2 to 4: the map (R166, R184). -/

/-- What stands of the saved map at a restart: merges given up, resets begun again, the scheduler's tasks gone. -/
def Cds.restart (c : Cds) (gone : List Nat) : Cds :=
  let c := c.dropMerges gone
  let mon := (c.bands.filter fun e => e.2.role == .monument).flatMap fun e => e.2.tracts
  let tracts := c.tracts.map fun e =>
    (e.1, if e.2.st == .resetting then { e.2 with st := if mon.contains e.1 then .allocated else .obsolete } else e.2)
  let rel := (c.release.toList ++ c.releases).filter fun r => r.opcode != 0xC000
  { c with tracts := tracts, work := [], wtSlots := [], ckptBusy := false, ckptAll := false, mergeAll := [], floorWait := false,
           rebuilding := [], release := rel.head?, releases := rel.drop 1, roCond := false, wearActive := false, dirtyPages := [],
           journal := 0 }

/-- The tasks that the map calls for: resets of OBSOLETE tracts, rebuilds of degraded bands (Table CDS-5). -/
def Cds.restartWork (c : Cds) (due : Nat) : Cds :=
  let c := c.resetWork ((c.tracts.filter fun e => e.2.st == .obsolete).map (·.1))
  (c.bands.filter fun e => !e.2.missing.isEmpty).foldl (fun c e => c.addWork (.rebuild e.1) 1 (some due)) c

/-- The map is loaded (steps 2 and 3), under the image of a committed migration where there is one. -/
def State.loadMap (s : State) : State :=
  let s := if s.rebaseDue then s.rebase else s
  let gone := s.mdc.retired
  let due := s.nowNs + 10000000
  s.modCds fun _ => (s.saved.cds.restart gone).restartWork due

/-- The dump index becomes log records, each newer than any of its parcel; the written dump bands become full log bands
(R184, step 4). -/
def Cds.adoptDump (c : Cds) (p : Plat) (dump : List DumpEnt) : Cds :=
  let c := dump.foldl (fun (c : Cds) e =>
    match (c.band e.band).bind (·.ordinal) with
    | some o => c.commitRecord p (o * 8192 + e.slot) e.parcel e.mask false
    | none => c) c
  let n := ceilDiv c.dumpUsed 8192
  let ids := c.dumpBands.take n
  let c := ids.foldl (fun (c : Cds) id => c.onBand id fun b => { b with role := .logFull, used := 8192 }) c
  { c with fullLogs := c.fullLogs ++ ids, dumpBands := c.dumpBands.drop n, dumpUsed := 0 }

/-- A fresh dump reservation is formed as far as tracts and ordinals go (R184). -/
def State.reserveDumps : Nat → State → State
  | 0, s => s
  | n + 1, s => State.reserveDumps n s.reserveDump

def State.adopt (s : State) (m : Monument) : State :=
  let p := s.conf
  let gone := s.mdc.retired
  let s := if m.kind == .run then s else s.modCds fun c => (c.adoptDump p m.dump).reclaim p gone
  s.refill.reserveDumps p.dumpBands

/-! Step 5: inline state and keys. -/

/-- The counter blocks, the quarantine, the generations and the root of the saved image (R337, R345, R351, R360). -/
def State.loadInline (s : State) : State :=
  let v := s.saved
  let epoch := s.pst.counter 3
  s.modIme fun m =>
    { m with ctr := v.ctr, quar := v.quar, rekeys := v.rekeys, root := v.root, pct := [], metaDirty := [], devKeys := some epoch }

/-- A holding's key stays locked. -/
def State.lockKey (s : State) (id : Nat) : State :=
  s.modIme fun m => { (m.onRekey id fun r => { r with locked := true }) with loaded := m.loaded.filter fun e => e.1 != id }

/-- Generations of a holding are loaded into the inline key store. -/
def State.loadKeys (s : State) (id : Nat) (gens : List Nat) : State :=
  s.modIme fun m =>
    { (m.onRekey id fun r => { r with locked := false }) with
      loaded := m.loaded.filter (fun e => e.1 != id) ++ gens.map fun g => (id, g) }

/-- A fresh key of a generation, its record queued; none while the random source has failed. -/
def State.makeKey (s : State) (h : Holding) (gen : Nat) : Option State :=
  if s.cke.rngFail then none
  else
    let (s, w) := s.freshKey h gen
    some (s.queueWrap w)

/-- A record that has to be destroyed yet is destroyed (Table IME-8). -/
def State.destroyOld (s : State) (h : Holding) (gen : Nat) : State :=
  if (s.pst.wrapRec h.keyRef gen).any (·.present) then
    let (s, w) := s.wrapKey h.keyRef gen none none
    s.queueWrap w
  else s

/-- The keys of a holding at RECOVER (R38, R374, R376, R378, Table CKE-5): made at the first RECOVER, loaded from a record under
the KEK, kept from before a warm reset, else locked. -/
def State.holdingKey (s : State) (h : Holding) : State :=
  let r := s.ime.rekey h.id
  if (s.pst.wrapRecs h.keyRef).isEmpty then
    match s.makeKey h r.cur with
    | some s => s.loadKeys h.id [r.cur]
    | none => s.lockKey h.id
  else
    let s := if 1 < r.cur then s.destroyOld h (r.cur - 1) else s
    let new := (s.pst.wrapRec h.keyRef (r.cur + 1)).any (·.present)
    let s := s.modIme (·.onRekey h.id fun x => { x with deed := r.active && new })
    let s := if r.active && !new then (s.makeKey h (r.cur + 1)).getD s else s
    let gens := if r.active && new then [r.cur, r.cur + 1] else [r.cur]
    match s.pst.wrapRec h.keyRef r.cur with
    | none => s.lockKey h.id
    | some w =>
      if s.ime.loaded.contains (h.id, r.cur) then s.loadKeys h.id gens
      else if w.underPk then s.lockKey h.id
      else match w.open ((s.cke.slot 2).key.getD 0) with
        | some _ => s.loadKeys h.id gens
        | none => ((s.lockKey h.id).flag Reg.CKE_ERR_STAT Reg.CKE_ERR_EN 6 false).raise 0xA104 h.keyRef 0

/-- A PASSLOCK holding's key waits for the passphrase (R38, Table APP-8). -/
def State.passLocked (s : State) : Bool :=
  s.conf.passHoldings.any fun h => (s.ime.rekey h.id).locked && (s.pst.wrapRecs h.keyRef).any (·.underPk)

/-! Groups sealed under a block that the journal does not map (R333). -/

/-- A host line on the medium carries a counter above that of its group's block. -/
def State.orphanLine (s : State) (m : MedLine) : Bool :=
  let b := s.ime.block (m.under.line / 64)
  let v := b.minor (m.under.line % 64)
  m.kind == .host && m.under.gen == b.gen && (decide (b.major < m.under.major) || (b.major == m.under.major && decide (v < m.under.minor)))

/-- The integrity groups with such a line, each with the highest MAJOR found, whose holding's key is there. -/
def State.orphans (s : State) : List (Nat × Nat) :=
  s.med.foldl (fun l e =>
    let m := e.2
    let q := m.under.line / 64
    match s.conf.holdingOfLine m.under.line with
    | none => l
    | some h =>
      if !h.integrity || (s.ime.rekey h.id).locked || !s.orphanLine m then l
      else match l.find? fun x => x.1 == q with
        | none => l ++ [(q, m.under.major)]
        | some _ => l.map fun x => if x.1 == q then (q, max x.2 m.under.major) else x) []

/-- Every line of a group is sealed again under a MAJOR one above the higher of the two, and committed (R330, R333); the group is
counted and named (log entry 41). -/
def State.adoptOrphan (s : State) (e : Nat × Nat) : State :=
  let q := e.1
  let b := s.ime.block q
  let major := max b.major e.2 + 1
  let s := (s.incReg Reg.IME_ORPHAN_CNT).raise 0x9304 (q * 4096) 0
  let lines := (s.copies q).map fun n => match s.readLine (q * 64 + n) with
    | .data d => (n, d, false)
    | _ => (n, (0 : Line), true)
  let seals := (s.copies q).map fun n => (n, ({ gen := b.gen, major := major, minor := 0, line := q * 64 + n } : Seal))
  match s.takeSlot q false with
  | none => s
  | some (band, slot, s) =>
    let p := s.conf
    let s := s.wtProgram band slot q lines seals
    let s := s.mapCommit (s.cds.recordPages p slot q) fun c => c.commitRecord p slot q (maskOfList (lines.map (·.1))) false
    s.commitSeals q seals

/-! Step 6: what the flush lost (R247, R301, R302, Table PFL-2). -/

/-- A run of lines enters the poison list. -/
def State.poisonRange (s : State) (lo n : Nat) : State :=
  s.modSvc fun v =>
    { v with poison := (v.poison.filter fun l => decide (l < lo)) ++ List.range' lo n ++ v.poison.filter fun l => decide (lo + n ≤ l) }

/-- Every line of a plot. -/
def State.poisonPlot (s : State) (plot : Nat) : State := s.poisonRange (plot * 524288) 524288

/-- The parcel of integrity group g (R334). -/
def groupParcel : List (Holding × Nat × Nat) → Nat → Option Nat
  | [], _ => none
  | (h, base, n) :: rest, g => if h.integrity then (if g < n then some (base + g) else groupParcel rest (g - n)) else groupParcel rest g

def Plat.groupParcel (p : Plat) (g : Nat) : Option Nat := Machine.groupParcel (holdingBases 0 p.holdings) g

/-- The groups that a metadata parcel covers, first and number, the level of its nodes and the groups of each (Table IME-4). -/
def Plat.metaGroups (p : Plat) (parcel : Nat) : Nat × Nat × Nat × Nat :=
  let plot := parcelPlot parcel
  if plot < p.ctrPlot then ((parcel - p.tagPlot * 8192) * 8, 8, 0, 8)
  else if plot < p.tree1Plot then ((parcel - p.ctrPlot * 8192) * 64, 64, 0, 1)
  else if plot < p.tree2Plot then ((parcel - p.tree1Plot * 8192) * 512, 512, 1, 8)
  else ((parcel - p.tree2Plot * 8192) * 4096, 4096, 2, 64)

/-- The counter block or node of a level above group g is lost (R349). -/
def State.loseNode (s : State) (level g : Nat) : State :=
  match s.conf.groupParcel g with
  | some q => s.metaFault (q * 64) (.node level false)
  | none => s

/-- A root entry disagrees with the tree read back: TAMPER_ROOT, and the lines under the entry are quarantined (R337). -/
def State.tamperRoot (s : State) (j : Nat) : State :=
  let k := s.conf.tree.1
  match s.conf.groupParcel (j * 8 ^ k) with
  | some q =>
    let (b, n) := s.nodeRegion (q * 64) k
    (s.tamper 2 0x9103 (q * 64) k).quarantine b n true
  | none => s

/-- A level-2 node cannot be read: its region is quarantined and the rest of the subtree is accepted without the root check
(R337). -/
def State.uncheckedRoot (s : State) (g : Nat) : State :=
  ((s.loseNode 2 g).imeFlag 1 true).raise 0x9202 g (s.conf.rootEntry g)

/-- The outcome of one item of metadata left unwritten. -/
def State.loseMeta (s : State) (item : Nat) : State :=
  let id := metaIdOf item
  let p := s.conf
  match metaRowOf item with
  | 1 => ((List.range 512).map fun k => (id - p.pageOfPlot 0) * 512 + k).foldl State.poisonPlot s
  | 5 =>
    let (g, n, level, k) := p.metaGroups id
    ((List.range (n / k)).map fun j => g + j * k).foldl (fun (s : State) j => s.loseNode level j) s
  | 6 =>
    let (g, n, _, _) := p.metaGroups id
    ((List.range n).filterMap fun j => p.groupParcel (g + j)).foldl (fun s q => s.poisonRange (q * 64) 64) s
  | _ => s

/-- Table PFL-2, with the logged plots of row 3 named once. -/
def State.loseAll (s : State) (lost : List Nat) : State :=
  let s := if lost.any fun n => metaRowOf n = 3 then
      ((s.cds.plots.filter fun e => e.2.logged).map (·.1)).foldl State.poisonPlot s
    else s
  lost.foldl State.loseMeta s

/-- Unflushed lines and overflow plots read as poison (R301). -/
def State.poisonUnflushed (s : State) (m : Monument) : State :=
  let s := m.unflushed.foldl (fun (s : State) e => (Quad.bits e.2).foldl (fun s n => s.addPoison (e.1 * 64 + n)) s) s
  m.overflow.foldl State.poisonPlot s

/-- Staging after a RESET monument (R151): tags stay, the free list is rebuilt, the frames of locked holdings are freed. -/
def Stg.keep (g : Stg) (locked : Nat → Bool) : Stg :=
  let frames := g.frames.filter fun e => !(e.2.st == .inUse && locked e.2.holding)
  let used := frames.map (·.1)
  let n := g.serviceFrames
  let top := (used.filter fun i => decide (i < n)).foldl (fun a i => max a (i + 1)) 0
  { g with frames := frames, freeNext := min top n, freeTail := (List.range (min top n)).filter fun i => !used.contains i }

def State.restartStaging (s : State) (keep : Bool) : State :=
  let s := if keep then
      let locked (h : Nat) : Bool := (s.ime.rekey h).locked
      s.modStg (·.keep locked)
    else if s.stg.invalidating = 2 then (s.modStg Stg.invalidate).setBits Reg.STG_INT_STAT 2
    else s.modStg fun g => { g with frames := [], freeNext := 0, freeTail := [] }
  s.modMdc fun m => { m with stripes := [], stripeFull := false }

/-! Step 7: the monument sets (R312, R315). -/

/-- The set that does not hold the selected monument is reset where it is not. -/
def State.resetSpare (s : State) (one : Bool) : State :=
  if (s.pfl.monSet one).isReset then s
  else
    let l := s.cds.monTracts one
    let s := l.foldl (fun s k => (s.eraseTract k).modCds fun c => c.onTract k fun t => { t with resets := t.resets + 1 }) s
    s.modPfl fun p => if one then { p with set1 := emptySet } else { p with set0 := emptySet }

def State.recoverRun (s : State) (sel : Option (Bool × Monument)) : State :=
  let s := match sel with
    | some (one, _) => s.resetSpare (!one)
    | none => s
  (s.modPfl fun p => { p with resetSet := none, resetLeft := [] }).writeRun

/-! Work that goes on (R53, R79, R84, R182, R355). -/

def State.resumeRekeys (s : State) : State :=
  if s.ime.rekeys.any fun e => e.2.active then s.modCds (·.addWork .rekey 6 none) else s

/-- A migration goes on at its cursor; a sanitize begins again (Table PLT-16). -/
def State.resumeMigration (s : State) : State :=
  match s.cds.mig with
  | none => s
  | some m =>
    let s := (s.setPlatPhase (if m.cls = 4 then 0xD else 0xC)).setNat Reg.PLT_MIG_STAT (2 ^ 31 + m.cls)
    let s := s.modSvc fun v => { v with background := some { via := .bar2 0, opcode := 0xC030 } }
    let s := s.modCds (·.addWork .migrate 7 none)
    if m.cls = 4 then s.conf.holdings.foldl State.eraseKeys (s.modSvc fun v => { v with erasing := true })
    else m.gens.foldl (fun (s : State) e =>
      match s.conf.holding e.1 with
      | some h => if (s.pst.wrapRec h.keyRef e.2).any (·.present) then s else (s.makeKey h e.2).getD s
      | none => s) s

/-- Releases of erased holdings and secure releases go on; their background slot is port 0's. -/
def State.resumeReleases (s : State) : State :=
  match s.cds.release with
  | none => s
  | some r =>
    let ids := ((r :: s.cds.releases).filter fun x => x.opcode == 0xC020).filterMap fun x => (holdingOfParcel s.conf x.first).map (·.1.id)
    let s := s.modSvc fun v =>
      { v with erasingHoldings := ids.foldl (fun l n => insertUniq n l) v.erasingHoldings,
               background := some (v.background.getD { via := .bar2 0, opcode := r.opcode }) }
    if r.secure && r.left = 0 then s.mergeMarked else s

def State.resumePatrol (s : State) : State := if s.mdc.patrol.active then s.modCds (·.addWork .patrol 8 none) else s

/-! Step 8: the report, the counts, the deed (R80, R319, R320). -/

/-- The flush ran short, or write-back was open without a flush (R319). -/
def Monument.counts (m : Monument) : Bool := m.short || m.metaShort || m.opened

def State.countDirty (s : State) (m : Monument) : State :=
  let s := if m.opened then (s.flag Reg.PFL_ERR_STAT Reg.PFL_ERR_EN 6 true).raise 0x8203 m.gen 0 else s
  if m.counts then s.pstQueue (.tally 0 1) else s

/-- The report and its registers (R320, Tables PFL-6 and PFL-8). -/
def State.fileReport (s : State) (one : Bool) (m : Monument) (okA okB conflict : Bool) (ms : Nat) : State :=
  let (us, mj) := m.rest.getD (0, 0)
  let stale := s.pst.bootHint.any fun h => decide (h.gen < m.gen)
  let b (x : Bool) (k : Nat) : Nat := if x then 2 ^ k else 0
  let s := s.modPfl fun p =>
    { p with report := { p.report with mon := some m, restUs := us, restMj := mj, missing := m.opened, recoverMs := ms, lost := false } }
  let s := s.setNat Reg.PFL_MON_GEN (m.kind.code * 2 ^ 29 + b one 28 + b okA 27 + b okB 26 + b conflict 25 + b stale 24 + m.gen % 2 ^ 24)
  let s := (((s.setNat Reg.PFL_SEAL_US m.sealUs).setNat Reg.PFL_DRAIN_US m.drainUs).setNat Reg.PFL_MON_US m.monUs).setNat Reg.PFL_REST_US us
  let s := (s.setNat Reg.PFL_E_SEAL_DRAIN (m.drainMj % 65536 * 65536 + m.sealMj % 65536)).setNat Reg.PFL_E_MON_REST
    (mj % 65536 * 65536 + m.monMj % 65536)
  let s := (s.setNat Reg.PFL_DRAINED m.drained).setNat Reg.PFL_UNFLUSHED m.unflTotal
  if m.kind == .run then s else (s.setBits Reg.PFL_INT_STAT 8).raise 0x8204 m.gen m.kind.code

/-- RECOVER ends: LOCKED, READY or READONLY (Table APP-8). -/
def State.leaveRecover (s : State) : State :=
  if s.passLocked then s.goState .locked
  else if s.canFree then s.goReady
  else s.enterReadonly

/-- A medium that carries a layout has no valid monument (R310, R319): nothing is reset, the device goes to DIAG. -/
def State.lostMonument (s : State) : State :=
  let v := s.saved
  let s := (s.modCds fun _ => { cdsInit with tracts := v.cds.tracts }).modIme fun m => { m with rekeys := v.rekeys }
  let s := ((s.flag Reg.PFL_ERR_STAT Reg.PFL_ERR_EN 9 true).raise 0x8203 0 0).pstQueue (.tally 0 1)
  (s.modPfl fun p => { p with report := { p.report with mon := none, missing := true, lost := true } }).goState .diag

/-- Steps 1 to 8 with the selected monument, none right after a layout; `bad`: root entries that disagree, `unread`: groups whose
level-2 node cannot be read (R337). -/
def State.recover (s : State) (sel : Option (Bool × Monument)) (bad unread : List Nat) : State :=
  let ms := (s.nowNs - s.sys.since) / 1000000
  let moved := s.rebaseDue
  let (okA, okB) := match sel with | some (one, _) => s.selectedOk one | none => (false, false)
  let conflict := match sel with | some (one, _) => s.twinConflict one | none => false
  let s := match sel with
    | some (one, m) => (((s.settleCopies one).monumentDatum m).hintCheck m.gen)
    | none => s
  let s := s.loadMap.loadInline
  let s := match sel with
    | some (_, m) => s.adopt m
    | none => s.refill
  let s := s.conf.holdings.foldl State.holdingKey s
  let s := if sel.any fun e => e.2.opened then s else s.orphans.foldl State.adoptOrphan s
  let s := unread.foldl State.uncheckedRoot (bad.foldl State.tamperRoot s)
  let s := match sel with
    | some (_, m) => (s.poisonUnflushed m).loseAll m.lost
    | none => s
  let keep := !moved && (sel.any fun e => e.2.kind == .reset)
  let s := (s.restartStaging keep).planByAge
  let s := s.recoverRun sel
  let s := s.resumeRekeys.resumeReleases.resumeMigration.resumePatrol
  let s := s.setNat Reg.PFL_RECOVER_MS ms
  let s := match sel with
    | some (one, m) => (s.countDirty m).fileReport one m okA okB conflict ms
    | none => s.modPfl fun p => { p with report := { p.report with mon := none, missing := false, recoverMs := ms, lost := false } }
  let s := (s.queueDeed 0 (.shutdown true)).setBits Reg.PFL_INT_STAT 4
  let s := (s.modPlat fun q => { q with fresh := false }).logTriggers
  (s.saveMap.setBudget.leaveRecover).retryRelease

/-- RECOVER_COMPLETE (R316): the fingerprint of a fresh layout is persistent, and every step has ended. `badRoots`, `unread`: the
outcome of the root check of step 5. -/
def execRecoverComplete (badRoots : List (Fin 8)) (unread : List Nat) (atNs : Nat) (s : State) : Res :=
  if !s.running || s.sys.poweredDown || s.sys.state != .recover || s.config.fp.isNone then .next s
  else
    let s := s.clockTo atNs
    match s.selected, s.plat.fresh with
    | none, false => .next s.lostMonument
    | sel, _ => .next (s.recover sel (badRoots.map (·.val)) unread)

end Sys2Proof.Machine
end

