-- ==== Sys2Proof/Machine/Views.lean ====
section
/-! DEFINITION. The registers that show the typed state: what each of them reads as now. A register not listed here reads as the
register file holds it. -/

namespace Sys2Proof.Machine

/-- A bit of a register. -/
def bitIf (k : Nat) (b : Bool) : Nat := if b then 2 ^ k else 0

/-- The mask of the indexes below n for which p holds. -/
def maskOf (n : Nat) (p : Nat → Bool) : Nat := ((List.range n).map fun k => bitIf k (p k)).sum

/-- What a register shows. -/
abbrev View : Type := Nat × (State → Nat)

/-- A 64-bit value in a _LO, _HI pair. -/
def pairView (lo : Nat) (f : State → Nat) : List View := [(lo, f), (lo + 4, fun s => f s / 2 ^ 32)]

/-- Zero before LOAD has accepted an image. -/
def State.ofPlat (s : State) (f : Plat → Nat) : Nat := match s.plat.active with
  | some p => f p
  | none => 0

/-- A value the spec leaves open (log entry 3). -/
def State.openReg (s : State) (off : Nat) : Nat := (Config.openView off s.dtm.mono).toNat

/-! PLT (Table PLT-18). -/

def State.selHolding (s : State) (sel : Nat) : Option (Holding × Nat × Nat) :=
  (s.plat.active.map fun p => holdingBases 0 p.holdings).bind fun l => l.find? fun e => e.1.id == s.regField sel 0 4

def holdingInfo (h : Holding) (locked : Bool) : Nat :=
  2 ^ 31 + h.keyRef % 16 * 2 ^ 16 + h.qos % 4 * 2 ^ 12 + bitIf 7 locked + bitIf 3 h.passlock + bitIf 2 h.readAlloc + bitIf 1 h.mirror +
    bitIf 0 h.integrity

/-- The views of this block but for its pairs and indexed registers. -/
def pltViewsPlain : List View := [
  (Reg.PLT_ACTIVE, fun s => bitIf 0 s.plat.slot + bitIf 1 (s.plat.pend.isSome && !s.plat.slot)),
  (Reg.PLT_SERIAL_ACT, fun s => (s.plat.image.map (·.serial)).getD 0),
  (Reg.PLT_SERIAL_PEND, fun s => (s.plat.pend.map (·.1.serial)).getD 0),
  (Reg.PLT_SVN_ACT, fun s => (s.plat.image.map (·.svn)).getD 0),
  (Reg.PLT_SVN_MIN, fun s => s.pst.counter 1),
  (Reg.PLT_MIG_CURSOR, fun s => (s.cds.mig.map (·.cursor)).getD s.config.migCursor),
  (Reg.PLT_MIG_TOTAL, fun s => (s.cds.mig.map (·.total)).getD s.config.migTotal),
  (Reg.PLT_BANDS_MAX, fun s => s.ofPlat fun p => (layoutOf p).maxBands),
  (Reg.PLT_BANDS_HOST, fun s => s.ofPlat fun p => (layoutOf p).host),
  (Reg.PLT_BANDS_META, fun s => s.ofPlat fun p => (layoutOf p).tag + (layoutOf p).ctr + (layoutOf p).tree),
  (Reg.PLT_BANDS_LOG, fun s => s.ofPlat fun p => (layoutOf p).log),
  (Reg.PLT_BANDS_RSVD, fun s => s.ofPlat fun p => (layoutOf p).rsvd),
  (Reg.PLT_BANDS_EASE, fun s => s.ofPlat fun p => (layoutOf p).ease),
  (Reg.PLT_HOLD_INFO, fun s => ((s.selHolding Reg.PLT_HOLD_SEL).map fun e => holdingInfo e.1 (s.ime.rekey e.1.id).locked).getD 0)]

def pltViews : List View :=
  pltViewsPlain ++
  pairView Reg.PLT_FP_LO (fun s => (s.plat.image.map (·.fp)).getD 0) ++
  pairView Reg.PLT_BUILD_LO (fun s => (s.plat.image.map (·.buildId)).getD 0) ++
  pairView Reg.PLT_CAP_LO (fun s => s.ofPlat fun p => (layoutOf p).host * 33554432) ++
  pairView Reg.PLT_HOLD_BASE_LO (fun s => ((s.selHolding Reg.PLT_HOLD_SEL).map fun e => e.2.1 * 4096).getD 0) ++
  pairView Reg.PLT_HOLD_SIZE_LO (fun s => ((s.selHolding Reg.PLT_HOLD_SEL).map fun e => e.2.2 * 4096).getD 0)

/-! HPT (Table HPT-13). -/

/-- The port exists under the BIFURC of the image in force. -/
def State.present (s : State) (p : Nat) : Bool := s.plat.active.isSome && s.portPresent p

/-- Memory_Active (R63). -/
def State.memActive (s : State) : Bool := s.inState [.ready, .readonly]

def IdeState.code : IdeState → Nat
  | .insecure => 0 | .secure => 1 | .refreshWait => 2 | .error => 3

/-- Milliseconds in REFRESH_WAIT: of the running wait, else of the last one (R70). -/
def State.ideWait (s : State) (x : Ide) : Nat := match x.waitSince with
  | some t => (s.nowNs - t) / 1000000
  | none => x.waitMs

def State.ideStat (s : State) (x : Ide) : Nat :=
  x.state.code * 2 ^ 24 + bitIf 23 x.skid + bitIf 22 x.rxMacFail + bitIf 21 (decide (2 ^ 63 ≤ x.txIv)) + bitIf 20 x.keySet +
    min 0xFFFF (s.ideWait x)

def linkStat (x : Port) : Nat :=
  bitIf 28 x.linkUp + x.rate % 4 * 2 ^ 24 + bitIf 23 x.flit256 + x.width % 32 * 2 ^ 16 + x.laneOk % 65536

def Port.committed (x : Port) : Nat := (x.decoders.filter (·.committed)).length

/-- The views of this block but for its pairs and indexed registers. -/
def hptViewsPlain (p : Nat) : List View := [
  (Reg.HPT_ID p, fun s => 0x20000000 + p * 2 ^ 24 + bitIf 16 (s.present p)),
  (Reg.HPT_STAT p, fun s => bitIf 31 (s.present p) + bitIf 30 (s.present p && s.memActive) +
    bitIf 29 (s.plat.active.isSome && !s.writeBack) + bitIf 28 ((s.port p).drain.isSome || (s.port p).gpf.isSome) +
    s.thm.applied % 16 * 2 ^ 24 + (s.port p).committed % 16 * 256 + s.sys.state.code),
  (Reg.HPT_LINK_CAP p, fun s => s.ofPlat fun c => (if c.bifurc == 1 then 8 else 16) + c.maxRate % 4 * 32 + bitIf 7 (c.flit68 != 0)),
  (Reg.HPT_LINK_STAT p, fun s => linkStat (s.port p)),
  (Reg.HPT_PWB_STAT p, fun s => (s.port p).pwb.length),
  (Reg.HPT_DEC_STAT p, fun s => (s.port p).committed),
  (Reg.HPT_IDE_STAT p, fun s => s.ideStat (s.port p).ide),
  (Reg.HPT_BG_STAT p, fun s => match s.svc.background, s.svc.lastBackground with
    | some b, _ => b.opcode * 65536 + s.openReg (Reg.HPT_BG_STAT p) % 100
    | none, some (op, _) => op * 65536 + 100
    | none, none => 0),
  (Reg.HPT_ADMIT_PAUSE p, fun s => 64 * s.appliedNow),
  (Reg.HPT_DEVLOAD p, fun s => if (s.port p).linkUp then s.openReg (Reg.HPT_DEVLOAD p) % 4 else 0),
  (Reg.HPT_EVT_PEND p, fun s => (((s.port p).logs.zipIdx).map fun e => min 128 e.1.length * 256 ^ e.2).sum)]

def hptViews (p : Nat) : List View :=
  hptViewsPlain p ++
  pairView (Reg.HPT_IDE_TX_IV_LO p) (fun s => (s.port p).ide.txIv) ++
  pairView (Reg.HPT_IDE_RX_IV_LO p) (fun s => (s.port p).ide.rxIv)

/-! STG (Table STG-5). -/

/-- The views of this block but for its pairs and indexed registers. -/
def stgViewsPlain : List View := [
  (Reg.STG_STAT, fun s => bitIf 31 s.stg.enabled + bitIf 30 s.stg.draining + bitIf 29 s.stg.stale + bitIf 28 (s.stg.invalidating != 0) +
    bitIf 27 (s.plat.active.isSome && !s.writeBack) + bitIf 26 s.stg.budgetStall + bitIf 25 s.stg.rsvActive +
    bitIf 24 s.stg.rsvSealed + bitIf 23 (!s.stg.cleaning.isEmpty)),
  (Reg.STG_FRAMES, fun s => s.stg.count),
  (Reg.STG_FREE, fun s => s.stg.free),
  (Reg.STG_DIRTY, fun s => s.stg.dirty),
  (Reg.STG_WB_INFLIGHT, fun s => s.stg.wbt.length),
  (Reg.STG_BUDGET, fun s => s.stg.budget),
  (Reg.STG_META_DIRTY, fun s => s.metaDirty),
  (Reg.STG_DATA_LIMIT, fun s => s.dataLimit),
  (Reg.STG_CLOCK_FRONT, fun s => s.stg.front),
  (Reg.STG_CLOCK_BACK, fun s => s.stg.back),
  (Reg.STG_RSV_LEFT, fun s => s.stg.rsvLeft),
  (Reg.STG_LLT_STAT, fun s => s.stg.fills.length),
  (Reg.STG_INV_STAT, fun s => if s.stg.invalidating = 0 then 0 else 2 ^ 31 + s.openReg Reg.STG_INV_STAT % 2 ^ 23)]

def stgViews : List View :=
  stgViewsPlain ++
  pairView Reg.STG_TC_HIT_LO (fun s => if s.stg.count = 0 then 0 else s.openReg Reg.STG_TC_HIT_LO) ++
  pairView Reg.STG_TC_MISS_LO (fun s => if s.stg.count = 0 then 0 else s.openReg Reg.STG_TC_MISS_LO)

/-! CDS (Table CDS-8). -/

/-- CDS_WA (R174): with no log parcel in the last full second the spec gives no value. -/
def State.writeAmp (s : State) : Nat :=
  let sec := s.nowNs / 1000000000
  let c := s.cds
  let (log, merge) := if sec = c.waSince then (c.waLastLog, c.waLastMerge) else if sec = c.waSince + 1 then (c.waLog, c.waMerge) else (0, 0)
  if c.waSince = 0 && c.waLog = 0 then 0 else if log = 0 then s.openReg Reg.CDS_WA else (log + merge) * 256 / log

/-- FREE tracts of the selected die in a wear bin. -/
def State.binFree (s : State) (bin : Nat) : Nat := min 0xFFFF (s.cds.freeIn s.allocEnv (s.regField Reg.CDS_BIN_SEL 0 7) bin)

def Cds.tractsIn (c : Cds) (st : TractSt) : Nat := (c.tracts.filter fun e => e.2.st == st).length

/-- Pending tasks of the priorities from a to b, capped at 255. -/
def State.workIn (s : State) (a b : Nat) : Nat := min 255 (s.cds.work.filter fun w => decide (a ≤ w.prio) && decide (w.prio ≤ b)).length

/-- MODE of CDS_BWS_STAT: 0 NORMAL, 1 CRIT, 2 FLOOR, 3 BRACE_HOLD (R180). -/
def State.bwsMode (s : State) : Nat :=
  if s.sys.state == .braced then 3 else if s.plat.active.isNone then 0 else if s.cds.floorWait then 2 else if s.logCritNow then 1 else 0

/-- The share in force: SHARE_CAP where it is not 0, else that of the QOS section for the mode. -/
def State.bwsShare (s : State) : Nat :=
  let cap := s.regField Reg.CDS_BWS_CTL 16 8
  if cap != 0 then cap else if s.bwsMode = 1 ∨ s.bwsMode = 2 then s.conf.bgCrit else s.conf.bgShare

/-- The plot-map entry as Table CDS-2 lays it out: VALID 63, LOGGED 62, MERGING 61, STREAM 60, HEAT 59:56, LOG_PARCELS 55:36,
STREAM_BAND 33:17, BAND 16:0. -/
def plotWord (e : PlotEnt) : Nat :=
  bitIf 63 e.valid + bitIf 62 e.logged + bitIf 61 e.merging + bitIf 60 e.stream + e.heat % 16 * 2 ^ 56 + e.logParcels % 2 ^ 20 * 2 ^ 36 +
    e.streamBand % 2 ^ 17 * 2 ^ 17 + e.band % 2 ^ 17

/-- The views of this block but for its pairs and indexed registers. -/
def cdsViewsPlain : List View := [
  (Reg.CDS_STAT, fun s => bitIf 31 s.cds.roCond + bitIf 30 (s.plat.active.isSome && s.logCritNow) + bitIf 29 s.cds.floorWait +
    bitIf 28 s.cds.ckptBusy + bitIf 27 s.cds.wearActive + bitIf 26 s.cds.release.isSome +
    bitIf 25 (s.cds.release.any (·.secure)) + bitIf 24 (s.sys.state == .braced) + s.ofPlat fun _ => s.freeLogPct % 256),
  (Reg.CDS_PLOTS, fun s => (s.cds.plots.filter fun e => e.2.valid).length),
  (Reg.CDS_LOG_BANDS, fun s => s.ofPlat fun p => (layoutOf p).log),
  (Reg.CDS_LOG_USED, fun s => s.cds.logUsed),
  (Reg.CDS_MERGE_ACTIVE, fun s => s.cds.merges.length % 8),
  (Reg.CDS_WA, State.writeAmp),
  (Reg.CDS_FREE_TRACTS, fun s => s.ofPlat s.cds.freeTracts),
  (Reg.CDS_RESET_PEND, fun s => s.cds.tractsIn .obsolete + s.cds.tractsIn .resetting),
  (Reg.CDS_EASE_BANDS, fun s => s.ofPlat fun _ => s.easeBands),
  (Reg.CDS_RETIRED, fun s => s.cds.tractsIn .retired),
  (Reg.CDS_WEAR_MIN, fun s => s.ofPlat s.cds.wearMin),
  (Reg.CDS_WEAR_MAX, fun s => s.cds.wearMax),
  (Reg.CDS_BIN_CNT_0, fun s => s.ofPlat fun _ => s.binFree 0 + s.binFree 1 * 65536),
  (Reg.CDS_BIN_CNT_1, fun s => s.ofPlat fun _ => s.binFree 2 + s.binFree 3 * 65536),
  (Reg.CDS_BIN_CNT_2, fun s => s.ofPlat fun _ => s.binFree 4 + s.binFree 5 * 65536),
  (Reg.CDS_BIN_CNT_3, fun s => s.ofPlat fun _ => s.binFree 6 + s.binFree 7 * 65536),
  (Reg.CDS_CKPT_STAT, fun s => if s.cds.ckptBusy then 2 ^ 31 + s.openReg Reg.CDS_CKPT_STAT % 2 ^ 24 else 0),
  (Reg.CDS_META_DIRTY, fun s => s.cds.dirtyPages.length),
  (Reg.CDS_JRNL_FILL, fun s => s.cds.journal),
  (Reg.CDS_WT_OPEN, fun s => s.cds.wtSlots.length),
  (Reg.CDS_BWS_STAT, fun s => s.bwsShare % 256 * 2 ^ 24 + s.bwsMode * 2 ^ 20 + bitIf 19 (s.cds.work.any (·.gateCounted)) +
    bitIf 18 (s.cds.work.any fun w => w.deadline.any fun d => decide (d < s.nowNs)) + bitIf 17 (s.bit Reg.CDS_BWS_CTL 0) +
    ((s.cds.work.map (·.prio)).min?.getD 0) % 16),
  (Reg.CDS_BWS_PEND, fun s => s.workIn 1 2 * 2 ^ 24 + s.workIn 3 3 * 2 ^ 16 + s.workIn 4 4 * 256 + s.workIn 5 9),
  (Reg.CDS_REL_STAT, fun s => match s.cds.release with
    | some r => 2 ^ 31 + bitIf 30 r.secure + s.openReg Reg.CDS_REL_STAT % 65536
    | none => 0),
  (Reg.CDS_REL_LEFT, fun s => match s.cds.release with
    | some r => r.left + s.cds.marked.length
    | none => 0)]

def cdsViews : List View :=
  cdsViewsPlain ++
  pairView Reg.CDS_LOG_LIVE_LO (fun s => (s.cds.records.filter fun e => e.2.live).length) ++
  pairView Reg.CDS_LC_HIT_LO (fun s => s.ofPlat fun _ => s.openReg Reg.CDS_LC_HIT_LO) ++
  pairView Reg.CDS_LC_MISS_LO (fun s => s.ofPlat fun _ => s.openReg Reg.CDS_LC_MISS_LO) ++
  pairView Reg.CDS_PLOT_ENT_LO (fun s => s.ofPlat fun _ => plotWord (s.cds.plot (s.regField Reg.CDS_PLOT_SEL 0 17)))

/-! DTM (Tables DTM-3 and DTM-4). -/

/-- Period of a timer in the units of R511: cycles of its clock, ms or s; 0 for per-channel and continuous timers. -/
def State.timerCfg (s : State) (id : Nat) : Nat :=
  match id with
  | 0x10 => 12000 | 0x11 => 32000 | 0x12 => 64000 | 0x13 => 160000 | 0x20 => s.pfl.half * 5 / 4 / 1000000 | 0x21 => 1
  | 0x22 => s.conf.quenchMs | 0x23 => 1 | 0x24 => 10 | 0x25 => 100 | 0x26 => 400 | 0x30 => 1000 | 0x31 => 1000
  | 0x32 => s.conf.restartS * 1000 | 0x33 => 120000 | 0x34 => 600000 | 0x35 => 3600000 | 0x40 => 3600000
  | 0x41 => s.conf.assayDays * 86400 | _ => 0

/-- An erase is running. -/
def PstOp.erases : PstOp → Bool
  | .erase _ _ => true
  | .rawErase _ => true
  | _ => false

/-- When the selected timer started, DTM_MONO, ns, and ns in its unit; none where it does not run. A timer with an instance for
each engine, lane, band or channel is not one of them (log entry 3). -/
def State.timerStart (s : State) (id : Nat) : Option (Nat × Nat × Nat) :=
  let ms (t : Option Nat) : Option (Nat × Nat × Nat) := t.map fun t => (t, 1000000, 1)
  let cyc (t : Option Nat) : Option (Nat × Nat × Nat) := t.map fun t => (t, 5, 8)
  match id with
  | 0x11 => cyc s.pfl.vinLowSince
  | 0x12 => cyc ((s.eng.failovers.head?).map (·.origin))
  | 0x13 => cyc ((s.port0.gpf.or s.port1.gpf).map (·.2))
  | 0x20 => if s.pfl.tracker == .locked && !s.pfl.windowOut then ms s.pfl.reference else none
  | 0x22 => ms s.thm.quenchSince
  | 0x23 => ms ((s.pst.run.filter fun r => !r.op.erases).map (·.start))
  | 0x24 => ms (s.port0.ide.waitSince.or s.port1.ide.waitSince)
  | 0x25 => ms s.pfl.vinHighSince
  | 0x26 => ms ((s.pst.run.filter fun r => r.op.erases).map (·.start))
  | 0x30 => ms s.thm.overSince
  | 0x32 => ms s.thm.restartSince
  | 0x33 => ms (if s.sys.state == .warmup then some s.sys.since else none)
  | 0x34 => ms (if s.plat.active.isSome then some s.cds.heatAt else none)
  | 0x40 => ms s.dtm.deedAt
  | _ => none

/-- DTM_TMR_STAT. -/
def State.timerStat (s : State) (id : Nat) : Nat :=
  if id = 0x41 then (if s.pwr.assayValid then 2 ^ 31 + min (2 ^ 31 - 1) ((s.datumNs - s.pwr.assayTimer) / 1000000000) else 0)
  else if [0x01, 0x10, 0x21, 0x31, 0x35, 0x42].contains id then s.openReg Reg.DTM_TMR_STAT
  else match s.timerStart id with
    | some (t, n, d) => 2 ^ 31 + min (2 ^ 31 - 1) ((s.nowNs - t) * d / n)
    | none => 0

def State.tmrSel (s : State) : Nat := s.regField Reg.DTM_TMR_SEL 0 8

/-- The views of this block but for its pairs and indexed registers. -/
def dtmViewsPlain : List View := [
  (Reg.DTM_STAT, fun s => bitIf 31 s.dtm.everSet + bitIf 30 s.dtm.slewing + bitIf 29 s.dtm.xoLost +
    bitIf 28 (s.dtm.pllF && s.dtm.pllE && s.dtm.pllT) + bitIf 27 s.dtm.restored),
  (Reg.DTM_CLK_STAT, fun s => bitIf 0 s.dtm.pllF + bitIf 1 s.dtm.pllE + bitIf 2 s.dtm.pllT + bitIf 3 s.dtm.pllH + bitIf 8 s.dtm.xoLost),
  (Reg.DTM_TMR_CFG, fun s => s.timerCfg s.tmrSel),
  (Reg.DTM_TMR_STAT, fun s => if s.tmrSel = 0 then 0 else s.timerStat s.tmrSel),
  (Reg.DTM_SVY_SRC, fun s => (s.dtm.strobe.map (·.2)).getD (s.regNat Reg.DTM_SVY_SRC))]

def dtmViews : List View :=
  dtmViewsPlain ++
  pairView Reg.DTM_DATUM_LO State.datumNs ++
  pairView Reg.DTM_MONO_LO State.nowNs ++
  pairView Reg.DTM_OFFSET_LO (fun s => int64 (s.dtm.offset.tdiv nsUnits))

/-! TRV (Tables TRV-10 and TRV-11). -/

/-- An operation of the die is suspended. -/
def Die.halted (x : Die) : Bool := x.reset.any (·.suspended) || x.planes.any fun o => o.any (·.suspended)

/-- A die's byte of TRV[n]_DIE: planes busy, resetting, suspended, attention, lost. -/
def Die.byte (x : Die) : Nat :=
  maskOf 4 (fun k => (x.plane k).isSome) + bitIf 4 x.reset.isSome + bitIf 5 x.halted + bitIf 6 (!x.completions.isEmpty) + bitIf 7 x.lost

def Channel.stat (c : Channel) : Nat :=
  bitIf 31 c.lost + bitIf 30 c.trained + bitIf 29 c.retraining + bitIf 28 c.mirrorDegraded + maskOf 4 (fun d => (c.die d).lost) * 2 ^ 24 +
    maskOf 4 (fun d => (c.die d).reset.isSome) * 2 ^ 20 + maskOf 4 (fun d => (c.die d).halted) * 2 ^ 16 + min 255 c.hostQ.length * 256 +
    min 255 c.progQ.length

def State.channelsLost (s : State) : Nat := (s.trv.channels.filter (·.lost)).length

def trvViews : List View := [
  (Reg.TRV_STAT, fun s => bitIf 31 s.trv.training + s.channelsLost % 64),
  (Reg.TRV_CH_PRESENT, fun s => maskOf 32 fun n => (s.channel n).trained && !(s.channel n).lost && (s.channel n).mode != 2),
  (Reg.TRV_CH_LOST, fun s => maskOf 32 fun n => (s.channel n).lost),
  (Reg.TRV_MIRROR, fun s => maskOf 16 (fun k => (s.channel (2 * k)).mode == 1) +
    maskOf 16 (fun k => (s.channel (2 * k)).mirrorDegraded) * 65536),
  (Reg.TRV_COLL_STAT, fun s => min 255 (s.trv.coll.map (·.length)).sum * 256 + s.trv.collPtr % 64)]

def trvChViews (n : Nat) : List View := [
  (Reg.TRVn_CTL n, fun s => s.regNat (Reg.TRVn_CTL n) % 4 + (s.channel n).mode % 4 * 16 + (s.channel n).dieMask % 16 * 256),
  (Reg.TRVn_STAT n, fun s => (s.channel n).stat),
  (Reg.TRVn_DIE n, fun s => ((List.range 4).map fun d => ((s.channel n).die d).byte * 256 ^ d).sum),
  (Reg.TRVn_TEMP n, fun s => ((List.range 4).map fun d => (match ((s.channel n).die d).temp with
    | some t => int64 (wholeC t) % 256
    | none => 0x80) * 256 ^ d).sum),
  (Reg.TRVn_UTIL n, fun s => if (s.channel n).trained then s.openReg (Reg.TRVn_UTIL n) else 0)]

/-! MDC. -/

def State.oldest (s : State) : Nat := (s.cds.bands.map fun e => s.bandAge e.2).foldl max 0

def State.levelByte (s : State) (t : Nat) : Nat :=
  let d := s.regField Reg.MDC_LVL_SEL 3 7
  int64 (mapGet (fun _ => (0 : Int)) (s.die (d / 4) (d % 4)).levels (s.regField Reg.MDC_LVL_SEL 0 3 * 3 + t)) % 256

def State.retiredDies (s : State) (k : Nat) : Nat := maskOf 32 fun i => s.mdc.retired.contains (32 * k + i)

def State.bandsLacking (s : State) : Nat := (s.cds.bands.filter fun e => !e.2.missing.isEmpty).length

/-- The views of this block but for its pairs and indexed registers. -/
def mdcViewsPlain : List View := [
  (Reg.MDC_STAT, fun s => bitIf 31 s.mdc.rebuild.isSome + bitIf 30 (s.bandsLacking != 0) + bitIf 29 (s.cds.bands.any fun e => e.2.annealDue) +
    bitIf 28 s.mdc.patrol.active + bitIf 27 s.mdc.stripeFull +
    min 255 (s.oldest * 100 / (max 1 (s.regNat Reg.MDC_RETAIN_H) * ageHour))),
  (Reg.MDC_PATROL_POS, fun s => s.mdc.patrol.pos),
  (Reg.MDC_LVL, fun s => s.levelByte 0 + s.levelByte 1 * 256 + s.levelByte 2 * 65536),
  (Reg.MDC_ANNEAL_PEND, fun s => (s.cds.bands.filter fun e => e.2.annealPlanned || e.2.annealDue).length),
  (Reg.MDC_STRIPE_OPEN, fun s => s.mdc.stripes.length),
  (Reg.MDC_REBUILD_STAT, fun s => match s.mdc.rebuild with
    | some (b, _) => 2 ^ 31 + b % 2 ^ 17
    | none => 0),
  (Reg.MDC_REBUILD_LEFT, fun s => (s.cds.bands.map fun e => e.2.missing.length).sum),
  (Reg.MDC_DEGRADED, State.bandsLacking),
  (Reg.MDC_DIE_LOST_0, fun s => s.retiredDies 0), (Reg.MDC_DIE_LOST_1, fun s => s.retiredDies 1),
  (Reg.MDC_DIE_LOST_2, fun s => s.retiredDies 2), (Reg.MDC_DIE_LOST_3, fun s => s.retiredDies 3)]

def mdcViews : List View :=
  mdcViewsPlain ++
  pairView Reg.MDC_AGE_MAX_LO (fun s => s.oldest / 100000000000)

/-! PWR and PFL. -/

/-- A gated step or an assay awaits surplus. -/
def State.gateWaits (s : State) : Bool := s.pst.gateWait || s.pwr.assay.phase == .waitGate || s.cds.work.any (·.gateCounted)

def State.assayBusy (s : State) : Bool := s.pwr.assay.phase != .idle && s.pwr.assay.phase != .waitGate

/-- The views of this block but for its pairs and indexed registers. -/
def pwrViewsPlain : List View := [
  (Reg.PWR_STAT, fun s => bitIf 31 (s.pwr.bank == .armed) + bitIf 30 s.pwr.pwrfail +
    bitIf 29 (s.plat.active.isSome && decide (s.pwr.vin < s.conf.vinTrip)) + bitIf 28 s.pwr.gdIn + bitIf 27 (s.pwr.conv == .charge) +
    bitIf 26 (s.pwr.conv == .discharge) + bitIf 25 (s.pwr.conv == .float) + bitIf 24 (s.pwr.balance != 0) + bitIf 23 s.assayBusy +
    bitIf 22 s.gateWaits + bitIf 21 (s.bit Reg.PWR_CTL 2) + s.pwr.bank.code),
  (Reg.PWR_BANK_STAT, fun s => (s.pwr.cells.getD 0) % 256 * 2 ^ 24 + s.pwr.floatMv / 100 % 256 * 65536 + s.pwr.cause.code * 256 +
    s.pwr.faultCell % 8),
  (Reg.PWR_VIN, fun s => s.pwr.vin), (Reg.PWR_HB, fun s => s.pwr.hb), (Reg.PWR_BANK_V, fun s => s.pwr.bankV),
  (Reg.PWR_CELL_V_0, fun s => s.pwr.cellV.getD 0 0 + s.pwr.cellV.getD 1 0 * 65536),
  (Reg.PWR_CELL_V_1, fun s => s.pwr.cellV.getD 2 0 + s.pwr.cellV.getD 3 0 * 65536),
  (Reg.PWR_CELL_V_2, fun s => s.pwr.cellV.getD 4 0 + s.pwr.cellV.getD 5 0 * 65536),
  (Reg.PWR_CELL_V_3, fun s => s.pwr.cellV.getD 6 0),
  (Reg.PWR_BAL_STAT, fun s => s.pwr.balance % 128 + s.pwr.cellFault % 128 * 256),
  (Reg.PWR_CONV_STAT, fun s => s.pwr.conv.code + s.pwr.limitCycles % 256 * 256),
  (Reg.PWR_CONV_I, fun s => int64 s.pwr.convI), (Reg.PWR_CHG_MA, fun s => s.pwr.chargeMa), (Reg.PWR_CHG_MW, fun s => s.pwr.chgMw),
  (Reg.PWR_CAP_UF, fun s => s.pwr.capUf), (Reg.PWR_ESR_MOHM, fun s => s.pwr.esrMohm),
  (Reg.PWR_CAP_BASE_UF, fun s => s.pwr.capBase), (Reg.PWR_ESR_BASE_MOHM, fun s => s.pwr.esrBase),
  (Reg.PWR_ASSAY_STAT, fun s => bitIf 31 s.assayBusy + bitIf 30 s.pwr.assayValid + bitIf 29 s.pwr.assayOverdue + bitIf 28 s.pwr.assayForced +
    s.pwr.assayResult % 16 * 2 ^ 24 +
    if s.pwr.assayValid then min 0xFFFF ((s.datumNs - s.pwr.assayTimer) / 86400000000000) else 0),
  (Reg.PWR_ASSAY_LOAD_MW, fun s => s.pwr.assayLoad), (Reg.PWR_USABLE_MJ, fun s => s.pwr.usable),
  (Reg.PWR_BUDGET_RAW, fun s => s.pwr.raw), (Reg.PWR_BUDGET_CAP, fun s => s.pwr.cap),
  (Reg.PWR_SURPLUS_MJ, fun s => int64 s.pwr.surplus), (Reg.PWR_GATE_HOLD_MJ, fun s => s.pwr.hold),
  (Reg.PWR_RAIL_STAT, fun s => s.pwr.railWarn % 128),
  (Reg.PFL_STAT, fun s => s.pfl.phase.code * 2 ^ 28 + bitIf 27 (s.sys.state == .braced) + bitIf 26 s.pfl.short + bitIf 25 s.pfl.metaShort +
    bitIf 24 s.pfl.unflOvf + bitIf 23 s.pfl.monSkipped + bitIf 22 s.pfl.wbOpen),
  (Reg.PFL_LINE_STAT, fun s => (if s.plat.active.isNone || s.conf.lineTrack = 0 then 0 else match s.pfl.tracker with
    | .unlocked => 1 | .locked => 2 | .fault => 3) * 2 ^ 30 + s.pfl.onTime % 8 * 2 ^ 27 + s.pfl.half / 1000 % 2 ^ 14),
  (Reg.PFL_MON_NEED_MJ, fun s => s.pfl.monNeed),
  (Reg.PFL_DSC, fun s => s.pst.counter 0)]

def pwrViews : List View :=
  pwrViewsPlain ++
  pairView Reg.PWR_ASSAY_DATUM_LO (fun s => s.pwr.assayDatum)

/-! IME. -/

/-- KiB of the pinned area in use: the nodes of levels 3 to K (R335). -/
def pinnedKib (p : Plat) : Nat :=
  let k := p.tree.1
  ceilDiv (((List.range (k + 1)).map fun j => if 3 ≤ j then ceilDiv p.ctrBlocks (8 ^ j) * 64 else 0).sum) 1024

def State.quarInfo (s : State) : Nat := match s.ime.quar[s.regField Reg.IME_QUAR_SEL 0 8]? with
  | some e => 2 ^ 31 + bitIf 30 e.tamper + bitIf 29 e.large + bitIf 28 e.writeHold + e.qgen % 4096 * 65536 +
      if e.whole then 0xFFFF else min 0xFFFF (ceilDiv e.len 1024)
  | none => 0

def State.rekeySel (s : State) : Rekey := s.ime.rekey (s.regField Reg.IME_REKEY_SEL 0 4)

/-- The views of this block but for its pairs and indexed registers. -/
def imeViewsPlain : List View := [
  (Reg.IME_STAT, fun s => bitIf 31 (s.ofPlat (·.ctrBlocks) != 0) + bitIf 30 s.ime.recomputing + bitIf 29 (s.ime.rekeys.any fun e => e.2.active) +
    bitIf 28 (!s.ime.quar.isEmpty) + bitIf 27 (s.ime.lanes.any (!·)) + bitIf 26 s.ime.pctWait +
    bitIf 25 (decide (s.regNat Reg.IME_META_HIGH < s.ime.metaDirty.length))),
  (Reg.IME_LANE_STAT, fun s => maskOf 4 fun i => s.ime.lanes.getD i false),
  (Reg.IME_TREE_CFG, fun s => s.ofPlat fun p => p.tree.1 % 16 * 2 ^ 28 + p.tree.2 % 16 * 2 ^ 24 + (layoutOf p).tree % 65536),
  (Reg.IME_META_DIRTY, fun s => s.ime.metaDirty.length),
  (Reg.IME_CTR_WARN, fun s => s.ime.warned), (Reg.IME_CTR_EXH, fun s => s.ime.exhausted),
  (Reg.IME_QUAR_COUNT, fun s => s.ime.quar.length), (Reg.IME_QUAR_INFO, State.quarInfo),
  (Reg.IME_REKEY_STAT, fun s => if s.selHolding Reg.IME_REKEY_SEL |>.isNone then 0
    else bitIf 31 s.rekeySel.active + bitIf 30 s.rekeySel.queued + s.rekeySel.cur % 65536),
  (Reg.IME_PINNED_STAT, fun s => bitIf 31 s.ime.recomputing + s.ofPlat pinnedKib % 2 ^ 18)]

def imeViews : List View :=
  imeViewsPlain ++
  pairView Reg.IME_CTR_BLOCKS_LO (fun s => s.ofPlat (·.ctrBlocks)) ++
  pairView Reg.IME_ROOT_LO (fun s => ((s.ime.root[s.regField Reg.IME_ROOT_SEL 0 3]?).getD 0).toNat) ++
  pairView Reg.IME_CACHE_HIT_LO (fun s => s.ofPlat fun _ => s.openReg Reg.IME_CACHE_HIT_LO) ++
  pairView Reg.IME_CACHE_MISS_LO (fun s => s.ofPlat fun _ => s.openReg Reg.IME_CACHE_MISS_LO) ++
  pairView Reg.IME_QUAR_BASE_LO (fun s => ((s.ime.quar[s.regField Reg.IME_QUAR_SEL 0 8]?).map fun e => e.base * 64).getD 0) ++
  pairView Reg.IME_REKEY_BOUND_LO (fun s => s.rekeySel.boundary) ++
  pairView Reg.IME_REKEY_TOTAL_LO (fun s => ((s.selHolding Reg.IME_REKEY_SEL).map fun e => e.2.2).getD 0)

/-! CKE. -/

/-- The views of this block but for its pairs and indexed registers. -/
def ckeViewsPlain : List View := [
  (Reg.CKE_STAT, fun s => bitIf 31 (!s.cke.queue.isEmpty) + bitIf 30 (!s.cke.waiting.isEmpty) + bitIf 29 s.cke.debug +
    min 7 (s.cke.queue.length - 1)),
  (Reg.CKE_OP_STAT, fun s => bitIf 31 s.cke.regBusy + bitIf 30 s.cke.regDone + s.cke.regStatus % 16),
  (Reg.CKE_KEY_STAT, fun s => maskOf 16 (fun i => (s.cke.slot i).key.isSome) * 65536 + bitIf 15 s.cke.loadErr + 0x1F),
  (Reg.CKE_CHAL_0, fun s => s.cke.chalReg.toNat), (Reg.CKE_CHAL_1, fun s => s.cke.chalReg.toNat / 2 ^ 32),
  (Reg.CKE_CHAL_2, fun s => s.cke.chalReg.toNat / 2 ^ 64), (Reg.CKE_CHAL_3, fun s => s.cke.chalReg.toNat / 2 ^ 96),
  (Reg.CKE_AUTH_STAT, fun s => bitIf 31 (s.cke.challenge.any fun c => !c.expired) + bitIf 30 s.cke.authLocked +
    min 255 s.cke.authFails * 65536 + s.cke.authLastOp % 256 * 256 + s.cke.authResult % 16),
  (Reg.CKE_RNG_STAT, fun s => bitIf 31 s.cke.rngFail + s.cke.rngRequests % 2 ^ 24)]

def ckeViews : List View :=
  ckeViewsPlain ++
  pairView Reg.CKE_NONCE_LO (fun s => (s.cke.slot (s.regField Reg.CKE_NONCE_SEL 0 4)).ctr)

/-! ENG. -/

/-- Ring entries pending over the roles an engine hosts. -/
def Eng.pending (e : Eng) (roles : List Nat) : Nat := (roles.map fun r => ((e.area r).map (·.ring.length)).getD 0).sum

def engViews : List View := [
  (Reg.ENG_STAT, fun s => bitIf 31 (!s.eng.doubled.isEmpty) + bitIf 30 s.eng.roleLost + bitIf 29 (!s.eng.failovers.isEmpty) +
    bitIf 28 s.eng.pairDown + bitIf 27 s.eng.pairRetired + (s.eng.engines.filter fun x => x.st == .running || x.st == .spare).length),
  (Reg.ENG_SPARE, fun s => maskOf 24 fun n => (s.eng.engine n).st == .spare),
  (Reg.ENG_RETIRED, fun s => maskOf 24 fun n => (s.eng.engine n).st == .retired),
  (Reg.ENG_FW_STAT, fun s => bitIf 31 (s.svc.fwRun == some true) + bitIf 30 s.svc.fwPending.isSome + bitIf 29 s.eng.fallback +
    s.eng.resultB % 16 * 4096 + s.eng.resultA % 16 * 256 + s.pst.counter 2 % 256)]

def engEnViews (n : Nat) : List View := [
  (Reg.En_CTL n, fun s => bitIf 0 (s.eng.engine n).hold + bitIf 1 (s.eng.engine n).selftest),
  (Reg.En_STAT n, fun s => (s.eng.engine n).st.code * 2 ^ 29 + min 255 (s.eng.pending (s.eng.engine n).roles) * 65536 +
    (s.eng.engine n).roles.getD 1 255 % 256 * 256 + (s.eng.engine n).roles.getD 0 255 % 256)]

/-! PST. -/

/-- The views of this block but for its pairs and indexed registers. -/
def pstViewsPlain : List View := [
  (Reg.PST_STAT, fun s => bitIf 31 s.pst.run.isSome + bitIf 30 (s.pst.run.any fun r => r.op.erases) + bitIf 29 s.pst.gateWait +
    bitIf 28 (!s.pst.noDeferred) + bitIf 27 s.pst.ungated + min 255 s.pst.queue.length * 256 + s.pst.freeSpares.length),
  (Reg.PST_AREA_STAT, fun s =>
    let a := s.pst.area (s.regField Reg.PST_AREA_SEL 0 2)
    a.low.st * 2 ^ 29 + a.high.st * 2 ^ 26 + bitIf 25 a.activeHigh + bitIf 24 a.lost + if a.live.st = 0 then 0 else freePages a.live.page a.live.byte)]

def pstViews : List View :=
  pstViewsPlain ++
  pairView Reg.PST_SEQ_LO (fun s => s.pst.gen) ++
  pairView Reg.PST_CNT_LO (fun s => s.pst.counter (s.regField Reg.PST_CNT_SEL 0 4))

/-! EVR. -/

/-- Writing is held (R441). -/
def State.logHeld (s : State) : Bool := s.inState [.braced, .flush] || (s.pst.gateWait && s.pst.queue.head?.any PstOp.isLog)

/-- The views of this block but for its pairs and indexed registers. -/
def evrViewsPlain : List View := [
  (Reg.EVR_STAT, fun s => bitIf 31 (s.pst.run.any fun r => r.op.isLog || (match r.op with | .erase _ .eventLog => true | _ => false)) +
    bitIf 30 s.logHeld + bitIf 29 (!s.evr.clearing.isEmpty) + bitIf 28 (decide (64 ≤ s.evr.queue.length)) + bitIf 27 s.evr.altActive +
    bitIf 26 s.evr.memLost + (if s.evr.ringPos = 0 && s.evr.ring.isEmpty then 0 else ringSector s.evr.ringPos * 256 + s.evr.ringPos % 2048 / 8)),
  (Reg.EVR_QUEUE, fun s => min 64 s.evr.queue.length * 2 ^ 24 + s.regField Reg.EVR_QUEUE 16 7 * 65536 + s.evr.supp.length),
  (Reg.EVR_LG_STAT, fun s => s.evr.lgStat.toNat)]

def evrViews : List View :=
  evrViewsPlain ++
  (List.range 8).map fun k => (Reg.EVR_LG_0 + 4 * k, fun s => (s.evr.lg.getD k 0).toNat)

/-! THM (Table THM-2). -/

/-- THERMTRIP_N is low (R459). -/
def State.thermTripLow (s : State) : Bool :=
  s.sys.state == .quench || (s.bit Reg.THM_CTL 0 && s.thm.applied == 7)

/-- The hottest medium die: channel, die and reading (R456). -/
def State.hottest (s : State) : Option (Int × Nat × Nat) :=
  let l := (List.range 32).filterMap fun c => (s.hotDie c).map fun e => (e.1, c, e.2)
  match l with
  | [] => none
  | x :: rest => some (rest.foldl (fun a y => if a.1 < y.1 then y else a) x)

/-- The sensor with the lowest reading, the lowest index on a tie. -/
def Thm.coldest (t : Thm) (crit : Nat) : Nat := (maxOf (t.sensors.map fun x => -(x.reading crit))).2

/-- The views of this block but for its pairs and indexed registers. -/
def thmViewsPlain : List View := [
  (Reg.THM_STAT, fun s => bitIf 31 s.thm.quenchSince.isSome + bitIf 30 s.thm.restartSince.isSome + bitIf 29 (s.thm.boost != 0) +
    bitIf 28 (s.sys.state == .warmup && s.bit Reg.THM_CTL 2) + bitIf 27 s.thermTripLow + s.thm.failed % 16 * 2 ^ 20 + s.thm.applied % 16 * 4096),
  (Reg.THM_MAX, fun s =>
    let m := s.thm.maxReading s.conf.crit
    m.2 % 16 * 2 ^ 24 + bitIf 16 (s.thm.sensor m.2).failed + int64 m.1 % 65536),
  (Reg.THM_THRESH, fun s => s.ofPlat fun p => p.quench % 256 * 2 ^ 24 + p.crit % 256 * 65536 + p.step % 256 * 256 + p.temper1 % 256),
  (Reg.THM_RESTART, fun s => s.ofPlat fun p => p.rise % 256 * 2 ^ 24 + p.restartS % 256 * 65536 + p.restart % 256 * 256 + p.quenchMs % 256),
  (Reg.THM_LEVEL, fun s => s.thm.applied % 16 * 2 ^ 24 + s.thm.level % 16 * 2 ^ 20 + s.thm.boost % 16 * 65536 +
    (if 7 ≤ s.thm.level then 0xFF else (s.conf.levelAt (s.thm.level + 1) / 16).toNat % 256) * 256 +
    if s.thm.level = 0 then 0 else (s.conf.levelAt s.thm.level / 16 - 3).toNat % 256),
  (Reg.THM_RISE, fun s => bitIf 31 (s.thm.boost != 0) +
    (match s.thm.overSince with | some t => min 1023 ((s.nowNs - t) / 1000000) | none => 0) * 65536 + int64 s.thm.rate % 65536),
  (Reg.THM_MED_MAX, fun s => match s.hottest with
    | some (t, c, d) => s.mediumLevel c * 2 ^ 28 + d % 4 * 2 ^ 24 + c % 32 * 65536 + int64 t % 65536
    | none => 0),
  (Reg.THM_TEMPER_TIME, fun s => min 0xFFFFFFFF
    ((s.thm.temperNs + if s.thm.applied = 0 then 0 else s.nowNs - s.thm.temperAt) / 1000000)),
  (Reg.THM_WARMUP_STAT, fun s => bitIf 31 (s.sys.state == .warmup) + bitIf 30 s.thm.warmTimeout +
    if s.sys.state == .warmup then s.thm.coldest s.conf.crit % 16 * 65536 + min 0xFFFF ((s.nowNs - s.sys.since) / 100000000) else 0)]

def thmViews : List View :=
  thmViewsPlain ++
  (List.range 14).map fun k => (Reg.THM_TS k, fun s =>
    bitIf 31 (s.thm.sensor k).valid + bitIf 30 (s.thm.sensor k).failed + int64 ((s.thm.sensor k).reading s.conf.crit) % 65536)

/-! SVY. -/

def svyViews : List View := [
  (Reg.SVY_STAT, fun s => bitIf 31 (s.bit Reg.SVY_CTL 0) + min 255 s.svy.missed * 65536 + s.svy.gen % 65536)]

/-! SYS (Table REG-3, R508). -/

/-- An interrupt flag of a block is set and enabled. -/
def State.intOn (s : State) (stat en : Nat) : Bool := (s.getReg stat &&& s.getReg en) != 0

/-- An alert cause or an enabled flag of a block asserts ALERT_N (R508). -/
def State.alertBlock (s : State) (b : Nat) : Bool :=
  match b with
  | 0x0 => s.intOn Reg.SYS_INT_STAT Reg.SYS_INT_EN
  | 0x1 => s.intOn Reg.PLT_INT_STAT Reg.PLT_INT_EN
  | 0x2 => s.intOn (Reg.HPT_INT_STAT 0) (Reg.HPT_INT_EN 0) || s.intOn (Reg.HPT_INT_STAT 1) (Reg.HPT_INT_EN 1)
  | 0x3 => s.intOn Reg.STG_INT_STAT Reg.STG_INT_EN
  | 0x4 => s.intOn Reg.CDS_INT_STAT Reg.CDS_INT_EN
  | 0x5 => s.intOn Reg.TRV_INT_STAT Reg.TRV_INT_EN
  | 0x6 => s.intOn Reg.MDC_INT_STAT Reg.MDC_INT_EN
  | 0x7 => s.intOn Reg.DTM_INT_STAT Reg.DTM_INT_EN
  | 0x8 => s.intOn Reg.PWR_INT_STAT Reg.PWR_INT_EN || s.intOn Reg.PFL_INT_STAT Reg.PFL_INT_EN || s.bit Reg.PWR_ERR_STAT 0 ||
      s.bit Reg.PWR_ERR_STAT 1 || s.bit Reg.PFL_ERR_STAT 0
  | 0x9 => s.intOn Reg.IME_INT_STAT Reg.IME_INT_EN || (s.bit Reg.IME_CTL 0 && s.intOn Reg.IME_SEC_STAT Reg.IME_SEC_EN)
  | 0xA => s.intOn Reg.CKE_INT_STAT Reg.CKE_INT_EN || (s.bit Reg.CKE_CTL 0 && s.bit Reg.CKE_ERR_STAT 1)
  | 0xB => s.intOn Reg.ENG_INT_STAT Reg.ENG_INT_EN || s.eng.roleLost
  | 0xC => s.intOn Reg.PST_INT_STAT Reg.PST_INT_EN
  | 0xD => s.intOn Reg.EVR_INT_STAT Reg.EVR_INT_EN
  | 0xE => s.intOn Reg.THM_INT_STAT Reg.THM_INT_EN
  | 0xF => s.intOn Reg.SVY_INT_STAT Reg.SVY_INT_EN
  | _ => false

/-- SYS_ALERT_SRC. -/
def State.alertSrc (s : State) : Nat :=
  let blocks := maskOf 16 s.alertBlock
  let gasp := s.evr.lgStat.toNat.testBit 31
  bitIf 31 ((blocks != 0 && s.bit Reg.SYS_CTL 0) || gasp) + bitIf 30 gasp + blocks

/-- The views of this block but for its pairs and indexed registers. -/
def sysViewsPlain : List View := [
  (Reg.SYS_STATE, fun s => s.pwr.bank.code * 2 ^ 24 + s.thm.applied % 16 * 2 ^ 20 + bitIf 16 s.sys.held.isSome + s.sys.prev % 16 * 16 +
    s.sys.state.code),
  (Reg.SYS_STRAP, fun s => s.sys.straps.toNat),
  (Reg.SYS_CAP, fun s => s.ofPlat fun p => p.diesPerCh % 256 * 2 ^ 24 + logicalChannels p % 256 * 65536 + p.holdings.length % 256 * 256 +
    if p.bifurc == 1 then 2 else 1),
  (Reg.SYS_FW_VER, fun s => (s.fwSlot.map (·.version)).getD 0),
  (Reg.SYS_STATE_TIME, fun s => min 0xFFFFFFFF ((s.nowNs - s.sys.since) / 1000000)),
  (Reg.SYS_ALERT_SRC, State.alertSrc),
  (Reg.SYS_HEALTH, fun s => s.ofPlat fun _ => s.healthBits)]

def sysViews : List View :=
  sysViewsPlain ++
  pairView Reg.SYS_UID_LO (fun _ => Config.dieUid.toNat)

/-! All of them. -/

/-- The views of a block (Table REG-1). -/
def blockViews (b : Nat) : List View :=
  match b with
  | 0x0 => sysViews | 0x1 => pltViews | 0x2 => hptViews 0 ++ hptViews 1 | 0x3 => stgViews | 0x4 => cdsViews
  | 0x5 => trvViews ++ (List.range 32).flatMap trvChViews
  | 0x6 => mdcViews | 0x7 => dtmViews | 0x8 => pwrViews | 0x9 => imeViews | 0xA => ckeViews
  | 0xB => engViews ++ (List.range 24).flatMap engEnViews
  | 0xC => pstViews | 0xD => evrViews | 0xE => thmViews | 0xF => svyViews | _ => []

/-- What a register reads as now (R7), its _SNAP register the word of the last latch (R468). The windows of R446 and R471, which each
requester has for itself, are not among them. -/
def State.view (s : State) (off : Nat) : Word :=
  match (blockViews (off / 0x10000)).lookup off with
  | some f => BitVec.ofNat 32 (f s)
  | none => match mapFind s.svy.snaps off with
    | some w => w
    | none => s.getReg off

end Sys2Proof.Machine
end

