-- ==== Sys2Proof/Machine/Survey.lean ====
section
/-! DEFINITION. Survey latches, snapshot areas and how they are read (R202 to R204, R467 to R472). -/

namespace Sys2Proof.Machine

/-! The latch. -/

/-- The register each _SNAP register takes its word from. -/
def snapSources : List (Nat × Nat) := [
  (Reg.PLT_SNAP, Reg.PLT_STAT), (Reg.HPT_SNAP_STAT 0, Reg.HPT_STAT 0), (Reg.HPT_SNAP_PWB 0, Reg.HPT_PWB_STAT 0),
  (Reg.HPT_SNAP_STAT 1, Reg.HPT_STAT 1), (Reg.HPT_SNAP_PWB 1, Reg.HPT_PWB_STAT 1), (Reg.STG_SNAP_STAT, Reg.STG_STAT),
  (Reg.STG_SNAP_DIRTY, Reg.STG_DIRTY), (Reg.CDS_SNAP_STAT, Reg.CDS_STAT), (Reg.CDS_SNAP_LOG, Reg.CDS_LOG_USED),
  (Reg.TRV_SNAP_STAT, Reg.TRV_STAT), (Reg.MDC_SNAP_STAT, Reg.MDC_STAT), (Reg.PWR_SNAP_STAT, Reg.PWR_STAT),
  (Reg.IME_SNAP_STAT, Reg.IME_STAT), (Reg.CKE_SNAP_STAT, Reg.CKE_STAT), (Reg.PST_SNAP_STAT, Reg.PST_STAT),
  (Reg.EVR_SNAP_STAT, Reg.EVR_STAT), (Reg.THM_SNAP_STAT, Reg.THM_STAT), (Reg.THM_SNAP_MAX, Reg.THM_MAX),
  (Reg.SYS_SNAP_STAT, Reg.SYS_STATE), (Reg.SYS_SNAP_ALERT, Reg.SYS_ALERT_SRC)] ++
  ((List.range 32).map fun n => (Reg.TRVn_SNAP n, Reg.TRVn_STAT n)) ++ (List.range 24).map fun n => (Reg.En_SNAP n, Reg.En_STAT n)

/-- Registers that each requester has for itself (R446, R471, R501); what a snapshot holds of them is open (log entry 3). -/
def perRequester (off : Nat) : Bool :=
  off == Reg.EVR_CURSOR || (decide (Reg.EVR_WIN_STAT ≤ off) && decide (off < Reg.EVR_LG_0)) || off == Reg.SVY_WIN_SEL || off == Reg.SVY_WIN_STAT

/-- A register that R57 makes absent: the HPT bank of a port that does not exist, but for its ID. -/
def State.absent (s : State) (off : Nat) : Bool :=
  off / 0x8000 == 5 && !s.portPresent 1 && off != Reg.HPT_ID 1

/-- What a register shows to any requester: WO fields read 0 (Table SCP-5), an absent register 0 (R57). -/
def State.shows (s : State) (off : Nat) : Word :=
  match regRow off with
  | none => 0
  | some r => if s.absent off then 0 else s.view off &&& ~~~ BitVec.ofNat 32 r.wo

/-- A register's word in its snapshot area (R467). -/
def State.areaWord (s : State) (off : Nat) : Word :=
  if (regRow off).all (·.snapZero) then 0 else if perRequester off then Config.openView off s.dtm.mono else s.shows off

/-- Every snapshot area, without its header. -/
def State.areasNow (s : State) : List (Nat × List Word) := (List.range 16).map fun b => (b, (blockOffsets b).map s.areaWord)

/-- Every _SNAP register. -/
def State.snapsNow (s : State) : SMap Word :=
  snapSources.foldl (fun m e => mapSet (fun _ => (0 : Word)) m e.1 (if s.absent e.1 then 0 else s.shows e.2)) []

/-- A latch: every area and every _SNAP register take the values of the start of the cycle, GEN increments (R468). -/
def State.latchAll (s : State) : State :=
  let areas := s.areasNow
  let snaps := s.snapsNow
  s.modSvy fun v => { v with areas := areas, snaps := snaps, gen := v.gen + 1 }

/-- SURVEY_OUT rises for 64 cycles; a pulse still high is extended and OUT_MERGED sets (R203, R470). -/
def State.surveyOut (s : State) (src : Nat) : State :=
  if !s.bit Reg.DTM_SVY_CTL 0 || (src == 4 && !s.bit Reg.DTM_SVY_CTL 1) then s
  else
    let end_ := s.dtm.mono + 64 * cycleUnits
    let high := s.dtm.outUntil.any fun u => decide (s.dtm.mono < u)
    let s := s.modDtm fun t => { t with outUntil := some end_ }
    if high then s.flag Reg.SVY_ERR_STAT Reg.SVY_ERR_EN 2 false else s

/-- The strobe commands that wait are answered with the tick of the latch (Table HPT-4). -/
def State.answerStrobes (s : State) (tick : Nat) : State :=
  let l := s.svc.strobing
  let s := s.modSvc fun v => { v with strobing := [] }
  l.foldl (fun s via => s.mboxReply via 0xC050 0 0 [tick]) s

/-- SURVEY_LATCH (R203, R467 to R470): 24 cycles after the request. Under HOLD no snapshot is written and MISSED increments; the
tick, the count, the record and the pulse are those of any strobe. -/
def execSurveyLatch (s : State) : Res :=
  match s.dtm.strobe with
  | none => .next s
  | some (c, src) =>
    let at_ := c + 24 * cycleUnits
    let s := if s.dtm.mono < at_ then s.elapse (at_ - s.dtm.mono) else s
    let s := if s.bit Reg.SVY_CTL 0 then s.modSvy fun v => { v with missed := min 255 (v.missed + 1) } else s.latchAll
    let tick := s.datumNs
    let s := ((s.modDtm fun t => { t with strobe := none }).setNat Reg.DTM_SVY_SRC src).setPair Reg.DTM_SVY_DATUM_LO tick
    let s := ((s.incReg Reg.DTM_SVY_CNT).setBits Reg.DTM_INT_STAT 4).surveyOut src
    .next ((s.raise 0xF101 tick src).answerStrobes tick)

/-! Reading the areas. -/

/-- The latest snapshot area of a block with its header (R467); before any latch its registers' words are 0. -/
def State.area (s : State) (b : Nat) : List Word :=
  let n := (blockOffsets b).length
  BitVec.ofNat 32 (b * 2 ^ 28 + (n + 1) * 2 ^ 16 + s.svy.gen % 65536) :: (s.svy.areas.lookup b).getD (List.replicate n 0)

def Svy.buf (v : Svy) : Requester → SvyBuf
  | .bar2 => v.bufBar2
  | .mctp => v.bufMctp

def State.modBuf (s : State) (q : Requester) (f : SvyBuf → SvyBuf) : State :=
  s.modSvy fun v => match q with
    | .bar2 => { v with bufBar2 := f v.bufBar2 }
    | .mctp => { v with bufMctp := f v.bufMctp }

/-- Copy the latest area of a block into the requester's buffer (R471). -/
def State.copyArea (s : State) (q : Requester) (b : Nat) : State :=
  let words := s.area b
  let gen := s.svy.gen
  s.modBuf q fun x => { x with valid := true, gen := gen, words := words }

/-- SVY_WIN_SEL, SVY_WIN_STAT and SVY_WIN[k] of a requester. -/
def SvyBuf.sel (x : SvyBuf) : Nat := x.block * 65536 + x.word
def SvyBuf.stat (x : SvyBuf) (gen : Nat) : Nat :=
  bitIf 31 x.valid + bitIf 30 (x.valid && decide (x.words.length < x.word + 8)) + bitIf 29 (x.valid && x.gen != gen) + x.gen % 65536
def SvyBuf.win (x : SvyBuf) (k : Nat) : Word := x.words.getD (x.word + k) 0

/-- SVY_WIN_SEL_WRITE (R471): WORD never passes 1,016. -/
def execSvyWinSelWrite (via : Via) (v : Word) (s : State) : Res :=
  if !s.reaches via then .next s else
  let b := bitsAt v.toNat 16 4
  let s := (s.emit (.regWriteDone via Reg.SVY_WIN_SEL)).copyArea via.requester b
  .next (s.modBuf via.requester fun x => { x with block := b, word := min 1016 (bitsAt v.toNat 0 10) })

/-- A read of SVY_WIN[7]: the word, then WORD advances by 8 unless it would pass 1,016. -/
def State.win7Read (s : State) (q : Requester) : Word × State :=
  ((s.svy.buf q).win 7, s.modBuf q fun x => if x.word + 8 ≤ 1016 then { x with word := x.word + 8 } else x)

/-- SVY_WIN7_READ (R471). -/
def execSvyWin7Read (via : Via) (s : State) : Res :=
  if !s.reaches via then .next s else
  let r := s.win7Read via.requester
  .next (r.2.emit (.regRead via (Reg.SVY_WIN 7) r.1))

/-! The mailbox command. -/

/-- SURVEY_STROBE (R202): answered with the tick at which it latches. -/
def execSurveyStrobe (via : Via) (s : State) : Res :=
  s.query via 0xC050 fun s => ((s.ringMbox via).modSvc fun v => { v with strobing := v.strobing ++ [via] }).strobe 32

/-- SURVEY_READ (R472): the copy goes into the requester's buffer, and COUNT words from START are returned. -/
def execSurveyRead (via : Via) (block start count : Nat) (rsvOk : Bool) (s : State) : Res :=
  s.query via 0xC050 fun s =>
    if !rsvOk || decide (16 ≤ block) || count = 0 || decide (1024 < count) then s.vendorFails via 0xC050 8
    else
      let words := s.area block
      (s.copyArea via.requester block).done via 0xC050 ((List.range count).map fun k => (words.getD (start + k) 0).toNat)

end Sys2Proof.Machine
end

