-- ==== Sys2Proof/Machine/Vendor.lean ====
section
/-! DEFINITION. The vendor commands RELEASE_RANGE, LINE_MAINT and ASSAY (R81 to R83, R86, R113, R181, R182, Tables HPT-7 to
HPT-11). `rsvOk`: the reserved fields are 0. -/

namespace Sys2Proof.Machine

/-! RELEASE_RANGE. -/

/-- A range of port bytes as ranges of parcels. `l` are the port's ranges (base and length in parcels), `at_` the port parcel at
which the rest starts. -/
def splitRange : List (Nat × Nat) → Nat → Nat → Nat → List (Nat × Nat)
  | [], _, _, _ => []
  | (base, n) :: rest, at_, lo, hi =>
    let a := max at_ lo
    let b := min (at_ + n) hi
    if a < b then (base + (a - at_), b - a) :: splitRange rest (at_ + n) lo hi else splitRange rest (at_ + n) lo hi

/-- The device parcels of a port range. -/
def State.parcelsOf (s : State) (p dpa len : Nat) : List (Nat × Nat) :=
  splitRange (s.conf.portRanges p) 0 (dpa / 4096) ((dpa + len) / 4096)

/-- A release command of either kind. -/
def State.releaseRange (s : State) (via : Via) (op dpa len : Nat) (rsvOk secure : Bool) : State :=
  if !rsvOk then s.vendorFails via op 8
  else if dpa % 4096 ≠ 0 ∨ len % 4096 ≠ 0 ∨ len = 0 ∨ s.conf.portBytes via.port < dpa + len then s.vendorFails via op 1
  else if !s.mapReady then s.vendorFails via op 3
  else (s.background via op).startRelease op (s.parcelsOf via.port dpa len) secure

/-- RELEASE_RANGE (R82, R181). -/
def execReleaseRange (via : Via) (dpa len : Nat) (rsvOk : Bool) (s : State) : Res :=
  s.mbox via 0xC000 none true fun s => s.releaseRange via 0xC000 dpa len rsvOk false

/-- RELEASE_RANGE_SECURE (R82, R182): its tract resets cannot start in BRACED (R73). -/
def execReleaseRangeSecure (via : Via) (dpa len : Nat) (rsvOk : Bool) (s : State) : Res :=
  s.mbox via 0xC001 retryBraced true fun s => s.releaseRange via 0xC001 dpa len rsvOk true

/-! LINE_MAINT. -/

/-- A LINE_MAINT of an operation: `unit` bytes to a unit (R81, R83). It is port-only: over MCTP it is Unsupported. -/
def State.lineMaint (s : State) (via : Via) (op unit dpa count : Nat) (rsvOk : Bool) : Res :=
  s.query via 0xC010 fun s =>
    match via with
    | .mctp => s.fails via 0xC010 3
    | .bar2 p =>
      if !rsvOk || count = 0 || decide (4096 < count) then s.vendorFails via 0xC010 8
      else if dpa % unit ≠ 0 ∨ s.conf.portBytes p.val < dpa + count * unit then s.vendorFails via 0xC010 1
      else
        let m : Maint := { port := p.val, op := op, first := dpa / unit, count := count, next := 0, ok := 0, firstFail := none,
                           cut := (s.port p.val).nextSeq, pushed := false, bad := false }
        ((s.ringMbox via).modStg fun g => { g with maint := g.maint ++ [m] }).pushMaint

/-- FLUSH_LINE (R83, R140). -/
def execFlushLine (via : Via) (dpa count : Nat) (rsvOk : Bool) (s : State) : Res := s.lineMaint via 0 64 dpa count rsvOk

/-- INVAL_LINE (R83, R140). -/
def execInvalLine (via : Via) (dpa count : Nat) (rsvOk : Bool) (s : State) : Res := s.lineMaint via 1 64 dpa count rsvOk

/-- ZERO_LINE (R83, R141). -/
def execZeroLine (via : Via) (dpa count : Nat) (rsvOk : Bool) (s : State) : Res := s.lineMaint via 2 64 dpa count rsvOk

/-- ZERO_PARCEL (R83, R141). -/
def execZeroParcel (via : Via) (dpa count : Nat) (rsvOk : Bool) (s : State) : Res := s.lineMaint via 3 4096 dpa count rsvOk

/-! ASSAY. -/

/-- ASSAY_START (R86, R281): STATE in BRACED, whatever the bank; BANK unless ARMED. -/
def execAssayStart (via : Via) (s : State) : Res :=
  s.mbox via 0xC040 (some (2, 3)) false fun s =>
    if s.pwr.bank != .armed then s.vendorFails via 0xC040 4
    else if s.svc.background.isSome then s.fails via 0xC040 6
    else
      let s := (s.background via 0xC040).askAssay
      (s.modPwr fun p => { p with assay := { p.assay with background := true } }).assayGate

/-- ASSAY_RESULT (Table HPT-11). -/
def execAssayResult (via : Via) (s : State) : Res :=
  s.query via 0xC040 fun s =>
    s.done via 0xC040 [s.pwr.assayDatum, s.pwr.capUf, s.pwr.esrMohm, s.pwr.usable, s.stg.budget, s.pwr.bank.code]

end Sys2Proof.Machine
end

