-- ==== Sys2Proof/Machine/Registers.lean ====
section
/-! DEFINITION. Register accesses (R3 to R9, R57, R501, R503, Table SCP-5): pairs, 8-byte accesses, offsets without a register,
fields that a read clears, and the write of any register. A register whose write has a row of its own takes the meaning of that
row. -/

namespace Sys2Proof.Machine

/-! Which register an offset is. -/

/-- The _LO registers of the pairs (R3). -/
def pairLos : List Nat := [
  Reg.PLT_FP_LO, Reg.PLT_BUILD_LO, Reg.PLT_CAP_LO, Reg.PLT_HOLD_BASE_LO, Reg.PLT_HOLD_SIZE_LO,
  Reg.HPT_IDE_TX_IV_LO 0, Reg.HPT_IDE_RX_IV_LO 0, Reg.HPT_RD_CNT_LO 0, Reg.HPT_WR_CNT_LO 0,
  Reg.HPT_IDE_TX_IV_LO 1, Reg.HPT_IDE_RX_IV_LO 1, Reg.HPT_RD_CNT_LO 1, Reg.HPT_WR_CNT_LO 1,
  Reg.STG_RD_HIT_LO, Reg.STG_RD_MISS_LO, Reg.STG_WR_HIT_LO, Reg.STG_WR_ALLOC_LO, Reg.STG_FILL_LO, Reg.STG_WB_LINES_LO,
  Reg.STG_EVICT_LO, Reg.STG_TC_HIT_LO, Reg.STG_TC_MISS_LO, Reg.STG_ERR_ADDR_LO,
  Reg.CDS_LOG_LIVE_LO, Reg.CDS_MERGE_CNT_LO, Reg.CDS_MERGE_PARCELS_LO, Reg.CDS_LOG_PARCELS_LO, Reg.CDS_LC_HIT_LO,
  Reg.CDS_LC_MISS_LO, Reg.CDS_PLOT_ENT_LO,
  Reg.DTM_DATUM_LO, Reg.DTM_MONO_LO, Reg.DTM_OFFSET_LO, Reg.DTM_LAST_SET_LO, Reg.DTM_GAP_LO, Reg.DTM_SVY_DATUM_LO,
  Reg.MDC_AGE_MAX_LO, Reg.MDC_CORR_LO, Reg.MDC_ERR_ADDR_LO, Reg.PWR_ASSAY_DATUM_LO, Reg.PFL_TRIP_DATUM_LO,
  Reg.IME_CTR_BLOCKS_LO, Reg.IME_ROOT_LO, Reg.IME_CACHE_HIT_LO, Reg.IME_CACHE_MISS_LO, Reg.IME_TAG_CHECK_LO,
  Reg.IME_SEC_ADDR_LO, Reg.IME_QUAR_BASE_LO, Reg.IME_REKEY_BOUND_LO, Reg.IME_REKEY_TOTAL_LO,
  Reg.CKE_NONCE_LO, Reg.PST_SEQ_LO, Reg.PST_CNT_LO, Reg.PMC_SAMPLE_DATUM_LO, Reg.SYS_UID_LO]

def isPairLo (off : Nat) : Bool := pairLos.contains off
def isPairHi (off : Nat) : Bool := decide (4 ≤ off) && pairLos.contains (off - 4)

/-- The offset has a register now (R503). -/
def State.implemented (s : State) (off : Nat) : Bool := (regRow off).isSome && !s.absent off

/-- With BIFURC 1 the HPT bank of the other port is not reached through a function's BAR2, but for the registers of R115 (R501). -/
def State.hidden (s : State) (via : Via) (off : Nat) : Bool :=
  match via with
  | .bar2 p =>
    let q := 1 - p.val
    s.portPresent 1 && decide (off / 0x8000 = 4 + q) && ! [Reg.HPT_DRAIN_CTL q, Reg.HPT_DRAIN_STAT q, Reg.HPT_GPF_STAT q].contains off
  | .mctp => false

/-- An access outside the registers is recorded (R503). -/
def State.unimpl (s : State) (off : Nat) (write : Bool) : State :=
  let s := (s.setNat Reg.SYS_UNIMPL_ADDR (off % 2 ^ 20 + bitIf 31 write)).incReg Reg.SYS_UNIMPL_CNT
  if s.bit Reg.SYS_CTL 1 then s.flag Reg.SYS_ERR_STAT Reg.SYS_ERR_EN 0 false else s

/-! Reads. -/

/-- What a read of a register returns to a requester, apart from the shadows. -/
def State.showsTo (s : State) (q : Requester) (off : Nat) : Word :=
  let c := s.evr.cursor q
  let b := s.svy.buf q
  if off = Reg.EVR_CURSOR then BitVec.ofNat 32 c.seq
  else if off = Reg.EVR_WIN_STAT then c.stat
  else if Reg.EVR_WIN_0 ≤ off ∧ off < Reg.EVR_LG_0 then c.win.getD ((off - Reg.EVR_WIN_0) / 4) 0
  else if off = Reg.SVY_WIN_SEL then BitVec.ofNat 32 b.sel
  else if off = Reg.SVY_WIN_STAT then BitVec.ofNat 32 (b.stat s.svy.gen)
  else if Reg.SVY_WIN 0 ≤ off ∧ off ≤ Reg.SVY_WIN 7 then b.win ((off - Reg.SVY_WIN 0) / 4)
  else s.shows off

/-- A read clears the RC fields; what an event of the same cycle contributes stays (R9). -/
def State.clearRead (s : State) (off : Nat) (same : Word) : State :=
  let rc := BitVec.ofNat 32 (((regRow off).map (·.rc)).getD 0)
  if off = Reg.THM_TEMPER_TIME then
    let now := s.nowNs
    s.modThm fun t => { t with temperNs := 0, temperAt := now }
  else if rc = 0 then s
  else s.setReg off ((s.getReg off &&& ~~~ rc) ||| (same &&& rc))

/-- The counter of a PMC[n]_CNT offset. -/
def pmcOf (off : Nat) : Option Nat :=
  if 0xF8000 ≤ off ∧ off < 0xF8180 ∧ off % 8 = 4 then some ((off - 0xF8000) / 8) else none

/-- A 4-byte read: the value and the state after it. -/
def State.readReg (s : State) (via : Via) (off : Nat) (same : Word) : Word × State :=
  let q := via.requester
  if s.hidden via off then (0, s)
  else if !s.implemented off then (0, s.unimpl off false)
  else if off = Reg.PST_DATA then s.pstDataRead
  else if off = Reg.SVY_WIN 7 then s.win7Read q
  else match pmcOf off with
    | some n => s.pmcRead q n
    | none =>
      let v := s.showsTo q off
      if isPairLo off then
        let hi := s.showsTo q (off + 4)
        (v, s.modShadow q fun x => { x with readHi := some (off + 4, hi) })
      else if isPairHi off then
        match (s.shadow q).readHi with
        | some (o, w) => if o = off then (w, s.modShadow q fun x => { x with readHi := none }) else (v, s)
        | none => (v, s)
      else (v, s.clearRead off same)

/-- A 4-byte read is answered. -/
def State.read4 (s : State) (via : Via) (off : Nat) (same : Word) : State :=
  let r := s.readReg via off same
  r.2.emit (.regRead via off r.1)

/-! Writes. -/

/-- The state that a meaning answers. -/
def State.run (s : State) (f : State → Res) : State := match f s with
  | .next t => t
  | _ => s

/-- Run a meaning where the bit that triggers it is written as 1. -/
def State.runIf (s : State) (b : Bool) (f : State → Res) : State := if b then s.run f else s

/-- A write acts on the bits of a register by their access type (Table SCP-5, R7); a W1C bit that an event sets in the same
cycle stays set (R8). -/
def State.storeReg (s : State) (off : Nat) (v same : Word) : State :=
  match regRow off with
  | none => s
  | some r =>
    let m (n : Nat) : Word := BitVec.ofNat 32 n
    let old := s.getReg off
    let kept := (old &&& ~~~ (m r.rw)) &&& ~~~ (v &&& m r.w1c)
    s.setReg off (kept ||| (v &&& m r.rw) ||| (v &&& m r.w1s) ||| (same &&& m r.w1c))

/-- The bits of a register whose write has an effect of its own are stored by that effect; the others by access type. -/
def State.storeBits (s : State) (off mask : Nat) (v : Word) : State :=
  s.setReg off ((s.getReg off &&& ~~~ BitVec.ofNat 32 mask) ||| (v &&& BitVec.ofNat 32 mask))

/-- SYS and PLT. -/
def State.writeSys (s : State) (via : Via) (off : Nat) (v : Word) : Option State :=
  let b := v.toNat.testBit
  if off = Reg.SYS_RST_CTL then some (s.rstCtl via v.toNat)
  else if off = Reg.PLT_CTL then some ((s.runIf (b 0) (execReplatLock via)).runIf (b 1) (execPltAbort via))
  else none

/-- HPT. -/
def State.writeHpt (s : State) (via : Via) (off : Nat) (v : Word) : Option State :=
  let b := v.toNat.testBit
  let p : Fin 2 := if off < Reg.HPT_ID 1 then 0 else 1
  if off = Reg.HPT_CTL p.val then
    some ((s.runIf (b 0 != s.bit off 0) (execLinkDisable via p (b 0))).runIf (b 1) (execLinkRetrain via p))
  else if off = Reg.HPT_DRAIN_CTL p.val then some (s.runIf (b 0) (execPortDrain via p))
  else none

/-- STG. -/
def State.writeStg (s : State) (via : Via) (off : Nat) (v : Word) : Option State :=
  let b := v.toNat.testBit
  if off = Reg.STG_CTL then
    some ((s.run (if b 0 then execStgEnableSet via (b 1) else execStgEnableClear via (b 1))).runIf (b 2) (execCleanAll via))
  else if off = Reg.STG_FREE_LOW then some (s.run (execStgClockParamWrite via .freeLow v))
  else if off = Reg.STG_FREE_HIGH then some (s.run (execStgClockParamWrite via .freeHigh v))
  else if off = Reg.STG_CLOCK_SPREAD then some (s.run (execStgClockParamWrite via .spread v))
  else none

/-- CDS. -/
def State.writeCds (s : State) (via : Via) (off : Nat) (v : Word) : Option State :=
  let b := v.toNat.testBit
  if off = Reg.CDS_CTL then
    let s := (s.storeBits off 3 v).runIf (!b 2) (execStreamEnClear via)
    let s := if b 2 then s.setBits off 4 else s
    some ((s.runIf (b 3) (execMergeAll via)).runIf (b 4) (execCkptNow via))
  else (([.logFloor, .chainMax, .wearSpread, .wearHyst, .binWidth, .ckptHigh, .ckptLow, .bwsCtl] : List CdsParam).find? fun p =>
    p.off == off).map fun p => s.run (execCdsParamWrite via p v)

/-- TRV. -/
def State.writeTrv (s : State) (via : Via) (off : Nat) (v : Word) : Option State :=
  let ch : Fin 32 := Fin.ofNat 32 ((off - Reg.TRVn_CTL 0) / 0x800)
  if off = Reg.TRV_WAIT_LIMIT then some (s.run (execTrvParamWrite via false v))
  else if off = Reg.TRV_RETUNE_CFG then some (s.run (execTrvParamWrite via true v))
  else if off = Reg.TRVn_CTL ch.val then some ((s.storeBits off 2 v).runIf (v.toNat.testBit 0) (execTrvRetrainWrite via ch))
  else if off = Reg.TRVn_PHY ch.val then some (s.run (execTrvPhyWrite via ch v))
  else none

/-- MDC. -/
def State.writeMdc (s : State) (via : Via) (off : Nat) (v : Word) : Option State :=
  if off = Reg.MDC_CTL then some ((s.storeBits off 15 v).runIf (v.toNat.testBit 4) (execPatrolNow via))
  else (([.retainH, .annealPlan, .rdcntLog2, .unpwrTemp, .patrolDays, .refreshBits] : List MdcParam).find? fun p => p.row.1 == off).map
    fun p => s.run (execMdcParamWrite via p v)

/-- DTM. Whether XO has been valid for 10 ms is not for software to say: a write of XO_RETURN here finds it so or not (log
entry 3). -/
def State.writeDtm (s : State) (via : Via) (off : Nat) (v : Word) : Option State :=
  let b := v.toNat.testBit
  if off = Reg.DTM_CTL then
    let valid := if Config.freeBool s.free then 10000000 else 0
    let s := (s.storeBits off 4 v).setBits off (bitIf 0 (b 0))
    some (if b 1 then (s.run (execXoReturn via valid)).useFree else s)
  else if off = Reg.DTM_SLEW_PPM then some (s.run (execDtmParamWrite via false v))
  else if off = Reg.DTM_STEP_US then some (s.run (execDtmParamWrite via true v))
  else if off = Reg.DTM_SVY_STROBE then some (s.runIf (b 0) (execSurveyStrobeWrite via))
  else none

/-- PWR and PFL: FORCE_WT sets the budget, CHARGE_EN and BAL_EN act on the converter and the switches at once. -/
def State.writePwr (s : State) (via : Via) (off : Nat) (v : Word) : Option State :=
  let b := v.toNat.testBit
  if off = Reg.PWR_CTL then
    let s := (s.storeBits off 7 v).setBudget.convFollow
    let s := if b 1 then s else s.modPwr fun p => { p with balance := 0 }
    some ((s.runIf (b 3) (execAssayNow via)).runIf (b 4) (execBaseReset via))
  else if off = Reg.PWR_C_MARGIN then some (s.run (execPwrParamWrite via 0 v))
  else if off = Reg.PWR_ESR_FACTOR then some (s.run (execPwrParamWrite via 1 v))
  else if off = Reg.PWR_HB_EXTRA_MW then some (s.run (execPwrParamWrite via 2 v))
  else if off = Reg.PFL_CTL then some ((s.runIf (b 0) (execRelock via)).runIf (b 1) (execSimTrip via))
  else if off = Reg.PFL_BRACE_MAX_MS then some (s.run (execPflParamWrite via v))
  else none

/-- IME_PARAM_WRITE (R362): IME_META_HIGH outside 4,096 to 262,144 is ignored. -/
def execImeParamWrite (via : Via) (v : Word) (s : State) : Res :=
  if !s.reaches via then .next s else
  let s := s.emit (.regWriteDone via Reg.IME_META_HIGH)
  .next (if within v.toNat 4096 262144 then s.setReg Reg.IME_META_HIGH v else s)

/-- REKEY_START_WRITE (R355): a START names a holding of the image in force once its map is there; a START that names none, and a
third request of a holding, are ignored. -/
def execRekeyStartWrite (via : Via) (v : Word) (s : State) : Res :=
  if !s.reaches via then .next s else
  let s := s.emit (.regWriteDone via Reg.IME_REKEY_CTL)
  .next (if v.toNat.testBit 8 && s.mapReady then s.startRekey (bitsAt v.toNat 0 4) else s)

/-- IME. -/
def State.writeIme (s : State) (via : Via) (off : Nat) (v : Word) : Option State :=
  if off = Reg.IME_META_HIGH then some (s.run (execImeParamWrite via v))
  else if off = Reg.IME_REKEY_CTL then some (s.run (execRekeyStartWrite via v))
  else none

/-- The operation of an OP code (Table CKE-1). -/
def ckeCodes : List CkeCode :=
  [.gcmEncrypt, .gcmDecrypt, .gmac, .gmacVerify, .wrap, .unwrap, .derive, .sha384, .genKey, .zeroSlot, .ideMove]

/-- CKE. An OP, a CMD or an authorised operation that no table lists does nothing (log entry 27). -/
def State.writeCke (s : State) (via : Via) (off : Nat) (v : Word) : Option State :=
  let n := v.toNat
  let slot : Fin 16 := Fin.ofNat 16 (bitsAt n 8 4)
  if off = Reg.CKE_OP_CTL then
    if !s.ckeOpen then some s.ckeDenied
    else match ckeCodes[bitsAt n 0 5 - 1]? with
      | some code => some (if n.testBit 31 && bitsAt n 0 5 != 0 then s.submit code (.register via v) else s.storeBits off 0x0FFFFF1F v)
      | none => some (s.storeBits off 0x0FFFFF1F v)
  else if off = Reg.CKE_KEY_DATA then some (s.run (execKeyDataWrite via v))
  else if off = Reg.CKE_KEY_CTL then
    if !s.ckeOpen then some s.ckeDenied
    else if !n.testBit 31 then some s
    else match bitsAt n 0 4 with
      | 1 => some (s.run (execKeyLoad via slot))
      | 2 => some (s.run (execKeyZero via slot))
      | _ => some s
  else if off = Reg.CKE_AUTH_CTL then
    let s := s.runIf (n.testBit 30) (execNewChal via)
    if !n.testBit 31 then some s
    else match bitsAt n 0 8 with
      | 1 => some (s.run (execEvrClear via))
      | 2 => some (s.run (execOwnerEnroll via))
      | 3 => some (s.run (execOwnerRemove via))
      | 4 => some (s.run (execAkReplace via))
      | 5 => some (s.run (execDebugUnlock via))
      | 6 => some (s.run (execRevokeFoaroKey via))
      | _ => some s
  else if off = Reg.CKE_STAGE_DATA then some (s.run (execStageDataWrite via v))
  else none

/-- ENG. -/
def State.writeEng (s : State) (via : Via) (off : Nat) (v : Word) : Option State :=
  let n : Fin 24 := Fin.ofNat 24 ((off - Reg.En_CTL 0) / 0x400)
  let b := v.toNat.testBit
  if off = Reg.En_CTL n.val then some ((s.run (execEngineHold via n (b 0))).runIf (b 1) (execEngineSelftestWrite via n)) else none

/-- PST. -/
def State.writePst (s : State) (via : Via) (off : Nat) (v : Word) : Option State :=
  let n := v.toNat
  if off = Reg.PST_CTL then
    some (((s.storeBits off 0x30 v).runIf (n.testBit 0) (execCollect via (Fin.ofNat 4 (bitsAt n 4 2)))).runIf (n.testBit 1)
      (execMarginScan via))
  else if off = Reg.PST_LEN then some (s.run (execPstParamWrite via v))
  else if off = Reg.PST_DATA then some (s.pstDataWrite v)
  else if off = Reg.PST_CMD then
    if !n.testBit 31 then some s
    else match bitsAt n 0 3 with
      | 1 => some (s.run (execPstRead via))
      | 2 => some (s.run (execPstProg via))
      | 3 => some (s.run (execPstErase via))
      | 4 => some (s.run (execPstBlankCheck via))
      | _ => some s
  else none

/-- EVR. -/
def State.writeEvr (s : State) (via : Via) (off : Nat) (v : Word) : Option State :=
  if off = Reg.EVR_CUR_CMD then
    match bitsAt v.toNat 0 3 with
    | 1 => some (s.run (execEvrCursorOldest via))
    | 2 => some (s.run (execEvrCursorNewest via))
    | 3 => some (s.run (execEvrCursorNext via))
    | 4 => some (s.run (execEvrCursorPrev via))
    | _ => some s
  else if off = Reg.EVR_CURSOR then some (s.run (execEvrCursorWrite via v))
  else none

/-- THM: a level that is forced applies at once (R455). -/
def State.writeThm (s : State) (via : Via) (off : Nat) (v : Word) : Option State :=
  if off = Reg.THM_CTL then some (s.storeBits off 0xF07 v).settleTemper
  else if off = Reg.THM_MED_LIMIT then some (s.run (execThmParamWrite via v))
  else none

/-- SVY and the counters: clearing SVY_INT_STAT.SAMPLE clears PMC_SAMPLE_INFO.LOST. -/
def State.writeSvy (s : State) (via : Via) (off : Nat) (v same : Word) : Option State :=
  let n : Fin 48 := Fin.ofNat 48 ((off - 0xF8000) / 8)
  if off = Reg.SVY_WIN_SEL then some (s.run (execSvyWinSelWrite via v))
  else if off = Reg.SVY_INT_STAT then
    let s := s.storeReg off v same
    some (if v.toNat.testBit 1 && !s.bit off 1 then s.setField Reg.PMC_SAMPLE_INFO 0 16 0 else s)
  else if off = Reg.PMC_CFG n.val then some (s.run (execPmcCfgWrite via n v))
  else if off = Reg.PMC_CNT n.val then some (s.run (execPmcCntWrite via n v 0))
  else none

/-- A write whose register has an effect of its own. -/
def State.writeOwn (s : State) (via : Via) (off : Nat) (v same : Word) : Option State :=
  match off / 0x10000 with
  | 0x0 | 0x1 => s.writeSys via off v
  | 0x2 => s.writeHpt via off v
  | 0x3 => s.writeStg via off v
  | 0x4 => s.writeCds via off v
  | 0x5 => s.writeTrv via off v
  | 0x6 => s.writeMdc via off v
  | 0x7 => s.writeDtm via off v
  | 0x8 => s.writePwr via off v
  | 0x9 => s.writeIme via off v
  | 0xA => s.writeCke via off v
  | 0xB => s.writeEng via off v
  | 0xC => s.writePst via off v
  | 0xD => s.writeEvr via off v
  | 0xE => s.writeThm via off v
  | 0xF => s.writeSvy via off v same
  | _ => none

/-- A 4-byte write of a register, apart from the hold of R5. -/
def State.writeReg (s : State) (via : Via) (off : Nat) (v same : Word) : State :=
  if s.hidden via off then s
  else if !s.implemented off then s.unimpl off true
  else match s.writeOwn via off v same with
    | some t => t
    | none => s.storeReg off v same

/-- One access, one completion: those of the meanings it ran are one. -/
def State.oneDone (s t : State) (via : Via) (off : Nat) : State :=
  let new := (t.out.drop s.out.length).filter fun o => match o with
    | .regWriteDone _ _ => false
    | _ => true
  { t with out := s.out ++ new ++ [.regWriteDone via off] }

/-- A 4-byte write is completed. -/
def State.write4 (s : State) (via : Via) (off : Nat) (v same : Word) : State := s.oneDone (s.writeReg via off v same) via off

/-! Pairs (R4 to R6). -/

/-- PAIR_LO_READ (R4): the _HI half goes into the requester's shadow. -/
def execPairLoRead (via : Via) (off : Nat) (s : State) : Res :=
  .next (if s.reaches via && isPairLo off then s.read4 via off 0 else s)

/-- PAIR_HI_READ (R4): the shadow after a read of _LO, else the live value. -/
def execPairHiRead (via : Via) (off : Nat) (s : State) : Res :=
  .next (if s.reaches via && isPairHi off then s.read4 via off 0 else s)

/-- A write of a _HI register is held for its requester, one at a time (R5). -/
def State.holdHi (s : State) (via : Via) (off : Nat) (v : Word) : State :=
  s.modShadow via.requester fun x => { x with heldHi := [(off, v)] }

/-- A write of a _LO register takes effect with the _HI half that its requester holds, which is spent (R5). -/
def State.writeLo (s : State) (via : Via) (off : Nat) (v : Word) : State :=
  match (s.shadow via.requester).heldHi.lookup (off + 4) with
  | some hi =>
    let s := s.modShadow via.requester fun x => { x with heldHi := x.heldHi.filter fun e => e.1 != off + 4 }
    (s.writeReg via off v 0).writeReg via (off + 4) hi 0
  | none => s.writeReg via off v 0

/-- PAIR_HI_WRITE (R5). -/
def execPairHiWrite (via : Via) (off : Nat) (v : Word) (s : State) : Res :=
  .next (if s.reaches via && isPairHi off then (s.holdHi via off v).emit (.regWriteDone via off) else s)

/-- PAIR_LO_WRITE (R5). -/
def execPairLoWrite (via : Via) (off : Nat) (v : Word) (s : State) : Res :=
  .next (if s.reaches via && isPairLo off then s.oneDone (s.writeLo via off v) via off else s)

/-- A 4-byte write of any register, with the rules of pairs. -/
def State.writeAny (s : State) (via : Via) (off : Nat) (v same : Word) : State :=
  if isPairHi off then s.holdHi via off v else if isPairLo off then s.writeLo via off v else s.writeReg via off v same

/-- PAIR_8B_ACCESS (R6): a pair is read or written as one quantity, without the shadow and the hold; any other two words are
accessed lower address first, each by its own rule. -/
def execPair8bAccess (via : Via) (off : Nat) (write : Option Quad) (s : State) : Res :=
  if !s.reaches via || off % 4 != 0 || decide (2 ^ 20 < off + 8) then .next s else
  match write with
  | none =>
    let one := isPairLo off && !s.hidden via off && s.implemented off
    let lo := if one then (s.showsTo via.requester off, s) else s.readReg via off 0
    let hi := if one then (s.showsTo via.requester (off + 4), s) else lo.2.readReg via (off + 4) 0
    .next (hi.2.emit (.regRead64 via off (hi.1 ++ lo.1)))
  | some v =>
    let lo : Word := v.extractLsb' 0 32
    let hi : Word := v.extractLsb' 32 32
    let t := if isPairLo off then (s.writeReg via off lo 0).writeReg via (off + 4) hi 0
      else (s.writeAny via off lo 0).writeAny via (off + 4) hi 0
    .next (s.oneDone t via off)

/-! Other accesses. -/

/-- UNSUPPORTED_ACCESS (R6): no register is touched. -/
def execUnsupportedAccess (via : Via) (off : Nat) (s : State) : Res :=
  if !s.reaches via then .next s else .next (s.emit (.unsupportedRequest via off))

/-- UNIMPL_ACCESS (R503, R57): an offset without a register. -/
def execUnimplAccess (via : Via) (off : Nat) (write : Bool) (s : State) : Res :=
  if !s.reaches via || s.hidden via off || s.implemented off then .next s
  else if write then .next ((s.unimpl off true).emit (.regWriteDone via off))
  else .next ((s.unimpl off false).emit (.regRead via off 0))

/-- RC_READ (R7, R9): the read of a register; `same` is what events of the same cycle contribute to its RC fields. -/
def execRcRead (via : Via) (off : Nat) (same : Word) (s : State) : Res :=
  if !s.reaches via then .next s else .next (s.read4 via off same)

/-- REGISTER_WRITE (R7, R8): a write by access type; `same` are the W1C bits that events of the same cycle set. -/
def execRegisterWrite (via : Via) (off : Nat) (v same : Word) (s : State) : Res :=
  if !s.reaches via then .next s else .next (s.oneDone (s.writeAny via off v same) via off)

end Sys2Proof.Machine
end

