-- ==== Sys2Proof/Machine/Dispatch.lean ====
section
/-! DEFINITION. The dispatch: one arm per command, each one call of its meaning. -/

namespace Sys2Proof.Machine

/-- The effect of a command on everything but the queue. -/
def exec (i : Instr) (s : State) : Host.Outcome State Fault Refusal :=
  match i with
  | .suppliesGood straps retained offNs => Sys2Proof.Machine.execSuppliesGood straps retained offNs s
  | .supplyLoss => Sys2Proof.Machine.execSupplyLoss s
  | .railWarn rail => Sys2Proof.Machine.execRailWarn rail s
  | .resetInputLow pin atNs => Sys2Proof.Machine.execResetInputLow pin atNs s
  | .resetInputRelease pin atNs => Sys2Proof.Machine.execResetInputRelease pin atNs s
  | .resetFlushDone atNs => Sys2Proof.Machine.execResetFlushDone atNs s
  | .functionLevelReset port => Sys2Proof.Machine.execFunctionLevelReset port s
  | .hostLinkTrain port rate width flit68 => Sys2Proof.Machine.execHostLinkTrain port rate width flit68 s
  | .laneFail port lane lock atNs => Sys2Proof.Machine.execLaneFail port lane lock atNs s
  | .linkDown port => Sys2Proof.Machine.execLinkDown port s
  | .ideRxFlit port macOk => Sys2Proof.Machine.execIdeRxFlit port macOk s
  | .m2sRwd port line data mask atNs => Sys2Proof.Machine.execM2sRwd port line data mask atNs s
  | .m2sReq port line tag atNs => Sys2Proof.Machine.execM2sReq port line tag atNs s
  | .pwbInstall port fault => Sys2Proof.Machine.execPwbInstall port fault s
  | .readPerform port tag fault => Sys2Proof.Machine.execReadPerform port tag fault s
  | .lineReadReturn line r => Sys2Proof.Machine.execLineReadReturn line r s
  | .writeThroughVerify port seq src redirected => Sys2Proof.Machine.execWriteThroughVerify port seq src redirected s
  | .ideTxMacFailReport port => Sys2Proof.Machine.execIdeTxMacFailReport port s
  | .ideIvThreshold port => Sys2Proof.Machine.execIdeIvThreshold port s
  | .ideIvExhaust port atNs => Sys2Proof.Machine.execIdeIvExhaust port atNs s
  | .ideRefreshTimeout port atNs => Sys2Proof.Machine.execIdeRefreshTimeout port atNs s
  | .ideKmQuery port => Sys2Proof.Machine.execIdeKmQuery port s
  | .ideKmKeyProg port stream dir set sub key => Sys2Proof.Machine.execIdeKmKeyProg port stream dir set sub key s
  | .ideKmKSetGo port stream set skid atNs => Sys2Proof.Machine.execIdeKmKSetGo port stream set skid atNs s
  | .ideKmKSetStop port stream set => Sys2Proof.Machine.execIdeKmKSetStop port stream set s
  | .ideKmGetKey port stream sub => Sys2Proof.Machine.execIdeKmGetKey port stream sub s
  | .gpfPhase1 port => Sys2Proof.Machine.execGpfPhase1 port s
  | .gpfPhase2 port atNs => Sys2Proof.Machine.execGpfPhase2 port atNs s
  | .gpfPhase2Timeout port atNs => Sys2Proof.Machine.execGpfPhase2Timeout port atNs s
  | .hdmDecoderCommit port n hpa size skip ways gran lock => Sys2Proof.Machine.execHdmDecoderCommit port n hpa size skip ways gran lock s
  | .linkDisable via port disable => Sys2Proof.Machine.execLinkDisable via port disable s
  | .linkRetrain via port => Sys2Proof.Machine.execLinkRetrain via port s
  | .portDrain via port => Sys2Proof.Machine.execPortDrain via port s
  | .doeDiscovery port index => Sys2Proof.Machine.execDoeDiscovery port index s
  | .cdatTableAccess port => Sys2Proof.Machine.execCdatTableAccess port s
  | .spdmGetVersion via => Sys2Proof.Machine.execSpdmGetVersion via s
  | .spdmGetCapabilities via => Sys2Proof.Machine.execSpdmGetCapabilities via s
  | .spdmNegotiateAlgorithms via => Sys2Proof.Machine.execSpdmNegotiateAlgorithms via s
  | .spdmGetDigests via => Sys2Proof.Machine.execSpdmGetDigests via s
  | .spdmGetCertificate via slot offset length => Sys2Proof.Machine.execSpdmGetCertificate via slot offset length s
  | .spdmChallenge via nonce => Sys2Proof.Machine.execSpdmChallenge via nonce s
  | .spdmGetMeasurements via index nonce => Sys2Proof.Machine.execSpdmGetMeasurements via index nonce s
  | .spdmKeyExchange via session => Sys2Proof.Machine.execSpdmKeyExchange via session s
  | .spdmFinish via => Sys2Proof.Machine.execSpdmFinish via s
  | .spdmEndSession via => Sys2Proof.Machine.execSpdmEndSession via s
  | .identify via => Sys2Proof.Machine.execIdentify via s
  | .backgroundOperationStatus via => Sys2Proof.Machine.execBackgroundOperationStatus via s
  | .getEventRecords via log => Sys2Proof.Machine.execGetEventRecords via log s
  | .clearEventRecords via log all seqs => Sys2Proof.Machine.execClearEventRecords via log all seqs s
  | .getEventInterruptPolicy via => Sys2Proof.Machine.execGetEventInterruptPolicy via s
  | .setEventInterruptPolicy via policy => Sys2Proof.Machine.execSetEventInterruptPolicy via policy s
  | .getFwInfo via => Sys2Proof.Machine.execGetFwInfo via s
  | .transferFw via offset bytes last fw => Sys2Proof.Machine.execTransferFw via offset bytes last fw s
  | .activateFw via slot => Sys2Proof.Machine.execActivateFw via slot s
  | .getTimestamp via ago => Sys2Proof.Machine.execGetTimestamp via ago s
  | .setTimestamp via t ago => Sys2Proof.Machine.execSetTimestamp via t ago s
  | .getSupportedLogs via => Sys2Proof.Machine.execGetSupportedLogs via s
  | .getLog via log offset length => Sys2Proof.Machine.execGetLog via log offset length s
  | .identifyMemoryDevice via => Sys2Proof.Machine.execIdentifyMemoryDevice via s
  | .getLsa via offset length => Sys2Proof.Machine.execGetLsa via offset length s
  | .setLsa via offset bytes => Sys2Proof.Machine.execSetLsa via offset bytes s
  | .getHealthInfo via => Sys2Proof.Machine.execGetHealthInfo via s
  | .getShutdownState via => Sys2Proof.Machine.execGetShutdownState via s
  | .setShutdownState via dirty => Sys2Proof.Machine.execSetShutdownState via dirty s
  | .getPoison via first count => Sys2Proof.Machine.execGetPoison via first count s
  | .injectPoison via dpa => Sys2Proof.Machine.execInjectPoison via dpa s
  | .clearPoison via dpa data => Sys2Proof.Machine.execClearPoison via dpa data s
  | .getScanMediaCapabilities via first count => Sys2Proof.Machine.execGetScanMediaCapabilities via first count s
  | .scanMedia via first count => Sys2Proof.Machine.execScanMedia via first count s
  | .scanMediaComplete lost => Sys2Proof.Machine.execScanMediaComplete lost s
  | .getScanMediaResults via => Sys2Proof.Machine.execGetScanMediaResults via s
  | .sanitize via => Sys2Proof.Machine.execSanitize via s
  | .sanitizeComplete atNs => Sys2Proof.Machine.execSanitizeComplete atNs s
  | .secureErase via => Sys2Proof.Machine.execSecureErase via s
  | .secureEraseComplete atNs => Sys2Proof.Machine.execSecureEraseComplete atNs s
  | .getSecurityState via => Sys2Proof.Machine.execGetSecurityState via s
  | .setPassphrase via master cur new => Sys2Proof.Machine.execSetPassphrase via master cur new s
  | .disablePassphrase via cur => Sys2Proof.Machine.execDisablePassphrase via cur s
  | .unlock via pass => Sys2Proof.Machine.execUnlock via pass s
  | .freezeSecurityState via => Sys2Proof.Machine.execFreezeSecurityState via s
  | .passphraseSecureErase via master => Sys2Proof.Machine.execPassphraseSecureErase via master s
  | .releaseRange via dpa len rsvOk => Sys2Proof.Machine.execReleaseRange via dpa len rsvOk s
  | .releaseRangeSecure via dpa len rsvOk => Sys2Proof.Machine.execReleaseRangeSecure via dpa len rsvOk s
  | .flushLine via dpa count rsvOk => Sys2Proof.Machine.execFlushLine via dpa count rsvOk s
  | .invalLine via dpa count rsvOk => Sys2Proof.Machine.execInvalLine via dpa count rsvOk s
  | .zeroLine via dpa count rsvOk => Sys2Proof.Machine.execZeroLine via dpa count rsvOk s
  | .zeroParcel via dpa count rsvOk => Sys2Proof.Machine.execZeroParcel via dpa count rsvOk s
  | .holdingCryptoErase via id rsvOk => Sys2Proof.Machine.execHoldingCryptoErase via id rsvOk s
  | .replatWrite via offset bytes last image rsvOk => Sys2Proof.Machine.execReplatWrite via offset bytes last image rsvOk s
  | .replatApply via sanitizeOk raiseSvn rsvOk => Sys2Proof.Machine.execReplatApply via sanitizeOk raiseSvn rsvOk s
  | .replatAbort via rsvOk => Sys2Proof.Machine.execReplatAbort via rsvOk s
  | .assayStart via => Sys2Proof.Machine.execAssayStart via s
  | .assayResult via => Sys2Proof.Machine.execAssayResult via s
  | .surveyStrobe via => Sys2Proof.Machine.execSurveyStrobe via s
  | .surveyRead via block start count rsvOk => Sys2Proof.Machine.execSurveyRead via block start count rsvOk s
  | .unsupportedOpcode via opcode => Sys2Proof.Machine.execUnsupportedOpcode via opcode s
  | .clockFrontHand => Sys2Proof.Machine.execClockFrontHand s
  | .clockBackHand => Sys2Proof.Machine.execClockBackHand s
  | .writeBackCommit parcel misses stuck => Sys2Proof.Machine.execWriteBackCommit parcel misses stuck s
  | .runMonumentWrite => Sys2Proof.Machine.execRunMonumentWrite s
  | .stgEnableClear via keep => Sys2Proof.Machine.execStgEnableClear via keep s
  | .stgEnableSet via keep => Sys2Proof.Machine.execStgEnableSet via keep s
  | .cleanAll via => Sys2Proof.Machine.execCleanAll via s
  | .tagCacheInvalidateDone => Sys2Proof.Machine.execTagCacheInvalidateDone s
  | .stagingInvalidateDone => Sys2Proof.Machine.execStagingInvalidateDone s
  | .stgClockParamWrite via p v => Sys2Proof.Machine.execStgClockParamWrite via p v s
  | .streamBandIdle band atNs => Sys2Proof.Machine.execStreamBandIdle band atNs s
  | .wtSlotIdle parcel atNs => Sys2Proof.Machine.execWtSlotIdle parcel atNs s
  | .bwsDispatch reads atNs => Sys2Proof.Machine.execBwsDispatch reads atNs s
  | .mergeCommit plot lost => Sys2Proof.Machine.execMergeCommit plot lost s
  | .checkpointSeal => Sys2Proof.Machine.execCheckpointSeal s
  | .tractResetDone die tract => Sys2Proof.Machine.execTractResetDone die tract s
  | .heatHalving atNs => Sys2Proof.Machine.execHeatHalving atNs s
  | .chainRebuildDone bucket => Sys2Proof.Machine.execChainRebuildDone bucket s
  | .ckptNow via => Sys2Proof.Machine.execCkptNow via s
  | .mergeAll via => Sys2Proof.Machine.execMergeAll via s
  | .streamEnClear via => Sys2Proof.Machine.execStreamEnClear via s
  | .cdsParamWrite via p v => Sys2Proof.Machine.execCdsParamWrite via p v s
  | .xoLoss ppm => Sys2Proof.Machine.execXoLoss ppm s
  | .xoReturn via validNs => Sys2Proof.Machine.execXoReturn via validNs s
  | .datumDeedTimer atNs => Sys2Proof.Machine.execDatumDeedTimer atNs s
  | .slewComplete atNs => Sys2Proof.Machine.execSlewComplete atNs s
  | .dtmParamWrite via step v => Sys2Proof.Machine.execDtmParamWrite via step v s
  | .surveyStrobeWrite via => Sys2Proof.Machine.execSurveyStrobeWrite via s
  | .surveyInEdge => Sys2Proof.Machine.execSurveyInEdge s
  | .surveyLatch => Sys2Proof.Machine.execSurveyLatch s
  | .surveyOutEnd => Sys2Proof.Machine.execSurveyOutEnd s
  | .readLine ch die level margin tract parcel line accepted => Sys2Proof.Machine.execReadLine ch die level margin tract parcel line accepted s
  | .readParcel ch die level margin tract parcel accepted => Sys2Proof.Machine.execReadParcel ch die level margin tract parcel accepted s
  | .progLine ch die tract parcel line accepted => Sys2Proof.Machine.execProgLine ch die tract parcel line accepted s
  | .progParcel ch die tract parcel mask accepted => Sys2Proof.Machine.execProgParcel ch die tract parcel mask accepted s
  | .resetTract ch die tract accepted => Sys2Proof.Machine.execResetTract ch die tract accepted s
  | .suspend ch die what accepted => Sys2Proof.Machine.execSuspend ch die what accepted s
  | .resume ch die what accepted => Sys2Proof.Machine.execResume ch die what accepted s
  | .readStatus ch die burstOk => Sys2Proof.Machine.execReadStatus ch die burstOk s
  | .setLevel ch die set threshold offset accepted => Sys2Proof.Machine.execSetLevel ch die set threshold offset accepted s
  | .getTemp ch die accepted => Sys2Proof.Machine.execGetTemp ch die accepted s
  | .readId ch die => Sys2Proof.Machine.execReadId ch die s
  | .rdyNAssert ch die op result plane value atNs => Sys2Proof.Machine.execRdyNAssert ch die op result plane value atNs s
  | .trvCmdTimeout ch die op plane atNs => Sys2Proof.Machine.execTrvCmdTimeout ch die op plane atNs s
  | .statusRetry ch die valid stillRunning atNs => Sys2Proof.Machine.execStatusRetry ch die valid stillRunning atNs s
  | .trvRetrainDone ch ok atNs => Sys2Proof.Machine.execTrvRetrainDone ch ok atNs s
  | .trainingDone passed dies phy atNs => Sys2Proof.Machine.execTrainingDone passed dies phy atNs s
  | .retune ch => Sys2Proof.Machine.execRetune ch s
  | .tempPoll ch => Sys2Proof.Machine.execTempPoll ch s
  | .trvRetrainWrite via ch => Sys2Proof.Machine.execTrvRetrainWrite via ch s
  | .trvPhyWrite via ch v => Sys2Proof.Machine.execTrvPhyWrite via ch v s
  | .trvParamWrite via retune v => Sys2Proof.Machine.execTrvParamWrite via retune v s
  | .weightedClockTick atNs => Sys2Proof.Machine.execWeightedClockTick atNs s
  | .levelAdjust die bin => Sys2Proof.Machine.execLevelAdjust die bin s
  | .readCountAnneal die tract => Sys2Proof.Machine.execReadCountAnneal die tract s
  | .patrolPassStart atNs => Sys2Proof.Machine.execPatrolPassStart atNs s
  | .patrolNow via => Sys2Proof.Machine.execPatrolNow via s
  | .rebuildCommit band lost => Sys2Proof.Machine.execRebuildCommit band lost s
  | .mdcParamWrite via p v => Sys2Proof.Machine.execMdcParamWrite via p v s
  | .lineSenseEdge atNs => Sys2Proof.Machine.execLineSenseEdge atNs s
  | .lineEdgeLate atNs => Sys2Proof.Machine.execLineEdgeLate atNs s
  | .braceTimeout atNs => Sys2Proof.Machine.execBraceTimeout atNs s
  | .relock via => Sys2Proof.Machine.execRelock via s
  | .simTrip via => Sys2Proof.Machine.execSimTrip via s
  | .vinDrop vin atNs => Sys2Proof.Machine.execVinDrop vin atNs s
  | .vinTrip atNs => Sys2Proof.Machine.execVinTrip atNs s
  | .vinRecover vin atNs => Sys2Proof.Machine.execVinRecover vin atNs s
  | .sealDone atNs => Sys2Proof.Machine.execSealDone atNs s
  | .drainParcel misses stuck atNs => Sys2Proof.Machine.execDrainParcel misses stuck atNs s
  | .monumentDone atNs => Sys2Proof.Machine.execMonumentDone atNs s
  | .restDone atNs => Sys2Proof.Machine.execRestDone atNs s
  | .safeResume vin atNs => Sys2Proof.Machine.execSafeResume vin atNs s
  | .idealDiodeSwitch vin hb atNs => Sys2Proof.Machine.execIdealDiodeSwitch vin hb atNs s
  | .hvRefreshTimeout => Sys2Proof.Machine.execHvRefreshTimeout s
  | .overcurrent => Sys2Proof.Machine.execOvercurrent s
  | .chargeOvervoltStop bankV cells => Sys2Proof.Machine.execChargeOvervoltStop bankV cells s
  | .floatReached bankV => Sys2Proof.Machine.execFloatReached bankV s
  | .cellMeasure cells bankI rise limit atNs => Sys2Proof.Machine.execCellMeasure cells bankI rise limit atNs s
  | .energyMeterUpdate vin hb bankV convI chgMw atNs => Sys2Proof.Machine.execEnergyMeterUpdate vin hb bankV convI chgMw atNs s
  | .liveEstimate capUf esrMohm atNs => Sys2Proof.Machine.execLiveEstimate capUf esrMohm atNs s
  | .noBankCheck bankV atNs => Sys2Proof.Machine.execNoBankCheck bankV atNs s
  | .chargeTimeout atNs => Sys2Proof.Machine.execChargeTimeout atNs s
  | .assayDue atNs => Sys2Proof.Machine.execAssayDue atNs s
  | .assayNow via => Sys2Proof.Machine.execAssayNow via s
  | .assaySlackExpiry atNs => Sys2Proof.Machine.execAssaySlackExpiry atNs s
  | .assayRelaxDone v0 => Sys2Proof.Machine.execAssayRelaxDone v0 s
  | .assayEsrSample stepMa dropMv => Sys2Proof.Machine.execAssayEsrSample stepMa dropMv s
  | .assayIntegrationEnd chargeUc loadMw => Sys2Proof.Machine.execAssayIntegrationEnd chargeUc loadMw s
  | .assayDone v1 => Sys2Proof.Machine.execAssayDone v1 s
  | .baseReset via => Sys2Proof.Machine.execBaseReset via s
  | .pwrParamWrite via reg v => Sys2Proof.Machine.execPwrParamWrite via reg v s
  | .pflParamWrite via v => Sys2Proof.Machine.execPflParamWrite via v s
  | .bootComplete readings drbgOk atNs => Sys2Proof.Machine.execBootComplete readings drbgOk atNs s
  | .platLoad atNs => Sys2Proof.Machine.execPlatLoad atNs s
  | .recoverComplete badRoots unread atNs => Sys2Proof.Machine.execRecoverComplete badRoots unread atNs s
  | .warmupTimeout atNs => Sys2Proof.Machine.execWarmupTimeout atNs s
  | .rekeyStartWrite via v => Sys2Proof.Machine.execRekeyStartWrite via v s
  | .imeParamWrite via v => Sys2Proof.Machine.execImeParamWrite via v s
  | .gcmEncrypt b => Sys2Proof.Machine.execGcmEncrypt b s
  | .gcmDecrypt b => Sys2Proof.Machine.execGcmDecrypt b s
  | .gmac b => Sys2Proof.Machine.execGmac b s
  | .gmacVerify b => Sys2Proof.Machine.execGmacVerify b s
  | .wrap b => Sys2Proof.Machine.execWrap b s
  | .unwrap b => Sys2Proof.Machine.execUnwrap b s
  | .derive b => Sys2Proof.Machine.execDerive b s
  | .sha384 b => Sys2Proof.Machine.execSha384 b s
  | .genKey b => Sys2Proof.Machine.execGenKey b s
  | .zeroSlot b => Sys2Proof.Machine.execZeroSlot b s
  | .ideMove b => Sys2Proof.Machine.execIdeMove b s
  | .ckeOpComplete mismatch => Sys2Proof.Machine.execCkeOpComplete mismatch s
  | .keyDataWrite via v => Sys2Proof.Machine.execKeyDataWrite via v s
  | .keyLoad via slot => Sys2Proof.Machine.execKeyLoad via slot s
  | .keyZero via slot => Sys2Proof.Machine.execKeyZero via slot s
  | .newChal via => Sys2Proof.Machine.execNewChal via s
  | .challengeExpiry atNs => Sys2Proof.Machine.execChallengeExpiry atNs s
  | .stageDataWrite via v => Sys2Proof.Machine.execStageDataWrite via v s
  | .evrClear via => Sys2Proof.Machine.execEvrClear via s
  | .ownerEnroll via => Sys2Proof.Machine.execOwnerEnroll via s
  | .ownerRemove via => Sys2Proof.Machine.execOwnerRemove via s
  | .akReplace via => Sys2Proof.Machine.execAkReplace via s
  | .debugUnlock via => Sys2Proof.Machine.execDebugUnlock via s
  | .revokeFoaroKey via => Sys2Proof.Machine.execRevokeFoaroKey via s
  | .rngRetest ok atNs => Sys2Proof.Machine.execRngRetest ok atNs s
  | .drbgReseed ok => Sys2Proof.Machine.execDrbgReseed ok s
  | .ringEntryPost role src op payload => Sys2Proof.Machine.execRingEntryPost role src op payload s
  | .engineWatchdogExpiry n kickNs kicked atNs => Sys2Proof.Machine.execEngineWatchdogExpiry n kickNs kicked atNs s
  | .engineTrap n atNs => Sys2Proof.Machine.execEngineTrap n atNs s
  | .engineSramUe n atNs => Sys2Proof.Machine.execEngineSramUe n atNs s
  | .lockstepMismatch atNs => Sys2Proof.Machine.execLockstepMismatch atNs s
  | .failoverLoadDone target atNs => Sys2Proof.Machine.execFailoverLoadDone target atNs s
  | .failoverTimeout target atNs => Sys2Proof.Machine.execFailoverTimeout target atNs s
  | .engineSelftestDone n pass => Sys2Proof.Machine.execEngineSelftestDone n pass s
  | .engineSelftestWrite via n => Sys2Proof.Machine.execEngineSelftestWrite via n s
  | .engineHold via n hold => Sys2Proof.Machine.execEngineHold via n hold s
  | .pstOpStart atNs => Sys2Proof.Machine.execPstOpStart atNs s
  | .pageProgramDone ok atNs => Sys2Proof.Machine.execPageProgramDone ok atNs s
  | .sectorEraseDone ok atNs => Sys2Proof.Machine.execSectorEraseDone ok atNs s
  | .pageProgramTimeout atNs => Sys2Proof.Machine.execPageProgramTimeout atNs s
  | .sectorEraseTimeout atNs => Sys2Proof.Machine.execSectorEraseTimeout atNs s
  | .mgmtHoldTimeout atNs => Sys2Proof.Machine.execMgmtHoldTimeout atNs s
  | .pstRead via => Sys2Proof.Machine.execPstRead via s
  | .pstProg via => Sys2Proof.Machine.execPstProg via s
  | .pstErase via => Sys2Proof.Machine.execPstErase via s
  | .pstBlankCheck via => Sys2Proof.Machine.execPstBlankCheck via s
  | .pstDataAccess via write => Sys2Proof.Machine.execPstDataAccess via write s
  | .marginScan via => Sys2Proof.Machine.execMarginScan via s
  | .collect via area => Sys2Proof.Machine.execCollect via area s
  | .pstParamWrite via v => Sys2Proof.Machine.execPstParamWrite via v s
  | .tokenRefill code atNs => Sys2Proof.Machine.execTokenRefill code atNs s
  | .suppressedSummary code atNs => Sys2Proof.Machine.execSuppressedSummary code atNs s
  | .suppTableFull atNs => Sys2Proof.Machine.execSuppTableFull atNs s
  | .evrCursorOldest via => Sys2Proof.Machine.execEvrCursorOldest via s
  | .evrCursorNewest via => Sys2Proof.Machine.execEvrCursorNewest via s
  | .evrCursorNext via => Sys2Proof.Machine.execEvrCursorNext via s
  | .evrCursorPrev via => Sys2Proof.Machine.execEvrCursorPrev via s
  | .evrCursorWrite via seq => Sys2Proof.Machine.execEvrCursorWrite via seq s
  | .sensorSample readings atNs => Sys2Proof.Machine.execSensorSample readings atNs s
  | .levelFall atNs => Sys2Proof.Machine.execLevelFall atNs s
  | .riseBoost atNs => Sys2Proof.Machine.execRiseBoost atNs s
  | .riseBoostEnd atNs => Sys2Proof.Machine.execRiseBoostEnd atNs s
  | .quenchHoldExpiry atNs => Sys2Proof.Machine.execQuenchHoldExpiry atNs s
  | .quenchRestart atNs => Sys2Proof.Machine.execQuenchRestart atNs s
  | .thmParamWrite via v => Sys2Proof.Machine.execThmParamWrite via v s
  | .svyWinSelWrite via v => Sys2Proof.Machine.execSvyWinSelWrite via v s
  | .svyWin7Read via => Sys2Proof.Machine.execSvyWin7Read via s
  | .pmcOverflow n src arg => Sys2Proof.Machine.execPmcOverflow n src arg s
  | .pmcCntWrite via n v inc => Sys2Proof.Machine.execPmcCntWrite via n v inc s
  | .pmcCfgWrite via n v => Sys2Proof.Machine.execPmcCfgWrite via n v s
  | .pmcCntRead via n => Sys2Proof.Machine.execPmcCntRead via n s
  | .pairLoRead via off => Sys2Proof.Machine.execPairLoRead via off s
  | .pairHiRead via off => Sys2Proof.Machine.execPairHiRead via off s
  | .pairHiWrite via off v => Sys2Proof.Machine.execPairHiWrite via off v s
  | .pairLoWrite via off v => Sys2Proof.Machine.execPairLoWrite via off v s
  | .pair8bAccess via off write => Sys2Proof.Machine.execPair8bAccess via off write s
  | .unsupportedAccess via off => Sys2Proof.Machine.execUnsupportedAccess via off s
  | .unimplAccess via off write => Sys2Proof.Machine.execUnimplAccess via off write s
  | .rcRead via off same => Sys2Proof.Machine.execRcRead via off same s
  | .registerWrite via off v same => Sys2Proof.Machine.execRegisterWrite via off v same s
  | .sysRstWarm via v => Sys2Proof.Machine.execSysRstWarm via v s
  | .sysRstCold via v => Sys2Proof.Machine.execSysRstCold via v s
  | .sysRstDiag via v => Sys2Proof.Machine.execSysRstDiag via v s
  | .replatLock via => Sys2Proof.Machine.execReplatLock via s
  | .pltAbort via => Sys2Proof.Machine.execPltAbort via s
  | .energyPairRestartDone atNs => Sys2Proof.Machine.execEnergyPairRestartDone atNs s
  | .tapInstruction tap trstLow => Sys2Proof.Machine.execTapInstruction tap trstLow s
  | .hdmDecoderUncommit port n => Sys2Proof.Machine.execHdmDecoderUncommit port n s
  | .pllUnlock pll => Sys2Proof.Machine.execPllUnlock pll s

end Sys2Proof.Machine
end

