-- ==== Sys2Proof/Safety.lean ====
section
/-! DEFINITION. What counts as a safe run, in the terms the statements use: the register file in its canonical form, the
parts of the state that a command may change, and a state that differs from another only by what recording an event and
the passing of time write. -/

namespace Sys2Proof.Machine

/-- The register file is in its canonical form (Machine/SMap.lean). -/
abbrev State.RegsWf (s : State) : Prop := MapWf regReset s.regs

/-- The parts of the state: the register blocks of Table REG-1 (`reg b`: offsets b × 0x10000 up) and the components. -/
inductive Part
  | reg (block : Fin 16)
  | bar2 | mctp | sys | dtm | plat | port0 | port1 | svc | stg | cds | saved | med | trv | mdc | pwr | pfl | ime | cke | eng | pst | evr | thm | svy | out | free
  deriving DecidableEq, Repr

/-- The bit of a part in a set of parts. -/
def Part.index : Part → Nat
  | .reg b => b.val
  | .bar2 => 16
  | .mctp => 17
  | .sys => 18
  | .dtm => 19
  | .plat => 20
  | .port0 => 21
  | .port1 => 22
  | .svc => 23
  | .stg => 24
  | .cds => 25
  | .saved => 26
  | .med => 27
  | .trv => 28
  | .mdc => 29
  | .pwr => 30
  | .pfl => 31
  | .ime => 32
  | .cke => 33
  | .eng => 34
  | .pst => 35
  | .evr => 36
  | .thm => 37
  | .svy => 38
  | .out => 39
  | .free => 40

/-- A set of parts. -/
def parts : List Part → Nat
  | [] => 0
  | p :: l => 2 ^ p.index ||| parts l

/-- `t` differs from `s` at most in the parts of `m`: the queue is the same, the register file stays canonical, and every
register and component outside `m` is as before. -/
structure Touches (m : Nat) (s t : State) : Prop where
  pending : t.pending = s.pending
  wf : s.RegsWf → t.RegsWf
  regs : ∀ o, o < 0x100000 → m.testBit (o / 0x10000) = false → t.getReg o = s.getReg o
  bar2 : m.testBit 16 = false → t.bar2 = s.bar2
  mctp : m.testBit 17 = false → t.mctp = s.mctp
  sys : m.testBit 18 = false → t.sys = s.sys
  dtm : m.testBit 19 = false → t.dtm = s.dtm
  plat : m.testBit 20 = false → t.plat = s.plat
  port0 : m.testBit 21 = false → t.port0 = s.port0
  port1 : m.testBit 22 = false → t.port1 = s.port1
  svc : m.testBit 23 = false → t.svc = s.svc
  stg : m.testBit 24 = false → t.stg = s.stg
  cds : m.testBit 25 = false → t.cds = s.cds
  saved : m.testBit 26 = false → t.saved = s.saved
  med : m.testBit 27 = false → t.med = s.med
  trv : m.testBit 28 = false → t.trv = s.trv
  mdc : m.testBit 29 = false → t.mdc = s.mdc
  pwr : m.testBit 30 = false → t.pwr = s.pwr
  pfl : m.testBit 31 = false → t.pfl = s.pfl
  ime : m.testBit 32 = false → t.ime = s.ime
  cke : m.testBit 33 = false → t.cke = s.cke
  eng : m.testBit 34 = false → t.eng = s.eng
  pst : m.testBit 35 = false → t.pst = s.pst
  evr : m.testBit 36 = false → t.evr = s.evr
  thm : m.testBit 37 = false → t.thm = s.thm
  svy : m.testBit 38 = false → t.svy = s.svy
  out : m.testBit 39 = false → t.out = s.out
  free : m.testBit 40 = false → t.free = s.free

/-- The registers that event records, survey requests and performance counting write: DTM_SVY_MERGED, the ports' overflow
counts, and the blocks EVR and SVY. -/
def recReg (o : Nat) : Bool :=
  o == Reg.DTM_SVY_MERGED || o == Reg.HPT_EVT_OVF 0 || o == Reg.HPT_EVT_OVF 1 || o / 0x10000 == 0xD || o / 0x10000 == 0xF

/-- `t` is `s` after something was recorded: only the registers of `R`, the time and the strobe, the ports' event logs, the
parameter store's queue, the event recorder and the condition events differ. -/
structure Recorded (R : Nat → Bool) (tm : Bool) (s t : State) : Prop where
  pending : t.pending = s.pending
  wf : s.RegsWf → t.RegsWf
  bar2 : t.bar2 = s.bar2
  mctp : t.mctp = s.mctp
  sys : t.sys = s.sys
  plat : t.plat = s.plat
  svc : t.svc = s.svc
  stg : t.stg = s.stg
  cds : t.cds = s.cds
  saved : t.saved = s.saved
  med : t.med = s.med
  trv : t.trv = s.trv
  mdc : t.mdc = s.mdc
  pwr : t.pwr = s.pwr
  pfl : t.pfl = s.pfl
  ime : t.ime = s.ime
  cke : t.cke = s.cke
  eng : t.eng = s.eng
  thm : t.thm = s.thm
  out : t.out = s.out
  free : t.free = s.free
  dtm : ∃ m d o st, t.dtm = { s.dtm with mono := m, datum := d, offset := o, strobe := st } ∧
    (tm = false → m = s.dtm.mono ∧ d = s.dtm.datum ∧ o = s.dtm.offset)
  port0 : ∃ l o, t.port0 = { s.port0 with logs := l, logOvf := o }
  port1 : ∃ l o, t.port1 = { s.port1 with logs := l, logOvf := o }
  pst : ∃ q, t.pst = { s.pst with queue := s.pst.queue ++ q }
  svy : ∃ c, t.svy = { s.svy with conds := c }
  regs : ∀ o, R o = false → t.getReg o = s.getReg o

/-- The command completes: exec answers a next state, of which `P` holds. -/
def Runs (c : Instr) (s : State) (P : State → Prop) : Prop := ∃ t, exec c s = .next t ∧ P t

/-- A mailbox command with this opcode runs when it arrives (R72, R73, R407, R427): the device runs, the port exists, no earlier
command of the mailbox is unanswered, and nothing holds or shuts the mailbox. -/
def State.mboxOpen (s : State) (via : Via) (op : Nat) : Bool :=
  s.running && !s.sys.poweredDown && s.portPresent via.port && !s.mboxBusy via && !s.mboxHeld && !s.mboxShut op

end Sys2Proof.Machine
end

