-- ==== Sys2Proof/Certificates/Slice0/Obligations.lean ====
section
/-! DEFINITION. The statements for the provers, each about the commands or the state of the AX4100. `Runs c s P` says that the
command completes: exec answers a next state, of which `P` holds. `Touches (parts l) s t` says that nothing outside the listed
parts differs between `s` and `t` (Safety.lean). -/

open Sys2Proof Sys2Proof.Machine

/-- A step takes the command at the front of the queue and runs it on the state with the queue's rest. -/
def Obligations.StepRunsTheFrontCommand : Prop := ∀ (c : Instr) (rest : List Instr) (s : State), s.pending = c :: rest →
    step s = exec c { s with pending := rest }

/-- The model's choice (log entry 2): a step on an empty queue is one fabric cycle. With supplies good and the fabric clock
running, DTM_MONO advances by 0.625 ns and the datum with it, bent by a running slew; the queue stays empty, and only the
clocks, the bus counters, the collector, the recorder's registers and the counters change. -/
def Obligations.IdleStepIsAFabricCycle : Prop := ∀ s : State, s.pending = [] →
    step s = .next s.tick ∧ s.tick.pending = [] ∧
    (s.sys.supplies = false → s.tick = s) ∧
    (s.sys.supplies = true → s.clockHeld = false →
      s.tick.dtm.mono = s.dtm.mono + 5000000 ∧ (s.dtm.slewing = false → s.tick.dtm.datum = s.dtm.datum + 5000000) ∧
      s.tick.trv.taken.length ≤ 4 ∧ (s.tick.trv.taken.map Prod.fst).Nodup ∧
      Touches (parts [.reg 2, .reg 5, .reg 7, .reg 13, .reg 15, .dtm, .port0, .port1, .trv, .pst, .evr, .svy]) s s.tick) ∧
    (s.sys.supplies = true → s.clockHeld = true → s.tick.dtm.mono = s.dtm.mono + 320000000 ∧ s.tick.trv = s.trv)

/-- The machine right after reset (R10, R288, R504): the device is in BOOT with no command waiting, the bank CHARGING, every
register at its reset value, and nothing on the medium. -/
def Obligations.ResetLeaves : Prop :=
    State.reset.pending = [] ∧ State.reset.sys.state = .boot ∧ State.reset.sys.prev = 0 ∧ State.reset.pwr.bank = .charging ∧
    State.reset.med = [] ∧ State.reset.plat.active = none ∧ (∀ off, State.reset.getReg off = regReset off) ∧
    regReset Reg.PLT_ID = 0x10000001 ∧ regReset Reg.PWR_C_MARGIN = 10 ∧ regReset (Reg.PMC_CFG 47) = 0x00FF0001 ∧
    regReset (Reg.TRVn_PHY 31) = 0x8800 ∧ regReset (Reg.En_STAT 23) = 0xFFFF

/-- The register file is in its canonical form at reset. -/
def Obligations.ResetRegisterFile : Prop := State.reset.RegsWf

/-- Every step keeps the register file in its canonical form: offsets strictly rising and no entry at its reset value, so equal
register files are equal data. -/
def Obligations.RegisterFileStaysCanonical : Prop := ∀ s t : State, s.RegsWf → step s = .next t → t.RegsWf

/-- No command adds a command to the queue or takes one from it: what a step leaves in the queue is the rest behind the
command it ran. -/
def Obligations.CommandsLeaveTheQueue : Prop := ∀ (c : Instr) (s t : State), exec c s = .next t → t.pending = s.pending

/-- Every command of the table answers a next state in every state: none stops the block. -/
def Obligations.EveryCommandCompletes : Prop := ∀ (c : Instr) (s : State), ∃ t, exec c s = .next t

/-- Supplies good (R271, R490, R504, R506): BOOT starts with the straps sampled, the cause recorded as kind 0 with no state left,
and the bank CHARGING; what stands on the medium and in the image slots is kept, no configuration is in force and staging
is empty. A loss of the supplies (R271) changes no register and nothing of the map, staging, the images or the medium; it
touches the saved map and the flush records only while a monument is being written. -/
def Obligations.SuppliesComeAndGo : Prop := ∀ s : State,
    (∀ straps retained offNs, s.sys.supplies = false → Runs (.suppliesGood straps retained offNs) s fun t =>
      t.sys.state = .boot ∧ t.sys.supplies = true ∧ t.sys.straps = straps ∧ t.sys.inReset = false ∧
      t.getReg Reg.SYS_RST_CAUSE = 0 ∧ t.getReg Reg.SYS_LAST_TRANS = 1 ∧ t.pwr.bank = .charging ∧ t.med = s.med ∧
      t.plat.active = none ∧ t.plat.slotA = s.plat.slotA ∧ t.plat.slotB = s.plat.slotB ∧ t.stg.frames = [] ∧
      t.svc.security.passphrase = s.svc.security.passphrase ∧ t.pending = s.pending) ∧
    (s.sys.supplies = true → Runs .supplyLoss s fun t =>
      t.sys = { s.sys with supplies := false } ∧ (s.pfl.phase ≠ .monument → t.saved = s.saved ∧ t.pfl = s.pfl) ∧
      Touches (parts [.sys, .saved, .pfl, .pst, .evr, .free]) s t)

/-- Reset inputs (R306, R488, R489): held in BRACED, discarded in FLUSH, SAFE and QUENCH, preceded by a reset flush in READY,
READONLY and LOCKED, and performed from BOOT, WARMUP, LOAD and RECOVER, where the low input holds the device in reset. A
release of the last low input ends the hold and BOOT begins. The end of the reset flush performs the reset it was for. -/
def Obligations.ResetInputsActByState : Prop := ∀ (s : State) (pin : ResetPin) (atNs : Nat), s.running = true →
    (s.sys.state = .braced → exec (.resetInputLow pin atNs) s =
      .next ((((s.setPin pin true).clockTo atNs).modSys fun x => { x with held := some (joinReset x.held pin.kind) }).setBits
        Reg.SYS_INT_STAT 2)) ∧
    (s.sys.state = .flush ∨ s.sys.state = .safe ∨ s.sys.state = .quench → exec (.resetInputLow pin atNs) s =
      .next ((s.setPin pin true).clockTo atNs)) ∧
    (s.sys.state = .ready ∨ s.sys.state = .readonly ∨ s.sys.state = .locked → s.sys.flushFor = none →
      Runs (.resetInputLow pin atNs) s fun t =>
        t.pfl.phase = .sealing ∧ t.pfl.kind = .reset ∧ t.sys = { (s.setPin pin true).sys with flushFor := some pin.kind } ∧
        t.getReg Reg.SYS_INT_STAT = s.getReg Reg.SYS_INT_STAT ||| 2 ∧ t.stg = s.stg ∧ t.med = s.med ∧ t.cds = s.cds) ∧
    (s.sys.state = .boot ∨ s.sys.state = .warmup ∨ s.sys.state = .load ∨ s.sys.state = .recover → s.sys.flushFor = none →
      Runs (.resetInputLow pin atNs) s fun t =>
        t.sys.state = .boot ∧ t.sys.inReset = true ∧ t.sys.held = none ∧
        t.getReg Reg.SYS_RST_CAUSE = BitVec.ofNat 32 (pin.kind.code * 2 ^ 28 + s.sys.state.code * 256) ∧ t.med = s.med)

/-- The end of a hold in reset and of a reset flush (R29, R306, R488). -/
def Obligations.ResetsEnd : Prop := ∀ (s : State) (atNs : Nat),
    (∀ pin, s.sys.inReset = true → s.sys.supplies = true →
      (s.setPin pin false).sys.sysRstLow = false → (s.setPin pin false).sys.perstLow = false →
      Runs (.resetInputRelease pin atNs) s fun t =>
        t.sys = { (s.setPin pin false).sys with inReset := false, since := t.nowNs, bootAt := t.nowNs } ∧
        t.nowNs = ((s.setPin pin false).clockTo atNs).nowNs ∧ t.med = s.med ∧ t.stg = s.stg ∧ t.pst.areas = s.pst.areas) ∧
    (∀ k, s.sys.flushFor = some k → s.pfl.phase = .rest → k ≠ .diagnostic → Runs (.resetFlushDone atNs) s fun t =>
        t.sys.state = .boot ∧ t.sys.flushFor = none ∧
        t.getReg Reg.SYS_RST_CAUSE = BitVec.ofNat 32 (k.code * 2 ^ 28 + s.sys.state.code * 256) ∧
        t.med = s.med ∧ t.stg.frames = s.stg.frames)

/-- The reset register and the TAP (R492, R507): a write with the key and exactly one of the three bits asks for that reset, one
without the key or with more than one bit sets SYS_ERR_STAT bit 1 and asks for nothing; a cold reset is taken over MCTP
only, a diagnostic reset in READY and READONLY only. The TAP selects an instruction, and IDCODE shifts out 0x14100A67. -/
def Obligations.ResetRegisterAndTap : Prop := ∀ (s : State) (via : Via) (v : Word), s.reaches via = true →
    (v.toNat / 2 ^ 24 = 0xC3 → bitsAt v.toNat 1 2 = 0 →
      exec (.sysRstWarm via v) s = .next ((s.emit (.regWriteDone via Reg.SYS_RST_CTL)).requestReset .warmReg)) ∧
    (v.toNat / 2 ^ 24 = 0xC3 → bitsAt v.toNat 0 1 = 0 → bitsAt v.toNat 2 1 = 0 →
      exec (.sysRstCold .mctp v) s = if s.reaches .mctp then
        .next ((s.emit (.regWriteDone .mctp Reg.SYS_RST_CTL)).requestReset .coldReg) else .next s) ∧
    (v.toNat / 2 ^ 24 = 0xC3 → bitsAt v.toNat 0 2 = 0 → s.sys.state = .ready ∨ s.sys.state = .readonly →
      exec (.sysRstDiag via v) s = .next ((s.emit (.regWriteDone via Reg.SYS_RST_CTL)).requestReset .diagnostic)) ∧
    (v.toNat / 2 ^ 24 ≠ 0xC3 → exec (.sysRstWarm via v) s =
      .next ((s.emit (.regWriteDone via Reg.SYS_RST_CTL)).flag Reg.SYS_ERR_STAT Reg.SYS_ERR_EN 1 false)) ∧
    (exec (.tapInstruction .idcode false) s =
      .next ((s.modSys fun x => { x with tapReset := false, tapInstr := 1 }).emit (.tap 1 0x14100A67)))

/-- Rails, refresh, overcurrent and the ideal diode (R272, R275, R276, R278): a rail warning sets its bit of PWR_RAIL_STAT and
PWR_ERR_STAT.RAIL_WARN and logs the event; a refresh timeout opens every switch; an overcurrent outside DISCHARGE turns the
converter off, flags it and leaves an armed or charging bank DEGRADED with its cause latched; the input gate follows its
thresholds. -/
def Obligations.RailsAndConverterFaults : Prop := ∀ s : State,
    (∀ rail : Fin 7, s.sys.supplies = true → Runs (.railWarn rail) s fun t =>
      t.pwr = { s.pwr with railWarn := s.pwr.railWarn ||| 2 ^ rail.val } ∧ t.sys = s.sys ∧
      t.getReg Reg.PWR_ERR_STAT = s.getReg Reg.PWR_ERR_STAT ||| 1 ∧
      Touches (parts [.reg 2, .reg 7, .reg 8, .reg 13, .reg 15, .dtm, .port0, .port1, .pwr, .pst, .evr, .svy]) s t) ∧
    (s.sys.supplies = true → Runs .hvRefreshTimeout s fun t =>
      t.pwr = { s.pwr with conv := .off, balance := 0, gdIn := false } ∧
      t.getReg Reg.PWR_ERR_STAT = s.getReg Reg.PWR_ERR_STAT ||| 64 ∧
      Touches (parts [.reg 2, .reg 7, .reg 8, .reg 13, .reg 15, .dtm, .port0, .port1, .pwr, .pst, .evr, .svy]) s t) ∧
    (s.pwr.conv = .charge ∨ s.pwr.conv = .float → s.pwr.assay.phase = .idle → s.pwr.bank = .charging ∨ s.pwr.bank = .armed →
      Runs .overcurrent s fun t =>
        t.pwr.conv = .off ∧ t.pwr.bank = .degraded ∧ t.pwr.cause = .overcurrent ∧ .overcurrent ∈ t.pwr.latched ∧
        t.stg.budget = 0 ∧ t.sys = s.sys) ∧
    (∀ vin hb atNs, s.sys.supplies = true → Runs (.idealDiodeSwitch vin hb atNs) s fun t =>
      t.pwr.vin = vin ∧ t.pwr.hb = hb ∧
      (vin < s.conf.vinTrip ∨ vin + 20 ≤ hb ∨ s.pwr.conv = .assay → t.pwr.gdIn = false) ∧
      (s.conf.vinTrip ≤ vin → hb + 10 ≤ vin → s.pwr.conv ≠ .assay → t.pwr.gdIn = true) ∧
      (s.conf.vinTrip ≤ vin → hb < vin + 20 → vin < hb + 10 → s.pwr.conv ≠ .assay → t.pwr.gdIn = s.pwr.gdIn) ∧
      t.pwr.conv = s.pwr.conv ∧ t.pwr.bank = s.pwr.bank ∧ t.stg = s.stg)

/-- The input falls and returns (R277, R288): below VIN_TRIP_MV the converter goes to DISCHARGE and a bank that can be
discharged to DISCHARGING at once, with a budget of 0; before FLUSH, an input at or above VIN_RESUME_MV gives both their
states back. -/
def Obligations.InputFallsAndReturns : Prop := ∀ (s : State) (vin atNs : Nat), s.sys.supplies = true →
    (vin < s.conf.vinTrip → s.pwr.dischargeable = true → s.pwr.bank ≠ .discharging → s.sys.state ≠ .safe →
      Runs (.vinDrop vin atNs) s fun t =>
        t.pwr.conv = .discharge ∧ t.pwr.bank = .discharging ∧ t.pwr.convBefore = s.pwr.conv ∧
        t.pwr.bankBefore = s.pwr.bank ∧ t.pwr.gdIn = false ∧ t.pwr.vin = vin ∧ t.pwr.live = none ∧
        t.stg = { s.stg with budget := 0 } ∧ t.sys = s.sys) ∧
    (s.conf.vinResume ≤ vin → s.pwr.bank = .discharging → s.flushing = false → Runs (.vinRecover vin atNs) s fun t =>
        t.pwr.conv = s.pwr.convBefore ∧ t.pwr.bank = s.pwr.bankBefore ∧ t.pwr.live = none ∧ t.pwr.vin = vin ∧
        t.sys = s.sys)

/-- Cells and charging (R278, R279, R280, R288): an overvoltage stops charging and latches its cause; with no bank after 2 s of
charging and with float not reached after 600 s an idle bank is DEGRADED with the cause of that check; reaching float ends
the charge and makes the first assay due. -/
def Obligations.CellsAndCharging : Prop := ∀ s : State,
    (∀ bankV cells, s.pwr.cells.getD 0 ≠ 0 → 16800 ≤ bankV → s.pwr.overvolt (cells.take (s.pwr.cells.getD 0)) = [] →
      exec (.chargeOvervoltStop bankV cells) s = .next (s.modPwr fun p =>
        { p with bankV := bankV, cellV := cells.take (s.pwr.cells.getD 0),
                 conv := if p.conv = .charge ∨ p.conv = .float then .off else p.conv })) ∧
    (∀ bankV cells i, s.pwr.cells.getD 0 ≠ 0 → s.pwr.overvolt (cells.take (s.pwr.cells.getD 0)) = [i] →
      Runs (.chargeOvervoltStop bankV cells) s fun t =>
        t.pwr.conv = .off ∧ t.pwr.faultCell = i ∧ t.pwr.cellFault = s.pwr.cellFault ||| 2 ^ i ∧
        t.pwr.cause = .cellOvervolt ∧ .cellOvervolt ∈ t.pwr.latched) ∧
    (∀ cells bankI rise limit atNs, s.pwr.cells.getD 0 ≠ 0 → s.sys.supplies = true → s.pwr.conv ≠ .charge →
      (∀ v ∈ cells.take (s.pwr.cells.getD 0), v ≤ s.pwr.cellMv + 150 ∧
        listSum (cells.take (s.pwr.cells.getD 0)) ≤ v * 2 * s.pwr.cells.getD 0) →
      Runs (.cellMeasure cells bankI rise limit atNs) s fun t =>
        t.pwr.cellV = cells.take (s.pwr.cells.getD 0) ∧ t.pwr.limitCycles = limit ∧ t.pwr.conv = s.pwr.conv ∧
        (s.pwr.conv = .discharge → t.pwr.balance = 0) ∧ t.pwr.bank = s.pwr.bank ∧ t.stg = s.stg) ∧
    (∀ bankV atNs, s.pwr.bank = .charging → expired s.pwr.chargeFrom 2000000000 (s.clockTo atNs).nowNs = true →
      bankV < s.pwr.chargeV0 + 50 → s.pwr.floated = false → Runs (.noBankCheck bankV atNs) s fun t =>
        t.pwr.conv = .off ∧ t.pwr.bank = .degraded ∧ t.pwr.cause = .noBank ∧ .noBank ∈ t.pwr.latched ∧ t.stg.budget = 0) ∧
    (∀ atNs, s.pwr.bank = .charging → expired s.pwr.chargeFrom 600000000000 (s.clockTo atNs).nowNs = true →
      s.pwr.floated = false → Runs (.chargeTimeout atNs) s fun t =>
        t.pwr.conv = .off ∧ t.pwr.bank = .degraded ∧ t.pwr.cause = .chargeFault ∧ .chargeFault ∈ t.pwr.latched ∧
        t.getReg Reg.PWR_ERR_STAT = s.getReg Reg.PWR_ERR_STAT ||| 32 ∧ t.stg.budget = 0) ∧
    (∀ bankV, s.pwr.conv = .charge ∨ s.pwr.conv = .float → s.pwr.floatMv ≤ bankV →
      exec (.floatReached bankV) s = .next (s.modPwr fun p =>
        { p with bankV := bankV, conv := .float, assayWanted := p.assayWanted || !p.floated, floated := true,
                 chargeFrom := none }))

/-- The steps of an assay (R281): due once ASSAY_DAYS of datum time have passed; relax, step, integrate and settle each record
what was measured and set the converter's mode. -/
def Obligations.AssaySteps : Prop := ∀ s : State,
    (∀ atNs, s.pwr.assayValid = true → s.pwr.assayOverdue = false →
      s.pwr.assayTimer + s.conf.assayDays * 86400000000000 ≤ (s.clockTo atNs).datumNs →
      exec (.assayDue atNs) s =
        .next ((s.clockTo atNs).modPwr fun p => { p with assayOverdue := true, assayWanted := true })) ∧
    (∀ v0, s.pwr.assay.phase = .relax → exec (.assayRelaxDone v0) s = .next (s.modPwr fun p =>
      { p with assay := { p.assay with phase := .step, v0 := v0 }, bankV := v0, conv := .assay, gdIn := false })) ∧
    (∀ stepMa dropMv, s.pwr.assay.phase = .step → 0 < stepMa → exec (.assayEsrSample stepMa dropMv) s = .next (s.modPwr fun p =>
      { p with assay := { p.assay with phase := .integrate, stepMa := stepMa, esr := dropMv * 1000 / stepMa } })) ∧
    (∀ chargeUc loadMw, s.pwr.assay.phase = .integrate → exec (.assayIntegrationEnd chargeUc loadMw) s = .next (s.modPwr fun p =>
      { p with assay := { p.assay with phase := .settle, charge := chargeUc, load := loadMw }, conv := .off })) ∧
    (∀ via, s.reaches via = true → exec (.baseReset via) s =
      .next ((s.emit (.regWriteDone via Reg.PWR_CTL)).modPwr fun p => { p with baseReset := true })) ∧
    (∀ via, s.reaches via = true → s.sys.state = .ready → s.inFlush = false → s.pwr.bank = .armed → s.pwr.assay = assayInit →
      s.pwr.floated = true → s.pwr.latched = [] → s.pwr.assayValid = false → Runs (.assayNow via) s fun t =>
        t.pwr.assay.phase = .relax ∧ t.pwr.conv = .off ∧ t.pwr.bank = .armed ∧
        t.getReg Reg.PWR_CTL = s.getReg Reg.PWR_CTL ||| 8 ∧
        t.out = s.out ++ [.regWriteDone via Reg.PWR_CTL] ∧ Touches (parts [.reg 8, .pwr, .out]) s t)

/-- The result of an assay (R281, R283): C is the charge over the voltage drop and ESR the sampled one; a first assay passes and
records them as base values, less than 70 % of the base capacitance fails as CAP_LOW, more than twice the base ESR as
ESR_HIGH; with no drop it has no result. -/
def Obligations.AssayResults : Prop := ∀ (s : State) (v1 : Nat), s.pwr.assay.phase = .settle →
    (s.pwr.assay.v0 ≤ v1 → Runs (.assayDone v1) s fun t =>
      t.pwr.assay = assayInit ∧ t.pwr.assayResult = 5 ∧ t.pwr.bankV = v1 ∧ t.pwr.capUf = s.pwr.capUf) ∧
    (v1 < s.pwr.assay.v0 → Runs (.assayDone v1) s fun t =>
      t.pwr.capUf = s.pwr.assay.charge * 1000 / (s.pwr.assay.v0 - v1) ∧ t.pwr.esrMohm = s.pwr.assay.esr ∧
      t.pwr.assay = assayInit ∧
      t.pwr.assayResult = assayVerdict t.pwr.capUf t.pwr.esrMohm s.pwr.capBase s.pwr.esrBase
        (s.pwr.baseReset || (s.pwr.capBase == 0 && s.pwr.esrBase == 0)) ∧
      (t.pwr.assayResult = 0 → t.pwr.assayValid = true ∧ t.pwr.assayOverdue = false ∧ t.pwr.baseReset = false) ∧
      (t.pwr.assayResult = 1 → t.pwr.cause = .capLow) ∧ (t.pwr.assayResult = 2 → t.pwr.cause = .esrHigh))

/-- The energy meter (R284, R285, R287, R291, R297): an update takes the measured voltages and currents and gives usable energy,
raw parcels, surplus and cap their figures of now; a live estimate is used during DISCHARGE only; a supply parameter in
range is queued as a deed and takes effect at once when it rises; out of range nothing changes. -/
def Obligations.EnergyMeter : Prop := ∀ s : State,
    (∀ vin hb bankV convI chgMw atNs, s.running = true → exec (.energyMeterUpdate vin hb bankV convI chgMw atNs) s =
      .next ((((s.clockTo atNs).noteVin vin).modPwr fun p =>
        { p with hb := hb, bankV := bankV, convI := convI, chgMw := chgMw }).meterEffects)) ∧
    (s.meter.pwr = { s.pwr with usable := s.meterNow.usable, raw := s.meterNow.raw, surplus := s.meterNow.surplus,
                                cap := s.cds.dumpBands.length * 8192 }) ∧
    (∀ capUf esrMohm atNs, s.running = true → s.pwr.conv = .discharge → exec (.liveEstimate capUf esrMohm atNs) s =
      .next ((s.clockTo atNs).modPwr fun p => { p with live := some (capUf, esrMohm) }).meter) ∧
    (∀ via (v : Word), s.reaches via = true → 5 ≤ v.toNat → v.toNat ≤ 50 →
      exec (.pwrParamWrite via 0 v) s =
        let t := (s.emit (.regWriteDone via Reg.PWR_C_MARGIN)).queueDeed 0 (.power v.toNat s.powerNext.2.1 s.powerNext.2.2)
        .next (if s.regNat Reg.PWR_C_MARGIN ≤ v.toNat then (t.setNat Reg.PWR_C_MARGIN v.toNat).meterEffects else t)) ∧
    (∀ via (v : Word), s.reaches via = true → 16 ≤ v.toNat → v.toNat ≤ 64 →
      exec (.pwrParamWrite via 1 v) s =
        let t := (s.emit (.regWriteDone via Reg.PWR_ESR_FACTOR)).queueDeed 0 (.power s.powerNext.1 v.toNat s.powerNext.2.2)
        .next (if s.regNat Reg.PWR_ESR_FACTOR ≤ v.toNat then (t.setNat Reg.PWR_ESR_FACTOR v.toNat).meterEffects else t)) ∧
    (∀ via (v : Word), s.reaches via = true → v.toNat ≤ 6000 →
      exec (.pwrParamWrite via 2 v) s =
        let t := (s.emit (.regWriteDone via Reg.PWR_HB_EXTRA_MW)).queueDeed 0 (.power s.powerNext.1 s.powerNext.2.1 v.toNat)
        .next (if s.regNat Reg.PWR_HB_EXTRA_MW ≤ v.toNat then (t.setNat Reg.PWR_HB_EXTRA_MW v.toNat).meterEffects else t)) ∧
    (∀ via (v : Word), s.reaches via = true → 6000 < v.toNat →
      exec (.pwrParamWrite via 2 v) s = .next (s.emit (.regWriteDone via Reg.PWR_HB_EXTRA_MW)))

/-- An assay one day past due (R282, R288): where the surplus at an empty staging covers it and it may run, the budget is capped to
what 0.9 of the present bank voltage proves; where it may not, the bank is DEGRADED (log entry 24). -/
def Obligations.AssayOverdue : Prop := ∀ (s : State) (atNs : Nat), s.pwr.assayOverdue = true →
    s.pwr.assay.phase = .idle ∨ s.pwr.assay.phase = .waitGate →
    s.pwr.assayTimer + (s.conf.assayDays + 1) * 86400000000000 ≤ (s.clockTo atNs).datumNs →
    ((s.clockTo atNs).assayCan = false → Runs (.assaySlackExpiry atNs) s fun t =>
      t.pwr.cause = .assayOverdue ∧ t.pwr.assayWanted = true ∧ (s.pwr.bank = .armed → t.pwr.bank = .degraded) ∧ t.stg.budget = 0) ∧
    ((s.clockTo atNs).assayCan = true →
      ((s.clockTo atNs).assayEnergy : Int) ≤ (meterOf (s.clockTo atNs).usableFrac s.conf.monReserve s.extraMw 0).surplus →
      exec (.assaySlackExpiry atNs) s = .next ((((s.clockTo atNs).modPwr fun p =>
        { p with forcedCap := some (s.clockTo atNs).assayCap, assayWanted := true }).setBudget).forceWb.assayGate))

/-- Link training and lanes (R58, R60): a link trains at the lowest of the partner's rate and the port's cap below MAX_RATE, over
the widest aligned group of lanes that the partner's width and the failed lanes leave; a lane that loses receiver lock is
failed, counted as a retrain and logged, and the rate stays. -/
def Obligations.LinkTraining : Prop := ∀ (s : State) (port : Fin 2),
    (∀ rate width flit68, s.linkable port.val = true →
      (laneGroup s.lanes width (s.regNat (Reg.HPT_LANE_FAIL port.val))).1 ≠ 0 →
      Runs (.hostLinkTrain port rate width flit68) s fun t =>
        (t.port port.val).linkUp = true ∧
        (t.port port.val).rate = min rate.val (s.conf.maxRate - s.regField (Reg.HPT_LINK_CTL port.val) 0 2) ∧
        ((t.port port.val).width, (t.port port.val).laneOk) = laneGroup s.lanes width (s.regNat (Reg.HPT_LANE_FAIL port.val)) ∧
        (t.port port.val).width ≤ width ∧ (t.port port.val).width ≤ s.lanes ∧
        (t.port port.val).laneOk &&& s.regNat (Reg.HPT_LANE_FAIL port.val) = 0 ∧
        Touches (parts [.port0, .port1]) s t) ∧
    (∀ lane atNs, s.linkable port.val = true → (s.port port.val).linkUp = true → (s.port port.val).laneOk.testBit lane.val = true →
      Runs (.laneFail port lane true atNs) s fun t =>
        t.getReg (Reg.HPT_LANE_FAIL port.val) = s.getReg (Reg.HPT_LANE_FAIL port.val) ||| BitVec.ofNat 32 (2 ^ lane.val) ∧
        t.getReg (Reg.HPT_RETRAIN_CNT port.val) = s.getReg (Reg.HPT_RETRAIN_CNT port.val) + 1 ∧
        t.getReg (Reg.HPT_ERR_STAT port.val) = s.getReg (Reg.HPT_ERR_STAT port.val) ||| 1 ∧
        (t.port port.val).rate = (s.port port.val).rate ∧ t.sys = s.sys ∧ t.stg = s.stg)

/-- The link goes down, is disabled or retrains (R91, R121), and a function-level reset waits for the writes accepted before it
(R122). -/
def Obligations.LinkControl : Prop := ∀ (s : State) (port : Fin 2), s.running = true → s.portPresent port.val = true →
    (exec (.linkDown port) s = .next (s.modPort port.val fun x => { x with linkUp := false, width := 0, laneOk := 0, heldOut := [] })) ∧
    (∀ via, s.reaches via = true → Runs (.linkDisable via port true) s fun t =>
      t.getReg (Reg.HPT_CTL port.val) = s.getReg (Reg.HPT_CTL port.val) ||| 1 ∧ (t.port port.val).linkUp = false ∧
      (t.port port.val).pwb = (s.port port.val).pwb ∧ t.out = s.out ++ [.regWriteDone via (Reg.HPT_CTL port.val)] ∧
      Touches (parts [.reg 2, .port0, .port1, .out]) s t) ∧
    (∀ via, s.reaches via = true → Runs (.linkDisable via port false) s fun t =>
      t.getReg (Reg.HPT_CTL port.val) = s.getReg (Reg.HPT_CTL port.val) &&& ~~~ 1 ∧ t.port port.val = s.port port.val) ∧
    (∀ via, s.reaches via = true → s.linkable port.val = true → (s.port port.val).linkUp = true → exec (.linkRetrain via port) s =
      .next ((s.emit (.regWriteDone via (Reg.HPT_CTL port.val))).incReg (Reg.HPT_RETRAIN_CNT port.val))) ∧
    (exec (.functionLevelReset port) s = .next ((s.modPort port.val fun x => { x with flr := true }).settlePort port)) ∧
    ((s.port port.val).pwb ≠ [] → (s.port port.val).drain = none → (s.port port.val).gpf = none →
      exec (.functionLevelReset port) s = .next (s.modPort port.val fun x => { x with flr := true })) ∧
    ((s.port port.val).pwb = [] → (s.port port.val).drain = none → (s.port port.val).gpf = none →
      Runs (.functionLevelReset port) s fun t =>
        (t.port port.val).flr = false ∧ (t.port port.val).ide.keys = [] ∧ (t.port port.val).ide.state = .insecure ∧
        t.getReg (Reg.HPT_CTL port.val) = regReset (Reg.HPT_CTL port.val) ∧
        t.getReg (Reg.HPT_INT_EN port.val) = regReset (Reg.HPT_INT_EN port.val) ∧
        (t.port port.val).decoders = (s.port port.val).decoders ∧ t.out = s.out ++ [.flrDone port])

/-- Link IDE (R68, R69, R70, R201): a bad MAC makes the stream INSECURE, is counted and logged; a report of one from the partner
is the error state; at 2^63 the transmit counter asks for new keys, at its end transmission stops in REFRESH_WAIT, and a
fabric cycle after 10 ms there the stream is INSECURE and what it held is dropped. -/
def Obligations.LinkIdeStates : Prop := ∀ (s : State) (port : Fin 2), s.running = true →
    ((s.port port.val).linkUp = true → (s.port port.val).ide.covered = true →
      (exec (.ideRxFlit port true) s = .next (s.modIde port.val fun i => { i with rxIv := (i.rxIv + 1) % 2 ^ 64 })) ∧
      (Runs (.ideRxFlit port false) s fun t =>
        (t.port port.val).ide.state = .insecure ∧ (t.port port.val).ide.rxMacFail = true ∧ (t.port port.val).heldOut = [] ∧
        t.getReg (Reg.HPT_IDE_ERR_CNT port.val) = s.getReg (Reg.HPT_IDE_ERR_CNT port.val) + 1 ∧ t.sys = s.sys) ∧
      (Runs (.ideTxMacFailReport port) s fun t =>
        (t.port port.val).ide.state = .error ∧
        t.getReg (Reg.HPT_ERR_STAT port.val) = s.getReg (Reg.HPT_ERR_STAT port.val) ||| 2 ∧ t.sys = s.sys)) ∧
    ((s.port port.val).ide.state = .secure → (s.port port.val).ide.txIv < 2 ^ 63 → Runs (.ideIvThreshold port) s fun t =>
      (t.port port.val).ide = { (s.port port.val).ide with txIv := 2 ^ 63 } ∧
      t.getReg (Reg.HPT_INT_STAT port.val) = s.getReg (Reg.HPT_INT_STAT port.val) ||| 4) ∧
    (∀ atNs, (s.port port.val).ide.state = .secure → Runs (.ideIvExhaust port atNs) s fun t =>
      (t.port port.val).ide.state = .refreshWait ∧ (t.port port.val).ide.waitSince = some (s.clockTo atNs).nowNs ∧
      t.getReg (Reg.HPT_INT_STAT port.val) = s.getReg (Reg.HPT_INT_STAT port.val) ||| 4) ∧
    (∀ atNs w, (s.port port.val).ide.waitSince = some w → w + 10000000 < (s.clockTo atNs).nowNs →
      Runs (.ideRefreshTimeout port atNs) s fun t =>
        (t.port port.val).ide.state = .insecure ∧ (t.port port.val).ide.waitSince = none ∧ (t.port port.val).heldOut = [])

/-- IDE_KM (R67, R70, R380): a programmed key takes an empty transit slot or waits; K_SET_GO starts a stream whose two directions
have their keys, in a mode permitted, with both counters at 0; K_SET_STOP removes the set's keys and leaves the stream that
used it INSECURE; QUERY and GET_KEY answer. -/
def Obligations.LinkIdeKeys : Prop := ∀ (s : State) (port : Fin 2), s.doeOn port.val = true →
    (exec (.ideKmQuery port) s = .next (s.emit (.doe (.bar2 port) 4 [0, port.val, 2, 2, s.ideModes port.val]))) ∧
    (∀ (stream dir set : Fin 2) (sub : Fin 8) key i, s.cke.transitSlot = some i → Runs (.ideKmKeyProg port stream dir set sub key) s fun t =>
      t.cke.transit = s.cke.transit ++ [{ slot := i, port := port.val, place := stream.val * 32 + dir.val * 16 + set.val * 8 + sub.val }] ∧
      t.out = s.out ++ [.doe (.bar2 port) 4 [1, stream.val, dir.val, set.val, sub.val]] ∧
      Touches (parts [.cke, .out]) s t) ∧
    (∀ (stream dir set : Fin 2) (sub : Fin 8) key, s.cke.transitSlot = none → Runs (.ideKmKeyProg port stream dir set sub key) s fun t =>
      t.cke = { s.cke with transitWait := s.cke.transitWait ++ [(port.val, stream.val * 32 + dir.val * 16 + set.val * 8 + sub.val, key)] }) ∧
    (∀ (set : Fin 2) (skid : Bool) atNs, (s.port port.val).ide.hasSet 0 set.val = true → (s.port port.val).ide.waitSince = none →
      (s.port port.val).ide.state ≠ .secure → (s.ideModes port.val).testBit (if skid then 1 else 0) = true →
      Runs (.ideKmKSetGo port 0 set skid atNs) s fun t =>
        (t.port port.val).ide.state = .secure ∧ (t.port port.val).ide.skid = skid ∧ (t.port port.val).ide.txIv = 0 ∧
        (t.port port.val).ide.rxIv = 0 ∧ (t.port port.val).ide.keySet = (set.val == 1) ∧
        t.out = s.out ++ [.doe (.bar2 port) 4 [3, 0, set.val, 1]]) ∧
    (∀ stream set : Fin 2, Runs (.ideKmKSetStop port stream set) s fun t =>
        (∀ e ∈ (t.port port.val).ide.keys, ¬ (e.1 / 32 = stream.val ∧ e.1 / 8 % 2 = set.val)) ∧
        (stream = 0 → (s.port port.val).ide.covered = true → (s.port port.val).ide.keySet = (set.val == 1) →
          (t.port port.val).ide.state = .insecure ∧ (t.port port.val).heldOut = []) ∧
        t.out = s.out ++ [.doe (.bar2 port) 4 [4, stream.val, set.val]] ∧ Touches (parts [.port0, .port1, .out]) s t) ∧
    (∀ stream sub : Fin 2, s.cke.rngFail = false → Runs (.ideKmGetKey port stream sub) s fun t =>
        t.out = s.out ++ [.doe (.bar2 port) 4 [5, stream.val, sub.val, s.draw.2.toNat]])

/-- HDM decoders and the DOE tables (R51, R64, R65): a commit that passes every check of Table HPT-3 is in force with the port DPA
range after the decoders before it; the first check that fails gives its code in HPT_DEC_ERR and leaves the decoder
uncommitted; a decoder not locked is uncommitted; discovery lists five protocols, and CDAT is answered. -/
def Obligations.DecodersAndDoe : Prop := ∀ (s : State) (port : Fin 2), s.running = true → s.portPresent port.val = true →
    (∀ (n : Fin 4) hpa size skip ways gran lock, n.val < s.conf.decoders → (s.port port.val).decoders.length = 4 →
      ((s.port port.val).decoders.getD n.val decoderInit).committed = false →
      Runs (.hdmDecoderCommit port n hpa size skip ways gran lock) s fun t =>
        let d := (t.port port.val).decoders.getD n.val decoderInit
        let code := s.decoderCheck port.val n.val hpa size skip ways gran
        d.hpaBase = hpa ∧ d.size = size ∧ d.lockOnCommit = lock ∧ (d.committed = true ↔ code = 0) ∧
        (d.errNotCommitted = true ↔ code ≠ 0) ∧ d.dpaBase = (s.port port.val).dpaStart n.val skip ∧ d.dpaSize = size / max 1 ways ∧
        (code ≠ 0 → t.getReg (Reg.HPT_DEC_ERR port.val) = BitVec.ofNat 32 (n.val * 16 + code)) ∧
        Touches (parts [.reg 2, .port0, .port1]) s t) ∧
    (∀ n : Fin 4, (s.port port.val).decoders.length = 4 → ((s.port port.val).decoders.getD n.val decoderInit).committed = true →
      ((s.port port.val).decoders.getD n.val decoderInit).lockOnCommit = false → Runs (.hdmDecoderUncommit port n) s fun t =>
        ((t.port port.val).decoders.getD n.val decoderInit).committed = false ∧ Touches (parts [.port0, .port1]) s t) ∧
    (∀ index : Fin 5, s.sys.poweredDown = false → exec (.doeDiscovery port index) s =
      .next (s.emit (.doe (.bar2 port) 0 [index.val, if index.val = 4 then 0 else index.val + 1]))) ∧
    (s.sys.poweredDown = false → Runs (.cdatTableAccess port) s fun t =>
      Touches (parts [.out]) s t ∧ ∃ fields, t.out = s.out ++ [.doe (.bar2 port) 1 fields] ∧
        fields = ((holdingBases 0 s.conf.holdings).filter fun e => (s.conf.portMask port.val).testBit e.1.id).flatMap fun e =>
          s.cdatOf port.val e.1 e.2.1 e.2.2)

/-- Reads (R4, R6, R7, R9, R503): a read returns what the register shows to its requester and clears its RC fields but for what
the same cycle contributes; a read of _LO latches _HI for its requester, and the next read of that _HI returns the latched
value and spends it; an 8-byte read of a pair returns both halves of now without the shadow; an access outside the
registers reads 0 and is recorded. -/
def Obligations.RegisterReads : Prop := ∀ (s : State) (via : Via) (off : Nat), s.reaches via = true → s.hidden via off = false →
    (∀ same : Word, s.implemented off = true → off ≠ Reg.PST_DATA → off ≠ Reg.SVY_WIN 7 → off ≠ Reg.THM_TEMPER_TIME →
      pmcOf off = none → isPairLo off = false → isPairHi off = false → Runs (.rcRead via off same) s fun t =>
        t.out = s.out ++ [.regRead via off (s.showsTo via.requester off)] ∧
        t.getReg off = (s.getReg off &&& ~~~ BitVec.ofNat 32 (((regRow off).map (·.rc)).getD 0)) |||
          (same &&& BitVec.ofNat 32 (((regRow off).map (·.rc)).getD 0)) ∧
        (∀ o, o ≠ off → t.getReg o = s.getReg o) ∧ t.evr = s.evr ∧ t.bar2 = s.bar2 ∧ t.mctp = s.mctp) ∧
    (s.implemented off = true → isPairLo off = true → Runs (.pairLoRead via off) s fun t =>
        t = (s.modShadow via.requester fun x => { x with readHi := some (off + 4, s.showsTo via.requester (off + 4)) }).emit
          (.regRead via off (s.showsTo via.requester off))) ∧
    (∀ w : Word, s.implemented off = true → isPairLo off = false → isPairHi off = true → pmcOf off = none → off ≠ Reg.PST_DATA →
      off ≠ Reg.SVY_WIN 7 → (s.shadow via.requester).readHi = some (off, w) → exec (.pairHiRead via off) s =
        .next ((s.modShadow via.requester fun x => { x with readHi := none }).emit (.regRead via off w))) ∧
    (s.implemented off = true → isPairLo off = false → isPairHi off = true → pmcOf off = none → off ≠ Reg.PST_DATA →
      off ≠ Reg.SVY_WIN 7 → (s.shadow via.requester).readHi = none → exec (.pairHiRead via off) s =
        .next (s.emit (.regRead via off (s.showsTo via.requester off)))) ∧
    (s.implemented off = true → isPairLo off = true → off % 4 = 0 → off + 8 ≤ 2 ^ 20 → exec (.pair8bAccess via off none) s =
        .next (s.emit (.regRead64 via off (s.showsTo via.requester (off + 4) ++ s.showsTo via.requester off)))) ∧
    (s.implemented off = false → Runs (.unimplAccess via off false) s fun t =>
        t.getReg Reg.SYS_UNIMPL_ADDR = BitVec.ofNat 32 (off % 2 ^ 20) ∧
        t.getReg Reg.SYS_UNIMPL_CNT = s.getReg Reg.SYS_UNIMPL_CNT + 1 ∧ t.out = s.out ++ [.regRead via off 0] ∧
        (s.bit Reg.SYS_CTL 1 = true → t.getReg Reg.SYS_ERR_STAT = s.getReg Reg.SYS_ERR_STAT ||| 1) ∧
        (s.bit Reg.SYS_CTL 1 = false → Touches (parts [.reg 0, .out]) s t))

/-- Writes (R5, R6, R7, R8, R503): a write stores RW fields, clears the W1C bits written as 1 but for those that the same cycle
sets, and sets W1S bits; a write of _HI is held for its requester and changes no register; a write of _LO takes and
spends it; an access of another width touches nothing and is answered as an unsupported request. -/
def Obligations.RegisterWrites : Prop := ∀ (s : State) (via : Via) (off : Nat), s.reaches via = true →
    (∀ (v same : Word) (r : RegRow), s.hidden via off = false → s.implemented off = true → regRow off = some r →
      isPairHi off = false → isPairLo off = false → s.writeOwn via off v same = none →
      Runs (.registerWrite via off v same) s fun t =>
        t.getReg off = ((s.getReg off &&& ~~~ BitVec.ofNat 32 r.rw) &&& ~~~ (v &&& BitVec.ofNat 32 r.w1c)) |||
          (v &&& BitVec.ofNat 32 r.rw) ||| (v &&& BitVec.ofNat 32 r.w1s) ||| (same &&& BitVec.ofNat 32 r.w1c) ∧
        (∀ o, o ≠ off → t.getReg o = s.getReg o) ∧ t.out = s.out ++ [.regWriteDone via off] ∧ t.evr = s.evr ∧ t.sys = s.sys) ∧
    (∀ v : Word, isPairHi off = true → exec (.pairHiWrite via off v) s =
        .next ((s.modShadow via.requester fun x => { x with heldHi := [(off, v)] }).emit (.regWriteDone via off))) ∧
    (∀ (v hi : Word), isPairLo off = true → (s.shadow via.requester).heldHi = [(off + 4, hi)] →
      Runs (.pairLoWrite via off v) s fun t =>
        (t.shadow via.requester).heldHi = [] ∧ t.out = s.out ++ [.regWriteDone via off] ∧
        t.regs = (((s.modShadow via.requester fun x => { x with heldHi := [] }).writeReg via off v 0).writeReg via (off + 4) hi 0).regs) ∧
    (∀ v : Word, isPairLo off = true → (s.shadow via.requester).heldHi.lookup (off + 4) = none →
      Runs (.pairLoWrite via off v) s fun t =>
        t.regs = (s.writeReg via off v 0).regs ∧ t.out = s.out ++ [.regWriteDone via off] ∧
        (t.shadow via.requester).heldHi = (s.shadow via.requester).heldHi) ∧
    (exec (.unsupportedAccess via off) s = .next (s.emit (.unsupportedRequest via off))) ∧
    (s.hidden via off = false → s.implemented off = false → Runs (.unimplAccess via off true) s fun t =>
        t.getReg Reg.SYS_UNIMPL_ADDR = BitVec.ofNat 32 (off % 2 ^ 20 + 2 ^ 31) ∧
        t.getReg Reg.SYS_UNIMPL_CNT = s.getReg Reg.SYS_UNIMPL_CNT + 1 ∧ t.out = s.out ++ [.regWriteDone via off]) ∧
    (∀ v : Word, 4096 ≤ v.toNat → v.toNat ≤ 262144 → exec (.imeParamWrite via v) s =
        .next ((s.emit (.regWriteDone via Reg.IME_META_HIGH)).setReg Reg.IME_META_HIGH v)) ∧
    (∀ v : Word, v.toNat < 4096 ∨ 262144 < v.toNat → exec (.imeParamWrite via v) s =
        .next (s.emit (.regWriteDone via Reg.IME_META_HIGH)))

/-- Cursors (R446, R447): OLDEST, NEWEST, NEXT, PREV and a seek load the window of their requester with the record they reach
and leave the other requester's cursor; NEXT at the newest record stays and sets WIN_END; PREV with no older record goes to
the oldest and sets WIN_GONE; a seek past the newest loads the newest with WIN_END. The records themselves stay. -/
def Obligations.CursorMoves : Prop := ∀ (s : State) (via : Via) (r : EvrRec) (pend : Bool), s.reaches via = true →
    let at_ (flags : Nat) : Evr := s.evr.setCursor via.requester
      { seq := r.seq, win := recWords r (if pend then 0xFFFF else 0), stat := winStat r pend flags }
    let cur := (s.evr.cursor via.requester).seq
    (s.evr.readable.head? = some (r, pend) → exec (.evrCursorOldest via) s =
      .next ((s.emit (.regWriteDone via Reg.EVR_CUR_CMD)).modEvr fun _ => at_ 0)) ∧
    (s.evr.readable.getLast? = some (r, pend) → exec (.evrCursorNewest via) s =
      .next ((s.emit (.regWriteDone via Reg.EVR_CUR_CMD)).modEvr fun _ => at_ 0)) ∧
    (s.evr.cursorGone via.requester = false → (s.evr.readable.find? fun x => seqOlder cur x.1.seq) = some (r, pend) →
      exec (.evrCursorNext via) s = .next ((s.emit (.regWriteDone via Reg.EVR_CUR_CMD)).modEvr fun _ => at_ 0)) ∧
    (s.evr.cursorGone via.requester = true → s.evr.readable.head? = some (r, pend) →
      exec (.evrCursorNext via) s = .next ((s.emit (.regWriteDone via Reg.EVR_CUR_CMD)).modEvr fun _ => at_ (2 ^ 29))) ∧
    (s.evr.cursorGone via.requester = false → (s.evr.readable.find? fun x => seqOlder cur x.1.seq) = none →
      Runs (.evrCursorNext via) s fun t =>
        (t.evr.cursor via.requester).seq = cur ∧ (t.evr.cursor via.requester).win = (s.evr.cursor via.requester).win ∧
        (t.evr.cursor via.requester).stat.getLsbD 28 = true ∧ (t.evr.cursor via.requester).stat.getLsbD 29 = false ∧
        Touches (parts [.evr, .out]) s t) ∧
    ((s.evr.readable.filter fun x => seqOlder x.1.seq cur).getLast? = some (r, pend) → exec (.evrCursorPrev via) s =
      .next ((s.emit (.regWriteDone via Reg.EVR_CUR_CMD)).modEvr fun _ => at_ 0)) ∧
    ((s.evr.readable.filter fun x => seqOlder x.1.seq cur) = [] → s.evr.readable.head? = some (r, pend) →
      exec (.evrCursorPrev via) s = .next ((s.emit (.regWriteDone via Reg.EVR_CUR_CMD)).modEvr fun _ => at_ (2 ^ 29))) ∧
    (∀ v : Word, (s.evr.readable.find? fun x => x.1.seq == v.toNat) = some (r, pend) → exec (.evrCursorWrite via v) s =
      .next ((s.emit (.regWriteDone via Reg.EVR_CURSOR)).modEvr fun _ => at_ 0)) ∧
    (∀ v : Word, (s.evr.readable.find? fun x => x.1.seq == v.toNat) = none →
      (s.evr.readable.find? fun x => seqOlder v.toNat x.1.seq) = none → s.evr.readable.getLast? = some (r, pend) →
      exec (.evrCursorWrite via v) s = .next ((s.emit (.regWriteDone via Reg.EVR_CURSOR)).modEvr fun _ => at_ (2 ^ 28)))

/-- Flood control (R438, R439, R440): a refill gives the bucket of its code one token, never more than BURST, and touches
no other bucket; a count nonzero for 10 s becomes a SUPPRESSED record of that code with the count, which returns to 0; the
events dropped for want of a table entry become one SUPP_TABLE_FULL record. -/
def Obligations.FloodControl : Prop := ∀ (s : State) (atNs : Nat), s.pmcListed = [] →
    (∀ code, exec (.tokenRefill code atNs) s = .next ((s.clockTo atNs).modEvr (·.onSupp code fun x =>
        { x with tokens := min (x.tokens + 1) (s.evLimits code).2 }))) ∧
    (∀ (e : Evr) (code limit : Nat), (e.onSupp code fun x => { x with tokens := min (x.tokens + 1) limit }).supp.map Supp.count =
        e.supp.map Supp.count) ∧
    (∀ (code : Nat) (x : Supp), (s.clockTo atNs).evr.supp.find? (fun y => y.code == code) = some x → x.count ≠ 0 →
      (s.clockTo atNs).bit Reg.EVR_CTL 1 = true → x.countSince + 10000000000 ≤ (s.clockTo atNs).nowNs →
      (s.clockTo atNs).evr.queue.length < 64 → (s.clockTo atNs).evr.memLost = false → code ≠ 0xD201 →
      Runs (.suppressedSummary code atNs) s fun t =>
        t.evr.queue.length = (s.clockTo atNs).evr.queue.length + 1 ∧
        (t.evr.queue.getLast?.map fun r => (r.code, r.arg0, r.arg1, r.seq)) =
          some (0xD201, x.lastDatum % 2 ^ 64, code % 2 ^ 16, (s.clockTo atNs).evr.nextSeq) ∧
        (∀ y ∈ t.evr.supp, y.code = code → y.count = 0) ∧ t.sys = s.sys ∧ t.stg = s.stg) ∧
    (0 < (s.clockTo atNs).evr.untracked → (s.clockTo atNs).evr.queue.length < 64 → (s.clockTo atNs).evr.memLost = false →
      Runs (.suppTableFull atNs) s fun t =>
        t.evr.untracked = 0 ∧ t.evr.queue.length = (s.clockTo atNs).evr.queue.length + 1 ∧
        (t.evr.queue.getLast?.map fun r => (r.code, r.arg0)) = some (0xD202, (s.clockTo atNs).evr.untracked % 2 ^ 64) ∧
        t.sys = s.sys ∧ t.stg = s.stg)

/-- Event records (R434, R436, R437, R438): an event of a code with a token, outside DIAG and with room in the queue, takes one
token and becomes a record with the next SEQ, the state, the bank state and the datum of now and its two arguments; with
no token it makes no record and its code's count grows by one. No performance counter is enabled, so nothing else is
recorded beside it. -/
def Obligations.EventsAreRecorded : Prop := ∀ (s : State) (code a b : Nat) (x : Supp), eventBlock code ≠ 0xD → s.pmcListed = [] →
    s.evr.supp.find? (fun y => y.code == code) = some x → s.evr.memLost = false →
    (0 < x.tokens → s.evr.queue.length < 64 → s.sys.state ≠ .diag →
      (s.raise code a b).evr.queue.length = s.evr.queue.length + 1 ∧
      ((s.raise code a b).evr.queue.getLast?.map fun r => (r.code, r.sev, r.state, r.bank, r.datum, r.arg0, r.arg1, r.seq)) =
        some (code, eventSev code, s.sys.state.code, s.pwr.bank.code, s.datumNs, a % 2 ^ 64, b % 2 ^ 16, s.evr.nextSeq) ∧
      (s.raise code a b).evr.nextSeq = (s.evr.nextSeq + 1) % 2 ^ 32 ∧
      ((s.raise code a b).evr.supp.find? fun y => y.code == code).map Supp.tokens = some (x.tokens - 1)) ∧
    (x.tokens = 0 → s.sys.state ≠ .diag →
      (s.raise code a b).evr.queue = s.evr.queue ∧ (s.raise code a b).evr.nextSeq = s.evr.nextSeq ∧
      ((s.raise code a b).evr.supp.find? fun y => y.code == code).map Supp.count = some (x.count + 1) ∧
      (s.raise code a b).sys = s.sys ∧ (s.raise code a b).pst = s.pst)

/-- Strobes and the latch (R202, R203, R467, R468, R469): a request opens a strobe, joins one of its own cycle, or counts as merged
with a pending one; an edge of SURVEY_IN requests three cycles later; 24 cycles after the request the latch writes the
sources, the tick and the count, and every snapshot area and _SNAP register takes the values of now with GEN one higher,
but under HOLD only MISSED increments; the pulse ends. No event match is enabled as a source. -/
def Obligations.StrobesAndLatch : Prop := ∀ s : State, s.bit Reg.DTM_SVY_CTL 3 = false → s.pmcListed = [] →
    (∀ via, s.reaches via = true → s.dtm.strobe = none → exec (.surveyStrobeWrite via) s =
      .next ((s.emit (.regWriteDone via Reg.DTM_SVY_STROBE)).modDtm fun d => { d with strobe := some (s.dtm.mono, 1) })) ∧
    (∀ via c old, s.reaches via = true → s.dtm.strobe = some (c, old) → c ≠ s.dtm.mono → Runs (.surveyStrobeWrite via) s fun t =>
      t.dtm = { s.dtm with strobe := some (c, old ||| 1) } ∧ t.getReg Reg.DTM_SVY_MERGED = s.getReg Reg.DTM_SVY_MERGED + 1 ∧
      Touches (parts [.reg 7, .dtm, .out]) s t) ∧
    (s.reachable = true → s.bit Reg.DTM_SVY_CTL 2 = true → s.dtm.strobe = none → exec .surveyInEdge s =
      .next (s.modDtm fun d => { d with strobe := some (s.dtm.mono + 15000000, 4) })) ∧
    (∀ c src, s.dtm.strobe = some (c, src) → c + 120000000 ≤ s.dtm.mono → Runs .surveyLatch s fun t =>
      t.dtm.strobe = none ∧ t.getReg Reg.DTM_SVY_SRC = BitVec.ofNat 32 src ∧
      t.getReg Reg.DTM_SVY_CNT = s.getReg Reg.DTM_SVY_CNT + 1 ∧ t.pairNat Reg.DTM_SVY_DATUM_LO = s.datumNs % 2 ^ 64 ∧
      t.getReg Reg.DTM_INT_STAT = s.getReg Reg.DTM_INT_STAT ||| 4 ∧ t.svc.strobing = [] ∧
      (s.bit Reg.SVY_CTL 0 = false → t.svy.gen = s.svy.gen + 1 ∧ t.svy.areas = s.areasNow ∧ t.svy.snaps = s.snapsNow ∧
        t.svy.missed = s.svy.missed) ∧
      (s.bit Reg.SVY_CTL 0 = true → t.svy.gen = s.svy.gen ∧ t.svy.areas = s.svy.areas ∧ t.svy.snaps = s.svy.snaps ∧
        t.svy.missed = min 255 (s.svy.missed + 1)) ∧ t.sys = s.sys ∧ t.stg = s.stg ∧ t.med = s.med) ∧
    (∀ u, s.dtm.outUntil = some u → u ≤ s.dtm.mono → exec .surveyOutEnd s = .next (s.modDtm fun d => { d with outUntil := none }))

/-- Snapshot areas (R467, R471): a write of SVY_WIN_SEL copies the latest area of its block, with a header that carries the block,
the number of words and GEN, into its requester's own buffer with WORD at most 1,016; a read of SVY_WIN[7] returns its word
and advances WORD by 8 unless that would pass 1,016; the other requester's buffer stays. -/
def Obligations.SnapshotReads : Prop := ∀ (s : State) (via : Via), s.reaches via = true →
    (∀ v : Word, Runs (.svyWinSelWrite via v) s fun t =>
      let b := bitsAt v.toNat 16 4
      let x := t.svy.buf via.requester
      x.valid = true ∧ x.gen = s.svy.gen ∧ x.block = b ∧ x.word = min 1016 (bitsAt v.toNat 0 10) ∧
      x.words.head? = some (BitVec.ofNat 32 (b * 2 ^ 28 + ((blockOffsets b).length + 1) * 2 ^ 16 + s.svy.gen % 65536)) ∧
      x.words.tail = (s.svy.areas.lookup b).getD (List.replicate (blockOffsets b).length 0) ∧
      (∀ q, q ≠ via.requester → t.svy.buf q = s.svy.buf q) ∧ t.out = s.out ++ [.regWriteDone via Reg.SVY_WIN_SEL] ∧
      Touches (parts [.svy, .out]) s t) ∧
    (Runs (.svyWin7Read via) s fun t =>
      t.out = s.out ++ [.regRead via (Reg.SVY_WIN 7) ((s.svy.buf via.requester).words.getD ((s.svy.buf via.requester).word + 7) 0)] ∧
      (t.svy.buf via.requester).word =
        (if (s.svy.buf via.requester).word ≤ 1008 then (s.svy.buf via.requester).word + 8 else (s.svy.buf via.requester).word) ∧
      (t.svy.buf via.requester).words = (s.svy.buf via.requester).words ∧
      (∀ q, q ≠ via.requester → t.svy.buf q = s.svy.buf q) ∧ Touches (parts [.svy, .out]) s t)

/-- Performance counters (R474, R475, R476, R477): a configuration that names a listed event and filter is stored with its reserved
bits 0, any other sets SVY_ERR_STAT bit 1 and changes nothing; a written count takes the increment of its cycle on top; a read
of a counter latches the one chained to it; the overflow of a counter that feeds no chain sets its bit in PMC_OVF and, with
SAMPLE set and no sample held, captures one. -/
def Obligations.PerformanceCounters : Prop := ∀ (s : State) (n : Fin 48),
    (∀ via (v : Word), s.reaches via = true → pmcCfgValid (bitsAt v.toNat 0 16) (bitsAt v.toNat 16 8) = true →
      exec (.pmcCfgWrite via n v) s =
        .next ((s.emit (.regWriteDone via (Reg.PMC_CFG n.val))).setNat (Reg.PMC_CFG n.val) (v.toNat &&& 0xF0FFFFFF))) ∧
    (∀ via (v : Word), s.reaches via = true → pmcCfgValid (bitsAt v.toNat 0 16) (bitsAt v.toNat 16 8) = false →
      Runs (.pmcCfgWrite via n v) s fun t =>
        t.getReg (Reg.PMC_CFG n.val) = s.getReg (Reg.PMC_CFG n.val) ∧ t.getReg Reg.SVY_ERR_STAT = s.getReg Reg.SVY_ERR_STAT ||| 2 ∧
        t.out = s.out ++ [.regWriteDone via (Reg.PMC_CFG n.val)]) ∧
    (∀ via (v : Word), s.reaches via = true → exec (.pmcCntWrite via n v 0) s =
        .next ((s.emit (.regWriteDone via (Reg.PMC_CNT n.val))).setReg (Reg.PMC_CNT n.val) v)) ∧
    (∀ via (v : Word) (inc : Nat), s.reaches via = true → 0 < inc → inc < 64 → v.toNat + inc < 2 ^ 32 →
      exec (.pmcCntWrite via n v inc) s =
        .next (((s.emit (.regWriteDone via (Reg.PMC_CNT n.val))).setReg (Reg.PMC_CNT n.val) v).setNat (Reg.PMC_CNT n.val)
          (v.toNat + inc))) ∧
    (∀ via, s.reaches via = true → (s.shadow via.requester).pmcShadow = none → Runs (.pmcCntRead via n) s fun t =>
        t.out = s.out ++ [.regRead via (Reg.PMC_CNT n.val) (s.getReg (Reg.PMC_CNT n.val))] ∧
        (t.shadow via.requester).pmcShadow =
          (if s.pmcFeeds n.val then some (Reg.PMC_CNT (n.val + 1), s.getReg (Reg.PMC_CNT (n.val + 1))) else none) ∧
        (∀ o, t.getReg o = s.getReg o)) ∧
    (∀ via w, s.reaches via = true → (s.shadow via.requester).pmcShadow = some (Reg.PMC_CNT n.val, w) →
      Runs (.pmcCntRead via n) s fun t => t.out = s.out ++ [.regRead via (Reg.PMC_CNT n.val) w]) ∧
    (∀ src arg, s.bit (Reg.PMC_CFG n.val) 31 = true → s.bit Reg.PMC_CTL 31 = true → s.bit Reg.PMC_CTL 0 = false →
      s.pmcFeeds n.val = false → s.bit (Reg.PMC_CFG n.val) 30 = true → s.bit Reg.SVY_INT_STAT 1 = false →
      Runs (.pmcOverflow n src arg) s fun t =>
        t.getReg (Reg.PMC_CNT n.val) = 0 ∧
        t.getReg (if n.val < 32 then Reg.PMC_OVF_0 else Reg.PMC_OVF_1) =
          s.getReg (if n.val < 32 then Reg.PMC_OVF_0 else Reg.PMC_OVF_1) ||| BitVec.ofNat 32 (2 ^ (n.val % 32)) ∧
        t.getReg Reg.PMC_SAMPLE_ARG = BitVec.ofNat 32 arg ∧ t.pairNat Reg.PMC_SAMPLE_DATUM_LO = s.datumNs % 2 ^ 64 ∧
        t.getReg Reg.SVY_INT_STAT = s.getReg Reg.SVY_INT_STAT ||| 3 ∧ Touches (parts [.reg 15]) s t)

/-- Samples and levels (R450, R452, R453, R454, R465): a sample takes every conversion; the level rises at once to the highest whose
threshold the maximum reading has reached and never falls by a sample; after 100 ms below its threshold less 2 °C it falls by
one; a rate above RISE for 1 s gives a boost of 2 levels, and 10 s at or below it end it. -/
def Obligations.SamplesAndLevels : Prop := ∀ (s : State) (atNs : Nat),
    (∀ readings, s.sys.supplies = true → s.sys.state ≠ .warmup →
      ((s.clockTo atNs).thm.sampleAll readings (s.clockTo atNs).nowNs).2 = [] → Runs (.sensorSample readings atNs) s fun t =>
        t.thm.sensors = ((s.clockTo atNs).thm.sampleAll readings (s.clockTo atNs).nowNs).1.sensors ∧
        t.thm.level = max s.thm.level (s.conf.levelOf (t.thm.maxReading s.conf.crit).1) ∧
        t.thm.refresh = refreshNext s.thm.refresh t.thm.dramReading ∧ t.thm.applied = t.appliedNow ∧ t.sys = s.sys ∧
        t.stg = s.stg ∧ t.med = s.med ∧ t.getReg Reg.THM_ERR_STAT = s.getReg Reg.THM_ERR_STAT) ∧
    (∀ (x : Sensor) (v : Int) (now : Nat), x.failed = false → x.misses = 0 → x.jumpAt = none → -640 ≤ v → v ≤ 2400 →
      (x.sample (some v) now).2 = false ∧ (x.sample (some v) now).1.value = v ∧ (x.sample none now).2 = false ∧
      ((x.sample none now).1.sample none now).2 = true) ∧
    (∀ w, (s.clockTo atNs).fallCond = true → s.thm.fallSince = some w → w + 100000000 ≤ (s.clockTo atNs).nowNs →
      Runs (.levelFall atNs) s fun t => t.thm.level = s.thm.level - 1 ∧ t.thm.applied = t.appliedNow ∧ t.sys = s.sys ∧ t.stg = s.stg) ∧
    (∀ w, s.boostOn = true → s.thm.boost = 0 → s.thm.overSince = some w → w + 1000000000 ≤ (s.clockTo atNs).nowNs →
      Runs (.riseBoost atNs) s fun t =>
        t.thm.boost = 2 ∧ t.thm.level = s.thm.level ∧ t.thm.applied = t.appliedNow ∧
        t.getReg Reg.THM_ERR_STAT = s.getReg Reg.THM_ERR_STAT ||| 8 ∧ t.sys = s.sys) ∧
    (∀ w, s.thm.boost ≠ 0 → s.thm.underSince = some w → w + 10000000000 ≤ (s.clockTo atNs).nowNs →
      Runs (.riseBoostEnd atNs) s fun t => t.thm.boost = 0 ∧ t.thm.level = s.thm.level ∧ t.sys = s.sys)

/-- Quench, restart and warm-up (R460, R461, R462, R463, R466): readings of QUENCH for QUENCH_MS quench the device, which with nothing
to flush powers down at once; once cool for RESTART_S it restarts as a cold reset, unless it is stuck; 120 s in WARMUP lead
to SAFE; THM_MED_LIMIT takes 70 to 95 and ignores the rest. -/
def Obligations.QuenchAndWarmup : Prop := ∀ (s : State) (atNs : Nat),
    (∀ w, s.sys.supplies = true → s.thm.quenchSince = some w → w + s.conf.quenchMs * 1000000 ≤ (s.clockTo atNs).nowNs →
      s.sys.state = .ready → s.sys.flushFor = none → (s.clockTo atNs).dirtyNow = true → Runs (.quenchHoldExpiry atNs) s fun t =>
        t.sys.state = .quench ∧ t.sys.poweredDown = s.sys.poweredDown ∧ t.sys.held = none ∧ t.pfl.phase = .sealing ∧
        t.pfl.kind = .quench ∧ t.thm.sensorQuenches = 0 ∧ t.stg = s.stg ∧ t.med = s.med ∧
        t.getReg Reg.SYS_LAST_TRANS = 0x59) ∧
    (∀ w, s.sys.supplies = true → s.thm.quenchSince = some w → w + s.conf.quenchMs * 1000000 ≤ (s.clockTo atNs).nowNs →
      s.sys.state = .ready → s.sys.flushFor = none → (s.clockTo atNs).dirtyNow = false → Runs (.quenchHoldExpiry atNs) s fun t =>
        t.sys.state = .quench ∧ t.sys.poweredDown = true ∧ t.port0.linkUp = false ∧ t.port1.linkUp = false ∧
        t.trv.rstLow = true ∧ t.stg = s.stg ∧ t.med = s.med) ∧
    (∀ w, s.sys.supplies = true → s.sys.state = .quench → s.sys.poweredDown = true → s.thm.stuck = false →
      s.thm.restartSince = some w → w + s.conf.restartS * 1000000000 ≤ (s.clockTo atNs).nowNs →
      Runs (.quenchRestart atNs) s fun t =>
        t.sys.state = .boot ∧ t.sys.poweredDown = false ∧ t.getReg Reg.SYS_RST_CAUSE = 0x60000900 ∧ t.med = s.med) ∧
    (s.thm.stuck = true → Runs (.quenchRestart atNs) s fun t => t.sys = s.sys ∧ t.thm = s.thm ∧ t.med = s.med) ∧
    (s.running = true → s.sys.state = .warmup → s.sys.since + 120000000000 ≤ (s.clockTo atNs).nowNs →
      Runs (.warmupTimeout atNs) s fun t =>
        t.sys.state = .safe ∧ t.thm.warmTimeout = true ∧ t.getReg Reg.THM_ERR_STAT = s.getReg Reg.THM_ERR_STAT ||| 4 ∧
        t.getReg Reg.SYS_LAST_TRANS = 0x28 ∧ t.stg = s.stg) ∧
    (∀ via (v : Word), s.reaches via = true → 70 ≤ v.toNat % 256 → v.toNat % 256 ≤ 95 → exec (.thmParamWrite via v) s =
      .next ((s.emit (.regWriteDone via Reg.THM_MED_LIMIT)).setNat Reg.THM_MED_LIMIT (v.toNat % 256))) ∧
    (∀ via (v : Word), s.reaches via = true → v.toNat % 256 < 70 ∨ 95 < v.toNat % 256 → exec (.thmParamWrite via v) s =
      .next (s.emit (.regWriteDone via Reg.THM_MED_LIMIT)))

/-- Clocks and the datum (R191, R194, R196, R205): a loss of XO counts and is flagged once; XO returns once valid for 10 ms; a datum
deed is queued 3,600 s after the last one and at the end of a slew; the parameters take values in range only; an unlock of a
PLL clears its lock and is flagged. -/
def Obligations.ClocksAndDatum : Prop := ∀ s : State,
    (∀ ppm, s.dtm.xoLost = false → Runs (.xoLoss ppm) s fun t =>
      t.dtm.xoLost = true ∧ t.getReg Reg.DTM_XO_FREQ = BitVec.ofInt 32 ppm ∧
      t.getReg Reg.DTM_XO_LOSS_CNT = s.getReg Reg.DTM_XO_LOSS_CNT + 1 ∧
      t.getReg Reg.DTM_ERR_STAT = s.getReg Reg.DTM_ERR_STAT ||| 1 ∧ t.dtm.datum = s.dtm.datum ∧ t.dtm.mono = s.dtm.mono ∧
      t.sys = s.sys ∧ t.stg = s.stg) ∧
    (∀ ppm, s.dtm.xoLost = true → exec (.xoLoss ppm) s = .next (s.setReg Reg.DTM_XO_FREQ (BitVec.ofInt 32 ppm))) ∧
    (∀ via valid, s.reaches via = true → s.dtm.xoLost = true → 10000000 ≤ valid → exec (.xoReturn via valid) s =
      .next ((s.emit (.regWriteDone via Reg.DTM_CTL)).modDtm fun d => { d with xoLost := false })) ∧
    (∀ via valid, s.reaches via = true → valid < 10000000 → exec (.xoReturn via valid) s =
      .next (s.emit (.regWriteDone via Reg.DTM_CTL))) ∧
    (∀ atNs w, s.dtm.deedAt = some w → w + 3600000000000 ≤ (s.clockTo atNs).nowNs → Runs (.datumDeedTimer atNs) s fun t =>
      t.dtm.deedAt = some (s.clockTo atNs).nowNs ∧
      t.pst.queue = (s.clockTo atNs).pst.queue ++ [.deed 0 (.datum (s.clockTo atNs).datumNs s.dtm.everSet)] ∧ t.sys = s.sys) ∧
    (∀ atNs, (s.clockTo atNs).dtm.slewing = true → (s.clockTo atNs).dtm.offset = 0 → Runs (.slewComplete atNs) s fun t =>
      t.dtm.slewing = false ∧ t.dtm.datum = (s.clockTo atNs).dtm.datum ∧
      t.getReg Reg.DTM_INT_STAT = (s.clockTo atNs).getReg Reg.DTM_INT_STAT ||| 2 ∧
      t.pst.queue = (s.clockTo atNs).pst.queue ++ [.deed 0 (.datum (s.clockTo atNs).datumNs s.dtm.everSet)]) ∧
    (∀ via (v : Word), s.reaches via = true → 100 ≤ v.toNat → v.toNat ≤ 1000 → exec (.dtmParamWrite via false v) s =
      .next ((s.emit (.regWriteDone via Reg.DTM_SLEW_PPM)).setReg Reg.DTM_SLEW_PPM v)) ∧
    (∀ via (v : Word), s.reaches via = true → 100 ≤ v.toNat → v.toNat ≤ 1000000 → exec (.dtmParamWrite via true v) s =
      .next ((s.emit (.regWriteDone via Reg.DTM_STEP_US)).setReg Reg.DTM_STEP_US v)) ∧
    (∀ via (v : Word), s.reaches via = true → v.toNat < 100 ∨ 1000 < v.toNat → exec (.dtmParamWrite via false v) s =
      .next (s.emit (.regWriteDone via Reg.DTM_SLEW_PPM))) ∧
    (∀ pll : Fin 4, Runs (.pllUnlock pll) s fun t =>
      (pll = 0 → t.dtm.pllF = false) ∧ (pll = 1 → t.dtm.pllE = false) ∧ (pll = 2 → t.dtm.pllT = false) ∧
      (pll = 3 → t.dtm.pllH = false) ∧ t.getReg Reg.DTM_ERR_STAT = s.getReg Reg.DTM_ERR_STAT ||| 2 ∧
      t.dtm.datum = s.dtm.datum ∧ t.dtm.mono = s.dtm.mono ∧ t.sys = s.sys)

/-- The discipline of the datum (R195, R196, R197, Table DTM-2): a locked datum refuses; the first setting moves the datum and
never backwards; later an offset of at least DTM_STEP_US up to 400 days steps it forward and adds to the gap, a smaller one
either way and one back to 60 s is slewed, anything else is refused and counted. -/
def Obligations.DatumDiscipline : Prop := ∀ (s : State) (t ago : Nat),
    (s.bit Reg.DTM_CTL 0 = true → (s.discipline t ago).2 = false ∧
      (s.discipline t ago).1.getReg Reg.DTM_SET_REFUSED = s.getReg Reg.DTM_SET_REFUSED + 1 ∧
      (s.discipline t ago).1.dtm.datum = s.dtm.datum) ∧
    (s.bit Reg.DTM_CTL 0 = false → s.dtm.everSet = false → s.datumNs ≤ t + ago → (s.discipline t ago).2 = true ∧
      (s.discipline t ago).1.dtm.datum = s.dtm.datum + (t + ago - s.datumNs) * 8000000 ∧
      (s.discipline t ago).1.dtm.everSet = true ∧
      (s.discipline t ago).1.pwr.assayTimer = s.pwr.assayTimer + (t + ago - s.datumNs)) ∧
    (s.bit Reg.DTM_CTL 0 = false → s.dtm.everSet = true → ago ≤ s.datumNs →
      s.datumNs + s.regNat Reg.DTM_STEP_US * 1000 ≤ t + ago → t + ago ≤ s.datumNs + 34560000000000000 →
      (s.discipline t ago).2 = true ∧ (s.discipline t ago).1.dtm.datum = s.dtm.datum + (t + ago - s.datumNs) * 8000000 ∧
      (s.discipline t ago).1.dtm.slewing = false ∧
      (s.discipline t ago).1.pairNat Reg.DTM_GAP_LO = (t + ago - s.datumNs) % 2 ^ 64) ∧
    (s.bit Reg.DTM_CTL 0 = false → s.dtm.everSet = true → ago ≤ s.datumNs → t + ago < s.datumNs →
      s.datumNs ≤ t + ago + 60000000000 →
      (s.discipline t ago).2 = true ∧ (s.discipline t ago).1.dtm.datum = s.dtm.datum ∧
      (s.discipline t ago).1.dtm.slewing = true ∧
      (s.discipline t ago).1.dtm.offset = -(((s.datumNs - (t + ago) : Nat) : Int) * 8000000)) ∧
    (s.bit Reg.DTM_CTL 0 = false → s.dtm.everSet = true → ago ≤ s.datumNs → s.datumNs + 34560000000000000 < t + ago →
      s.regNat Reg.DTM_STEP_US ≤ 1000000 → (s.discipline t ago).2 = false ∧ (s.discipline t ago).1.dtm.datum = s.dtm.datum ∧
      (s.discipline t ago).1.getReg Reg.DTM_SET_REFUSED = s.getReg Reg.DTM_SET_REFUSED + 1)

/-- When a mailbox command runs (R72, R73, R427): one that arrives while the mailbox is held sets its doorbell and changes nothing
else but, during a parameter-store operation, bit 1 of HPT_MBOX_STAT; a command with an answer for BRACED gets it there; one
that needs the background slot while it is taken is answered Busy; a reply clears the doorbell and records opcode and return
code. -/
def Obligations.MailboxDiscipline : Prop := ∀ (s : State) (via : Via) (op : Nat) (braced : Option (Nat × Nat)) (bg : Bool)
    (run : State → State), s.running = true → s.sys.poweredDown = false → s.portPresent via.port = true → s.mboxBusy via = false →
    (s.mboxHeld = true → ∃ t, s.mbox via op braced bg run = .next t ∧ t.out = s.out ∧
      (∀ p, via = .bar2 p → (t.port p.val).doorbell = true ∧
        t.getReg (Reg.HPT_MBOX_STAT p.val) = s.getReg (Reg.HPT_MBOX_STAT p.val) ||| (if s.pst.run.isSome then 3 else 1)) ∧
      Touches (parts [.reg 2, .port0, .port1]) s t ∧ (via = .mctp → t = s)) ∧
    (s.mboxOpen via op = true → s.sys.state = .braced → ∀ ret ext, braced = some (ret, ext) →
      s.mbox via op braced bg run = .next (s.mboxReply via op ret ext [])) ∧
    (s.mboxOpen via op = true → s.sys.state ≠ .braced ∨ braced = none → bg = true → s.svc.background ≠ none →
      s.mbox via op braced bg run = .next (s.mboxReply via op 6 0 [])) ∧
    (s.mboxOpen via op = true → s.sys.state ≠ .braced ∨ braced = none → bg = false ∨ s.svc.background = none →
      s.mbox via op braced bg run = .next (run s)) ∧
    (∀ ret ext fields, (s.mboxReply via op ret ext fields).out = s.out ++ [.mbox via op ret ext fields] ∧
      Touches (parts [.reg 2, .port0, .port1, .pst, .out]) s (s.mboxReply via op ret ext fields) ∧
      (∀ p, via = .bar2 p → ((s.mboxReply via op ret ext fields).port p.val).doorbell = false ∧
        (s.mboxReply via op ret ext fields).getReg (Reg.HPT_MBOX_LAST p.val) = BitVec.ofNat 32 (op * 65536 + ret)))

/-- The commands of information and the port event logs (R72, R74, R90): each answers its fields; a log gives its records oldest
first with its overflow flag; clearing all empties it, clearing by SEQ removes those records, and a SEQ without a record
clears nothing; an opcode outside the table is Unsupported. -/
def Obligations.MailboxInformation : Prop := ∀ (s : State) (via : Via),
    (s.mboxOpen via 0x0001 = true → exec (.identify via) s =
      .next (s.done via 0x0001 [s.regField Reg.SYS_ID 12 16, s.regField Reg.SYS_ID 0 4, 0x050210])) ∧
    (∀ b, s.mboxOpen via 0x0002 = true → s.svc.background = some b → Runs (.backgroundOperationStatus via) s fun t =>
      t.svc = s.svc ∧ ∃ pct, pct < 100 ∧ t.out = s.out ++ [.mbox via 0x0002 0 0 [b.opcode, pct, 0]]) ∧
    (∀ op ret, s.mboxOpen via 0x0002 = true → s.svc.background = none → s.svc.lastBackground = some (op, ret) →
      exec (.backgroundOperationStatus via) s = .next (s.done via 0x0002 [op, 100, ret])) ∧
    (∀ log : Fin 4, s.mboxOpen via 0x0100 = true → exec (.getEventRecords via log) s =
      .next (s.done via 0x0100 ([if (s.port via.port).logOvf.getD log.val false then 1 else 0,
        ((s.port via.port).logs.getD log.val []).length] ++ ((s.port via.port).logs.getD log.val []).flatMap recFields))) ∧
    (∀ (log : Fin 4) seqs, s.mboxOpen via 0x0101 = true → (s.port via.port).logs.length = 4 → (s.port via.port).logOvf.length = 4 →
      Runs (.clearEventRecords via log true seqs) s fun t =>
        (t.port via.port).logs.getD log.val [] = [] ∧ (t.port via.port).logOvf.getD log.val true = false ∧
        (∀ k, k ≠ log.val → (t.port via.port).logs.getD k [] = (s.port via.port).logs.getD k []) ∧
        t.out = s.out ++ [.mbox via 0x0101 0 0 []] ∧ t.evr = s.evr) ∧
    (∀ (log : Fin 4) seqs, s.mboxOpen via 0x0101 = true → (s.port via.port).logs.length = 4 →
      (∀ q ∈ seqs, ∃ r ∈ (s.port via.port).logs.getD log.val [], r.seq = q) → Runs (.clearEventRecords via log false seqs) s fun t =>
        (t.port via.port).logs.getD log.val [] = ((s.port via.port).logs.getD log.val []).filter (fun r => !seqs.contains r.seq) ∧
        t.out = s.out ++ [.mbox via 0x0101 0 0 []]) ∧
    (∀ (log : Fin 4) seqs, s.mboxOpen via 0x0101 = true →
      (∃ q ∈ seqs, ∀ r ∈ (s.port via.port).logs.getD log.val [], r.seq ≠ q) →
      exec (.clearEventRecords via log false seqs) s = .next (s.mboxReply via 0x0101 0xE 0 [])) ∧
    (s.mboxOpen via 0x0102 = true → exec (.getEventInterruptPolicy via) s = .next (s.done via 0x0102 [(s.port via.port).evtPolicy])) ∧
    (∀ policy : Word, s.mboxOpen via 0x0103 = true → Runs (.setEventInterruptPolicy via policy) s fun t =>
      (t.port via.port).evtPolicy = policy.toNat ∧ t.out = s.out ++ [.mbox via 0x0103 0 0 []] ∧
      Touches (parts [.reg 2, .port0, .port1, .pst, .out]) s t) ∧
    (∀ opcode : BitVec 16, opcode.toNat ∉ celOpcodes → s.mboxOpen via opcode.toNat = true →
      exec (.unsupportedOpcode via opcode) s = .next (s.mboxReply via opcode.toNat 3 0 []))

/-- Firmware, time and logs (R72, R77, R194, R195, R196, R406, R407, R447): a first chunk of firmware empties the inactive slot and
is written in the background, one that does not follow on is refused; the inactive slot becomes pending through a deed, the
other is refused; the time is read and set; logs are listed and read, the records of the recorder in whole records. -/
def Obligations.MailboxFirmwareTimeLogs : Prop := ∀ (s : State) (via : Via),
    (s.mboxOpen via 0x0200 = true → ∃ fields, exec (.getFwInfo via) s = .next (s.done via 0x0200 fields) ∧ fields.length = 5) ∧
    (∀ (bytes : List Byte) (last : Bool) (fw : FwSlot), s.mboxOpen via 0x0201 = true → s.sys.state ≠ .braced →
      s.svc.background = none → bytes ≠ [] → bytes.length ≤ 4194304 → Runs (.transferFw via 0 bytes last fw) s fun t =>
        t.svc.fwSlot s.fwSpare = none ∧ t.svc.fwSlot (!s.fwSpare) = s.svc.fwSlot (!s.fwSpare) ∧
        t.svc.background = some { via := via, opcode := 0x0201 } ∧
        t.pst.queue.take s.pst.queue.length = s.pst.queue ∧ t.out = s.out ++ [.mbox via 0x0201 1 0 []] ∧
        Touches (parts [.reg 2, .port0, .port1, .svc, .pst, .out]) s t) ∧
    (∀ (offset : Nat) (bytes : List Byte) (last : Bool) (fw : FwSlot), s.mboxOpen via 0x0201 = true → s.sys.state ≠ .braced →
      s.svc.background = none → bytes ≠ [] → offset + bytes.length ≤ 4194304 → offset ≠ 0 →
      offset ≠ ((s.svc.fwSlot s.fwSpare).map (·.written)).getD 0 →
      exec (.transferFw via offset bytes last fw) s = .next (s.mboxReply via 0x0201 9 0 [])) ∧
    (∀ slot : Fin 2, s.mboxOpen via 0x0202 = true → s.sys.state ≠ .braced → (slot == 1) = s.fwSpare →
      exec (.activateFw via slot) s = .next ((s.queueConfig fun c => { c with pendFw := some s.fwSpare }).done via 0x0202 [])) ∧
    (∀ slot : Fin 2, s.mboxOpen via 0x0202 = true → s.sys.state ≠ .braced → (slot == 1) ≠ s.fwSpare →
      exec (.activateFw via slot) s = .next (s.mboxReply via 0x0202 0xB 0 [])) ∧
    (∀ ago, s.mboxOpen via 0x0300 = true → exec (.getTimestamp via ago) s = .next (s.done via 0x0300 [s.datumNs - ago])) ∧
    (∀ (t : Quad) ago, s.mboxOpen via 0x0301 = true → (s.discipline t.toNat ago).2 = false →
      exec (.setTimestamp via t ago) s = .next ((s.discipline t.toNat ago).1.mboxReply via 0x0301 2 0 [])) ∧
    (∀ (t : Quad) ago, s.mboxOpen via 0x0301 = true → (s.discipline t.toNat ago).2 = true →
      s.dtm.everSet = false ∨ (s.discipline t.toNat ago).1.datumNs ≤ s.datumNs →
      exec (.setTimestamp via t ago) s = .next ((s.discipline t.toNat ago).1.done via 0x0301 [])) ∧
    (∀ (t : Quad) ago, s.mboxOpen via 0x0301 = true → (s.discipline t.toNat ago).2 = true →
      s.dtm.everSet = true → s.datumNs < (s.discipline t.toNat ago).1.datumNs →
      exec (.setTimestamp via t ago) s = .next (((s.discipline t.toNat ago).1.ageGap
        ((s.discipline t.toNat ago).1.datumNs - s.datumNs)).done via 0x0301 [])) ∧
    (s.mboxOpen via 0x0400 = true → ∃ fields, exec (.getSupportedLogs via) s = .next (s.done via 0x0400 fields) ∧
      fields.length = 6 ∧ fields.getD 3 0 = s.evr.readable.length * 32) ∧
    (∀ offset length, s.mboxOpen via 0x0401 = true → offset % 32 = 0 → length % 32 = 0 → exec (.getLog via 1 offset length) s =
      .next (s.done via 0x0401 (((s.evr.readable.drop (offset / 32)).take (length / 32)).flatMap fun r =>
        recBytes r.1 (if r.2 then 0xFFFF else 0)))) ∧
    (∀ offset length, s.mboxOpen via 0x0401 = true → offset % 32 ≠ 0 ∨ length % 32 ≠ 0 →
      exec (.getLog via 1 offset length) s = .next (s.mboxReply via 0x0401 2 0 [])) ∧
    (∀ offset length, s.mboxOpen via 0x0401 = true → exec (.getLog via 2 offset length) s =
      .next (s.done via 0x0401 ((s.pfl.report.bytes.drop offset).take length)))

/-- Label storage, health and shutdown state (R75, R76, R80): capacities and limits; both copies of the labels take the bytes written
and a read returns them; a range past 131,072 bytes is refused; the shutdown state is read, and set through a deed. -/
def Obligations.MailboxLabelsAndHealth : Prop := ∀ (s : State) (via : Via),
    (s.mboxOpen via 0x4000 = true → exec (.identifyMemoryDevice via) s =
      .next (s.done via 0x4000 [s.conf.portBytes via.port / 268435456, s.conf.portBytes via.port / 268435456, 0, 0, 131072, 256, 64, 1, 1])) ∧
    (∀ offset length, s.mboxOpen via 0x4102 = true → s.mapReady = true → offset + length ≤ 131072 →
      exec (.getLsa via offset length) s = .next (s.done via 0x4102 ((memRead (s.port via.port).lsa offset length).map (·.toNat)))) ∧
    (∀ offset length, s.mboxOpen via 0x4102 = true → 131072 < offset + length →
      exec (.getLsa via offset length) s = .next (s.mboxReply via 0x4102 2 0 [])) ∧
    (∀ offset (bytes : List Byte), s.mboxOpen via 0x4103 = true → s.mapReady = true → offset + bytes.length ≤ 131072 →
      Runs (.setLsa via offset bytes) s fun t =>
        memRead (t.port via.port).lsa offset bytes.length = bytes ∧ memRead (t.port via.port).lsaCopy offset bytes.length = bytes ∧
        (∀ k, k < offset → memRead (t.port via.port).lsa k 1 = memRead (s.port via.port).lsa k 1) ∧
        t.out = s.out ++ [.mbox via 0x4103 0 0 []] ∧ Touches (parts [.reg 2, .port0, .port1, .pst, .out]) s t) ∧
    (∀ offset (bytes : List Byte), s.mboxOpen via 0x4103 = true → 131072 < offset + bytes.length →
      exec (.setLsa via offset bytes) s = .next (s.mboxReply via 0x4103 2 0 [])) ∧
    (s.mboxOpen via 0x4200 = true → ∃ fields, exec (.getHealthInfo via) s = .next (s.done via 0x4200 fields) ∧
      fields.length = 7 ∧ fields.getD 0 0 = s.healthBits ∧ fields.getD 4 0 = s.pst.counter 0) ∧
    (s.mboxOpen via 0x4203 = true → exec (.getShutdownState via) s =
      .next (s.done via 0x4203 [if s.svc.shutdownDirty then 1 else 0])) ∧
    (∀ dirty, s.mboxOpen via 0x4204 = true → s.sys.state ≠ .braced → exec (.setShutdownState via dirty) s =
      .next ((s.queueDeed 0 (.shutdown dirty)).done via 0x4204 [])) ∧
    (∀ dirty, s.mboxOpen via 0x4204 = true → s.sys.state = .braced → exec (.setShutdownState via dirty) s =
      .next (s.mboxReply via 0x4204 5 0 []))

/-- Poison and scans (R75, R78): the list is read by range; a line takes injected poison, staged copy included, up to 64 lines;
clearing ends the poison and writes the 64 bytes through the port's buffer; a scan takes the background slot and its end
refreshes the list of its range and keeps the results. -/
def Obligations.PoisonAndScan : Prop := ∀ (s : State) (via : Via),
    (∀ first count, s.mboxOpen via 0x4300 = true → s.portRangeOk via.port first count = true →
      ∃ l, exec (.getPoison via first count) s = .next (s.done via 0x4300 (l.length / 2 :: l)) ∧ l.length ≤ 512 ∧
        l <+: s.poisonIn via.port first count s.svc.poison) ∧
    (∀ first count, s.mboxOpen via 0x4300 = true → s.portRangeOk via.port first count = false →
      exec (.getPoison via first count) s = .next (s.mboxReply via 0x4300 0xF 0 [])) ∧
    (∀ dpa line, s.mboxOpen via 0x4301 = true → s.portLine via.port dpa = some line → s.mapReady = true →
      line ∉ s.svc.injected → s.svc.injected.length < 64 → Runs (.injectPoison via dpa) s fun t =>
        line ∈ t.svc.poison ∧ line ∈ t.svc.injected ∧ (∀ l ∈ s.svc.poison, l ∈ t.svc.poison) ∧
        (∀ i f, s.stg.find (line / 64) = some (i, f) → t.stg.frames = s.stg.frames ∨
          Quad.at (t.stg.frame i).poison (line % 64) = true) ∧
        t.out = s.out ++ [.mbox via 0x4301 0 0 []] ∧ t.med = s.med) ∧
    (∀ dpa line, s.mboxOpen via 0x4301 = true → s.portLine via.port dpa = some line → s.mapReady = true →
      line ∉ s.svc.injected → 64 ≤ s.svc.injected.length → exec (.injectPoison via dpa) s = .next (s.mboxReply via 0x4301 0x10 0 [])) ∧
    (∀ dpa (data : Line) line, s.mboxOpen via 0x4302 = true → s.portLine via.port dpa = some line → s.admitLine line allLines = none →
      (s.port via.port).pwb.length < 256 → Runs (.clearPoison via dpa data) s fun t =>
        line ∉ t.svc.poison ∧ line ∉ t.svc.injected ∧
        (∃ e, (t.port via.port).pwb = (s.port via.port).pwb ++ [e] ∧ e.line = line ∧ e.data = data ∧ e.unit = true) ∧
        t.out = s.out ++ [.mbox via 0x4302 0 0 []] ∧ t.stg = s.stg ∧ t.med = s.med) ∧
    (∀ first count, s.mboxOpen via 0x4303 = true → s.portRangeOk via.port first count = true →
      Runs (.getScanMediaCapabilities via first count) s fun t =>
        (∃ ns, t.out = s.out ++ [.mbox via 0x4303 0 0 [ns]]) ∧ Touches (parts [.reg 2, .port0, .port1, .pst, .out, .free]) s t) ∧
    (∀ first count, s.mboxOpen via 0x4304 = true → s.svc.background = none → s.portRangeOk via.port first count = true →
      s.mapReady = true → Runs (.scanMedia via first count) s fun t =>
        t.svc = { s.svc with scan := some (via, first, count), background := some { via := via, opcode := 0x4304 } } ∧
        t.out = s.out ++ [.mbox via 0x4304 1 0 []]) ∧
    (∀ lost first count b, s.svc.scan = some (via, first, count) → s.running = true → s.mapReady = true → s.inFlush = false →
      s.svc.background = some b → Runs (.scanMediaComplete lost) s fun t =>
        t.svc.scan = none ∧ t.svc.background = none ∧ t.svc.lastBackground = some (b.opcode, 0) ∧
        (∀ l ∈ t.svc.scanResults, l ∈ t.svc.poison) ∧ (∀ l ∈ t.svc.poison, l ∈ s.svc.poison ∨ l ∈ lost) ∧
        Touches (parts [.svc]) s t) ∧
    (s.mboxOpen via 0x4305 = true → ∃ l, exec (.getScanMediaResults via) s = .next (s.done via 0x4305 (l.length :: l)) ∧
      l.length ≤ s.svc.scanResults.length)

/-- Erasing (R79, R84, R310): Sanitize and Secure Erase take the background slot with fresh keys queued for every holding, and
fail while the random source has failed; a crypto-erase does so for one holding that no committed decoder covers; at their
ends nothing of the old poison, and after a Sanitize no counter and no quarantine, is left. -/
def Obligations.Erasing : Prop := ∀ (s : State) (via : Via),
    (s.mboxOpen via 0x4400 = true → s.sys.state ≠ .braced → s.svc.background = none → s.mapReady = true → s.cke.rngFail = false →
      Runs (.sanitize via) s fun t =>
        t.svc.erasing = true ∧ t.svc.background = some { via := via, opcode := 0x4400 } ∧ .tally 3 1 ∈ t.pst.queue ∧
        (∀ h ∈ s.conf.holdings, ∃ w : WrapRec, w.keyRef = h.keyRef ∧ w.gen = (s.ime.rekey h.id).cur + 2 ∧ w.present = true ∧
          .deed (wrapIndex w) (.keyWrap w) ∈ t.pst.queue) ∧
        t.out = s.out ++ [.mbox via 0x4400 1 0 []] ∧ t.med = s.med ∧ t.cds = s.cds) ∧
    (s.mboxOpen via 0x4400 = true → s.sys.state ≠ .braced → s.svc.background = none → s.mapReady = true → s.cke.rngFail = true →
      exec (.sanitize via) s = .next (s.mboxReply via 0x4400 4 0 [])) ∧
    (s.mboxOpen via 0x4401 = true → s.sys.state ≠ .braced → s.svc.background = none → s.mapReady = true → s.cke.rngFail = false →
      Runs (.secureErase via) s fun t =>
        t.svc.erasing = true ∧ t.svc.background = some { via := via, opcode := 0x4401 } ∧
        (∀ h ∈ s.conf.holdings, ∃ w : WrapRec, w.keyRef = h.keyRef ∧ w.gen = (s.ime.rekey h.id).cur + 2 ∧ w.present = true ∧
          .deed (wrapIndex w) (.keyWrap w) ∈ t.pst.queue) ∧
        t.out = s.out ++ [.mbox via 0x4401 1 0 []] ∧ t.med = s.med ∧ t.cds = s.cds) ∧
    (∀ id h base n, s.mboxOpen via 0xC020 = true → s.sys.state ≠ .braced → s.svc.background = none → s.mapReady = true →
      s.cke.rngFail = false → (holdingBases 0 s.conf.holdings).find? (fun e => e.1.id == id) = some (h, base, n) →
      (∀ d ∈ s.port0.decoders ++ s.port1.decoders, d.committed = false) → Runs (.holdingCryptoErase via id true) s fun t =>
        h.id ∈ t.svc.erasingHoldings ∧ t.svc.background = some { via := via, opcode := 0xC020 } ∧
        t.out = s.out ++ [.mbox via 0xC020 1 0 []] ∧ t.cds = s.cds ∧ t.med = s.med) ∧
    (∀ atNs, (s.clockTo atNs).eraseEnds 0x4401 = true → Runs (.secureEraseComplete atNs) s fun t =>
        t.svc.poison = [] ∧ t.svc.injected = [] ∧ t.svc.erasing = false ∧ t.svc.background = none ∧
        t.svc.lastBackground = some (0x4401, 0) ∧ t.pfl = s.pfl ∧ t.cke = s.cke) ∧
    (∀ atNs, s.cds.mig = none → s.pfl.report.lost = false → (s.clockTo atNs).eraseEnds 0x4400 = true →
      Runs (.sanitizeComplete atNs) s fun t =>
        t.svc.poison = [] ∧ t.svc.erasing = false ∧ t.svc.background = none ∧ t.ime.ctr = [] ∧ t.ime.quar = [] ∧
        t.ime.devKeys = some ((s.clockTo atNs).pst.counter 3) ∧ (∀ e ∈ t.med, e ∈ s.med) ∧ t.pfl = s.pfl)

/-- The passphrase (R377, R378, R379): the state is reported; while frozen the commands are refused; a wrong passphrase counts, the
fifth uses the attempts up, and it changes no key; a right one unlocks the locked PASSLOCK holdings and takes the device out
of LOCKED; a passphrase erase with a master passphrase is refused. -/
def Obligations.Passphrase : Prop := ∀ (s : State) (via : Via),
    (s.mboxOpen via 0x4500 = true → exec (.getSecurityState via) s = .next (s.done via 0x4500
      [(if s.svc.security.passphrase.isSome then 1 else 0) + (if s.ime.rekeys.any fun e => e.2.locked then 2 else 0) +
        (if s.svc.security.frozen then 4 else 0) + if s.svc.security.exhausted then 8 else 0])) ∧
    (s.mboxOpen via 0x4504 = true → s.svc.security.frozen = false → s.pst.wrapQueued = false → Runs (.freezeSecurityState via) s fun t =>
      t.svc = { s.svc with security := { s.svc.security with frozen := true } } ∧ t.out = s.out ++ [.mbox via 0x4504 0 0 []] ∧
      Touches (parts [.reg 2, .port0, .port1, .svc, .pst, .out]) s t) ∧
    (s.svc.security.frozen = true →
      (∀ master cur new, s.mboxOpen via 0x4501 = true → s.sys.state ≠ .braced → exec (.setPassphrase via master cur new) s = .next (s.mboxReply via 0x4501 0x13 0 [])) ∧
      (∀ cur, s.mboxOpen via 0x4502 = true → s.sys.state ≠ .braced → exec (.disablePassphrase via cur) s = .next (s.mboxReply via 0x4502 0x13 0 [])) ∧
      (∀ pass, s.mboxOpen via 0x4503 = true → exec (.unlock via pass) s = .next (s.mboxReply via 0x4503 0x13 0 []))) ∧
    (s.svc.security.frozen = false → s.svc.security.exhausted = false → s.pst.wrapQueued = false →
      (∀ cur new, s.mboxOpen via 0x4501 = true → s.sys.state ≠ .braced → s.svc.security.passphrase = none →
        exec (.setPassphrase via false cur new) s =
          .next (((s.passRight.rewrap (some cur) (some new)).setPass (some new)).done via 0x4501 [])) ∧
      (∀ cur new, s.mboxOpen via 0x4501 = true → s.sys.state ≠ .braced → s.svc.security.passphrase = none →
        s.conf.passHoldings = [] → Runs (.setPassphrase via false cur new) s fun t => t.svc.security.passphrase = some new) ∧
      (∀ cur, s.mboxOpen via 0x4502 = true → s.sys.state ≠ .braced → s.svc.security.passphrase = some cur →
        s.conf.passHoldings = [] → Runs (.disablePassphrase via cur) s fun t =>
          t.svc.security.passphrase = none ∧ t.svc.security.fails = 0 ∧ t.out = s.out ++ [.mbox via 0x4502 0 0 []]) ∧
      (∀ pass, s.mboxOpen via 0x4503 = true → (s.ime.rekeys.any fun e => e.2.locked) = true → s.passOk pass = false →
        Runs (.unlock via pass) s fun t =>
          t.svc.security.fails = s.svc.security.fails + 1 ∧ (t.svc.security.exhausted = true ↔ 5 ≤ s.svc.security.fails + 1) ∧
          t.ime = s.ime ∧ t.sys = s.sys ∧ t.getReg Reg.CKE_TAG_FAIL_CNT = s.getReg Reg.CKE_TAG_FAIL_CNT + 1) ∧
      (∀ pass, s.mboxOpen via 0x4503 = true → (s.ime.rekeys.any fun e => e.2.locked) = true → s.passOk pass = true →
        Runs (.unlock via pass) s fun t =>
          t.svc.security.unlocked = true ∧ t.svc.security.passphrase = some pass ∧ t.svc.security.fails = 0 ∧
          (∀ e ∈ t.ime.rekeys, (s.conf.holding e.1).any (·.passlock) = true → e.2.locked = false) ∧
          (s.sys.state = .locked → t.sys.state = .ready ∨ t.sys.state = .readonly) ∧
          t.out = s.out ++ [.mbox via 0x4503 0 0 []])) ∧
    (s.svc.security.frozen = false → s.pst.wrapQueued = false → s.mboxOpen via 0x4505 = true → s.sys.state ≠ .braced →
      s.svc.background = none →
      (exec (.passphraseSecureErase via true) s = .next (s.mboxReply via 0x4505 2 0 [])) ∧
      (s.mapReady = true → s.cke.rngFail = false → s.conf.passHoldings ≠ [] → Runs (.passphraseSecureErase via false) s fun t =>
        (∀ h ∈ s.conf.passHoldings, h.id ∈ t.svc.erasingHoldings) ∧ t.svc.security.next = some none ∧
        t.svc.background = some { via := via, opcode := 0x4505 } ∧ t.out = s.out ++ [.mbox via 0x4505 1 0 []]))

/-- The vendor commands (R81, R82, R83, R86, R202, R472): a release of a misaligned, empty or outside range fails with RANGE, one
with reserved bits set with FIELD, else it takes the background slot; a LINE_MAINT over MCTP is Unsupported, one of no unit
fails with FIELD, and zeroing a line puts a write of zeros into the port's buffer; an assay starts in the background only with the
bank ARMED; a survey strobe is requested; a survey read returns words of the latest area. -/
def Obligations.VendorCommands : Prop := ∀ (s : State) (via : Via),
    (∀ dpa len, s.mboxOpen via 0xC000 = true → s.svc.background = none → s.mapReady = true → dpa % 4096 = 0 → len % 4096 = 0 →
      len ≠ 0 → dpa + len ≤ s.conf.portBytes via.port → Runs (.releaseRange via dpa len true) s fun t =>
        t.out = s.out ++ [.mbox via 0xC000 1 0 []] ∧ t.cke = s.cke ∧ t.pwr = s.pwr ∧
        t = (s.background via 0xC000).startRelease 0xC000 (s.parcelsOf via.port dpa len) false) ∧
    (∀ dpa len, s.mboxOpen via 0xC000 = true → s.svc.background = none →
      dpa % 4096 ≠ 0 ∨ len % 4096 ≠ 0 ∨ len = 0 ∨ s.conf.portBytes via.port < dpa + len →
      exec (.releaseRange via dpa len true) s = .next (s.mboxReply via 0xC000 2 1 [])) ∧
    (∀ dpa len, s.mboxOpen via 0xC001 = true → s.sys.state ≠ .braced → s.svc.background = none → s.mapReady = true → dpa % 4096 = 0 →
      len % 4096 = 0 → len ≠ 0 → dpa + len ≤ s.conf.portBytes via.port → Runs (.releaseRangeSecure via dpa len true) s fun t =>
        t.out = s.out ++ [.mbox via 0xC001 1 0 []] ∧ t.cke = s.cke ∧ t.pwr = s.pwr ∧
        t = (s.background via 0xC001).startRelease 0xC001 (s.parcelsOf via.port dpa len) true) ∧
    (∀ dpa count rsvOk, s.mboxOpen .mctp 0xC010 = true →
      exec (.flushLine .mctp dpa count rsvOk) s = .next (s.mboxReply .mctp 0xC010 3 0 []) ∧
      exec (.invalLine .mctp dpa count rsvOk) s = .next (s.mboxReply .mctp 0xC010 3 0 []) ∧
      exec (.zeroLine .mctp dpa count rsvOk) s = .next (s.mboxReply .mctp 0xC010 3 0 []) ∧
      exec (.zeroParcel .mctp dpa count rsvOk) s = .next (s.mboxReply .mctp 0xC010 3 0 [])) ∧
    (∀ p dpa, s.mboxOpen (.bar2 p) 0xC010 = true → exec (.flushLine (.bar2 p) dpa 0 true) s =
      .next (s.mboxReply (.bar2 p) 0xC010 2 8 [])) ∧
    (∀ (op : Nat) (p : Fin 2) (dpa count : Nat), s.mboxOpen (.bar2 p) 0xC010 = true → 0 < count → count ≤ 4096 →
      dpa % (if op = 3 then 4096 else 64) = 0 → dpa + count * (if op = 3 then 4096 else 64) ≤ s.conf.portBytes p.val →
      let c : Instr := match op with
        | 0 => .flushLine (.bar2 p) dpa count true
        | 1 => .invalLine (.bar2 p) dpa count true
        | 2 => .zeroLine (.bar2 p) dpa count true
        | _ => .zeroParcel (.bar2 p) dpa count true
      op < 4 → exec c s = .next (((s.ringMbox (.bar2 p)).modStg fun g => { g with maint := g.maint ++
        [{ port := p.val, op := op, first := dpa / (if op = 3 then 4096 else 64), count := count, next := 0, ok := 0, firstFail := none,
           cut := (s.port p.val).nextSeq, pushed := false, bad := false }] }).pushMaint)) ∧
    (∀ p dpa, s.mboxOpen (.bar2 p) 0xC010 = true → dpa % 64 = 0 → dpa + 64 ≤ s.conf.portBytes p.val → s.stg.maint = [] →
      s.sys.state = .ready → (s.port p.val).pwb.length < 256 → Runs (.zeroLine (.bar2 p) dpa 1 true) s fun t =>
        ∃ e, (t.port p.val).pwb = (s.port p.val).pwb ++ [e] ∧ e.portDpa = dpa ∧ e.data = 0 ∧ e.mask = allLines ∧ e.unit = true) ∧
    (s.mboxOpen via 0xC040 = true → s.sys.state ≠ .braced → s.pwr.bank = .armed → s.svc.background = none →
      s.pwr.assay = assayInit → Runs (.assayStart via) s fun t =>
        t.svc.background = some { via := via, opcode := 0xC040 } ∧ t.pwr.assay.background = true ∧
        t.pwr.assay.phase ≠ .idle ∧ t.out = s.out ++ [.mbox via 0xC040 1 0 []]) ∧
    (s.mboxOpen via 0xC040 = true → s.sys.state ≠ .braced → s.pwr.bank ≠ .armed →
      exec (.assayStart via) s = .next (s.mboxReply via 0xC040 2 4 [])) ∧
    (s.mboxOpen via 0xC040 = true → exec (.assayResult via) s = .next (s.done via 0xC040
      [s.pwr.assayDatum, s.pwr.capUf, s.pwr.esrMohm, s.pwr.usable, s.stg.budget, s.pwr.bank.code])) ∧
    (s.mboxOpen via 0xC050 = true → s.dtm.strobe = none → Runs (.surveyStrobe via) s fun t =>
      t.dtm.strobe = some (s.dtm.mono, 32) ∧ t.svc.strobing = s.svc.strobing ++ [via] ∧ t.out = s.out) ∧
    (∀ block start count, s.mboxOpen via 0xC050 = true → block < 16 → 0 < count → count ≤ 1024 →
      Runs (.surveyRead via block start count true) s fun t =>
        t.out = s.out ++ [.mbox via 0xC050 0 0 ((List.range count).map fun k => ((s.area block).getD (start + k) 0).toNat)] ∧
        (t.svy.buf via.requester).words = s.area block ∧ (t.svy.buf via.requester).valid = true)

/-- Replat (R48, R50, R51, R85): a first chunk empties the inactive slot and is written in the background of the mailbox; a locked
device refuses with code 0x56, an out-of-order chunk with CHUNK; applying a light image takes effect at once, any other one
becomes pending with the scheduler's work and its class in PLT_STAT; a pending one is discarded by an abort; the lock is set
until cold reset. -/
def Obligations.Replat : Prop := ∀ (s : State) (via : Via),
    (∀ (bytes : List Byte) last image, s.mboxOpen via 0xC030 = true → s.sys.state ≠ .braced → s.bit Reg.PLT_CTL 0 = false →
      s.replatBusy = false → s.svc.writing = none → bytes ≠ [] → bytes.length ≤ 32768 → bytes.length % 8 = 0 →
      Runs (.replatWrite via 0 bytes last image true) s fun t =>
        t.plat.written = bytes.length ∧ t.spareImage = none ∧ t.plat.active = s.plat.active ∧
        t.svc.writing.map (·.via) = some via ∧ t.pst.queue.take s.pst.queue.length = s.pst.queue ∧ t.out = s.out) ∧
    (∀ offset bytes last image rsvOk, s.mboxOpen via 0xC030 = true → s.sys.state ≠ .braced → s.bit Reg.PLT_CTL 0 = true →
      Runs (.replatWrite via offset bytes last image rsvOk) s fun t =>
        t.getReg Reg.PLT_ERR = BitVec.ofNat 32 0x56800000 ∧ t.out = s.out ++ [.mbox via 0xC030 2 5 [0x56800000, 0]] ∧ t.plat = s.plat) ∧
    (∀ offset (bytes : List Byte) last image, s.mboxOpen via 0xC030 = true → s.sys.state ≠ .braced → s.bit Reg.PLT_CTL 0 = false →
      s.replatBusy = false → s.svc.writing = none → offset % 8 = 0 → bytes ≠ [] → bytes.length ≤ 32768 → bytes.length % 8 = 0 →
      offset ≠ 0 → offset ≠ s.plat.written →
      exec (.replatWrite via offset bytes last image true) s = .next (s.mboxReply via 0xC030 2 7 [])) ∧
    (∀ im sanitizeOk raiseSvn, s.mboxOpen via 0xC030 = true → s.sys.state = .ready → s.svc.background = none →
      s.bit Reg.PLT_CTL 0 = false → s.replatBusy = false → s.svc.writing = none → s.spareImage = some im →
      validateErr (s.platEnv true) im = none →
      (s.replatClass (platOfImage im) = 1 → Runs (.replatApply via sanitizeOk raiseSvn true) s fun t =>
        t.plat.active = some (platOfImage im) ∧ t.plat.lightDeed = true ∧ t.platPhase = 0xA ∧
        t.out = s.out ++ [.mbox via 0xC030 0 0 [0, 1]] ∧ t.cds = s.cds ∧ t.med = s.med ∧ t.sys = s.sys) ∧
      (∀ d, s.replatClass (platOfImage im) = 2 → d ∈ s.port0.decoders ++ s.port1.decoders → d.committed = true →
        Runs (.replatApply via sanitizeOk raiseSvn true) s fun t =>
          t.getReg Reg.PLT_ERR = BitVec.ofNat 32 0x51800000 ∧ t.platPhase = 0xB ∧ t.plat = s.plat ∧
          t.out = s.out ++ [.mbox via 0xC030 2 5 [0x51800000, 2]]) ∧
      (s.replatClass (platOfImage im) = 2 → (∀ d ∈ s.port0.decoders ++ s.port1.decoders, d.committed = false) →
        s.unreleased (platOfImage im) = false → Runs (.replatApply via sanitizeOk raiseSvn true) s fun t =>
          t.plat.pend = some (im, 2) ∧ t.plat.active = s.plat.active ∧ t.platPhase = 9 ∧
          t.regField Reg.PLT_STAT 20 4 = 2 ∧ t.svc.background = some { via := via, opcode := 0xC030 } ∧
          (∃ w ∈ t.cds.work, w.kind = .migrate) ∧ t.out = s.out ++ [.mbox via 0xC030 1 0 [0, 2]] ∧ t.med = s.med)) ∧
    (s.mboxOpen via 0xC030 = true → s.platPhase = 9 → s.plat.pend ≠ none → Runs (.replatAbort via true) s fun t =>
      t.plat.pend = none ∧ t.platPhase = 0 ∧ t.svc.background = none ∧ (∀ w ∈ t.cds.work, w.kind ≠ .migrate) ∧
      t.plat.active = s.plat.active) ∧
    (s.mboxOpen via 0xC030 = true → exec (.replatAbort via false) s = .next (s.mboxReply via 0xC030 2 8 [])) ∧
    (s.reaches via = true → s.platPhase = 9 → s.plat.pend ≠ none → Runs (.pltAbort via) s fun t =>
      t.plat.pend = none ∧ t.platPhase = 0 ∧ t.out = s.out ++ [.regWriteDone via Reg.PLT_CTL]) ∧
    (s.reaches via = true → s.platPhase ≠ 9 → exec (.pltAbort via) s = .next (s.emit (.regWriteDone via Reg.PLT_CTL))) ∧
    (s.reaches via = true → exec (.replatLock via) s = .next ((s.setBits Reg.PLT_CTL 1).emit (.regWriteDone via Reg.PLT_CTL)))
end

