-- ==== Sys2Proof/Laws/SMap.lean ====
section
/-! SUPPORT. Laws of the sparse map: read after write, and that every write keeps the canonical form. -/

namespace Sys2Proof.Machine

section
variable {α : Type} (d : Nat → α) (m : SMap α) (k : Nat) (v : α)

/-- An inserted entry is the only one that may be new. -/
theorem mapInsert_mem {m : SMap α} {k : Nat} {v : α} {e : Nat × α} (h : e ∈ mapInsert m k v) : e = (k, v) ∨ e ∈ m := by
  induction m with
  | nil => exact Or.inl (by simpa [mapInsert] using h)
  | cons a m ih =>
    simp only [mapInsert] at h
    split at h
    · simpa using h
    · split at h
      · rcases List.mem_cons.1 h with h | h
        · exact Or.inl h
        · exact Or.inr (List.mem_cons_of_mem _ h)
      · rcases List.mem_cons.1 h with h | h
        · exact Or.inr (h ▸ List.mem_cons_self)
        · exact (ih h).imp_right (List.mem_cons_of_mem _)

theorem mapInsert_rise {m : SMap α} (k : Nat) (v : α) (h : KeysRise m) : KeysRise (mapInsert m k v) := by
  induction m with
  | nil => simp [mapInsert]
  | cons a m ih =>
    obtain ⟨h1, h2⟩ := List.pairwise_cons.1 h
    simp only [mapInsert]
    split
    · refine List.pairwise_cons.2 ⟨fun e he => ?_, h⟩
      rcases List.mem_cons.1 he with he | he
      · subst he; assumption
      · exact Nat.lt_trans (by assumption) (h1 e he)
    · split
      · subst_vars; exact List.pairwise_cons.2 ⟨h1, h2⟩
      · refine List.pairwise_cons.2 ⟨fun e he => ?_, ih h2⟩
        rcases mapInsert_mem he with he | he
        · subst he; simp only; omega
        · exact h1 e he

theorem mapErase_mem {m : SMap α} {k : Nat} {e : Nat × α} (h : e ∈ mapErase m k) : e ∈ m := (List.mem_filter.1 h).1

/-- Every write keeps the canonical form. -/
theorem mapSet_wf [DecidableEq α] (d : Nat → α) {m : SMap α} (k : Nat) (v : α) (h : MapWf d m) :
    MapWf d (mapSet d m k v) := by
  unfold mapSet
  split
  · exact ⟨h.1.filter _, fun e he => h.2 e (mapErase_mem he)⟩
  · refine ⟨mapInsert_rise k v h.1, fun e he => ?_⟩
    rcases mapInsert_mem he with he | he
    · subst he; assumption
    · exact h.2 e he

/-- Dropping entries keeps the canonical form: this is how a reset acts on the register file. -/
theorem mapFilter_wf [DecidableEq α] (d : Nat → α) {m : SMap α} (p : Nat × α → Bool) (h : MapWf d m) :
    MapWf d (m.filter p) := ⟨h.1.filter p, fun e he => h.2 e (List.mem_filter.1 he).1⟩

/-- Dropping entries by key: the keys kept read as before, the others as unlisted. -/
theorem mapGet_filter (p : Nat → Bool) : mapGet d (m.filter fun e => p e.1) k = if p k then mapGet d m k else d k := by
  induction m with
  | nil => simp [mapGet]
  | cons a m ih =>
    by_cases hp : p a.1 <;> by_cases hk : a.1 = k
    · subst hk; simp [mapGet, hp]
    · simp [mapGet, hp, hk, ih]
    · subst hk; simp [hp, ih]
    · simp [mapGet, hp, hk, ih]

theorem mapGet_insert_same : mapGet d (mapInsert m k v) k = v := by
  induction m with
  | nil => simp [mapInsert, mapGet]
  | cons a m ih =>
    simp only [mapInsert]
    split
    · simp [mapGet]
    · split
      · simp [mapGet]
      · rename_i h; simp [mapGet, ih, Ne.symm h]

theorem mapGet_insert_ne {k k' : Nat} (hne : k' ≠ k) : mapGet d (mapInsert m k v) k' = mapGet d m k' := by
  have hk := hne.symm
  induction m with
  | nil => simp [mapInsert, mapGet, hk]
  | cons a m ih =>
    simp only [mapInsert]
    split
    · simp [mapGet, hk]
    · split
      · subst_vars; simp [mapGet, hk]
      · simp only [mapGet, ih]

/-- A read of the written key gives the written value. -/
theorem mapGet_set_same [DecidableEq α] : mapGet d (mapSet d m k v) k = v := by
  unfold mapSet
  split
  · rw [mapErase, mapGet_filter d m k fun j => j != k]; simp_all
  · exact mapGet_insert_same d m k v

/-- A write leaves every other key alone. -/
theorem mapGet_set_ne [DecidableEq α] {k k' : Nat} (hne : k' ≠ k) : mapGet d (mapSet d m k v) k' = mapGet d m k' := by
  unfold mapSet
  split
  · rw [mapErase, mapGet_filter d m k' fun j => j != k]; simp [hne]
  · exact mapGet_insert_ne d m v hne

/-- The same law for a lookup that says whether the key is listed. -/
theorem mapFind_insert_same : mapFind (mapInsert m k v) k = some v := by
  induction m with
  | nil => simp [mapInsert, mapFind]
  | cons a m ih =>
    simp only [mapInsert]
    split
    · simp [mapFind]
    · split
      · simp [mapFind]
      · rename_i h; simp [mapFind, ih, Ne.symm h]

theorem mapFind_insert_ne {k k' : Nat} (hne : k' ≠ k) : mapFind (mapInsert m k v) k' = mapFind m k' := by
  have hk := hne.symm
  induction m with
  | nil => simp [mapInsert, mapFind, hk]
  | cons a m ih =>
    simp only [mapInsert]
    split
    · simp [mapFind, hk]
    · split
      · subst_vars; simp [mapFind, hk]
      · simp only [mapFind, ih]

theorem mapFind_erase_same : mapFind (mapErase m k) k = none := by
  induction m with
  | nil => rfl
  | cons a m ih =>
    by_cases h : a.1 = k
    · simpa [mapErase, h] using ih
    · simpa [mapErase, h, mapFind] using ih

end

end Sys2Proof.Machine
end

