-- ==== Sys2Proof/Laws/State.lean ====
section
/-! SUPPORT. One lemma per field per update of State: what each update writes, and that it leaves every other field. -/

namespace Sys2Proof.Machine

variable (s : State)

/-! The update of sys. -/

section
variable (g : Sys → Sys)
@[simp] theorem State.modSys_pending : (s.modSys g).pending = s.pending := rfl
@[simp] theorem State.modSys_regs : (s.modSys g).regs = s.regs := rfl
@[simp] theorem State.modSys_bar2 : (s.modSys g).bar2 = s.bar2 := rfl
@[simp] theorem State.modSys_mctp : (s.modSys g).mctp = s.mctp := rfl
@[simp] theorem State.modSys_sys : (s.modSys g).sys = g s.sys := rfl
@[simp] theorem State.modSys_dtm : (s.modSys g).dtm = s.dtm := rfl
@[simp] theorem State.modSys_plat : (s.modSys g).plat = s.plat := rfl
@[simp] theorem State.modSys_port0 : (s.modSys g).port0 = s.port0 := rfl
@[simp] theorem State.modSys_port1 : (s.modSys g).port1 = s.port1 := rfl
@[simp] theorem State.modSys_svc : (s.modSys g).svc = s.svc := rfl
@[simp] theorem State.modSys_stg : (s.modSys g).stg = s.stg := rfl
@[simp] theorem State.modSys_cds : (s.modSys g).cds = s.cds := rfl
@[simp] theorem State.modSys_saved : (s.modSys g).saved = s.saved := rfl
@[simp] theorem State.modSys_med : (s.modSys g).med = s.med := rfl
@[simp] theorem State.modSys_trv : (s.modSys g).trv = s.trv := rfl
@[simp] theorem State.modSys_mdc : (s.modSys g).mdc = s.mdc := rfl
@[simp] theorem State.modSys_pwr : (s.modSys g).pwr = s.pwr := rfl
@[simp] theorem State.modSys_pfl : (s.modSys g).pfl = s.pfl := rfl
@[simp] theorem State.modSys_ime : (s.modSys g).ime = s.ime := rfl
@[simp] theorem State.modSys_cke : (s.modSys g).cke = s.cke := rfl
@[simp] theorem State.modSys_eng : (s.modSys g).eng = s.eng := rfl
@[simp] theorem State.modSys_pst : (s.modSys g).pst = s.pst := rfl
@[simp] theorem State.modSys_evr : (s.modSys g).evr = s.evr := rfl
@[simp] theorem State.modSys_thm : (s.modSys g).thm = s.thm := rfl
@[simp] theorem State.modSys_svy : (s.modSys g).svy = s.svy := rfl
@[simp] theorem State.modSys_out : (s.modSys g).out = s.out := rfl
@[simp] theorem State.modSys_free : (s.modSys g).free = s.free := rfl
end

/-! The update of dtm. -/

section
variable (g : Dtm → Dtm)
@[simp] theorem State.modDtm_pending : (s.modDtm g).pending = s.pending := rfl
@[simp] theorem State.modDtm_regs : (s.modDtm g).regs = s.regs := rfl
@[simp] theorem State.modDtm_bar2 : (s.modDtm g).bar2 = s.bar2 := rfl
@[simp] theorem State.modDtm_mctp : (s.modDtm g).mctp = s.mctp := rfl
@[simp] theorem State.modDtm_sys : (s.modDtm g).sys = s.sys := rfl
@[simp] theorem State.modDtm_dtm : (s.modDtm g).dtm = g s.dtm := rfl
@[simp] theorem State.modDtm_plat : (s.modDtm g).plat = s.plat := rfl
@[simp] theorem State.modDtm_port0 : (s.modDtm g).port0 = s.port0 := rfl
@[simp] theorem State.modDtm_port1 : (s.modDtm g).port1 = s.port1 := rfl
@[simp] theorem State.modDtm_svc : (s.modDtm g).svc = s.svc := rfl
@[simp] theorem State.modDtm_stg : (s.modDtm g).stg = s.stg := rfl
@[simp] theorem State.modDtm_cds : (s.modDtm g).cds = s.cds := rfl
@[simp] theorem State.modDtm_saved : (s.modDtm g).saved = s.saved := rfl
@[simp] theorem State.modDtm_med : (s.modDtm g).med = s.med := rfl
@[simp] theorem State.modDtm_trv : (s.modDtm g).trv = s.trv := rfl
@[simp] theorem State.modDtm_mdc : (s.modDtm g).mdc = s.mdc := rfl
@[simp] theorem State.modDtm_pwr : (s.modDtm g).pwr = s.pwr := rfl
@[simp] theorem State.modDtm_pfl : (s.modDtm g).pfl = s.pfl := rfl
@[simp] theorem State.modDtm_ime : (s.modDtm g).ime = s.ime := rfl
@[simp] theorem State.modDtm_cke : (s.modDtm g).cke = s.cke := rfl
@[simp] theorem State.modDtm_eng : (s.modDtm g).eng = s.eng := rfl
@[simp] theorem State.modDtm_pst : (s.modDtm g).pst = s.pst := rfl
@[simp] theorem State.modDtm_evr : (s.modDtm g).evr = s.evr := rfl
@[simp] theorem State.modDtm_thm : (s.modDtm g).thm = s.thm := rfl
@[simp] theorem State.modDtm_svy : (s.modDtm g).svy = s.svy := rfl
@[simp] theorem State.modDtm_out : (s.modDtm g).out = s.out := rfl
@[simp] theorem State.modDtm_free : (s.modDtm g).free = s.free := rfl
end

/-! The update of plat. -/

section
variable (g : PlatState → PlatState)
@[simp] theorem State.modPlat_pending : (s.modPlat g).pending = s.pending := rfl
@[simp] theorem State.modPlat_regs : (s.modPlat g).regs = s.regs := rfl
@[simp] theorem State.modPlat_bar2 : (s.modPlat g).bar2 = s.bar2 := rfl
@[simp] theorem State.modPlat_mctp : (s.modPlat g).mctp = s.mctp := rfl
@[simp] theorem State.modPlat_sys : (s.modPlat g).sys = s.sys := rfl
@[simp] theorem State.modPlat_dtm : (s.modPlat g).dtm = s.dtm := rfl
@[simp] theorem State.modPlat_plat : (s.modPlat g).plat = g s.plat := rfl
@[simp] theorem State.modPlat_port0 : (s.modPlat g).port0 = s.port0 := rfl
@[simp] theorem State.modPlat_port1 : (s.modPlat g).port1 = s.port1 := rfl
@[simp] theorem State.modPlat_svc : (s.modPlat g).svc = s.svc := rfl
@[simp] theorem State.modPlat_stg : (s.modPlat g).stg = s.stg := rfl
@[simp] theorem State.modPlat_cds : (s.modPlat g).cds = s.cds := rfl
@[simp] theorem State.modPlat_saved : (s.modPlat g).saved = s.saved := rfl
@[simp] theorem State.modPlat_med : (s.modPlat g).med = s.med := rfl
@[simp] theorem State.modPlat_trv : (s.modPlat g).trv = s.trv := rfl
@[simp] theorem State.modPlat_mdc : (s.modPlat g).mdc = s.mdc := rfl
@[simp] theorem State.modPlat_pwr : (s.modPlat g).pwr = s.pwr := rfl
@[simp] theorem State.modPlat_pfl : (s.modPlat g).pfl = s.pfl := rfl
@[simp] theorem State.modPlat_ime : (s.modPlat g).ime = s.ime := rfl
@[simp] theorem State.modPlat_cke : (s.modPlat g).cke = s.cke := rfl
@[simp] theorem State.modPlat_eng : (s.modPlat g).eng = s.eng := rfl
@[simp] theorem State.modPlat_pst : (s.modPlat g).pst = s.pst := rfl
@[simp] theorem State.modPlat_evr : (s.modPlat g).evr = s.evr := rfl
@[simp] theorem State.modPlat_thm : (s.modPlat g).thm = s.thm := rfl
@[simp] theorem State.modPlat_svy : (s.modPlat g).svy = s.svy := rfl
@[simp] theorem State.modPlat_out : (s.modPlat g).out = s.out := rfl
@[simp] theorem State.modPlat_free : (s.modPlat g).free = s.free := rfl
end

/-! The update of svc. -/

section
variable (g : Svc → Svc)
@[simp] theorem State.modSvc_pending : (s.modSvc g).pending = s.pending := rfl
@[simp] theorem State.modSvc_regs : (s.modSvc g).regs = s.regs := rfl
@[simp] theorem State.modSvc_bar2 : (s.modSvc g).bar2 = s.bar2 := rfl
@[simp] theorem State.modSvc_mctp : (s.modSvc g).mctp = s.mctp := rfl
@[simp] theorem State.modSvc_sys : (s.modSvc g).sys = s.sys := rfl
@[simp] theorem State.modSvc_dtm : (s.modSvc g).dtm = s.dtm := rfl
@[simp] theorem State.modSvc_plat : (s.modSvc g).plat = s.plat := rfl
@[simp] theorem State.modSvc_port0 : (s.modSvc g).port0 = s.port0 := rfl
@[simp] theorem State.modSvc_port1 : (s.modSvc g).port1 = s.port1 := rfl
@[simp] theorem State.modSvc_svc : (s.modSvc g).svc = g s.svc := rfl
@[simp] theorem State.modSvc_stg : (s.modSvc g).stg = s.stg := rfl
@[simp] theorem State.modSvc_cds : (s.modSvc g).cds = s.cds := rfl
@[simp] theorem State.modSvc_saved : (s.modSvc g).saved = s.saved := rfl
@[simp] theorem State.modSvc_med : (s.modSvc g).med = s.med := rfl
@[simp] theorem State.modSvc_trv : (s.modSvc g).trv = s.trv := rfl
@[simp] theorem State.modSvc_mdc : (s.modSvc g).mdc = s.mdc := rfl
@[simp] theorem State.modSvc_pwr : (s.modSvc g).pwr = s.pwr := rfl
@[simp] theorem State.modSvc_pfl : (s.modSvc g).pfl = s.pfl := rfl
@[simp] theorem State.modSvc_ime : (s.modSvc g).ime = s.ime := rfl
@[simp] theorem State.modSvc_cke : (s.modSvc g).cke = s.cke := rfl
@[simp] theorem State.modSvc_eng : (s.modSvc g).eng = s.eng := rfl
@[simp] theorem State.modSvc_pst : (s.modSvc g).pst = s.pst := rfl
@[simp] theorem State.modSvc_evr : (s.modSvc g).evr = s.evr := rfl
@[simp] theorem State.modSvc_thm : (s.modSvc g).thm = s.thm := rfl
@[simp] theorem State.modSvc_svy : (s.modSvc g).svy = s.svy := rfl
@[simp] theorem State.modSvc_out : (s.modSvc g).out = s.out := rfl
@[simp] theorem State.modSvc_free : (s.modSvc g).free = s.free := rfl
end

/-! The update of stg. -/

section
variable (g : Stg → Stg)
@[simp] theorem State.modStg_pending : (s.modStg g).pending = s.pending := rfl
@[simp] theorem State.modStg_regs : (s.modStg g).regs = s.regs := rfl
@[simp] theorem State.modStg_bar2 : (s.modStg g).bar2 = s.bar2 := rfl
@[simp] theorem State.modStg_mctp : (s.modStg g).mctp = s.mctp := rfl
@[simp] theorem State.modStg_sys : (s.modStg g).sys = s.sys := rfl
@[simp] theorem State.modStg_dtm : (s.modStg g).dtm = s.dtm := rfl
@[simp] theorem State.modStg_plat : (s.modStg g).plat = s.plat := rfl
@[simp] theorem State.modStg_port0 : (s.modStg g).port0 = s.port0 := rfl
@[simp] theorem State.modStg_port1 : (s.modStg g).port1 = s.port1 := rfl
@[simp] theorem State.modStg_svc : (s.modStg g).svc = s.svc := rfl
@[simp] theorem State.modStg_stg : (s.modStg g).stg = g s.stg := rfl
@[simp] theorem State.modStg_cds : (s.modStg g).cds = s.cds := rfl
@[simp] theorem State.modStg_saved : (s.modStg g).saved = s.saved := rfl
@[simp] theorem State.modStg_med : (s.modStg g).med = s.med := rfl
@[simp] theorem State.modStg_trv : (s.modStg g).trv = s.trv := rfl
@[simp] theorem State.modStg_mdc : (s.modStg g).mdc = s.mdc := rfl
@[simp] theorem State.modStg_pwr : (s.modStg g).pwr = s.pwr := rfl
@[simp] theorem State.modStg_pfl : (s.modStg g).pfl = s.pfl := rfl
@[simp] theorem State.modStg_ime : (s.modStg g).ime = s.ime := rfl
@[simp] theorem State.modStg_cke : (s.modStg g).cke = s.cke := rfl
@[simp] theorem State.modStg_eng : (s.modStg g).eng = s.eng := rfl
@[simp] theorem State.modStg_pst : (s.modStg g).pst = s.pst := rfl
@[simp] theorem State.modStg_evr : (s.modStg g).evr = s.evr := rfl
@[simp] theorem State.modStg_thm : (s.modStg g).thm = s.thm := rfl
@[simp] theorem State.modStg_svy : (s.modStg g).svy = s.svy := rfl
@[simp] theorem State.modStg_out : (s.modStg g).out = s.out := rfl
@[simp] theorem State.modStg_free : (s.modStg g).free = s.free := rfl
end

/-! The update of cds. -/

section
variable (g : Cds → Cds)
@[simp] theorem State.modCds_pending : (s.modCds g).pending = s.pending := rfl
@[simp] theorem State.modCds_regs : (s.modCds g).regs = s.regs := rfl
@[simp] theorem State.modCds_bar2 : (s.modCds g).bar2 = s.bar2 := rfl
@[simp] theorem State.modCds_mctp : (s.modCds g).mctp = s.mctp := rfl
@[simp] theorem State.modCds_sys : (s.modCds g).sys = s.sys := rfl
@[simp] theorem State.modCds_dtm : (s.modCds g).dtm = s.dtm := rfl
@[simp] theorem State.modCds_plat : (s.modCds g).plat = s.plat := rfl
@[simp] theorem State.modCds_port0 : (s.modCds g).port0 = s.port0 := rfl
@[simp] theorem State.modCds_port1 : (s.modCds g).port1 = s.port1 := rfl
@[simp] theorem State.modCds_svc : (s.modCds g).svc = s.svc := rfl
@[simp] theorem State.modCds_stg : (s.modCds g).stg = s.stg := rfl
@[simp] theorem State.modCds_cds : (s.modCds g).cds = g s.cds := rfl
@[simp] theorem State.modCds_saved : (s.modCds g).saved = s.saved := rfl
@[simp] theorem State.modCds_med : (s.modCds g).med = s.med := rfl
@[simp] theorem State.modCds_trv : (s.modCds g).trv = s.trv := rfl
@[simp] theorem State.modCds_mdc : (s.modCds g).mdc = s.mdc := rfl
@[simp] theorem State.modCds_pwr : (s.modCds g).pwr = s.pwr := rfl
@[simp] theorem State.modCds_pfl : (s.modCds g).pfl = s.pfl := rfl
@[simp] theorem State.modCds_ime : (s.modCds g).ime = s.ime := rfl
@[simp] theorem State.modCds_cke : (s.modCds g).cke = s.cke := rfl
@[simp] theorem State.modCds_eng : (s.modCds g).eng = s.eng := rfl
@[simp] theorem State.modCds_pst : (s.modCds g).pst = s.pst := rfl
@[simp] theorem State.modCds_evr : (s.modCds g).evr = s.evr := rfl
@[simp] theorem State.modCds_thm : (s.modCds g).thm = s.thm := rfl
@[simp] theorem State.modCds_svy : (s.modCds g).svy = s.svy := rfl
@[simp] theorem State.modCds_out : (s.modCds g).out = s.out := rfl
@[simp] theorem State.modCds_free : (s.modCds g).free = s.free := rfl
end

/-! The update of saved. -/

section
variable (g : MapSave → MapSave)
@[simp] theorem State.modSaved_pending : (s.modSaved g).pending = s.pending := rfl
@[simp] theorem State.modSaved_regs : (s.modSaved g).regs = s.regs := rfl
@[simp] theorem State.modSaved_bar2 : (s.modSaved g).bar2 = s.bar2 := rfl
@[simp] theorem State.modSaved_mctp : (s.modSaved g).mctp = s.mctp := rfl
@[simp] theorem State.modSaved_sys : (s.modSaved g).sys = s.sys := rfl
@[simp] theorem State.modSaved_dtm : (s.modSaved g).dtm = s.dtm := rfl
@[simp] theorem State.modSaved_plat : (s.modSaved g).plat = s.plat := rfl
@[simp] theorem State.modSaved_port0 : (s.modSaved g).port0 = s.port0 := rfl
@[simp] theorem State.modSaved_port1 : (s.modSaved g).port1 = s.port1 := rfl
@[simp] theorem State.modSaved_svc : (s.modSaved g).svc = s.svc := rfl
@[simp] theorem State.modSaved_stg : (s.modSaved g).stg = s.stg := rfl
@[simp] theorem State.modSaved_cds : (s.modSaved g).cds = s.cds := rfl
@[simp] theorem State.modSaved_saved : (s.modSaved g).saved = g s.saved := rfl
@[simp] theorem State.modSaved_med : (s.modSaved g).med = s.med := rfl
@[simp] theorem State.modSaved_trv : (s.modSaved g).trv = s.trv := rfl
@[simp] theorem State.modSaved_mdc : (s.modSaved g).mdc = s.mdc := rfl
@[simp] theorem State.modSaved_pwr : (s.modSaved g).pwr = s.pwr := rfl
@[simp] theorem State.modSaved_pfl : (s.modSaved g).pfl = s.pfl := rfl
@[simp] theorem State.modSaved_ime : (s.modSaved g).ime = s.ime := rfl
@[simp] theorem State.modSaved_cke : (s.modSaved g).cke = s.cke := rfl
@[simp] theorem State.modSaved_eng : (s.modSaved g).eng = s.eng := rfl
@[simp] theorem State.modSaved_pst : (s.modSaved g).pst = s.pst := rfl
@[simp] theorem State.modSaved_evr : (s.modSaved g).evr = s.evr := rfl
@[simp] theorem State.modSaved_thm : (s.modSaved g).thm = s.thm := rfl
@[simp] theorem State.modSaved_svy : (s.modSaved g).svy = s.svy := rfl
@[simp] theorem State.modSaved_out : (s.modSaved g).out = s.out := rfl
@[simp] theorem State.modSaved_free : (s.modSaved g).free = s.free := rfl
end

/-! The update of med. -/

section
variable (g : (SMap MedLine) → (SMap MedLine))
@[simp] theorem State.modMed_pending : (s.modMed g).pending = s.pending := rfl
@[simp] theorem State.modMed_regs : (s.modMed g).regs = s.regs := rfl
@[simp] theorem State.modMed_bar2 : (s.modMed g).bar2 = s.bar2 := rfl
@[simp] theorem State.modMed_mctp : (s.modMed g).mctp = s.mctp := rfl
@[simp] theorem State.modMed_sys : (s.modMed g).sys = s.sys := rfl
@[simp] theorem State.modMed_dtm : (s.modMed g).dtm = s.dtm := rfl
@[simp] theorem State.modMed_plat : (s.modMed g).plat = s.plat := rfl
@[simp] theorem State.modMed_port0 : (s.modMed g).port0 = s.port0 := rfl
@[simp] theorem State.modMed_port1 : (s.modMed g).port1 = s.port1 := rfl
@[simp] theorem State.modMed_svc : (s.modMed g).svc = s.svc := rfl
@[simp] theorem State.modMed_stg : (s.modMed g).stg = s.stg := rfl
@[simp] theorem State.modMed_cds : (s.modMed g).cds = s.cds := rfl
@[simp] theorem State.modMed_saved : (s.modMed g).saved = s.saved := rfl
@[simp] theorem State.modMed_med : (s.modMed g).med = g s.med := rfl
@[simp] theorem State.modMed_trv : (s.modMed g).trv = s.trv := rfl
@[simp] theorem State.modMed_mdc : (s.modMed g).mdc = s.mdc := rfl
@[simp] theorem State.modMed_pwr : (s.modMed g).pwr = s.pwr := rfl
@[simp] theorem State.modMed_pfl : (s.modMed g).pfl = s.pfl := rfl
@[simp] theorem State.modMed_ime : (s.modMed g).ime = s.ime := rfl
@[simp] theorem State.modMed_cke : (s.modMed g).cke = s.cke := rfl
@[simp] theorem State.modMed_eng : (s.modMed g).eng = s.eng := rfl
@[simp] theorem State.modMed_pst : (s.modMed g).pst = s.pst := rfl
@[simp] theorem State.modMed_evr : (s.modMed g).evr = s.evr := rfl
@[simp] theorem State.modMed_thm : (s.modMed g).thm = s.thm := rfl
@[simp] theorem State.modMed_svy : (s.modMed g).svy = s.svy := rfl
@[simp] theorem State.modMed_out : (s.modMed g).out = s.out := rfl
@[simp] theorem State.modMed_free : (s.modMed g).free = s.free := rfl
end

/-! The update of trv. -/

section
variable (g : Trv → Trv)
@[simp] theorem State.modTrv_pending : (s.modTrv g).pending = s.pending := rfl
@[simp] theorem State.modTrv_regs : (s.modTrv g).regs = s.regs := rfl
@[simp] theorem State.modTrv_bar2 : (s.modTrv g).bar2 = s.bar2 := rfl
@[simp] theorem State.modTrv_mctp : (s.modTrv g).mctp = s.mctp := rfl
@[simp] theorem State.modTrv_sys : (s.modTrv g).sys = s.sys := rfl
@[simp] theorem State.modTrv_dtm : (s.modTrv g).dtm = s.dtm := rfl
@[simp] theorem State.modTrv_plat : (s.modTrv g).plat = s.plat := rfl
@[simp] theorem State.modTrv_port0 : (s.modTrv g).port0 = s.port0 := rfl
@[simp] theorem State.modTrv_port1 : (s.modTrv g).port1 = s.port1 := rfl
@[simp] theorem State.modTrv_svc : (s.modTrv g).svc = s.svc := rfl
@[simp] theorem State.modTrv_stg : (s.modTrv g).stg = s.stg := rfl
@[simp] theorem State.modTrv_cds : (s.modTrv g).cds = s.cds := rfl
@[simp] theorem State.modTrv_saved : (s.modTrv g).saved = s.saved := rfl
@[simp] theorem State.modTrv_med : (s.modTrv g).med = s.med := rfl
@[simp] theorem State.modTrv_trv : (s.modTrv g).trv = g s.trv := rfl
@[simp] theorem State.modTrv_mdc : (s.modTrv g).mdc = s.mdc := rfl
@[simp] theorem State.modTrv_pwr : (s.modTrv g).pwr = s.pwr := rfl
@[simp] theorem State.modTrv_pfl : (s.modTrv g).pfl = s.pfl := rfl
@[simp] theorem State.modTrv_ime : (s.modTrv g).ime = s.ime := rfl
@[simp] theorem State.modTrv_cke : (s.modTrv g).cke = s.cke := rfl
@[simp] theorem State.modTrv_eng : (s.modTrv g).eng = s.eng := rfl
@[simp] theorem State.modTrv_pst : (s.modTrv g).pst = s.pst := rfl
@[simp] theorem State.modTrv_evr : (s.modTrv g).evr = s.evr := rfl
@[simp] theorem State.modTrv_thm : (s.modTrv g).thm = s.thm := rfl
@[simp] theorem State.modTrv_svy : (s.modTrv g).svy = s.svy := rfl
@[simp] theorem State.modTrv_out : (s.modTrv g).out = s.out := rfl
@[simp] theorem State.modTrv_free : (s.modTrv g).free = s.free := rfl
end

/-! The update of mdc. -/

section
variable (g : Mdc → Mdc)
@[simp] theorem State.modMdc_pending : (s.modMdc g).pending = s.pending := rfl
@[simp] theorem State.modMdc_regs : (s.modMdc g).regs = s.regs := rfl
@[simp] theorem State.modMdc_bar2 : (s.modMdc g).bar2 = s.bar2 := rfl
@[simp] theorem State.modMdc_mctp : (s.modMdc g).mctp = s.mctp := rfl
@[simp] theorem State.modMdc_sys : (s.modMdc g).sys = s.sys := rfl
@[simp] theorem State.modMdc_dtm : (s.modMdc g).dtm = s.dtm := rfl
@[simp] theorem State.modMdc_plat : (s.modMdc g).plat = s.plat := rfl
@[simp] theorem State.modMdc_port0 : (s.modMdc g).port0 = s.port0 := rfl
@[simp] theorem State.modMdc_port1 : (s.modMdc g).port1 = s.port1 := rfl
@[simp] theorem State.modMdc_svc : (s.modMdc g).svc = s.svc := rfl
@[simp] theorem State.modMdc_stg : (s.modMdc g).stg = s.stg := rfl
@[simp] theorem State.modMdc_cds : (s.modMdc g).cds = s.cds := rfl
@[simp] theorem State.modMdc_saved : (s.modMdc g).saved = s.saved := rfl
@[simp] theorem State.modMdc_med : (s.modMdc g).med = s.med := rfl
@[simp] theorem State.modMdc_trv : (s.modMdc g).trv = s.trv := rfl
@[simp] theorem State.modMdc_mdc : (s.modMdc g).mdc = g s.mdc := rfl
@[simp] theorem State.modMdc_pwr : (s.modMdc g).pwr = s.pwr := rfl
@[simp] theorem State.modMdc_pfl : (s.modMdc g).pfl = s.pfl := rfl
@[simp] theorem State.modMdc_ime : (s.modMdc g).ime = s.ime := rfl
@[simp] theorem State.modMdc_cke : (s.modMdc g).cke = s.cke := rfl
@[simp] theorem State.modMdc_eng : (s.modMdc g).eng = s.eng := rfl
@[simp] theorem State.modMdc_pst : (s.modMdc g).pst = s.pst := rfl
@[simp] theorem State.modMdc_evr : (s.modMdc g).evr = s.evr := rfl
@[simp] theorem State.modMdc_thm : (s.modMdc g).thm = s.thm := rfl
@[simp] theorem State.modMdc_svy : (s.modMdc g).svy = s.svy := rfl
@[simp] theorem State.modMdc_out : (s.modMdc g).out = s.out := rfl
@[simp] theorem State.modMdc_free : (s.modMdc g).free = s.free := rfl
end

/-! The update of pwr. -/

section
variable (g : Pwr → Pwr)
@[simp] theorem State.modPwr_pending : (s.modPwr g).pending = s.pending := rfl
@[simp] theorem State.modPwr_regs : (s.modPwr g).regs = s.regs := rfl
@[simp] theorem State.modPwr_bar2 : (s.modPwr g).bar2 = s.bar2 := rfl
@[simp] theorem State.modPwr_mctp : (s.modPwr g).mctp = s.mctp := rfl
@[simp] theorem State.modPwr_sys : (s.modPwr g).sys = s.sys := rfl
@[simp] theorem State.modPwr_dtm : (s.modPwr g).dtm = s.dtm := rfl
@[simp] theorem State.modPwr_plat : (s.modPwr g).plat = s.plat := rfl
@[simp] theorem State.modPwr_port0 : (s.modPwr g).port0 = s.port0 := rfl
@[simp] theorem State.modPwr_port1 : (s.modPwr g).port1 = s.port1 := rfl
@[simp] theorem State.modPwr_svc : (s.modPwr g).svc = s.svc := rfl
@[simp] theorem State.modPwr_stg : (s.modPwr g).stg = s.stg := rfl
@[simp] theorem State.modPwr_cds : (s.modPwr g).cds = s.cds := rfl
@[simp] theorem State.modPwr_saved : (s.modPwr g).saved = s.saved := rfl
@[simp] theorem State.modPwr_med : (s.modPwr g).med = s.med := rfl
@[simp] theorem State.modPwr_trv : (s.modPwr g).trv = s.trv := rfl
@[simp] theorem State.modPwr_mdc : (s.modPwr g).mdc = s.mdc := rfl
@[simp] theorem State.modPwr_pwr : (s.modPwr g).pwr = g s.pwr := rfl
@[simp] theorem State.modPwr_pfl : (s.modPwr g).pfl = s.pfl := rfl
@[simp] theorem State.modPwr_ime : (s.modPwr g).ime = s.ime := rfl
@[simp] theorem State.modPwr_cke : (s.modPwr g).cke = s.cke := rfl
@[simp] theorem State.modPwr_eng : (s.modPwr g).eng = s.eng := rfl
@[simp] theorem State.modPwr_pst : (s.modPwr g).pst = s.pst := rfl
@[simp] theorem State.modPwr_evr : (s.modPwr g).evr = s.evr := rfl
@[simp] theorem State.modPwr_thm : (s.modPwr g).thm = s.thm := rfl
@[simp] theorem State.modPwr_svy : (s.modPwr g).svy = s.svy := rfl
@[simp] theorem State.modPwr_out : (s.modPwr g).out = s.out := rfl
@[simp] theorem State.modPwr_free : (s.modPwr g).free = s.free := rfl
end

/-! The update of pfl. -/

section
variable (g : Pfl → Pfl)
@[simp] theorem State.modPfl_pending : (s.modPfl g).pending = s.pending := rfl
@[simp] theorem State.modPfl_regs : (s.modPfl g).regs = s.regs := rfl
@[simp] theorem State.modPfl_bar2 : (s.modPfl g).bar2 = s.bar2 := rfl
@[simp] theorem State.modPfl_mctp : (s.modPfl g).mctp = s.mctp := rfl
@[simp] theorem State.modPfl_sys : (s.modPfl g).sys = s.sys := rfl
@[simp] theorem State.modPfl_dtm : (s.modPfl g).dtm = s.dtm := rfl
@[simp] theorem State.modPfl_plat : (s.modPfl g).plat = s.plat := rfl
@[simp] theorem State.modPfl_port0 : (s.modPfl g).port0 = s.port0 := rfl
@[simp] theorem State.modPfl_port1 : (s.modPfl g).port1 = s.port1 := rfl
@[simp] theorem State.modPfl_svc : (s.modPfl g).svc = s.svc := rfl
@[simp] theorem State.modPfl_stg : (s.modPfl g).stg = s.stg := rfl
@[simp] theorem State.modPfl_cds : (s.modPfl g).cds = s.cds := rfl
@[simp] theorem State.modPfl_saved : (s.modPfl g).saved = s.saved := rfl
@[simp] theorem State.modPfl_med : (s.modPfl g).med = s.med := rfl
@[simp] theorem State.modPfl_trv : (s.modPfl g).trv = s.trv := rfl
@[simp] theorem State.modPfl_mdc : (s.modPfl g).mdc = s.mdc := rfl
@[simp] theorem State.modPfl_pwr : (s.modPfl g).pwr = s.pwr := rfl
@[simp] theorem State.modPfl_pfl : (s.modPfl g).pfl = g s.pfl := rfl
@[simp] theorem State.modPfl_ime : (s.modPfl g).ime = s.ime := rfl
@[simp] theorem State.modPfl_cke : (s.modPfl g).cke = s.cke := rfl
@[simp] theorem State.modPfl_eng : (s.modPfl g).eng = s.eng := rfl
@[simp] theorem State.modPfl_pst : (s.modPfl g).pst = s.pst := rfl
@[simp] theorem State.modPfl_evr : (s.modPfl g).evr = s.evr := rfl
@[simp] theorem State.modPfl_thm : (s.modPfl g).thm = s.thm := rfl
@[simp] theorem State.modPfl_svy : (s.modPfl g).svy = s.svy := rfl
@[simp] theorem State.modPfl_out : (s.modPfl g).out = s.out := rfl
@[simp] theorem State.modPfl_free : (s.modPfl g).free = s.free := rfl
end

/-! The update of ime. -/

section
variable (g : Ime → Ime)
@[simp] theorem State.modIme_pending : (s.modIme g).pending = s.pending := rfl
@[simp] theorem State.modIme_regs : (s.modIme g).regs = s.regs := rfl
@[simp] theorem State.modIme_bar2 : (s.modIme g).bar2 = s.bar2 := rfl
@[simp] theorem State.modIme_mctp : (s.modIme g).mctp = s.mctp := rfl
@[simp] theorem State.modIme_sys : (s.modIme g).sys = s.sys := rfl
@[simp] theorem State.modIme_dtm : (s.modIme g).dtm = s.dtm := rfl
@[simp] theorem State.modIme_plat : (s.modIme g).plat = s.plat := rfl
@[simp] theorem State.modIme_port0 : (s.modIme g).port0 = s.port0 := rfl
@[simp] theorem State.modIme_port1 : (s.modIme g).port1 = s.port1 := rfl
@[simp] theorem State.modIme_svc : (s.modIme g).svc = s.svc := rfl
@[simp] theorem State.modIme_stg : (s.modIme g).stg = s.stg := rfl
@[simp] theorem State.modIme_cds : (s.modIme g).cds = s.cds := rfl
@[simp] theorem State.modIme_saved : (s.modIme g).saved = s.saved := rfl
@[simp] theorem State.modIme_med : (s.modIme g).med = s.med := rfl
@[simp] theorem State.modIme_trv : (s.modIme g).trv = s.trv := rfl
@[simp] theorem State.modIme_mdc : (s.modIme g).mdc = s.mdc := rfl
@[simp] theorem State.modIme_pwr : (s.modIme g).pwr = s.pwr := rfl
@[simp] theorem State.modIme_pfl : (s.modIme g).pfl = s.pfl := rfl
@[simp] theorem State.modIme_ime : (s.modIme g).ime = g s.ime := rfl
@[simp] theorem State.modIme_cke : (s.modIme g).cke = s.cke := rfl
@[simp] theorem State.modIme_eng : (s.modIme g).eng = s.eng := rfl
@[simp] theorem State.modIme_pst : (s.modIme g).pst = s.pst := rfl
@[simp] theorem State.modIme_evr : (s.modIme g).evr = s.evr := rfl
@[simp] theorem State.modIme_thm : (s.modIme g).thm = s.thm := rfl
@[simp] theorem State.modIme_svy : (s.modIme g).svy = s.svy := rfl
@[simp] theorem State.modIme_out : (s.modIme g).out = s.out := rfl
@[simp] theorem State.modIme_free : (s.modIme g).free = s.free := rfl
end

/-! The update of cke. -/

section
variable (g : Cke → Cke)
@[simp] theorem State.modCke_pending : (s.modCke g).pending = s.pending := rfl
@[simp] theorem State.modCke_regs : (s.modCke g).regs = s.regs := rfl
@[simp] theorem State.modCke_bar2 : (s.modCke g).bar2 = s.bar2 := rfl
@[simp] theorem State.modCke_mctp : (s.modCke g).mctp = s.mctp := rfl
@[simp] theorem State.modCke_sys : (s.modCke g).sys = s.sys := rfl
@[simp] theorem State.modCke_dtm : (s.modCke g).dtm = s.dtm := rfl
@[simp] theorem State.modCke_plat : (s.modCke g).plat = s.plat := rfl
@[simp] theorem State.modCke_port0 : (s.modCke g).port0 = s.port0 := rfl
@[simp] theorem State.modCke_port1 : (s.modCke g).port1 = s.port1 := rfl
@[simp] theorem State.modCke_svc : (s.modCke g).svc = s.svc := rfl
@[simp] theorem State.modCke_stg : (s.modCke g).stg = s.stg := rfl
@[simp] theorem State.modCke_cds : (s.modCke g).cds = s.cds := rfl
@[simp] theorem State.modCke_saved : (s.modCke g).saved = s.saved := rfl
@[simp] theorem State.modCke_med : (s.modCke g).med = s.med := rfl
@[simp] theorem State.modCke_trv : (s.modCke g).trv = s.trv := rfl
@[simp] theorem State.modCke_mdc : (s.modCke g).mdc = s.mdc := rfl
@[simp] theorem State.modCke_pwr : (s.modCke g).pwr = s.pwr := rfl
@[simp] theorem State.modCke_pfl : (s.modCke g).pfl = s.pfl := rfl
@[simp] theorem State.modCke_ime : (s.modCke g).ime = s.ime := rfl
@[simp] theorem State.modCke_cke : (s.modCke g).cke = g s.cke := rfl
@[simp] theorem State.modCke_eng : (s.modCke g).eng = s.eng := rfl
@[simp] theorem State.modCke_pst : (s.modCke g).pst = s.pst := rfl
@[simp] theorem State.modCke_evr : (s.modCke g).evr = s.evr := rfl
@[simp] theorem State.modCke_thm : (s.modCke g).thm = s.thm := rfl
@[simp] theorem State.modCke_svy : (s.modCke g).svy = s.svy := rfl
@[simp] theorem State.modCke_out : (s.modCke g).out = s.out := rfl
@[simp] theorem State.modCke_free : (s.modCke g).free = s.free := rfl
end

/-! The update of eng. -/

section
variable (g : Eng → Eng)
@[simp] theorem State.modEng_pending : (s.modEng g).pending = s.pending := rfl
@[simp] theorem State.modEng_regs : (s.modEng g).regs = s.regs := rfl
@[simp] theorem State.modEng_bar2 : (s.modEng g).bar2 = s.bar2 := rfl
@[simp] theorem State.modEng_mctp : (s.modEng g).mctp = s.mctp := rfl
@[simp] theorem State.modEng_sys : (s.modEng g).sys = s.sys := rfl
@[simp] theorem State.modEng_dtm : (s.modEng g).dtm = s.dtm := rfl
@[simp] theorem State.modEng_plat : (s.modEng g).plat = s.plat := rfl
@[simp] theorem State.modEng_port0 : (s.modEng g).port0 = s.port0 := rfl
@[simp] theorem State.modEng_port1 : (s.modEng g).port1 = s.port1 := rfl
@[simp] theorem State.modEng_svc : (s.modEng g).svc = s.svc := rfl
@[simp] theorem State.modEng_stg : (s.modEng g).stg = s.stg := rfl
@[simp] theorem State.modEng_cds : (s.modEng g).cds = s.cds := rfl
@[simp] theorem State.modEng_saved : (s.modEng g).saved = s.saved := rfl
@[simp] theorem State.modEng_med : (s.modEng g).med = s.med := rfl
@[simp] theorem State.modEng_trv : (s.modEng g).trv = s.trv := rfl
@[simp] theorem State.modEng_mdc : (s.modEng g).mdc = s.mdc := rfl
@[simp] theorem State.modEng_pwr : (s.modEng g).pwr = s.pwr := rfl
@[simp] theorem State.modEng_pfl : (s.modEng g).pfl = s.pfl := rfl
@[simp] theorem State.modEng_ime : (s.modEng g).ime = s.ime := rfl
@[simp] theorem State.modEng_cke : (s.modEng g).cke = s.cke := rfl
@[simp] theorem State.modEng_eng : (s.modEng g).eng = g s.eng := rfl
@[simp] theorem State.modEng_pst : (s.modEng g).pst = s.pst := rfl
@[simp] theorem State.modEng_evr : (s.modEng g).evr = s.evr := rfl
@[simp] theorem State.modEng_thm : (s.modEng g).thm = s.thm := rfl
@[simp] theorem State.modEng_svy : (s.modEng g).svy = s.svy := rfl
@[simp] theorem State.modEng_out : (s.modEng g).out = s.out := rfl
@[simp] theorem State.modEng_free : (s.modEng g).free = s.free := rfl
end

/-! The update of pst. -/

section
variable (g : Pst → Pst)
@[simp] theorem State.modPst_pending : (s.modPst g).pending = s.pending := rfl
@[simp] theorem State.modPst_regs : (s.modPst g).regs = s.regs := rfl
@[simp] theorem State.modPst_bar2 : (s.modPst g).bar2 = s.bar2 := rfl
@[simp] theorem State.modPst_mctp : (s.modPst g).mctp = s.mctp := rfl
@[simp] theorem State.modPst_sys : (s.modPst g).sys = s.sys := rfl
@[simp] theorem State.modPst_dtm : (s.modPst g).dtm = s.dtm := rfl
@[simp] theorem State.modPst_plat : (s.modPst g).plat = s.plat := rfl
@[simp] theorem State.modPst_port0 : (s.modPst g).port0 = s.port0 := rfl
@[simp] theorem State.modPst_port1 : (s.modPst g).port1 = s.port1 := rfl
@[simp] theorem State.modPst_svc : (s.modPst g).svc = s.svc := rfl
@[simp] theorem State.modPst_stg : (s.modPst g).stg = s.stg := rfl
@[simp] theorem State.modPst_cds : (s.modPst g).cds = s.cds := rfl
@[simp] theorem State.modPst_saved : (s.modPst g).saved = s.saved := rfl
@[simp] theorem State.modPst_med : (s.modPst g).med = s.med := rfl
@[simp] theorem State.modPst_trv : (s.modPst g).trv = s.trv := rfl
@[simp] theorem State.modPst_mdc : (s.modPst g).mdc = s.mdc := rfl
@[simp] theorem State.modPst_pwr : (s.modPst g).pwr = s.pwr := rfl
@[simp] theorem State.modPst_pfl : (s.modPst g).pfl = s.pfl := rfl
@[simp] theorem State.modPst_ime : (s.modPst g).ime = s.ime := rfl
@[simp] theorem State.modPst_cke : (s.modPst g).cke = s.cke := rfl
@[simp] theorem State.modPst_eng : (s.modPst g).eng = s.eng := rfl
@[simp] theorem State.modPst_pst : (s.modPst g).pst = g s.pst := rfl
@[simp] theorem State.modPst_evr : (s.modPst g).evr = s.evr := rfl
@[simp] theorem State.modPst_thm : (s.modPst g).thm = s.thm := rfl
@[simp] theorem State.modPst_svy : (s.modPst g).svy = s.svy := rfl
@[simp] theorem State.modPst_out : (s.modPst g).out = s.out := rfl
@[simp] theorem State.modPst_free : (s.modPst g).free = s.free := rfl
end

/-! The update of evr. -/

section
variable (g : Evr → Evr)
@[simp] theorem State.modEvr_pending : (s.modEvr g).pending = s.pending := rfl
@[simp] theorem State.modEvr_regs : (s.modEvr g).regs = s.regs := rfl
@[simp] theorem State.modEvr_bar2 : (s.modEvr g).bar2 = s.bar2 := rfl
@[simp] theorem State.modEvr_mctp : (s.modEvr g).mctp = s.mctp := rfl
@[simp] theorem State.modEvr_sys : (s.modEvr g).sys = s.sys := rfl
@[simp] theorem State.modEvr_dtm : (s.modEvr g).dtm = s.dtm := rfl
@[simp] theorem State.modEvr_plat : (s.modEvr g).plat = s.plat := rfl
@[simp] theorem State.modEvr_port0 : (s.modEvr g).port0 = s.port0 := rfl
@[simp] theorem State.modEvr_port1 : (s.modEvr g).port1 = s.port1 := rfl
@[simp] theorem State.modEvr_svc : (s.modEvr g).svc = s.svc := rfl
@[simp] theorem State.modEvr_stg : (s.modEvr g).stg = s.stg := rfl
@[simp] theorem State.modEvr_cds : (s.modEvr g).cds = s.cds := rfl
@[simp] theorem State.modEvr_saved : (s.modEvr g).saved = s.saved := rfl
@[simp] theorem State.modEvr_med : (s.modEvr g).med = s.med := rfl
@[simp] theorem State.modEvr_trv : (s.modEvr g).trv = s.trv := rfl
@[simp] theorem State.modEvr_mdc : (s.modEvr g).mdc = s.mdc := rfl
@[simp] theorem State.modEvr_pwr : (s.modEvr g).pwr = s.pwr := rfl
@[simp] theorem State.modEvr_pfl : (s.modEvr g).pfl = s.pfl := rfl
@[simp] theorem State.modEvr_ime : (s.modEvr g).ime = s.ime := rfl
@[simp] theorem State.modEvr_cke : (s.modEvr g).cke = s.cke := rfl
@[simp] theorem State.modEvr_eng : (s.modEvr g).eng = s.eng := rfl
@[simp] theorem State.modEvr_pst : (s.modEvr g).pst = s.pst := rfl
@[simp] theorem State.modEvr_evr : (s.modEvr g).evr = g s.evr := rfl
@[simp] theorem State.modEvr_thm : (s.modEvr g).thm = s.thm := rfl
@[simp] theorem State.modEvr_svy : (s.modEvr g).svy = s.svy := rfl
@[simp] theorem State.modEvr_out : (s.modEvr g).out = s.out := rfl
@[simp] theorem State.modEvr_free : (s.modEvr g).free = s.free := rfl
end

/-! The update of thm. -/

section
variable (g : Thm → Thm)
@[simp] theorem State.modThm_pending : (s.modThm g).pending = s.pending := rfl
@[simp] theorem State.modThm_regs : (s.modThm g).regs = s.regs := rfl
@[simp] theorem State.modThm_bar2 : (s.modThm g).bar2 = s.bar2 := rfl
@[simp] theorem State.modThm_mctp : (s.modThm g).mctp = s.mctp := rfl
@[simp] theorem State.modThm_sys : (s.modThm g).sys = s.sys := rfl
@[simp] theorem State.modThm_dtm : (s.modThm g).dtm = s.dtm := rfl
@[simp] theorem State.modThm_plat : (s.modThm g).plat = s.plat := rfl
@[simp] theorem State.modThm_port0 : (s.modThm g).port0 = s.port0 := rfl
@[simp] theorem State.modThm_port1 : (s.modThm g).port1 = s.port1 := rfl
@[simp] theorem State.modThm_svc : (s.modThm g).svc = s.svc := rfl
@[simp] theorem State.modThm_stg : (s.modThm g).stg = s.stg := rfl
@[simp] theorem State.modThm_cds : (s.modThm g).cds = s.cds := rfl
@[simp] theorem State.modThm_saved : (s.modThm g).saved = s.saved := rfl
@[simp] theorem State.modThm_med : (s.modThm g).med = s.med := rfl
@[simp] theorem State.modThm_trv : (s.modThm g).trv = s.trv := rfl
@[simp] theorem State.modThm_mdc : (s.modThm g).mdc = s.mdc := rfl
@[simp] theorem State.modThm_pwr : (s.modThm g).pwr = s.pwr := rfl
@[simp] theorem State.modThm_pfl : (s.modThm g).pfl = s.pfl := rfl
@[simp] theorem State.modThm_ime : (s.modThm g).ime = s.ime := rfl
@[simp] theorem State.modThm_cke : (s.modThm g).cke = s.cke := rfl
@[simp] theorem State.modThm_eng : (s.modThm g).eng = s.eng := rfl
@[simp] theorem State.modThm_pst : (s.modThm g).pst = s.pst := rfl
@[simp] theorem State.modThm_evr : (s.modThm g).evr = s.evr := rfl
@[simp] theorem State.modThm_thm : (s.modThm g).thm = g s.thm := rfl
@[simp] theorem State.modThm_svy : (s.modThm g).svy = s.svy := rfl
@[simp] theorem State.modThm_out : (s.modThm g).out = s.out := rfl
@[simp] theorem State.modThm_free : (s.modThm g).free = s.free := rfl
end

/-! The update of svy. -/

section
variable (g : Svy → Svy)
@[simp] theorem State.modSvy_pending : (s.modSvy g).pending = s.pending := rfl
@[simp] theorem State.modSvy_regs : (s.modSvy g).regs = s.regs := rfl
@[simp] theorem State.modSvy_bar2 : (s.modSvy g).bar2 = s.bar2 := rfl
@[simp] theorem State.modSvy_mctp : (s.modSvy g).mctp = s.mctp := rfl
@[simp] theorem State.modSvy_sys : (s.modSvy g).sys = s.sys := rfl
@[simp] theorem State.modSvy_dtm : (s.modSvy g).dtm = s.dtm := rfl
@[simp] theorem State.modSvy_plat : (s.modSvy g).plat = s.plat := rfl
@[simp] theorem State.modSvy_port0 : (s.modSvy g).port0 = s.port0 := rfl
@[simp] theorem State.modSvy_port1 : (s.modSvy g).port1 = s.port1 := rfl
@[simp] theorem State.modSvy_svc : (s.modSvy g).svc = s.svc := rfl
@[simp] theorem State.modSvy_stg : (s.modSvy g).stg = s.stg := rfl
@[simp] theorem State.modSvy_cds : (s.modSvy g).cds = s.cds := rfl
@[simp] theorem State.modSvy_saved : (s.modSvy g).saved = s.saved := rfl
@[simp] theorem State.modSvy_med : (s.modSvy g).med = s.med := rfl
@[simp] theorem State.modSvy_trv : (s.modSvy g).trv = s.trv := rfl
@[simp] theorem State.modSvy_mdc : (s.modSvy g).mdc = s.mdc := rfl
@[simp] theorem State.modSvy_pwr : (s.modSvy g).pwr = s.pwr := rfl
@[simp] theorem State.modSvy_pfl : (s.modSvy g).pfl = s.pfl := rfl
@[simp] theorem State.modSvy_ime : (s.modSvy g).ime = s.ime := rfl
@[simp] theorem State.modSvy_cke : (s.modSvy g).cke = s.cke := rfl
@[simp] theorem State.modSvy_eng : (s.modSvy g).eng = s.eng := rfl
@[simp] theorem State.modSvy_pst : (s.modSvy g).pst = s.pst := rfl
@[simp] theorem State.modSvy_evr : (s.modSvy g).evr = s.evr := rfl
@[simp] theorem State.modSvy_thm : (s.modSvy g).thm = s.thm := rfl
@[simp] theorem State.modSvy_svy : (s.modSvy g).svy = g s.svy := rfl
@[simp] theorem State.modSvy_out : (s.modSvy g).out = s.out := rfl
@[simp] theorem State.modSvy_free : (s.modSvy g).free = s.free := rfl
end

/-! The register file and messages. -/

@[simp] theorem State.setReg_pending (o : Nat) (v : Word) : (s.setReg o v).pending = s.pending := rfl
@[simp] theorem State.setReg_bar2 (o : Nat) (v : Word) : (s.setReg o v).bar2 = s.bar2 := rfl
@[simp] theorem State.setReg_mctp (o : Nat) (v : Word) : (s.setReg o v).mctp = s.mctp := rfl
@[simp] theorem State.setReg_sys (o : Nat) (v : Word) : (s.setReg o v).sys = s.sys := rfl
@[simp] theorem State.setReg_dtm (o : Nat) (v : Word) : (s.setReg o v).dtm = s.dtm := rfl
@[simp] theorem State.setReg_plat (o : Nat) (v : Word) : (s.setReg o v).plat = s.plat := rfl
@[simp] theorem State.setReg_port0 (o : Nat) (v : Word) : (s.setReg o v).port0 = s.port0 := rfl
@[simp] theorem State.setReg_port1 (o : Nat) (v : Word) : (s.setReg o v).port1 = s.port1 := rfl
@[simp] theorem State.setReg_svc (o : Nat) (v : Word) : (s.setReg o v).svc = s.svc := rfl
@[simp] theorem State.setReg_stg (o : Nat) (v : Word) : (s.setReg o v).stg = s.stg := rfl
@[simp] theorem State.setReg_cds (o : Nat) (v : Word) : (s.setReg o v).cds = s.cds := rfl
@[simp] theorem State.setReg_saved (o : Nat) (v : Word) : (s.setReg o v).saved = s.saved := rfl
@[simp] theorem State.setReg_med (o : Nat) (v : Word) : (s.setReg o v).med = s.med := rfl
@[simp] theorem State.setReg_trv (o : Nat) (v : Word) : (s.setReg o v).trv = s.trv := rfl
@[simp] theorem State.setReg_mdc (o : Nat) (v : Word) : (s.setReg o v).mdc = s.mdc := rfl
@[simp] theorem State.setReg_pwr (o : Nat) (v : Word) : (s.setReg o v).pwr = s.pwr := rfl
@[simp] theorem State.setReg_pfl (o : Nat) (v : Word) : (s.setReg o v).pfl = s.pfl := rfl
@[simp] theorem State.setReg_ime (o : Nat) (v : Word) : (s.setReg o v).ime = s.ime := rfl
@[simp] theorem State.setReg_cke (o : Nat) (v : Word) : (s.setReg o v).cke = s.cke := rfl
@[simp] theorem State.setReg_eng (o : Nat) (v : Word) : (s.setReg o v).eng = s.eng := rfl
@[simp] theorem State.setReg_pst (o : Nat) (v : Word) : (s.setReg o v).pst = s.pst := rfl
@[simp] theorem State.setReg_evr (o : Nat) (v : Word) : (s.setReg o v).evr = s.evr := rfl
@[simp] theorem State.setReg_thm (o : Nat) (v : Word) : (s.setReg o v).thm = s.thm := rfl
@[simp] theorem State.setReg_svy (o : Nat) (v : Word) : (s.setReg o v).svy = s.svy := rfl
@[simp] theorem State.setReg_out (o : Nat) (v : Word) : (s.setReg o v).out = s.out := rfl
@[simp] theorem State.setReg_free (o : Nat) (v : Word) : (s.setReg o v).free = s.free := rfl
@[simp] theorem State.setReg_regs (o : Nat) (v : Word) : (s.setReg o v).regs = mapSet regReset s.regs o v := rfl

@[simp] theorem State.emit_pending (m : Output) : (s.emit m).pending = s.pending := rfl
@[simp] theorem State.emit_regs (m : Output) : (s.emit m).regs = s.regs := rfl
@[simp] theorem State.emit_bar2 (m : Output) : (s.emit m).bar2 = s.bar2 := rfl
@[simp] theorem State.emit_mctp (m : Output) : (s.emit m).mctp = s.mctp := rfl
@[simp] theorem State.emit_sys (m : Output) : (s.emit m).sys = s.sys := rfl
@[simp] theorem State.emit_dtm (m : Output) : (s.emit m).dtm = s.dtm := rfl
@[simp] theorem State.emit_plat (m : Output) : (s.emit m).plat = s.plat := rfl
@[simp] theorem State.emit_port0 (m : Output) : (s.emit m).port0 = s.port0 := rfl
@[simp] theorem State.emit_port1 (m : Output) : (s.emit m).port1 = s.port1 := rfl
@[simp] theorem State.emit_svc (m : Output) : (s.emit m).svc = s.svc := rfl
@[simp] theorem State.emit_stg (m : Output) : (s.emit m).stg = s.stg := rfl
@[simp] theorem State.emit_cds (m : Output) : (s.emit m).cds = s.cds := rfl
@[simp] theorem State.emit_saved (m : Output) : (s.emit m).saved = s.saved := rfl
@[simp] theorem State.emit_med (m : Output) : (s.emit m).med = s.med := rfl
@[simp] theorem State.emit_trv (m : Output) : (s.emit m).trv = s.trv := rfl
@[simp] theorem State.emit_mdc (m : Output) : (s.emit m).mdc = s.mdc := rfl
@[simp] theorem State.emit_pwr (m : Output) : (s.emit m).pwr = s.pwr := rfl
@[simp] theorem State.emit_pfl (m : Output) : (s.emit m).pfl = s.pfl := rfl
@[simp] theorem State.emit_ime (m : Output) : (s.emit m).ime = s.ime := rfl
@[simp] theorem State.emit_cke (m : Output) : (s.emit m).cke = s.cke := rfl
@[simp] theorem State.emit_eng (m : Output) : (s.emit m).eng = s.eng := rfl
@[simp] theorem State.emit_pst (m : Output) : (s.emit m).pst = s.pst := rfl
@[simp] theorem State.emit_evr (m : Output) : (s.emit m).evr = s.evr := rfl
@[simp] theorem State.emit_thm (m : Output) : (s.emit m).thm = s.thm := rfl
@[simp] theorem State.emit_svy (m : Output) : (s.emit m).svy = s.svy := rfl
@[simp] theorem State.emit_free (m : Output) : (s.emit m).free = s.free := rfl
@[simp] theorem State.emit_out (m : Output) : (s.emit m).out = s.out ++ [m] := rfl

@[simp] theorem State.useFree_pending : s.useFree.pending = s.pending := rfl
@[simp] theorem State.useFree_regs : s.useFree.regs = s.regs := rfl
@[simp] theorem State.useFree_bar2 : s.useFree.bar2 = s.bar2 := rfl
@[simp] theorem State.useFree_mctp : s.useFree.mctp = s.mctp := rfl
@[simp] theorem State.useFree_sys : s.useFree.sys = s.sys := rfl
@[simp] theorem State.useFree_dtm : s.useFree.dtm = s.dtm := rfl
@[simp] theorem State.useFree_plat : s.useFree.plat = s.plat := rfl
@[simp] theorem State.useFree_port0 : s.useFree.port0 = s.port0 := rfl
@[simp] theorem State.useFree_port1 : s.useFree.port1 = s.port1 := rfl
@[simp] theorem State.useFree_svc : s.useFree.svc = s.svc := rfl
@[simp] theorem State.useFree_stg : s.useFree.stg = s.stg := rfl
@[simp] theorem State.useFree_cds : s.useFree.cds = s.cds := rfl
@[simp] theorem State.useFree_saved : s.useFree.saved = s.saved := rfl
@[simp] theorem State.useFree_med : s.useFree.med = s.med := rfl
@[simp] theorem State.useFree_trv : s.useFree.trv = s.trv := rfl
@[simp] theorem State.useFree_mdc : s.useFree.mdc = s.mdc := rfl
@[simp] theorem State.useFree_pwr : s.useFree.pwr = s.pwr := rfl
@[simp] theorem State.useFree_pfl : s.useFree.pfl = s.pfl := rfl
@[simp] theorem State.useFree_ime : s.useFree.ime = s.ime := rfl
@[simp] theorem State.useFree_cke : s.useFree.cke = s.cke := rfl
@[simp] theorem State.useFree_eng : s.useFree.eng = s.eng := rfl
@[simp] theorem State.useFree_pst : s.useFree.pst = s.pst := rfl
@[simp] theorem State.useFree_evr : s.useFree.evr = s.evr := rfl
@[simp] theorem State.useFree_thm : s.useFree.thm = s.thm := rfl
@[simp] theorem State.useFree_svy : s.useFree.svy = s.svy := rfl
@[simp] theorem State.useFree_out : s.useFree.out = s.out := rfl
@[simp] theorem State.useFree_free : s.useFree.free = s.free + 1 := rfl

@[simp] theorem State.useFrees_pending (k : Nat) : (s.useFrees k).pending = s.pending := rfl
@[simp] theorem State.useFrees_regs (k : Nat) : (s.useFrees k).regs = s.regs := rfl
@[simp] theorem State.useFrees_bar2 (k : Nat) : (s.useFrees k).bar2 = s.bar2 := rfl
@[simp] theorem State.useFrees_mctp (k : Nat) : (s.useFrees k).mctp = s.mctp := rfl
@[simp] theorem State.useFrees_sys (k : Nat) : (s.useFrees k).sys = s.sys := rfl
@[simp] theorem State.useFrees_dtm (k : Nat) : (s.useFrees k).dtm = s.dtm := rfl
@[simp] theorem State.useFrees_plat (k : Nat) : (s.useFrees k).plat = s.plat := rfl
@[simp] theorem State.useFrees_port0 (k : Nat) : (s.useFrees k).port0 = s.port0 := rfl
@[simp] theorem State.useFrees_port1 (k : Nat) : (s.useFrees k).port1 = s.port1 := rfl
@[simp] theorem State.useFrees_svc (k : Nat) : (s.useFrees k).svc = s.svc := rfl
@[simp] theorem State.useFrees_stg (k : Nat) : (s.useFrees k).stg = s.stg := rfl
@[simp] theorem State.useFrees_cds (k : Nat) : (s.useFrees k).cds = s.cds := rfl
@[simp] theorem State.useFrees_saved (k : Nat) : (s.useFrees k).saved = s.saved := rfl
@[simp] theorem State.useFrees_med (k : Nat) : (s.useFrees k).med = s.med := rfl
@[simp] theorem State.useFrees_trv (k : Nat) : (s.useFrees k).trv = s.trv := rfl
@[simp] theorem State.useFrees_mdc (k : Nat) : (s.useFrees k).mdc = s.mdc := rfl
@[simp] theorem State.useFrees_pwr (k : Nat) : (s.useFrees k).pwr = s.pwr := rfl
@[simp] theorem State.useFrees_pfl (k : Nat) : (s.useFrees k).pfl = s.pfl := rfl
@[simp] theorem State.useFrees_ime (k : Nat) : (s.useFrees k).ime = s.ime := rfl
@[simp] theorem State.useFrees_cke (k : Nat) : (s.useFrees k).cke = s.cke := rfl
@[simp] theorem State.useFrees_eng (k : Nat) : (s.useFrees k).eng = s.eng := rfl
@[simp] theorem State.useFrees_pst (k : Nat) : (s.useFrees k).pst = s.pst := rfl
@[simp] theorem State.useFrees_evr (k : Nat) : (s.useFrees k).evr = s.evr := rfl
@[simp] theorem State.useFrees_thm (k : Nat) : (s.useFrees k).thm = s.thm := rfl
@[simp] theorem State.useFrees_svy (k : Nat) : (s.useFrees k).svy = s.svy := rfl
@[simp] theorem State.useFrees_out (k : Nat) : (s.useFrees k).out = s.out := rfl
@[simp] theorem State.useFrees_free (k : Nat) : (s.useFrees k).free = s.free + k := rfl

@[simp] theorem State.modShadow_pending (q : Requester) (g : Shadow → Shadow) : (s.modShadow q g).pending = s.pending := by
  cases q <;> rfl
@[simp] theorem State.modShadow_regs (q : Requester) (g : Shadow → Shadow) : (s.modShadow q g).regs = s.regs := by
  cases q <;> rfl
@[simp] theorem State.modShadow_sys (q : Requester) (g : Shadow → Shadow) : (s.modShadow q g).sys = s.sys := by
  cases q <;> rfl
@[simp] theorem State.modShadow_dtm (q : Requester) (g : Shadow → Shadow) : (s.modShadow q g).dtm = s.dtm := by
  cases q <;> rfl
@[simp] theorem State.modShadow_plat (q : Requester) (g : Shadow → Shadow) : (s.modShadow q g).plat = s.plat := by
  cases q <;> rfl
@[simp] theorem State.modShadow_port0 (q : Requester) (g : Shadow → Shadow) : (s.modShadow q g).port0 = s.port0 := by
  cases q <;> rfl
@[simp] theorem State.modShadow_port1 (q : Requester) (g : Shadow → Shadow) : (s.modShadow q g).port1 = s.port1 := by
  cases q <;> rfl
@[simp] theorem State.modShadow_svc (q : Requester) (g : Shadow → Shadow) : (s.modShadow q g).svc = s.svc := by
  cases q <;> rfl
@[simp] theorem State.modShadow_stg (q : Requester) (g : Shadow → Shadow) : (s.modShadow q g).stg = s.stg := by
  cases q <;> rfl
@[simp] theorem State.modShadow_cds (q : Requester) (g : Shadow → Shadow) : (s.modShadow q g).cds = s.cds := by
  cases q <;> rfl
@[simp] theorem State.modShadow_saved (q : Requester) (g : Shadow → Shadow) : (s.modShadow q g).saved = s.saved := by
  cases q <;> rfl
@[simp] theorem State.modShadow_med (q : Requester) (g : Shadow → Shadow) : (s.modShadow q g).med = s.med := by
  cases q <;> rfl
@[simp] theorem State.modShadow_trv (q : Requester) (g : Shadow → Shadow) : (s.modShadow q g).trv = s.trv := by
  cases q <;> rfl
@[simp] theorem State.modShadow_mdc (q : Requester) (g : Shadow → Shadow) : (s.modShadow q g).mdc = s.mdc := by
  cases q <;> rfl
@[simp] theorem State.modShadow_pwr (q : Requester) (g : Shadow → Shadow) : (s.modShadow q g).pwr = s.pwr := by
  cases q <;> rfl
@[simp] theorem State.modShadow_pfl (q : Requester) (g : Shadow → Shadow) : (s.modShadow q g).pfl = s.pfl := by
  cases q <;> rfl
@[simp] theorem State.modShadow_ime (q : Requester) (g : Shadow → Shadow) : (s.modShadow q g).ime = s.ime := by
  cases q <;> rfl
@[simp] theorem State.modShadow_cke (q : Requester) (g : Shadow → Shadow) : (s.modShadow q g).cke = s.cke := by
  cases q <;> rfl
@[simp] theorem State.modShadow_eng (q : Requester) (g : Shadow → Shadow) : (s.modShadow q g).eng = s.eng := by
  cases q <;> rfl
@[simp] theorem State.modShadow_pst (q : Requester) (g : Shadow → Shadow) : (s.modShadow q g).pst = s.pst := by
  cases q <;> rfl
@[simp] theorem State.modShadow_evr (q : Requester) (g : Shadow → Shadow) : (s.modShadow q g).evr = s.evr := by
  cases q <;> rfl
@[simp] theorem State.modShadow_thm (q : Requester) (g : Shadow → Shadow) : (s.modShadow q g).thm = s.thm := by
  cases q <;> rfl
@[simp] theorem State.modShadow_svy (q : Requester) (g : Shadow → Shadow) : (s.modShadow q g).svy = s.svy := by
  cases q <;> rfl
@[simp] theorem State.modShadow_out (q : Requester) (g : Shadow → Shadow) : (s.modShadow q g).out = s.out := by
  cases q <;> rfl
@[simp] theorem State.modShadow_free (q : Requester) (g : Shadow → Shadow) : (s.modShadow q g).free = s.free := by
  cases q <;> rfl
/-! A port. -/

section
variable (p : Nat) (g : Port → Port)
@[simp] theorem State.modPort_pending : (s.modPort p g).pending = s.pending := by unfold State.modPort; split <;> rfl
@[simp] theorem State.modPort_regs : (s.modPort p g).regs = s.regs := by unfold State.modPort; split <;> rfl
@[simp] theorem State.modPort_bar2 : (s.modPort p g).bar2 = s.bar2 := by unfold State.modPort; split <;> rfl
@[simp] theorem State.modPort_mctp : (s.modPort p g).mctp = s.mctp := by unfold State.modPort; split <;> rfl
@[simp] theorem State.modPort_sys : (s.modPort p g).sys = s.sys := by unfold State.modPort; split <;> rfl
@[simp] theorem State.modPort_dtm : (s.modPort p g).dtm = s.dtm := by unfold State.modPort; split <;> rfl
@[simp] theorem State.modPort_plat : (s.modPort p g).plat = s.plat := by unfold State.modPort; split <;> rfl
@[simp] theorem State.modPort_svc : (s.modPort p g).svc = s.svc := by unfold State.modPort; split <;> rfl
@[simp] theorem State.modPort_stg : (s.modPort p g).stg = s.stg := by unfold State.modPort; split <;> rfl
@[simp] theorem State.modPort_cds : (s.modPort p g).cds = s.cds := by unfold State.modPort; split <;> rfl
@[simp] theorem State.modPort_saved : (s.modPort p g).saved = s.saved := by unfold State.modPort; split <;> rfl
@[simp] theorem State.modPort_med : (s.modPort p g).med = s.med := by unfold State.modPort; split <;> rfl
@[simp] theorem State.modPort_trv : (s.modPort p g).trv = s.trv := by unfold State.modPort; split <;> rfl
@[simp] theorem State.modPort_mdc : (s.modPort p g).mdc = s.mdc := by unfold State.modPort; split <;> rfl
@[simp] theorem State.modPort_pwr : (s.modPort p g).pwr = s.pwr := by unfold State.modPort; split <;> rfl
@[simp] theorem State.modPort_pfl : (s.modPort p g).pfl = s.pfl := by unfold State.modPort; split <;> rfl
@[simp] theorem State.modPort_ime : (s.modPort p g).ime = s.ime := by unfold State.modPort; split <;> rfl
@[simp] theorem State.modPort_cke : (s.modPort p g).cke = s.cke := by unfold State.modPort; split <;> rfl
@[simp] theorem State.modPort_eng : (s.modPort p g).eng = s.eng := by unfold State.modPort; split <;> rfl
@[simp] theorem State.modPort_pst : (s.modPort p g).pst = s.pst := by unfold State.modPort; split <;> rfl
@[simp] theorem State.modPort_evr : (s.modPort p g).evr = s.evr := by unfold State.modPort; split <;> rfl
@[simp] theorem State.modPort_thm : (s.modPort p g).thm = s.thm := by unfold State.modPort; split <;> rfl
@[simp] theorem State.modPort_svy : (s.modPort p g).svy = s.svy := by unfold State.modPort; split <;> rfl
@[simp] theorem State.modPort_out : (s.modPort p g).out = s.out := by unfold State.modPort; split <;> rfl
@[simp] theorem State.modPort_free : (s.modPort p g).free = s.free := by unfold State.modPort; split <;> rfl
@[simp] theorem State.modPort_port0 : (s.modPort p g).port0 = if p = 0 then g s.port0 else s.port0 := by
  unfold State.modPort; split <;> rfl
@[simp] theorem State.modPort_port1 : (s.modPort p g).port1 = if p = 0 then s.port1 else g s.port1 := by
  unfold State.modPort; split <;> rfl
end

end Sys2Proof.Machine
end

