-- ==== Sys2Proof/Laws/Ops.lean ====
section
/-! SUPPORT. What the shared operations of Machine/Ops.lean can do: the register file's read and write laws, and for each
operation that records something or lets time pass, the whole of what it may change. -/

namespace Sys2Proof.Machine

/-! The register file. -/

theorem State.getReg_setReg (s : State) (o o' : Nat) (v : Word) :
    (s.setReg o v).getReg o' = if o' = o then v else s.getReg o' := by
  unfold State.getReg State.setReg
  split
  · subst_vars; exact mapGet_set_same ..
  · exact mapGet_set_ne _ _ _ (by assumption)

@[simp] theorem State.getReg_setReg_same (s : State) (o : Nat) (v : Word) : (s.setReg o v).getReg o = v := by
  simp [State.getReg_setReg]

/-- A write leaves every other register alone. -/
theorem State.getReg_setReg_ne (s : State) {o o' : Nat} (v : Word) (h : o' ≠ o) :
    (s.setReg o v).getReg o' = s.getReg o' := by simp [State.getReg_setReg, h]

/-- Two states with one register file read alike. -/
theorem State.getReg_congr {s t : State} (h : t.regs = s.regs) (o : Nat) : t.getReg o = s.getReg o := by
  unfold State.getReg; rw [h]

@[simp] theorem State.regNat_def (s : State) (o : Nat) : s.regNat o = (s.getReg o).toNat := rfl

/-- A reset of registers: those reset read as their reset values, the others as before. -/
theorem State.getReg_resetRegs (s : State) (p : RegDom → Bool) (q : Nat → Bool) (o : Nat) :
    (s.resetRegs p q).getReg o = if regInDom p o && q o then regReset o else s.getReg o := by
  have := mapGet_filter regReset s.regs o fun o => !(regInDom p o && q o)
  unfold State.resetRegs State.getReg
  simp only at this ⊢
  rw [this]
  cases regInDom p o && q o <;> rfl

/-! What recording an event, an error flag or a count may change. -/

variable {tm : Bool}

theorem Recorded.refl (R : Nat → Bool) (s : State) : Recorded R tm s s := by
  refine ⟨rfl, id, rfl, rfl, rfl, rfl, rfl, rfl, rfl, rfl, rfl, rfl, rfl, rfl, rfl, rfl, rfl, rfl, rfl, rfl, rfl,
    ⟨_, _, _, _, rfl, fun _ => ⟨rfl, rfl, rfl⟩⟩, ⟨_, _, rfl⟩, ⟨_, _, rfl⟩, ⟨[], by simp⟩, ⟨_, rfl⟩, fun _ _ => rfl⟩

theorem Recorded.trans {R : Nat → Bool} {s t u : State} (a : Recorded R tm s t) (b : Recorded R tm t u) : Recorded R tm s u := by
  obtain ⟨m, d, o, st, hd, ht⟩ := a.dtm
  obtain ⟨m', d', o', st', hd', ht'⟩ := b.dtm
  obtain ⟨l, v, h0⟩ := a.port0
  obtain ⟨l', v', h0'⟩ := b.port0
  obtain ⟨k, w, h1⟩ := a.port1
  obtain ⟨k', w', h1'⟩ := b.port1
  obtain ⟨q, hq⟩ := a.pst
  obtain ⟨q', hq'⟩ := b.pst
  obtain ⟨c, hc⟩ := a.svy
  obtain ⟨c', hc'⟩ := b.svy
  exact ⟨b.pending.trans a.pending, b.wf ∘ a.wf, b.bar2.trans a.bar2, b.mctp.trans a.mctp, b.sys.trans a.sys, b.plat.trans a.plat,
    b.svc.trans a.svc, b.stg.trans a.stg, b.cds.trans a.cds, b.saved.trans a.saved, b.med.trans a.med, b.trv.trans a.trv,
    b.mdc.trans a.mdc, b.pwr.trans a.pwr, b.pfl.trans a.pfl, b.ime.trans a.ime, b.cke.trans a.cke, b.eng.trans a.eng,
    b.thm.trans a.thm, b.out.trans a.out, b.free.trans a.free, ⟨m', d', o', st', by rw [hd', hd], fun e => by
      obtain ⟨rfl, rfl, rfl⟩ := ht e; simpa [hd] using ht' e⟩, ⟨l', v', by rw [h0', h0]⟩,
    ⟨k', w', by rw [h1', h1]⟩, ⟨q ++ q', by rw [hq', hq]; simp⟩, ⟨c', by rw [hc', hc]⟩,
    fun o h => (b.regs o h).trans (a.regs o h)⟩

theorem Recorded.mono {R R' : Nat → Bool} {s t : State} (h : ∀ o, R' o = false → R o = false) (a : Recorded R tm s t) :
    Recorded R' tm s t := { a with regs := fun o ho => a.regs o (h o ho) }

/-- A fold of operations that each only record something records only. -/
theorem Recorded.foldl {R : Nat → Bool} {β : Type} (f : State → β → State) (l : List β)
    (hf : ∀ b ∈ l, ∀ s, Recorded R tm s (f s b)) (s : State) : Recorded R tm s (l.foldl f s) := by
  induction l generalizing s with
  | nil => exact .refl R s
  | cons b l ih =>
    exact (hf b List.mem_cons_self s).trans (ih (fun c hc => hf c (List.mem_cons_of_mem _ hc)) _)

/-- A write of one of the registers of `R`. -/
theorem Recorded.setReg {R : Nat → Bool} (s : State) {o : Nat} (v : Word) (h : R o = true) :
    Recorded R tm s (s.setReg o v) :=
  { Recorded.refl (tm := tm) R s with
    wf := mapSet_wf regReset o v
    regs := fun o' h' => State.getReg_setReg_ne s v (fun e => by rw [e, h] at h'; cases h') }

/-- A change of the event recorder's own state. -/
theorem Recorded.modEvr (R : Nat → Bool) (s : State) (f : Evr → Evr) : Recorded R tm s (s.modEvr f) :=
  { Recorded.refl (tm := tm) R s with }

theorem Recorded.ite {R : Nat → Bool} {s t u : State} {c : Prop} [Decidable c] (a : Recorded R tm s t) (b : Recorded R tm s u) :
    Recorded R tm s (if c then t else u) := by split <;> assumption

variable {R : Nat → Bool}

theorem Recorded.setBits (s : State) {o : Nat} (m : Nat) (h : R o = true) : Recorded R tm s (s.setBits o m) := .setReg s _ h

theorem Recorded.setField (s : State) {o : Nat} (l w v : Nat) (h : R o = true) : Recorded R tm s (s.setField o l w v) :=
  .trans (.setReg s _ h) (.setReg _ _ h)

theorem Recorded.incReg (s : State) {o : Nat} (h : R o = true) : Recorded R tm s (s.incReg o) := .setReg s _ h

theorem Recorded.portCopy (hR : ∀ o, recReg o = true → R o = true) (s : State) (p : Nat) (r : EvrRec) (hp : p = 0 ∨ p = 1) :
    Recorded R tm s (s.portCopy p r) := by
  have key (s : State) (f : Port → Port) (hf : ∀ x, ∃ l o, f x = { x with logs := l, logOvf := o }) :
      Recorded R tm s (s.modPort p f) := by
    unfold State.modPort
    split
    · exact { Recorded.refl (tm := tm) R s with port0 := hf _ }
    · exact { Recorded.refl (tm := tm) R s with port1 := hf _ }
  unfold State.portCopy
  dsimp only
  split
  · refine .trans (.incReg s (hR _ ?_)) (key _ _ fun x => ⟨_, _, rfl⟩)
    rcases hp with rfl | rfl <;> decide
  · exact key _ _ fun x => ⟨_, _, rfl⟩

theorem Recorded.portCopies (hR : ∀ o, recReg o = true → R o = true) (s : State) (r : EvrRec) :
    Recorded R tm s (s.portCopies r) := by
  unfold State.portCopies
  refine .foldl _ _ (fun p hp s => ?_) s
  have hp : p = 0 ∨ p = 1 := by split at hp <;> simp at hp <;> omega
  refine .ite (.refl R s) (.ite ?_ (.portCopy hR s p _ hp))
  split
  · exact .portCopy hR s p _ hp
  · exact .refl R s

theorem Recorded.enqueueRec (hR : ∀ o, recReg o = true → R o = true) (s : State) (r : EvrRec) :
    Recorded R tm s (s.enqueueRec r) := by
  have hq (u : State) :
      Recorded R tm u (u.modPst fun p => if p.logQueued then p else { p with queue := p.queue ++ [.evrBody 0] }) := by
    refine { Recorded.refl (tm := tm) R u with pst := ?_ }
    simp only [State.modPst_pst]
    split
    · exact ⟨[], by simp⟩
    · exact ⟨[.evrBody 0], rfl⟩
  unfold State.enqueueRec
  dsimp only
  refine (Recorded.trans ?_ (hq _)).trans (.ite (.portCopies hR _ _) (.refl R _))
  refine Recorded.trans ?_ (.ite (.setBits _ _ (hR _ (by decide))) (.refl R _))
  exact Recorded.trans (.modEvr R _ _) (.ite (.setField _ _ _ _ (hR _ (by decide))) (.refl R _))

theorem Recorded.raiseEvr (hR : ∀ o, recReg o = true → R o = true) (s : State) (c a b : Nat) :
    Recorded R tm s (s.raiseEvr c a b) := .ite (.enqueueRec hR _ _) (.modEvr R _ _)

theorem Recorded.evrFlag (hR : ∀ o, recReg o = true → R o = true) (s : State) (n : Nat) (l : Bool) :
    Recorded R tm s (s.evrFlag n l) := by
  have h := Recorded.setBits (R := R) (tm := tm) s (2 ^ n) (hR Reg.EVR_ERR_STAT (by decide))
  exact .trans h (.ite (.raiseEvr hR _ _ _ _) (.refl R _))

theorem Recorded.suppEntry {s t : State} {c : Nat} (h : s.suppEntry c = some t) : Recorded R tm s t := by
  unfold State.suppEntry at h
  dsimp only at h
  split at h
  · cases h; exact .refl R _
  · split at h
    · cases h; exact .modEvr R _ _
    · obtain ⟨_, _, h⟩ := Option.map_eq_some_iff.1 h; cases h; exact .modEvr R _ _

theorem Recorded.raiseBucket (hR : ∀ o, recReg o = true → R o = true) (s : State) (c a b : Nat) :
    Recorded R tm s (s.raiseBucket c a b) := by
  unfold State.raiseBucket
  split
  · exact .trans (.modEvr R _ _) (.evrFlag hR _ _ _)
  · rename_i t ht
    refine .trans (.suppEntry ht) ?_
    extract_lets now datum u off tokens v
    have hu : Recorded R tm t u := .modEvr R _ _
    have hv : Recorded R tm u v := .ite (.refl R _) (.modEvr R _ _)
    refine hu.trans (.ite ?_ (hv.trans (.ite (.enqueueRec hR _ _) ?_)))
    · exact .trans (.modEvr R _ _) (.setField _ _ _ _ (hR _ (by decide)))
    · exact .trans (.trans (.modEvr R _ _) (.setField _ _ _ _ (hR _ (by decide)))) (.evrFlag hR _ _ _)

theorem Recorded.strobeAt (hR : ∀ o, recReg o = true → R o = true) (s : State) (t src : Nat) :
    Recorded R tm s (s.strobeAt t src) := by
  unfold State.strobeAt
  have key (x : Option (Nat × Nat)) : Recorded R tm s (s.modDtm fun t => { t with strobe := x }) :=
    { Recorded.refl (tm := tm) R s with dtm := ⟨_, _, _, _, rfl, fun _ => ⟨rfl, rfl, rfl⟩⟩ }
  refine .ite (.refl R _) ?_
  split
  · exact key _
  · exact .trans (key _) (.ite (.refl R _) (.incReg _ (hR _ (by decide))))

theorem Recorded.raiseCore (hR : ∀ o, recReg o = true → R o = true) (s : State) (c a b : Nat) :
    Recorded R tm s (s.raiseCore c a b) :=
  .trans (.ite (.strobeAt hR _ _ _) (.refl R _)) (.ite (.raiseEvr hR _ _ _ _) (.raiseBucket hR _ _ _ _))

theorem Recorded.flagCore (hR : ∀ o, recReg o = true → R o = true) (s : State) {stat : Nat} (en n : Nat) (l : Bool)
    (h : R stat = true) : Recorded R tm s (s.flagCore stat en n l) :=
  .trans (.setBits s _ h) (.ite (.raiseCore hR _ _ _ _) (.refl R _))

/-- The registers of the SVY block are among those of `recReg`. -/
theorem recReg_svy {o : Nat} (h : o / 0x10000 = 0xF) : recReg o = true := by simp [recReg, h]

theorem Recorded.pmcOverflow (hR : ∀ o, recReg o = true → R o = true) (s : State) (n : Nat) (e : Bool) (src arg : Nat) :
    Recorded R tm s (s.pmcOverflow n e src arg) := by
  have hS {o : Nat} (h : o / 0x10000 = 0xF) : R o = true := hR o (recReg_svy h)
  unfold State.pmcOverflow
  extract_lets s1 sampled s2 s3 s4 s5
  have h1 : Recorded R tm s s1 := .setBits s _ (by split <;> exact hS (by decide))
  have h2 : Recorded R tm s1 s2 := .setBits _ _ (hS (by decide))
  have h3 : Recorded R tm s2 s3 := .setReg _ _ (hS (by decide))
  have h4 : Recorded R tm s3 s4 :=
    .trans (.setReg _ _ (hS (by decide))) (.trans (.setReg _ _ (hS (by decide))) (.setReg _ _ (hS (by decide))))
  have h5 : Recorded R tm s4 s5 := .setBits _ _ (hS (by decide))
  refine (h1.trans h2).trans (.ite (.refl R _) (.ite ?_ (((h3.trans h4).trans h5).trans ?_)))
  · exact .trans (.setField _ _ _ _ (hS (by decide))) (.flagCore hR _ _ _ _ (hS (by decide)))
  · exact .ite (.setBits _ _ (hS (by decide))) (.refl R _)

theorem pmcCnt_block {n : Nat} (h : n < 48) : Reg.PMC_CNT n / 0x10000 = 0xF := by
  simp only [Reg.PMC_CNT]; omega

theorem Recorded.pmcAdd (hR : ∀ o, recReg o = true → R o = true) (s : State) (fuel : Nat) {n : Nat} (k : Nat) (e : Bool)
    (src arg : Nat) (h : n < 48) : Recorded R tm s (s.pmcAdd fuel n k e src arg) := by
  induction fuel generalizing s n k with
  | zero => exact .refl R s
  | succ fuel ih =>
    unfold State.pmcAdd
    dsimp only
    refine .trans (.setReg s _ (hR _ (recReg_svy (pmcCnt_block h)))) (.ite (.refl R _) ?_)
    split
    · rename_i hf
      have : n + 1 < 48 := by simp [State.pmcFeeds] at hf; omega
      exact .ite (ih _ _ this) (.refl R _)
    · exact .pmcOverflow hR _ _ _ _ _

theorem State.pmcListed_lt {s : State} {n : Nat} (h : n ∈ s.pmcListed) : n < 48 := by
  have := (List.mem_filter.1 h).1; simpa using this

theorem Recorded.pmcMany (hR : ∀ o, recReg o = true → R o = true) (s : State) (event : Nat) (occ : List Nat) (arg : Nat) :
    Recorded R tm s (s.pmcMany event occ arg) :=
  .ite (.refl R _) (.foldl _ _ (fun _ hn s => .ite (.refl R _) (.pmcAdd hR s _ _ _ _ _ (State.pmcListed_lt hn))) _)

theorem Recorded.pmc (hR : ∀ o, recReg o = true → R o = true) (s : State) (event src k arg : Nat) :
    Recorded R tm s (s.pmc event src k arg) := .pmcMany hR _ _ _ _

theorem Recorded.countRaised (hR : ∀ o, recReg o = true → R o = true) (s : State) (a b : Nat) :
    Recorded R tm s (s.countRaised a b) := .trans (.pmc hR _ _ _ _ _) (.pmc hR _ _ _ _ _)

/-- An event record changes only what records change. -/
theorem Recorded.raise (hR : ∀ o, recReg o = true → R o = true) (s : State) (c a b : Nat) :
    Recorded R tm s (s.raise c a b) := .trans (.raiseCore hR _ _ _ _) (.countRaised hR _ _ _)

theorem Recorded.flag (hR : ∀ o, recReg o = true → R o = true) (s : State) {stat : Nat} (en n : Nat) (l : Bool)
    (h : R stat = true) : Recorded R tm s (s.flag stat en n l) :=
  .trans (.flagCore hR _ _ _ _ h) (.countRaised hR _ _ _)

theorem Recorded.countConds (hR : ∀ o, recReg o = true → R o = true) (s : State) (a b : Nat) :
    Recorded R tm s (s.countConds a b) := by
  unfold State.countConds
  dsimp only
  have h : Recorded R tm s (s.modSvy fun v => { v with conds := s.condsAt a b }) :=
    { Recorded.refl (tm := tm) R s with svy := ⟨_, rfl⟩ }
  refine .trans h (.ite (.refl R _) (.foldl _ _ (fun n hn s => ?_) _))
  exact .ite (.refl R _) (.pmcAdd hR _ _ _ _ _ _ (State.pmcListed_lt hn))

theorem Recorded.pass (s : State) (d : Nat) : Recorded R true s (s.pass d) := by
  refine { Recorded.refl (tm := true) R s with dtm := ?_ }
  unfold State.pass Dtm.advance
  simp only [State.modDtm_dtm]
  split
  · split <;> exact ⟨_, _, _, _, rfl, nofun⟩
  · exact ⟨_, _, _, _, rfl, nofun⟩

/-- The passing of time changes only the time, the counters and the condition events. -/
theorem Recorded.clockTo (hR : ∀ o, recReg o = true → R o = true) (s : State) (ns : Nat) :
    Recorded R true s (s.clockTo ns) := by
  unfold State.clockTo State.elapse
  exact .ite (.trans (.ite (.refl R _) (.countConds hR _ _ _)) (.pass _ _)) (.refl R _)

end Sys2Proof.Machine
end

