-- ==== Sys2Proof/Laws/Frames.lean ====
section
/-! SUPPORT. What each recording operation, and the passing of time, leaves as it was: one lemma per field. -/

namespace Sys2Proof.Machine

theorem all_true : ∀ o, recReg o = true → (fun _ : Nat => true) o = true := fun _ _ => rfl

/-- A near miss writes its counter, its source and its flag, and records. -/
theorem Recorded.nearMiss {R : Nat → Bool} {tm : Bool} (hR : ∀ o, recReg o = true ∨ o / 0x10000 = 7 → R o = true)
    (s : State) (n : Nat) : Recorded R tm s (s.nearMiss n) := by
  unfold State.nearMiss
  have h7 {o : Nat} (h : o / 0x10000 = 7) : R o = true := hR o (.inr h)
  extract_lets u
  have h1 : Recorded R tm s (s.incReg Reg.DTM_TMO_NEAR) := .incReg s (h7 (by decide))
  have h2 : Recorded R tm (s.incReg Reg.DTM_TMO_NEAR) ((s.incReg Reg.DTM_TMO_NEAR).setNat Reg.DTM_TMO_NEAR_SRC n) :=
    .setReg _ _ (h7 (by decide))
  have h3 : Recorded R tm ((s.incReg Reg.DTM_TMO_NEAR).setNat Reg.DTM_TMO_NEAR_SRC n) u := .setBits _ _ (h7 (by decide))
  exact ((h1.trans h2).trans h3).trans (.ite (.raise (fun o h => hR o (.inl h)) _ _ _ _) (.refl R _))

variable (s : State)

section
variable (c a b : Nat)

theorem State.raise_recorded : Recorded (fun _ => true) false s (s.raise c a b) := .raise all_true s c a b
@[simp] theorem State.raise_pending : (s.raise c a b).pending = s.pending := (s.raise_recorded c a b).pending
@[simp] theorem State.raise_bar2 : (s.raise c a b).bar2 = s.bar2 := (s.raise_recorded c a b).bar2
@[simp] theorem State.raise_mctp : (s.raise c a b).mctp = s.mctp := (s.raise_recorded c a b).mctp
@[simp] theorem State.raise_sys : (s.raise c a b).sys = s.sys := (s.raise_recorded c a b).sys
@[simp] theorem State.raise_plat : (s.raise c a b).plat = s.plat := (s.raise_recorded c a b).plat
@[simp] theorem State.raise_svc : (s.raise c a b).svc = s.svc := (s.raise_recorded c a b).svc
@[simp] theorem State.raise_stg : (s.raise c a b).stg = s.stg := (s.raise_recorded c a b).stg
@[simp] theorem State.raise_cds : (s.raise c a b).cds = s.cds := (s.raise_recorded c a b).cds
@[simp] theorem State.raise_saved : (s.raise c a b).saved = s.saved := (s.raise_recorded c a b).saved
@[simp] theorem State.raise_med : (s.raise c a b).med = s.med := (s.raise_recorded c a b).med
@[simp] theorem State.raise_trv : (s.raise c a b).trv = s.trv := (s.raise_recorded c a b).trv
@[simp] theorem State.raise_mdc : (s.raise c a b).mdc = s.mdc := (s.raise_recorded c a b).mdc
@[simp] theorem State.raise_pwr : (s.raise c a b).pwr = s.pwr := (s.raise_recorded c a b).pwr
@[simp] theorem State.raise_pfl : (s.raise c a b).pfl = s.pfl := (s.raise_recorded c a b).pfl
@[simp] theorem State.raise_ime : (s.raise c a b).ime = s.ime := (s.raise_recorded c a b).ime
@[simp] theorem State.raise_cke : (s.raise c a b).cke = s.cke := (s.raise_recorded c a b).cke
@[simp] theorem State.raise_eng : (s.raise c a b).eng = s.eng := (s.raise_recorded c a b).eng
@[simp] theorem State.raise_thm : (s.raise c a b).thm = s.thm := (s.raise_recorded c a b).thm
@[simp] theorem State.raise_out : (s.raise c a b).out = s.out := (s.raise_recorded c a b).out
@[simp] theorem State.raise_free : (s.raise c a b).free = s.free := (s.raise_recorded c a b).free
@[simp] theorem State.raise_dtm_slewing : (s.raise c a b).dtm.slewing = s.dtm.slewing := by
  obtain ⟨_, _, _, _, h, e⟩ := (s.raise_recorded c a b).dtm; rw [h]
@[simp] theorem State.raise_dtm_everSet : (s.raise c a b).dtm.everSet = s.dtm.everSet := by
  obtain ⟨_, _, _, _, h, e⟩ := (s.raise_recorded c a b).dtm; rw [h]
@[simp] theorem State.raise_dtm_xoLost : (s.raise c a b).dtm.xoLost = s.dtm.xoLost := by
  obtain ⟨_, _, _, _, h, e⟩ := (s.raise_recorded c a b).dtm; rw [h]
@[simp] theorem State.raise_dtm_pllF : (s.raise c a b).dtm.pllF = s.dtm.pllF := by
  obtain ⟨_, _, _, _, h, e⟩ := (s.raise_recorded c a b).dtm; rw [h]
@[simp] theorem State.raise_dtm_pllE : (s.raise c a b).dtm.pllE = s.dtm.pllE := by
  obtain ⟨_, _, _, _, h, e⟩ := (s.raise_recorded c a b).dtm; rw [h]
@[simp] theorem State.raise_dtm_pllT : (s.raise c a b).dtm.pllT = s.dtm.pllT := by
  obtain ⟨_, _, _, _, h, e⟩ := (s.raise_recorded c a b).dtm; rw [h]
@[simp] theorem State.raise_dtm_pllH : (s.raise c a b).dtm.pllH = s.dtm.pllH := by
  obtain ⟨_, _, _, _, h, e⟩ := (s.raise_recorded c a b).dtm; rw [h]
@[simp] theorem State.raise_dtm_restored : (s.raise c a b).dtm.restored = s.dtm.restored := by
  obtain ⟨_, _, _, _, h, e⟩ := (s.raise_recorded c a b).dtm; rw [h]
@[simp] theorem State.raise_dtm_retained : (s.raise c a b).dtm.retained = s.dtm.retained := by
  obtain ⟨_, _, _, _, h, e⟩ := (s.raise_recorded c a b).dtm; rw [h]
@[simp] theorem State.raise_dtm_deedAt : (s.raise c a b).dtm.deedAt = s.dtm.deedAt := by
  obtain ⟨_, _, _, _, h, e⟩ := (s.raise_recorded c a b).dtm; rw [h]
@[simp] theorem State.raise_dtm_outUntil : (s.raise c a b).dtm.outUntil = s.dtm.outUntil := by
  obtain ⟨_, _, _, _, h, e⟩ := (s.raise_recorded c a b).dtm; rw [h]
@[simp] theorem State.raise_dtm_mono : (s.raise c a b).dtm.mono = s.dtm.mono := by
  obtain ⟨_, _, _, _, h, e⟩ := (s.raise_recorded c a b).dtm; rw [h]; simp [e]
@[simp] theorem State.raise_dtm_datum : (s.raise c a b).dtm.datum = s.dtm.datum := by
  obtain ⟨_, _, _, _, h, e⟩ := (s.raise_recorded c a b).dtm; rw [h]; simp [e]
@[simp] theorem State.raise_dtm_offset : (s.raise c a b).dtm.offset = s.dtm.offset := by
  obtain ⟨_, _, _, _, h, e⟩ := (s.raise_recorded c a b).dtm; rw [h]; simp [e]
@[simp] theorem State.raise_pst_flash : (s.raise c a b).pst.flash = s.pst.flash := by
  obtain ⟨_, h⟩ := (s.raise_recorded c a b).pst; rw [h]
@[simp] theorem State.raise_pst_weak : (s.raise c a b).pst.weak = s.pst.weak := by
  obtain ⟨_, h⟩ := (s.raise_recorded c a b).pst; rw [h]
@[simp] theorem State.raise_pst_areas : (s.raise c a b).pst.areas = s.pst.areas := by
  obtain ⟨_, h⟩ := (s.raise_recorded c a b).pst; rw [h]
@[simp] theorem State.raise_pst_tallies : (s.raise c a b).pst.tallies = s.pst.tallies := by
  obtain ⟨_, h⟩ := (s.raise_recorded c a b).pst; rw [h]
@[simp] theorem State.raise_pst_tallyNext : (s.raise c a b).pst.tallyNext = s.pst.tallyNext := by
  obtain ⟨_, h⟩ := (s.raise_recorded c a b).pst; rw [h]
@[simp] theorem State.raise_pst_hints0 : (s.raise c a b).pst.hints0 = s.pst.hints0 := by
  obtain ⟨_, h⟩ := (s.raise_recorded c a b).pst; rw [h]
@[simp] theorem State.raise_pst_hints1 : (s.raise c a b).pst.hints1 = s.pst.hints1 := by
  obtain ⟨_, h⟩ := (s.raise_recorded c a b).pst; rw [h]
@[simp] theorem State.raise_pst_hintHigh : (s.raise c a b).pst.hintHigh = s.pst.hintHigh := by
  obtain ⟨_, h⟩ := (s.raise_recorded c a b).pst; rw [h]
@[simp] theorem State.raise_pst_hintErasing : (s.raise c a b).pst.hintErasing = s.pst.hintErasing := by
  obtain ⟨_, h⟩ := (s.raise_recorded c a b).pst; rw [h]
@[simp] theorem State.raise_pst_replaced : (s.raise c a b).pst.replaced = s.pst.replaced := by
  obtain ⟨_, h⟩ := (s.raise_recorded c a b).pst; rw [h]
@[simp] theorem State.raise_pst_gen : (s.raise c a b).pst.gen = s.pst.gen := by
  obtain ⟨_, h⟩ := (s.raise_recorded c a b).pst; rw [h]
@[simp] theorem State.raise_pst_inForce : (s.raise c a b).pst.inForce = s.pst.inForce := by
  obtain ⟨_, h⟩ := (s.raise_recorded c a b).pst; rw [h]
@[simp] theorem State.raise_pst_run : (s.raise c a b).pst.run = s.pst.run := by
  obtain ⟨_, h⟩ := (s.raise_recorded c a b).pst; rw [h]
@[simp] theorem State.raise_pst_gateWait : (s.raise c a b).pst.gateWait = s.pst.gateWait := by
  obtain ⟨_, h⟩ := (s.raise_recorded c a b).pst; rw [h]
@[simp] theorem State.raise_pst_ungated : (s.raise c a b).pst.ungated = s.pst.ungated := by
  obtain ⟨_, h⟩ := (s.raise_recorded c a b).pst; rw [h]
@[simp] theorem State.raise_pst_owed : (s.raise c a b).pst.owed = s.pst.owed := by
  obtain ⟨_, h⟩ := (s.raise_recorded c a b).pst; rw [h]
@[simp] theorem State.raise_pst_endAt : (s.raise c a b).pst.endAt = s.pst.endAt := by
  obtain ⟨_, h⟩ := (s.raise_recorded c a b).pst; rw [h]
@[simp] theorem State.raise_pst_buf : (s.raise c a b).pst.buf = s.pst.buf := by
  obtain ⟨_, h⟩ := (s.raise_recorded c a b).pst; rw [h]
@[simp] theorem State.raise_port0_pwb : (s.raise c a b).port0.pwb = s.port0.pwb := by
  obtain ⟨_, _, h⟩ := (s.raise_recorded c a b).port0; rw [h]
@[simp] theorem State.raise_port0_reads : (s.raise c a b).port0.reads = s.port0.reads := by
  obtain ⟨_, _, h⟩ := (s.raise_recorded c a b).port0; rw [h]
@[simp] theorem State.raise_port0_nextSeq : (s.raise c a b).port0.nextSeq = s.port0.nextSeq := by
  obtain ⟨_, _, h⟩ := (s.raise_recorded c a b).port0; rw [h]
@[simp] theorem State.raise_port0_decoders : (s.raise c a b).port0.decoders = s.port0.decoders := by
  obtain ⟨_, _, h⟩ := (s.raise_recorded c a b).port0; rw [h]
@[simp] theorem State.raise_port0_ide : (s.raise c a b).port0.ide = s.port0.ide := by
  obtain ⟨_, _, h⟩ := (s.raise_recorded c a b).port0; rw [h]
@[simp] theorem State.raise_port0_linkUp : (s.raise c a b).port0.linkUp = s.port0.linkUp := by
  obtain ⟨_, _, h⟩ := (s.raise_recorded c a b).port0; rw [h]
@[simp] theorem State.raise_port0_rate : (s.raise c a b).port0.rate = s.port0.rate := by
  obtain ⟨_, _, h⟩ := (s.raise_recorded c a b).port0; rw [h]
@[simp] theorem State.raise_port0_width : (s.raise c a b).port0.width = s.port0.width := by
  obtain ⟨_, _, h⟩ := (s.raise_recorded c a b).port0; rw [h]
@[simp] theorem State.raise_port0_flit256 : (s.raise c a b).port0.flit256 = s.port0.flit256 := by
  obtain ⟨_, _, h⟩ := (s.raise_recorded c a b).port0; rw [h]
@[simp] theorem State.raise_port0_laneOk : (s.raise c a b).port0.laneOk = s.port0.laneOk := by
  obtain ⟨_, _, h⟩ := (s.raise_recorded c a b).port0; rw [h]
@[simp] theorem State.raise_port0_laneErrs : (s.raise c a b).port0.laneErrs = s.port0.laneErrs := by
  obtain ⟨_, _, h⟩ := (s.raise_recorded c a b).port0; rw [h]
@[simp] theorem State.raise_port0_drain : (s.raise c a b).port0.drain = s.port0.drain := by
  obtain ⟨_, _, h⟩ := (s.raise_recorded c a b).port0; rw [h]
@[simp] theorem State.raise_port0_gpf : (s.raise c a b).port0.gpf = s.port0.gpf := by
  obtain ⟨_, _, h⟩ := (s.raise_recorded c a b).port0; rw [h]
@[simp] theorem State.raise_port0_admitAt : (s.raise c a b).port0.admitAt = s.port0.admitAt := by
  obtain ⟨_, _, h⟩ := (s.raise_recorded c a b).port0; rw [h]
@[simp] theorem State.raise_port0_flr : (s.raise c a b).port0.flr = s.port0.flr := by
  obtain ⟨_, _, h⟩ := (s.raise_recorded c a b).port0; rw [h]
@[simp] theorem State.raise_port0_heldOut : (s.raise c a b).port0.heldOut = s.port0.heldOut := by
  obtain ⟨_, _, h⟩ := (s.raise_recorded c a b).port0; rw [h]
@[simp] theorem State.raise_port0_evtPolicy : (s.raise c a b).port0.evtPolicy = s.port0.evtPolicy := by
  obtain ⟨_, _, h⟩ := (s.raise_recorded c a b).port0; rw [h]
@[simp] theorem State.raise_port0_doorbell : (s.raise c a b).port0.doorbell = s.port0.doorbell := by
  obtain ⟨_, _, h⟩ := (s.raise_recorded c a b).port0; rw [h]
@[simp] theorem State.raise_port0_lsa : (s.raise c a b).port0.lsa = s.port0.lsa := by
  obtain ⟨_, _, h⟩ := (s.raise_recorded c a b).port0; rw [h]
@[simp] theorem State.raise_port0_lsaCopy : (s.raise c a b).port0.lsaCopy = s.port0.lsaCopy := by
  obtain ⟨_, _, h⟩ := (s.raise_recorded c a b).port0; rw [h]
@[simp] theorem State.raise_port1_pwb : (s.raise c a b).port1.pwb = s.port1.pwb := by
  obtain ⟨_, _, h⟩ := (s.raise_recorded c a b).port1; rw [h]
@[simp] theorem State.raise_port1_reads : (s.raise c a b).port1.reads = s.port1.reads := by
  obtain ⟨_, _, h⟩ := (s.raise_recorded c a b).port1; rw [h]
@[simp] theorem State.raise_port1_nextSeq : (s.raise c a b).port1.nextSeq = s.port1.nextSeq := by
  obtain ⟨_, _, h⟩ := (s.raise_recorded c a b).port1; rw [h]
@[simp] theorem State.raise_port1_decoders : (s.raise c a b).port1.decoders = s.port1.decoders := by
  obtain ⟨_, _, h⟩ := (s.raise_recorded c a b).port1; rw [h]
@[simp] theorem State.raise_port1_ide : (s.raise c a b).port1.ide = s.port1.ide := by
  obtain ⟨_, _, h⟩ := (s.raise_recorded c a b).port1; rw [h]
@[simp] theorem State.raise_port1_linkUp : (s.raise c a b).port1.linkUp = s.port1.linkUp := by
  obtain ⟨_, _, h⟩ := (s.raise_recorded c a b).port1; rw [h]
@[simp] theorem State.raise_port1_rate : (s.raise c a b).port1.rate = s.port1.rate := by
  obtain ⟨_, _, h⟩ := (s.raise_recorded c a b).port1; rw [h]
@[simp] theorem State.raise_port1_width : (s.raise c a b).port1.width = s.port1.width := by
  obtain ⟨_, _, h⟩ := (s.raise_recorded c a b).port1; rw [h]
@[simp] theorem State.raise_port1_flit256 : (s.raise c a b).port1.flit256 = s.port1.flit256 := by
  obtain ⟨_, _, h⟩ := (s.raise_recorded c a b).port1; rw [h]
@[simp] theorem State.raise_port1_laneOk : (s.raise c a b).port1.laneOk = s.port1.laneOk := by
  obtain ⟨_, _, h⟩ := (s.raise_recorded c a b).port1; rw [h]
@[simp] theorem State.raise_port1_laneErrs : (s.raise c a b).port1.laneErrs = s.port1.laneErrs := by
  obtain ⟨_, _, h⟩ := (s.raise_recorded c a b).port1; rw [h]
@[simp] theorem State.raise_port1_drain : (s.raise c a b).port1.drain = s.port1.drain := by
  obtain ⟨_, _, h⟩ := (s.raise_recorded c a b).port1; rw [h]
@[simp] theorem State.raise_port1_gpf : (s.raise c a b).port1.gpf = s.port1.gpf := by
  obtain ⟨_, _, h⟩ := (s.raise_recorded c a b).port1; rw [h]
@[simp] theorem State.raise_port1_admitAt : (s.raise c a b).port1.admitAt = s.port1.admitAt := by
  obtain ⟨_, _, h⟩ := (s.raise_recorded c a b).port1; rw [h]
@[simp] theorem State.raise_port1_flr : (s.raise c a b).port1.flr = s.port1.flr := by
  obtain ⟨_, _, h⟩ := (s.raise_recorded c a b).port1; rw [h]
@[simp] theorem State.raise_port1_heldOut : (s.raise c a b).port1.heldOut = s.port1.heldOut := by
  obtain ⟨_, _, h⟩ := (s.raise_recorded c a b).port1; rw [h]
@[simp] theorem State.raise_port1_evtPolicy : (s.raise c a b).port1.evtPolicy = s.port1.evtPolicy := by
  obtain ⟨_, _, h⟩ := (s.raise_recorded c a b).port1; rw [h]
@[simp] theorem State.raise_port1_doorbell : (s.raise c a b).port1.doorbell = s.port1.doorbell := by
  obtain ⟨_, _, h⟩ := (s.raise_recorded c a b).port1; rw [h]
@[simp] theorem State.raise_port1_lsa : (s.raise c a b).port1.lsa = s.port1.lsa := by
  obtain ⟨_, _, h⟩ := (s.raise_recorded c a b).port1; rw [h]
@[simp] theorem State.raise_port1_lsaCopy : (s.raise c a b).port1.lsaCopy = s.port1.lsaCopy := by
  obtain ⟨_, _, h⟩ := (s.raise_recorded c a b).port1; rw [h]
@[simp] theorem State.raise_svy_gen : (s.raise c a b).svy.gen = s.svy.gen := by
  obtain ⟨_, h⟩ := (s.raise_recorded c a b).svy; rw [h]
@[simp] theorem State.raise_svy_missed : (s.raise c a b).svy.missed = s.svy.missed := by
  obtain ⟨_, h⟩ := (s.raise_recorded c a b).svy; rw [h]
@[simp] theorem State.raise_svy_areas : (s.raise c a b).svy.areas = s.svy.areas := by
  obtain ⟨_, h⟩ := (s.raise_recorded c a b).svy; rw [h]
@[simp] theorem State.raise_svy_snaps : (s.raise c a b).svy.snaps = s.svy.snaps := by
  obtain ⟨_, h⟩ := (s.raise_recorded c a b).svy; rw [h]
@[simp] theorem State.raise_svy_bufBar2 : (s.raise c a b).svy.bufBar2 = s.svy.bufBar2 := by
  obtain ⟨_, h⟩ := (s.raise_recorded c a b).svy; rw [h]
@[simp] theorem State.raise_svy_bufMctp : (s.raise c a b).svy.bufMctp = s.svy.bufMctp := by
  obtain ⟨_, h⟩ := (s.raise_recorded c a b).svy; rw [h]
theorem State.raise_getReg (o : Nat) (h : recReg o = false) : (s.raise c a b).getReg o = s.getReg o :=
  (Recorded.raise (R := recReg) (tm := false) (fun _ h => h) s c a b).regs o h

end

section
variable (st en n : Nat) (l : Bool)

theorem State.flag_recorded : Recorded (fun _ => true) false s (s.flag st en n l) := .flag all_true s en n l rfl
@[simp] theorem State.flag_pending : (s.flag st en n l).pending = s.pending := (s.flag_recorded st en n l).pending
@[simp] theorem State.flag_bar2 : (s.flag st en n l).bar2 = s.bar2 := (s.flag_recorded st en n l).bar2
@[simp] theorem State.flag_mctp : (s.flag st en n l).mctp = s.mctp := (s.flag_recorded st en n l).mctp
@[simp] theorem State.flag_sys : (s.flag st en n l).sys = s.sys := (s.flag_recorded st en n l).sys
@[simp] theorem State.flag_plat : (s.flag st en n l).plat = s.plat := (s.flag_recorded st en n l).plat
@[simp] theorem State.flag_svc : (s.flag st en n l).svc = s.svc := (s.flag_recorded st en n l).svc
@[simp] theorem State.flag_stg : (s.flag st en n l).stg = s.stg := (s.flag_recorded st en n l).stg
@[simp] theorem State.flag_cds : (s.flag st en n l).cds = s.cds := (s.flag_recorded st en n l).cds
@[simp] theorem State.flag_saved : (s.flag st en n l).saved = s.saved := (s.flag_recorded st en n l).saved
@[simp] theorem State.flag_med : (s.flag st en n l).med = s.med := (s.flag_recorded st en n l).med
@[simp] theorem State.flag_trv : (s.flag st en n l).trv = s.trv := (s.flag_recorded st en n l).trv
@[simp] theorem State.flag_mdc : (s.flag st en n l).mdc = s.mdc := (s.flag_recorded st en n l).mdc
@[simp] theorem State.flag_pwr : (s.flag st en n l).pwr = s.pwr := (s.flag_recorded st en n l).pwr
@[simp] theorem State.flag_pfl : (s.flag st en n l).pfl = s.pfl := (s.flag_recorded st en n l).pfl
@[simp] theorem State.flag_ime : (s.flag st en n l).ime = s.ime := (s.flag_recorded st en n l).ime
@[simp] theorem State.flag_cke : (s.flag st en n l).cke = s.cke := (s.flag_recorded st en n l).cke
@[simp] theorem State.flag_eng : (s.flag st en n l).eng = s.eng := (s.flag_recorded st en n l).eng
@[simp] theorem State.flag_thm : (s.flag st en n l).thm = s.thm := (s.flag_recorded st en n l).thm
@[simp] theorem State.flag_out : (s.flag st en n l).out = s.out := (s.flag_recorded st en n l).out
@[simp] theorem State.flag_free : (s.flag st en n l).free = s.free := (s.flag_recorded st en n l).free
@[simp] theorem State.flag_dtm_slewing : (s.flag st en n l).dtm.slewing = s.dtm.slewing := by
  obtain ⟨_, _, _, _, h, e⟩ := (s.flag_recorded st en n l).dtm; rw [h]
@[simp] theorem State.flag_dtm_everSet : (s.flag st en n l).dtm.everSet = s.dtm.everSet := by
  obtain ⟨_, _, _, _, h, e⟩ := (s.flag_recorded st en n l).dtm; rw [h]
@[simp] theorem State.flag_dtm_xoLost : (s.flag st en n l).dtm.xoLost = s.dtm.xoLost := by
  obtain ⟨_, _, _, _, h, e⟩ := (s.flag_recorded st en n l).dtm; rw [h]
@[simp] theorem State.flag_dtm_pllF : (s.flag st en n l).dtm.pllF = s.dtm.pllF := by
  obtain ⟨_, _, _, _, h, e⟩ := (s.flag_recorded st en n l).dtm; rw [h]
@[simp] theorem State.flag_dtm_pllE : (s.flag st en n l).dtm.pllE = s.dtm.pllE := by
  obtain ⟨_, _, _, _, h, e⟩ := (s.flag_recorded st en n l).dtm; rw [h]
@[simp] theorem State.flag_dtm_pllT : (s.flag st en n l).dtm.pllT = s.dtm.pllT := by
  obtain ⟨_, _, _, _, h, e⟩ := (s.flag_recorded st en n l).dtm; rw [h]
@[simp] theorem State.flag_dtm_pllH : (s.flag st en n l).dtm.pllH = s.dtm.pllH := by
  obtain ⟨_, _, _, _, h, e⟩ := (s.flag_recorded st en n l).dtm; rw [h]
@[simp] theorem State.flag_dtm_restored : (s.flag st en n l).dtm.restored = s.dtm.restored := by
  obtain ⟨_, _, _, _, h, e⟩ := (s.flag_recorded st en n l).dtm; rw [h]
@[simp] theorem State.flag_dtm_retained : (s.flag st en n l).dtm.retained = s.dtm.retained := by
  obtain ⟨_, _, _, _, h, e⟩ := (s.flag_recorded st en n l).dtm; rw [h]
@[simp] theorem State.flag_dtm_deedAt : (s.flag st en n l).dtm.deedAt = s.dtm.deedAt := by
  obtain ⟨_, _, _, _, h, e⟩ := (s.flag_recorded st en n l).dtm; rw [h]
@[simp] theorem State.flag_dtm_outUntil : (s.flag st en n l).dtm.outUntil = s.dtm.outUntil := by
  obtain ⟨_, _, _, _, h, e⟩ := (s.flag_recorded st en n l).dtm; rw [h]
@[simp] theorem State.flag_dtm_mono : (s.flag st en n l).dtm.mono = s.dtm.mono := by
  obtain ⟨_, _, _, _, h, e⟩ := (s.flag_recorded st en n l).dtm; rw [h]; simp [e]
@[simp] theorem State.flag_dtm_datum : (s.flag st en n l).dtm.datum = s.dtm.datum := by
  obtain ⟨_, _, _, _, h, e⟩ := (s.flag_recorded st en n l).dtm; rw [h]; simp [e]
@[simp] theorem State.flag_dtm_offset : (s.flag st en n l).dtm.offset = s.dtm.offset := by
  obtain ⟨_, _, _, _, h, e⟩ := (s.flag_recorded st en n l).dtm; rw [h]; simp [e]
@[simp] theorem State.flag_pst_flash : (s.flag st en n l).pst.flash = s.pst.flash := by
  obtain ⟨_, h⟩ := (s.flag_recorded st en n l).pst; rw [h]
@[simp] theorem State.flag_pst_weak : (s.flag st en n l).pst.weak = s.pst.weak := by
  obtain ⟨_, h⟩ := (s.flag_recorded st en n l).pst; rw [h]
@[simp] theorem State.flag_pst_areas : (s.flag st en n l).pst.areas = s.pst.areas := by
  obtain ⟨_, h⟩ := (s.flag_recorded st en n l).pst; rw [h]
@[simp] theorem State.flag_pst_tallies : (s.flag st en n l).pst.tallies = s.pst.tallies := by
  obtain ⟨_, h⟩ := (s.flag_recorded st en n l).pst; rw [h]
@[simp] theorem State.flag_pst_tallyNext : (s.flag st en n l).pst.tallyNext = s.pst.tallyNext := by
  obtain ⟨_, h⟩ := (s.flag_recorded st en n l).pst; rw [h]
@[simp] theorem State.flag_pst_hints0 : (s.flag st en n l).pst.hints0 = s.pst.hints0 := by
  obtain ⟨_, h⟩ := (s.flag_recorded st en n l).pst; rw [h]
@[simp] theorem State.flag_pst_hints1 : (s.flag st en n l).pst.hints1 = s.pst.hints1 := by
  obtain ⟨_, h⟩ := (s.flag_recorded st en n l).pst; rw [h]
@[simp] theorem State.flag_pst_hintHigh : (s.flag st en n l).pst.hintHigh = s.pst.hintHigh := by
  obtain ⟨_, h⟩ := (s.flag_recorded st en n l).pst; rw [h]
@[simp] theorem State.flag_pst_hintErasing : (s.flag st en n l).pst.hintErasing = s.pst.hintErasing := by
  obtain ⟨_, h⟩ := (s.flag_recorded st en n l).pst; rw [h]
@[simp] theorem State.flag_pst_replaced : (s.flag st en n l).pst.replaced = s.pst.replaced := by
  obtain ⟨_, h⟩ := (s.flag_recorded st en n l).pst; rw [h]
@[simp] theorem State.flag_pst_gen : (s.flag st en n l).pst.gen = s.pst.gen := by
  obtain ⟨_, h⟩ := (s.flag_recorded st en n l).pst; rw [h]
@[simp] theorem State.flag_pst_inForce : (s.flag st en n l).pst.inForce = s.pst.inForce := by
  obtain ⟨_, h⟩ := (s.flag_recorded st en n l).pst; rw [h]
@[simp] theorem State.flag_pst_run : (s.flag st en n l).pst.run = s.pst.run := by
  obtain ⟨_, h⟩ := (s.flag_recorded st en n l).pst; rw [h]
@[simp] theorem State.flag_pst_gateWait : (s.flag st en n l).pst.gateWait = s.pst.gateWait := by
  obtain ⟨_, h⟩ := (s.flag_recorded st en n l).pst; rw [h]
@[simp] theorem State.flag_pst_ungated : (s.flag st en n l).pst.ungated = s.pst.ungated := by
  obtain ⟨_, h⟩ := (s.flag_recorded st en n l).pst; rw [h]
@[simp] theorem State.flag_pst_owed : (s.flag st en n l).pst.owed = s.pst.owed := by
  obtain ⟨_, h⟩ := (s.flag_recorded st en n l).pst; rw [h]
@[simp] theorem State.flag_pst_endAt : (s.flag st en n l).pst.endAt = s.pst.endAt := by
  obtain ⟨_, h⟩ := (s.flag_recorded st en n l).pst; rw [h]
@[simp] theorem State.flag_pst_buf : (s.flag st en n l).pst.buf = s.pst.buf := by
  obtain ⟨_, h⟩ := (s.flag_recorded st en n l).pst; rw [h]
@[simp] theorem State.flag_port0_pwb : (s.flag st en n l).port0.pwb = s.port0.pwb := by
  obtain ⟨_, _, h⟩ := (s.flag_recorded st en n l).port0; rw [h]
@[simp] theorem State.flag_port0_reads : (s.flag st en n l).port0.reads = s.port0.reads := by
  obtain ⟨_, _, h⟩ := (s.flag_recorded st en n l).port0; rw [h]
@[simp] theorem State.flag_port0_nextSeq : (s.flag st en n l).port0.nextSeq = s.port0.nextSeq := by
  obtain ⟨_, _, h⟩ := (s.flag_recorded st en n l).port0; rw [h]
@[simp] theorem State.flag_port0_decoders : (s.flag st en n l).port0.decoders = s.port0.decoders := by
  obtain ⟨_, _, h⟩ := (s.flag_recorded st en n l).port0; rw [h]
@[simp] theorem State.flag_port0_ide : (s.flag st en n l).port0.ide = s.port0.ide := by
  obtain ⟨_, _, h⟩ := (s.flag_recorded st en n l).port0; rw [h]
@[simp] theorem State.flag_port0_linkUp : (s.flag st en n l).port0.linkUp = s.port0.linkUp := by
  obtain ⟨_, _, h⟩ := (s.flag_recorded st en n l).port0; rw [h]
@[simp] theorem State.flag_port0_rate : (s.flag st en n l).port0.rate = s.port0.rate := by
  obtain ⟨_, _, h⟩ := (s.flag_recorded st en n l).port0; rw [h]
@[simp] theorem State.flag_port0_width : (s.flag st en n l).port0.width = s.port0.width := by
  obtain ⟨_, _, h⟩ := (s.flag_recorded st en n l).port0; rw [h]
@[simp] theorem State.flag_port0_flit256 : (s.flag st en n l).port0.flit256 = s.port0.flit256 := by
  obtain ⟨_, _, h⟩ := (s.flag_recorded st en n l).port0; rw [h]
@[simp] theorem State.flag_port0_laneOk : (s.flag st en n l).port0.laneOk = s.port0.laneOk := by
  obtain ⟨_, _, h⟩ := (s.flag_recorded st en n l).port0; rw [h]
@[simp] theorem State.flag_port0_laneErrs : (s.flag st en n l).port0.laneErrs = s.port0.laneErrs := by
  obtain ⟨_, _, h⟩ := (s.flag_recorded st en n l).port0; rw [h]
@[simp] theorem State.flag_port0_drain : (s.flag st en n l).port0.drain = s.port0.drain := by
  obtain ⟨_, _, h⟩ := (s.flag_recorded st en n l).port0; rw [h]
@[simp] theorem State.flag_port0_gpf : (s.flag st en n l).port0.gpf = s.port0.gpf := by
  obtain ⟨_, _, h⟩ := (s.flag_recorded st en n l).port0; rw [h]
@[simp] theorem State.flag_port0_admitAt : (s.flag st en n l).port0.admitAt = s.port0.admitAt := by
  obtain ⟨_, _, h⟩ := (s.flag_recorded st en n l).port0; rw [h]
@[simp] theorem State.flag_port0_flr : (s.flag st en n l).port0.flr = s.port0.flr := by
  obtain ⟨_, _, h⟩ := (s.flag_recorded st en n l).port0; rw [h]
@[simp] theorem State.flag_port0_heldOut : (s.flag st en n l).port0.heldOut = s.port0.heldOut := by
  obtain ⟨_, _, h⟩ := (s.flag_recorded st en n l).port0; rw [h]
@[simp] theorem State.flag_port0_evtPolicy : (s.flag st en n l).port0.evtPolicy = s.port0.evtPolicy := by
  obtain ⟨_, _, h⟩ := (s.flag_recorded st en n l).port0; rw [h]
@[simp] theorem State.flag_port0_doorbell : (s.flag st en n l).port0.doorbell = s.port0.doorbell := by
  obtain ⟨_, _, h⟩ := (s.flag_recorded st en n l).port0; rw [h]
@[simp] theorem State.flag_port0_lsa : (s.flag st en n l).port0.lsa = s.port0.lsa := by
  obtain ⟨_, _, h⟩ := (s.flag_recorded st en n l).port0; rw [h]
@[simp] theorem State.flag_port0_lsaCopy : (s.flag st en n l).port0.lsaCopy = s.port0.lsaCopy := by
  obtain ⟨_, _, h⟩ := (s.flag_recorded st en n l).port0; rw [h]
@[simp] theorem State.flag_port1_pwb : (s.flag st en n l).port1.pwb = s.port1.pwb := by
  obtain ⟨_, _, h⟩ := (s.flag_recorded st en n l).port1; rw [h]
@[simp] theorem State.flag_port1_reads : (s.flag st en n l).port1.reads = s.port1.reads := by
  obtain ⟨_, _, h⟩ := (s.flag_recorded st en n l).port1; rw [h]
@[simp] theorem State.flag_port1_nextSeq : (s.flag st en n l).port1.nextSeq = s.port1.nextSeq := by
  obtain ⟨_, _, h⟩ := (s.flag_recorded st en n l).port1; rw [h]
@[simp] theorem State.flag_port1_decoders : (s.flag st en n l).port1.decoders = s.port1.decoders := by
  obtain ⟨_, _, h⟩ := (s.flag_recorded st en n l).port1; rw [h]
@[simp] theorem State.flag_port1_ide : (s.flag st en n l).port1.ide = s.port1.ide := by
  obtain ⟨_, _, h⟩ := (s.flag_recorded st en n l).port1; rw [h]
@[simp] theorem State.flag_port1_linkUp : (s.flag st en n l).port1.linkUp = s.port1.linkUp := by
  obtain ⟨_, _, h⟩ := (s.flag_recorded st en n l).port1; rw [h]
@[simp] theorem State.flag_port1_rate : (s.flag st en n l).port1.rate = s.port1.rate := by
  obtain ⟨_, _, h⟩ := (s.flag_recorded st en n l).port1; rw [h]
@[simp] theorem State.flag_port1_width : (s.flag st en n l).port1.width = s.port1.width := by
  obtain ⟨_, _, h⟩ := (s.flag_recorded st en n l).port1; rw [h]
@[simp] theorem State.flag_port1_flit256 : (s.flag st en n l).port1.flit256 = s.port1.flit256 := by
  obtain ⟨_, _, h⟩ := (s.flag_recorded st en n l).port1; rw [h]
@[simp] theorem State.flag_port1_laneOk : (s.flag st en n l).port1.laneOk = s.port1.laneOk := by
  obtain ⟨_, _, h⟩ := (s.flag_recorded st en n l).port1; rw [h]
@[simp] theorem State.flag_port1_laneErrs : (s.flag st en n l).port1.laneErrs = s.port1.laneErrs := by
  obtain ⟨_, _, h⟩ := (s.flag_recorded st en n l).port1; rw [h]
@[simp] theorem State.flag_port1_drain : (s.flag st en n l).port1.drain = s.port1.drain := by
  obtain ⟨_, _, h⟩ := (s.flag_recorded st en n l).port1; rw [h]
@[simp] theorem State.flag_port1_gpf : (s.flag st en n l).port1.gpf = s.port1.gpf := by
  obtain ⟨_, _, h⟩ := (s.flag_recorded st en n l).port1; rw [h]
@[simp] theorem State.flag_port1_admitAt : (s.flag st en n l).port1.admitAt = s.port1.admitAt := by
  obtain ⟨_, _, h⟩ := (s.flag_recorded st en n l).port1; rw [h]
@[simp] theorem State.flag_port1_flr : (s.flag st en n l).port1.flr = s.port1.flr := by
  obtain ⟨_, _, h⟩ := (s.flag_recorded st en n l).port1; rw [h]
@[simp] theorem State.flag_port1_heldOut : (s.flag st en n l).port1.heldOut = s.port1.heldOut := by
  obtain ⟨_, _, h⟩ := (s.flag_recorded st en n l).port1; rw [h]
@[simp] theorem State.flag_port1_evtPolicy : (s.flag st en n l).port1.evtPolicy = s.port1.evtPolicy := by
  obtain ⟨_, _, h⟩ := (s.flag_recorded st en n l).port1; rw [h]
@[simp] theorem State.flag_port1_doorbell : (s.flag st en n l).port1.doorbell = s.port1.doorbell := by
  obtain ⟨_, _, h⟩ := (s.flag_recorded st en n l).port1; rw [h]
@[simp] theorem State.flag_port1_lsa : (s.flag st en n l).port1.lsa = s.port1.lsa := by
  obtain ⟨_, _, h⟩ := (s.flag_recorded st en n l).port1; rw [h]
@[simp] theorem State.flag_port1_lsaCopy : (s.flag st en n l).port1.lsaCopy = s.port1.lsaCopy := by
  obtain ⟨_, _, h⟩ := (s.flag_recorded st en n l).port1; rw [h]
@[simp] theorem State.flag_svy_gen : (s.flag st en n l).svy.gen = s.svy.gen := by
  obtain ⟨_, h⟩ := (s.flag_recorded st en n l).svy; rw [h]
@[simp] theorem State.flag_svy_missed : (s.flag st en n l).svy.missed = s.svy.missed := by
  obtain ⟨_, h⟩ := (s.flag_recorded st en n l).svy; rw [h]
@[simp] theorem State.flag_svy_areas : (s.flag st en n l).svy.areas = s.svy.areas := by
  obtain ⟨_, h⟩ := (s.flag_recorded st en n l).svy; rw [h]
@[simp] theorem State.flag_svy_snaps : (s.flag st en n l).svy.snaps = s.svy.snaps := by
  obtain ⟨_, h⟩ := (s.flag_recorded st en n l).svy; rw [h]
@[simp] theorem State.flag_svy_bufBar2 : (s.flag st en n l).svy.bufBar2 = s.svy.bufBar2 := by
  obtain ⟨_, h⟩ := (s.flag_recorded st en n l).svy; rw [h]
@[simp] theorem State.flag_svy_bufMctp : (s.flag st en n l).svy.bufMctp = s.svy.bufMctp := by
  obtain ⟨_, h⟩ := (s.flag_recorded st en n l).svy; rw [h]
theorem State.flag_getReg (o : Nat) (h : recReg o = false) (h' : o ≠ st) :
    (s.flag st en n l).getReg o = s.getReg o :=
  (Recorded.flag (R := fun o => recReg o || o == st) (tm := false) (fun o h => by simp [h]) s en n l (by simp)).regs o (by simp [h, h'])

end

section
variable (n : Nat)

theorem State.nearMiss_recorded : Recorded (fun _ => true) false s (s.nearMiss n) := .nearMiss (R := fun _ => true) (fun _ _ => rfl) s n
@[simp] theorem State.nearMiss_pending : (s.nearMiss n).pending = s.pending := (s.nearMiss_recorded n).pending
@[simp] theorem State.nearMiss_bar2 : (s.nearMiss n).bar2 = s.bar2 := (s.nearMiss_recorded n).bar2
@[simp] theorem State.nearMiss_mctp : (s.nearMiss n).mctp = s.mctp := (s.nearMiss_recorded n).mctp
@[simp] theorem State.nearMiss_sys : (s.nearMiss n).sys = s.sys := (s.nearMiss_recorded n).sys
@[simp] theorem State.nearMiss_plat : (s.nearMiss n).plat = s.plat := (s.nearMiss_recorded n).plat
@[simp] theorem State.nearMiss_svc : (s.nearMiss n).svc = s.svc := (s.nearMiss_recorded n).svc
@[simp] theorem State.nearMiss_stg : (s.nearMiss n).stg = s.stg := (s.nearMiss_recorded n).stg
@[simp] theorem State.nearMiss_cds : (s.nearMiss n).cds = s.cds := (s.nearMiss_recorded n).cds
@[simp] theorem State.nearMiss_saved : (s.nearMiss n).saved = s.saved := (s.nearMiss_recorded n).saved
@[simp] theorem State.nearMiss_med : (s.nearMiss n).med = s.med := (s.nearMiss_recorded n).med
@[simp] theorem State.nearMiss_trv : (s.nearMiss n).trv = s.trv := (s.nearMiss_recorded n).trv
@[simp] theorem State.nearMiss_mdc : (s.nearMiss n).mdc = s.mdc := (s.nearMiss_recorded n).mdc
@[simp] theorem State.nearMiss_pwr : (s.nearMiss n).pwr = s.pwr := (s.nearMiss_recorded n).pwr
@[simp] theorem State.nearMiss_pfl : (s.nearMiss n).pfl = s.pfl := (s.nearMiss_recorded n).pfl
@[simp] theorem State.nearMiss_ime : (s.nearMiss n).ime = s.ime := (s.nearMiss_recorded n).ime
@[simp] theorem State.nearMiss_cke : (s.nearMiss n).cke = s.cke := (s.nearMiss_recorded n).cke
@[simp] theorem State.nearMiss_eng : (s.nearMiss n).eng = s.eng := (s.nearMiss_recorded n).eng
@[simp] theorem State.nearMiss_thm : (s.nearMiss n).thm = s.thm := (s.nearMiss_recorded n).thm
@[simp] theorem State.nearMiss_out : (s.nearMiss n).out = s.out := (s.nearMiss_recorded n).out
@[simp] theorem State.nearMiss_free : (s.nearMiss n).free = s.free := (s.nearMiss_recorded n).free
@[simp] theorem State.nearMiss_dtm_slewing : (s.nearMiss n).dtm.slewing = s.dtm.slewing := by
  obtain ⟨_, _, _, _, h, e⟩ := (s.nearMiss_recorded n).dtm; rw [h]
@[simp] theorem State.nearMiss_dtm_everSet : (s.nearMiss n).dtm.everSet = s.dtm.everSet := by
  obtain ⟨_, _, _, _, h, e⟩ := (s.nearMiss_recorded n).dtm; rw [h]
@[simp] theorem State.nearMiss_dtm_xoLost : (s.nearMiss n).dtm.xoLost = s.dtm.xoLost := by
  obtain ⟨_, _, _, _, h, e⟩ := (s.nearMiss_recorded n).dtm; rw [h]
@[simp] theorem State.nearMiss_dtm_pllF : (s.nearMiss n).dtm.pllF = s.dtm.pllF := by
  obtain ⟨_, _, _, _, h, e⟩ := (s.nearMiss_recorded n).dtm; rw [h]
@[simp] theorem State.nearMiss_dtm_pllE : (s.nearMiss n).dtm.pllE = s.dtm.pllE := by
  obtain ⟨_, _, _, _, h, e⟩ := (s.nearMiss_recorded n).dtm; rw [h]
@[simp] theorem State.nearMiss_dtm_pllT : (s.nearMiss n).dtm.pllT = s.dtm.pllT := by
  obtain ⟨_, _, _, _, h, e⟩ := (s.nearMiss_recorded n).dtm; rw [h]
@[simp] theorem State.nearMiss_dtm_pllH : (s.nearMiss n).dtm.pllH = s.dtm.pllH := by
  obtain ⟨_, _, _, _, h, e⟩ := (s.nearMiss_recorded n).dtm; rw [h]
@[simp] theorem State.nearMiss_dtm_restored : (s.nearMiss n).dtm.restored = s.dtm.restored := by
  obtain ⟨_, _, _, _, h, e⟩ := (s.nearMiss_recorded n).dtm; rw [h]
@[simp] theorem State.nearMiss_dtm_retained : (s.nearMiss n).dtm.retained = s.dtm.retained := by
  obtain ⟨_, _, _, _, h, e⟩ := (s.nearMiss_recorded n).dtm; rw [h]
@[simp] theorem State.nearMiss_dtm_deedAt : (s.nearMiss n).dtm.deedAt = s.dtm.deedAt := by
  obtain ⟨_, _, _, _, h, e⟩ := (s.nearMiss_recorded n).dtm; rw [h]
@[simp] theorem State.nearMiss_dtm_outUntil : (s.nearMiss n).dtm.outUntil = s.dtm.outUntil := by
  obtain ⟨_, _, _, _, h, e⟩ := (s.nearMiss_recorded n).dtm; rw [h]
@[simp] theorem State.nearMiss_dtm_mono : (s.nearMiss n).dtm.mono = s.dtm.mono := by
  obtain ⟨_, _, _, _, h, e⟩ := (s.nearMiss_recorded n).dtm; rw [h]; simp [e]
@[simp] theorem State.nearMiss_dtm_datum : (s.nearMiss n).dtm.datum = s.dtm.datum := by
  obtain ⟨_, _, _, _, h, e⟩ := (s.nearMiss_recorded n).dtm; rw [h]; simp [e]
@[simp] theorem State.nearMiss_dtm_offset : (s.nearMiss n).dtm.offset = s.dtm.offset := by
  obtain ⟨_, _, _, _, h, e⟩ := (s.nearMiss_recorded n).dtm; rw [h]; simp [e]
@[simp] theorem State.nearMiss_pst_flash : (s.nearMiss n).pst.flash = s.pst.flash := by
  obtain ⟨_, h⟩ := (s.nearMiss_recorded n).pst; rw [h]
@[simp] theorem State.nearMiss_pst_weak : (s.nearMiss n).pst.weak = s.pst.weak := by
  obtain ⟨_, h⟩ := (s.nearMiss_recorded n).pst; rw [h]
@[simp] theorem State.nearMiss_pst_areas : (s.nearMiss n).pst.areas = s.pst.areas := by
  obtain ⟨_, h⟩ := (s.nearMiss_recorded n).pst; rw [h]
@[simp] theorem State.nearMiss_pst_tallies : (s.nearMiss n).pst.tallies = s.pst.tallies := by
  obtain ⟨_, h⟩ := (s.nearMiss_recorded n).pst; rw [h]
@[simp] theorem State.nearMiss_pst_tallyNext : (s.nearMiss n).pst.tallyNext = s.pst.tallyNext := by
  obtain ⟨_, h⟩ := (s.nearMiss_recorded n).pst; rw [h]
@[simp] theorem State.nearMiss_pst_hints0 : (s.nearMiss n).pst.hints0 = s.pst.hints0 := by
  obtain ⟨_, h⟩ := (s.nearMiss_recorded n).pst; rw [h]
@[simp] theorem State.nearMiss_pst_hints1 : (s.nearMiss n).pst.hints1 = s.pst.hints1 := by
  obtain ⟨_, h⟩ := (s.nearMiss_recorded n).pst; rw [h]
@[simp] theorem State.nearMiss_pst_hintHigh : (s.nearMiss n).pst.hintHigh = s.pst.hintHigh := by
  obtain ⟨_, h⟩ := (s.nearMiss_recorded n).pst; rw [h]
@[simp] theorem State.nearMiss_pst_hintErasing : (s.nearMiss n).pst.hintErasing = s.pst.hintErasing := by
  obtain ⟨_, h⟩ := (s.nearMiss_recorded n).pst; rw [h]
@[simp] theorem State.nearMiss_pst_replaced : (s.nearMiss n).pst.replaced = s.pst.replaced := by
  obtain ⟨_, h⟩ := (s.nearMiss_recorded n).pst; rw [h]
@[simp] theorem State.nearMiss_pst_gen : (s.nearMiss n).pst.gen = s.pst.gen := by
  obtain ⟨_, h⟩ := (s.nearMiss_recorded n).pst; rw [h]
@[simp] theorem State.nearMiss_pst_inForce : (s.nearMiss n).pst.inForce = s.pst.inForce := by
  obtain ⟨_, h⟩ := (s.nearMiss_recorded n).pst; rw [h]
@[simp] theorem State.nearMiss_pst_run : (s.nearMiss n).pst.run = s.pst.run := by
  obtain ⟨_, h⟩ := (s.nearMiss_recorded n).pst; rw [h]
@[simp] theorem State.nearMiss_pst_gateWait : (s.nearMiss n).pst.gateWait = s.pst.gateWait := by
  obtain ⟨_, h⟩ := (s.nearMiss_recorded n).pst; rw [h]
@[simp] theorem State.nearMiss_pst_ungated : (s.nearMiss n).pst.ungated = s.pst.ungated := by
  obtain ⟨_, h⟩ := (s.nearMiss_recorded n).pst; rw [h]
@[simp] theorem State.nearMiss_pst_owed : (s.nearMiss n).pst.owed = s.pst.owed := by
  obtain ⟨_, h⟩ := (s.nearMiss_recorded n).pst; rw [h]
@[simp] theorem State.nearMiss_pst_endAt : (s.nearMiss n).pst.endAt = s.pst.endAt := by
  obtain ⟨_, h⟩ := (s.nearMiss_recorded n).pst; rw [h]
@[simp] theorem State.nearMiss_pst_buf : (s.nearMiss n).pst.buf = s.pst.buf := by
  obtain ⟨_, h⟩ := (s.nearMiss_recorded n).pst; rw [h]
@[simp] theorem State.nearMiss_port0_pwb : (s.nearMiss n).port0.pwb = s.port0.pwb := by
  obtain ⟨_, _, h⟩ := (s.nearMiss_recorded n).port0; rw [h]
@[simp] theorem State.nearMiss_port0_reads : (s.nearMiss n).port0.reads = s.port0.reads := by
  obtain ⟨_, _, h⟩ := (s.nearMiss_recorded n).port0; rw [h]
@[simp] theorem State.nearMiss_port0_nextSeq : (s.nearMiss n).port0.nextSeq = s.port0.nextSeq := by
  obtain ⟨_, _, h⟩ := (s.nearMiss_recorded n).port0; rw [h]
@[simp] theorem State.nearMiss_port0_decoders : (s.nearMiss n).port0.decoders = s.port0.decoders := by
  obtain ⟨_, _, h⟩ := (s.nearMiss_recorded n).port0; rw [h]
@[simp] theorem State.nearMiss_port0_ide : (s.nearMiss n).port0.ide = s.port0.ide := by
  obtain ⟨_, _, h⟩ := (s.nearMiss_recorded n).port0; rw [h]
@[simp] theorem State.nearMiss_port0_linkUp : (s.nearMiss n).port0.linkUp = s.port0.linkUp := by
  obtain ⟨_, _, h⟩ := (s.nearMiss_recorded n).port0; rw [h]
@[simp] theorem State.nearMiss_port0_rate : (s.nearMiss n).port0.rate = s.port0.rate := by
  obtain ⟨_, _, h⟩ := (s.nearMiss_recorded n).port0; rw [h]
@[simp] theorem State.nearMiss_port0_width : (s.nearMiss n).port0.width = s.port0.width := by
  obtain ⟨_, _, h⟩ := (s.nearMiss_recorded n).port0; rw [h]
@[simp] theorem State.nearMiss_port0_flit256 : (s.nearMiss n).port0.flit256 = s.port0.flit256 := by
  obtain ⟨_, _, h⟩ := (s.nearMiss_recorded n).port0; rw [h]
@[simp] theorem State.nearMiss_port0_laneOk : (s.nearMiss n).port0.laneOk = s.port0.laneOk := by
  obtain ⟨_, _, h⟩ := (s.nearMiss_recorded n).port0; rw [h]
@[simp] theorem State.nearMiss_port0_laneErrs : (s.nearMiss n).port0.laneErrs = s.port0.laneErrs := by
  obtain ⟨_, _, h⟩ := (s.nearMiss_recorded n).port0; rw [h]
@[simp] theorem State.nearMiss_port0_drain : (s.nearMiss n).port0.drain = s.port0.drain := by
  obtain ⟨_, _, h⟩ := (s.nearMiss_recorded n).port0; rw [h]
@[simp] theorem State.nearMiss_port0_gpf : (s.nearMiss n).port0.gpf = s.port0.gpf := by
  obtain ⟨_, _, h⟩ := (s.nearMiss_recorded n).port0; rw [h]
@[simp] theorem State.nearMiss_port0_admitAt : (s.nearMiss n).port0.admitAt = s.port0.admitAt := by
  obtain ⟨_, _, h⟩ := (s.nearMiss_recorded n).port0; rw [h]
@[simp] theorem State.nearMiss_port0_flr : (s.nearMiss n).port0.flr = s.port0.flr := by
  obtain ⟨_, _, h⟩ := (s.nearMiss_recorded n).port0; rw [h]
@[simp] theorem State.nearMiss_port0_heldOut : (s.nearMiss n).port0.heldOut = s.port0.heldOut := by
  obtain ⟨_, _, h⟩ := (s.nearMiss_recorded n).port0; rw [h]
@[simp] theorem State.nearMiss_port0_evtPolicy : (s.nearMiss n).port0.evtPolicy = s.port0.evtPolicy := by
  obtain ⟨_, _, h⟩ := (s.nearMiss_recorded n).port0; rw [h]
@[simp] theorem State.nearMiss_port0_doorbell : (s.nearMiss n).port0.doorbell = s.port0.doorbell := by
  obtain ⟨_, _, h⟩ := (s.nearMiss_recorded n).port0; rw [h]
@[simp] theorem State.nearMiss_port0_lsa : (s.nearMiss n).port0.lsa = s.port0.lsa := by
  obtain ⟨_, _, h⟩ := (s.nearMiss_recorded n).port0; rw [h]
@[simp] theorem State.nearMiss_port0_lsaCopy : (s.nearMiss n).port0.lsaCopy = s.port0.lsaCopy := by
  obtain ⟨_, _, h⟩ := (s.nearMiss_recorded n).port0; rw [h]
@[simp] theorem State.nearMiss_port1_pwb : (s.nearMiss n).port1.pwb = s.port1.pwb := by
  obtain ⟨_, _, h⟩ := (s.nearMiss_recorded n).port1; rw [h]
@[simp] theorem State.nearMiss_port1_reads : (s.nearMiss n).port1.reads = s.port1.reads := by
  obtain ⟨_, _, h⟩ := (s.nearMiss_recorded n).port1; rw [h]
@[simp] theorem State.nearMiss_port1_nextSeq : (s.nearMiss n).port1.nextSeq = s.port1.nextSeq := by
  obtain ⟨_, _, h⟩ := (s.nearMiss_recorded n).port1; rw [h]
@[simp] theorem State.nearMiss_port1_decoders : (s.nearMiss n).port1.decoders = s.port1.decoders := by
  obtain ⟨_, _, h⟩ := (s.nearMiss_recorded n).port1; rw [h]
@[simp] theorem State.nearMiss_port1_ide : (s.nearMiss n).port1.ide = s.port1.ide := by
  obtain ⟨_, _, h⟩ := (s.nearMiss_recorded n).port1; rw [h]
@[simp] theorem State.nearMiss_port1_linkUp : (s.nearMiss n).port1.linkUp = s.port1.linkUp := by
  obtain ⟨_, _, h⟩ := (s.nearMiss_recorded n).port1; rw [h]
@[simp] theorem State.nearMiss_port1_rate : (s.nearMiss n).port1.rate = s.port1.rate := by
  obtain ⟨_, _, h⟩ := (s.nearMiss_recorded n).port1; rw [h]
@[simp] theorem State.nearMiss_port1_width : (s.nearMiss n).port1.width = s.port1.width := by
  obtain ⟨_, _, h⟩ := (s.nearMiss_recorded n).port1; rw [h]
@[simp] theorem State.nearMiss_port1_flit256 : (s.nearMiss n).port1.flit256 = s.port1.flit256 := by
  obtain ⟨_, _, h⟩ := (s.nearMiss_recorded n).port1; rw [h]
@[simp] theorem State.nearMiss_port1_laneOk : (s.nearMiss n).port1.laneOk = s.port1.laneOk := by
  obtain ⟨_, _, h⟩ := (s.nearMiss_recorded n).port1; rw [h]
@[simp] theorem State.nearMiss_port1_laneErrs : (s.nearMiss n).port1.laneErrs = s.port1.laneErrs := by
  obtain ⟨_, _, h⟩ := (s.nearMiss_recorded n).port1; rw [h]
@[simp] theorem State.nearMiss_port1_drain : (s.nearMiss n).port1.drain = s.port1.drain := by
  obtain ⟨_, _, h⟩ := (s.nearMiss_recorded n).port1; rw [h]
@[simp] theorem State.nearMiss_port1_gpf : (s.nearMiss n).port1.gpf = s.port1.gpf := by
  obtain ⟨_, _, h⟩ := (s.nearMiss_recorded n).port1; rw [h]
@[simp] theorem State.nearMiss_port1_admitAt : (s.nearMiss n).port1.admitAt = s.port1.admitAt := by
  obtain ⟨_, _, h⟩ := (s.nearMiss_recorded n).port1; rw [h]
@[simp] theorem State.nearMiss_port1_flr : (s.nearMiss n).port1.flr = s.port1.flr := by
  obtain ⟨_, _, h⟩ := (s.nearMiss_recorded n).port1; rw [h]
@[simp] theorem State.nearMiss_port1_heldOut : (s.nearMiss n).port1.heldOut = s.port1.heldOut := by
  obtain ⟨_, _, h⟩ := (s.nearMiss_recorded n).port1; rw [h]
@[simp] theorem State.nearMiss_port1_evtPolicy : (s.nearMiss n).port1.evtPolicy = s.port1.evtPolicy := by
  obtain ⟨_, _, h⟩ := (s.nearMiss_recorded n).port1; rw [h]
@[simp] theorem State.nearMiss_port1_doorbell : (s.nearMiss n).port1.doorbell = s.port1.doorbell := by
  obtain ⟨_, _, h⟩ := (s.nearMiss_recorded n).port1; rw [h]
@[simp] theorem State.nearMiss_port1_lsa : (s.nearMiss n).port1.lsa = s.port1.lsa := by
  obtain ⟨_, _, h⟩ := (s.nearMiss_recorded n).port1; rw [h]
@[simp] theorem State.nearMiss_port1_lsaCopy : (s.nearMiss n).port1.lsaCopy = s.port1.lsaCopy := by
  obtain ⟨_, _, h⟩ := (s.nearMiss_recorded n).port1; rw [h]
@[simp] theorem State.nearMiss_svy_gen : (s.nearMiss n).svy.gen = s.svy.gen := by
  obtain ⟨_, h⟩ := (s.nearMiss_recorded n).svy; rw [h]
@[simp] theorem State.nearMiss_svy_missed : (s.nearMiss n).svy.missed = s.svy.missed := by
  obtain ⟨_, h⟩ := (s.nearMiss_recorded n).svy; rw [h]
@[simp] theorem State.nearMiss_svy_areas : (s.nearMiss n).svy.areas = s.svy.areas := by
  obtain ⟨_, h⟩ := (s.nearMiss_recorded n).svy; rw [h]
@[simp] theorem State.nearMiss_svy_snaps : (s.nearMiss n).svy.snaps = s.svy.snaps := by
  obtain ⟨_, h⟩ := (s.nearMiss_recorded n).svy; rw [h]
@[simp] theorem State.nearMiss_svy_bufBar2 : (s.nearMiss n).svy.bufBar2 = s.svy.bufBar2 := by
  obtain ⟨_, h⟩ := (s.nearMiss_recorded n).svy; rw [h]
@[simp] theorem State.nearMiss_svy_bufMctp : (s.nearMiss n).svy.bufMctp = s.svy.bufMctp := by
  obtain ⟨_, h⟩ := (s.nearMiss_recorded n).svy; rw [h]
theorem State.nearMiss_getReg (o : Nat) (h : recReg o = false) (h' : o / 0x10000 ≠ 7) :
    (s.nearMiss n).getReg o = s.getReg o :=
  (Recorded.nearMiss (R := fun o => recReg o || o / 0x10000 == 7) (tm := false) (fun o h => by simpa using h) s n).regs o (by simp [h, h'])

end

section
variable (n : Nat)

theorem State.strobe_recorded : Recorded (fun _ => true) false s (s.strobe n) := .strobeAt all_true s s.dtm.mono n
@[simp] theorem State.strobe_pending : (s.strobe n).pending = s.pending := (s.strobe_recorded n).pending
@[simp] theorem State.strobe_bar2 : (s.strobe n).bar2 = s.bar2 := (s.strobe_recorded n).bar2
@[simp] theorem State.strobe_mctp : (s.strobe n).mctp = s.mctp := (s.strobe_recorded n).mctp
@[simp] theorem State.strobe_sys : (s.strobe n).sys = s.sys := (s.strobe_recorded n).sys
@[simp] theorem State.strobe_plat : (s.strobe n).plat = s.plat := (s.strobe_recorded n).plat
@[simp] theorem State.strobe_svc : (s.strobe n).svc = s.svc := (s.strobe_recorded n).svc
@[simp] theorem State.strobe_stg : (s.strobe n).stg = s.stg := (s.strobe_recorded n).stg
@[simp] theorem State.strobe_cds : (s.strobe n).cds = s.cds := (s.strobe_recorded n).cds
@[simp] theorem State.strobe_saved : (s.strobe n).saved = s.saved := (s.strobe_recorded n).saved
@[simp] theorem State.strobe_med : (s.strobe n).med = s.med := (s.strobe_recorded n).med
@[simp] theorem State.strobe_trv : (s.strobe n).trv = s.trv := (s.strobe_recorded n).trv
@[simp] theorem State.strobe_mdc : (s.strobe n).mdc = s.mdc := (s.strobe_recorded n).mdc
@[simp] theorem State.strobe_pwr : (s.strobe n).pwr = s.pwr := (s.strobe_recorded n).pwr
@[simp] theorem State.strobe_pfl : (s.strobe n).pfl = s.pfl := (s.strobe_recorded n).pfl
@[simp] theorem State.strobe_ime : (s.strobe n).ime = s.ime := (s.strobe_recorded n).ime
@[simp] theorem State.strobe_cke : (s.strobe n).cke = s.cke := (s.strobe_recorded n).cke
@[simp] theorem State.strobe_eng : (s.strobe n).eng = s.eng := (s.strobe_recorded n).eng
@[simp] theorem State.strobe_thm : (s.strobe n).thm = s.thm := (s.strobe_recorded n).thm
@[simp] theorem State.strobe_out : (s.strobe n).out = s.out := (s.strobe_recorded n).out
@[simp] theorem State.strobe_free : (s.strobe n).free = s.free := (s.strobe_recorded n).free
@[simp] theorem State.strobe_dtm_slewing : (s.strobe n).dtm.slewing = s.dtm.slewing := by
  obtain ⟨_, _, _, _, h, e⟩ := (s.strobe_recorded n).dtm; rw [h]
@[simp] theorem State.strobe_dtm_everSet : (s.strobe n).dtm.everSet = s.dtm.everSet := by
  obtain ⟨_, _, _, _, h, e⟩ := (s.strobe_recorded n).dtm; rw [h]
@[simp] theorem State.strobe_dtm_xoLost : (s.strobe n).dtm.xoLost = s.dtm.xoLost := by
  obtain ⟨_, _, _, _, h, e⟩ := (s.strobe_recorded n).dtm; rw [h]
@[simp] theorem State.strobe_dtm_pllF : (s.strobe n).dtm.pllF = s.dtm.pllF := by
  obtain ⟨_, _, _, _, h, e⟩ := (s.strobe_recorded n).dtm; rw [h]
@[simp] theorem State.strobe_dtm_pllE : (s.strobe n).dtm.pllE = s.dtm.pllE := by
  obtain ⟨_, _, _, _, h, e⟩ := (s.strobe_recorded n).dtm; rw [h]
@[simp] theorem State.strobe_dtm_pllT : (s.strobe n).dtm.pllT = s.dtm.pllT := by
  obtain ⟨_, _, _, _, h, e⟩ := (s.strobe_recorded n).dtm; rw [h]
@[simp] theorem State.strobe_dtm_pllH : (s.strobe n).dtm.pllH = s.dtm.pllH := by
  obtain ⟨_, _, _, _, h, e⟩ := (s.strobe_recorded n).dtm; rw [h]
@[simp] theorem State.strobe_dtm_restored : (s.strobe n).dtm.restored = s.dtm.restored := by
  obtain ⟨_, _, _, _, h, e⟩ := (s.strobe_recorded n).dtm; rw [h]
@[simp] theorem State.strobe_dtm_retained : (s.strobe n).dtm.retained = s.dtm.retained := by
  obtain ⟨_, _, _, _, h, e⟩ := (s.strobe_recorded n).dtm; rw [h]
@[simp] theorem State.strobe_dtm_deedAt : (s.strobe n).dtm.deedAt = s.dtm.deedAt := by
  obtain ⟨_, _, _, _, h, e⟩ := (s.strobe_recorded n).dtm; rw [h]
@[simp] theorem State.strobe_dtm_outUntil : (s.strobe n).dtm.outUntil = s.dtm.outUntil := by
  obtain ⟨_, _, _, _, h, e⟩ := (s.strobe_recorded n).dtm; rw [h]
@[simp] theorem State.strobe_dtm_mono : (s.strobe n).dtm.mono = s.dtm.mono := by
  obtain ⟨_, _, _, _, h, e⟩ := (s.strobe_recorded n).dtm; rw [h]; simp [e]
@[simp] theorem State.strobe_dtm_datum : (s.strobe n).dtm.datum = s.dtm.datum := by
  obtain ⟨_, _, _, _, h, e⟩ := (s.strobe_recorded n).dtm; rw [h]; simp [e]
@[simp] theorem State.strobe_dtm_offset : (s.strobe n).dtm.offset = s.dtm.offset := by
  obtain ⟨_, _, _, _, h, e⟩ := (s.strobe_recorded n).dtm; rw [h]; simp [e]
@[simp] theorem State.strobe_pst_flash : (s.strobe n).pst.flash = s.pst.flash := by
  obtain ⟨_, h⟩ := (s.strobe_recorded n).pst; rw [h]
@[simp] theorem State.strobe_pst_weak : (s.strobe n).pst.weak = s.pst.weak := by
  obtain ⟨_, h⟩ := (s.strobe_recorded n).pst; rw [h]
@[simp] theorem State.strobe_pst_areas : (s.strobe n).pst.areas = s.pst.areas := by
  obtain ⟨_, h⟩ := (s.strobe_recorded n).pst; rw [h]
@[simp] theorem State.strobe_pst_tallies : (s.strobe n).pst.tallies = s.pst.tallies := by
  obtain ⟨_, h⟩ := (s.strobe_recorded n).pst; rw [h]
@[simp] theorem State.strobe_pst_tallyNext : (s.strobe n).pst.tallyNext = s.pst.tallyNext := by
  obtain ⟨_, h⟩ := (s.strobe_recorded n).pst; rw [h]
@[simp] theorem State.strobe_pst_hints0 : (s.strobe n).pst.hints0 = s.pst.hints0 := by
  obtain ⟨_, h⟩ := (s.strobe_recorded n).pst; rw [h]
@[simp] theorem State.strobe_pst_hints1 : (s.strobe n).pst.hints1 = s.pst.hints1 := by
  obtain ⟨_, h⟩ := (s.strobe_recorded n).pst; rw [h]
@[simp] theorem State.strobe_pst_hintHigh : (s.strobe n).pst.hintHigh = s.pst.hintHigh := by
  obtain ⟨_, h⟩ := (s.strobe_recorded n).pst; rw [h]
@[simp] theorem State.strobe_pst_hintErasing : (s.strobe n).pst.hintErasing = s.pst.hintErasing := by
  obtain ⟨_, h⟩ := (s.strobe_recorded n).pst; rw [h]
@[simp] theorem State.strobe_pst_replaced : (s.strobe n).pst.replaced = s.pst.replaced := by
  obtain ⟨_, h⟩ := (s.strobe_recorded n).pst; rw [h]
@[simp] theorem State.strobe_pst_gen : (s.strobe n).pst.gen = s.pst.gen := by
  obtain ⟨_, h⟩ := (s.strobe_recorded n).pst; rw [h]
@[simp] theorem State.strobe_pst_inForce : (s.strobe n).pst.inForce = s.pst.inForce := by
  obtain ⟨_, h⟩ := (s.strobe_recorded n).pst; rw [h]
@[simp] theorem State.strobe_pst_run : (s.strobe n).pst.run = s.pst.run := by
  obtain ⟨_, h⟩ := (s.strobe_recorded n).pst; rw [h]
@[simp] theorem State.strobe_pst_gateWait : (s.strobe n).pst.gateWait = s.pst.gateWait := by
  obtain ⟨_, h⟩ := (s.strobe_recorded n).pst; rw [h]
@[simp] theorem State.strobe_pst_ungated : (s.strobe n).pst.ungated = s.pst.ungated := by
  obtain ⟨_, h⟩ := (s.strobe_recorded n).pst; rw [h]
@[simp] theorem State.strobe_pst_owed : (s.strobe n).pst.owed = s.pst.owed := by
  obtain ⟨_, h⟩ := (s.strobe_recorded n).pst; rw [h]
@[simp] theorem State.strobe_pst_endAt : (s.strobe n).pst.endAt = s.pst.endAt := by
  obtain ⟨_, h⟩ := (s.strobe_recorded n).pst; rw [h]
@[simp] theorem State.strobe_pst_buf : (s.strobe n).pst.buf = s.pst.buf := by
  obtain ⟨_, h⟩ := (s.strobe_recorded n).pst; rw [h]
@[simp] theorem State.strobe_port0_pwb : (s.strobe n).port0.pwb = s.port0.pwb := by
  obtain ⟨_, _, h⟩ := (s.strobe_recorded n).port0; rw [h]
@[simp] theorem State.strobe_port0_reads : (s.strobe n).port0.reads = s.port0.reads := by
  obtain ⟨_, _, h⟩ := (s.strobe_recorded n).port0; rw [h]
@[simp] theorem State.strobe_port0_nextSeq : (s.strobe n).port0.nextSeq = s.port0.nextSeq := by
  obtain ⟨_, _, h⟩ := (s.strobe_recorded n).port0; rw [h]
@[simp] theorem State.strobe_port0_decoders : (s.strobe n).port0.decoders = s.port0.decoders := by
  obtain ⟨_, _, h⟩ := (s.strobe_recorded n).port0; rw [h]
@[simp] theorem State.strobe_port0_ide : (s.strobe n).port0.ide = s.port0.ide := by
  obtain ⟨_, _, h⟩ := (s.strobe_recorded n).port0; rw [h]
@[simp] theorem State.strobe_port0_linkUp : (s.strobe n).port0.linkUp = s.port0.linkUp := by
  obtain ⟨_, _, h⟩ := (s.strobe_recorded n).port0; rw [h]
@[simp] theorem State.strobe_port0_rate : (s.strobe n).port0.rate = s.port0.rate := by
  obtain ⟨_, _, h⟩ := (s.strobe_recorded n).port0; rw [h]
@[simp] theorem State.strobe_port0_width : (s.strobe n).port0.width = s.port0.width := by
  obtain ⟨_, _, h⟩ := (s.strobe_recorded n).port0; rw [h]
@[simp] theorem State.strobe_port0_flit256 : (s.strobe n).port0.flit256 = s.port0.flit256 := by
  obtain ⟨_, _, h⟩ := (s.strobe_recorded n).port0; rw [h]
@[simp] theorem State.strobe_port0_laneOk : (s.strobe n).port0.laneOk = s.port0.laneOk := by
  obtain ⟨_, _, h⟩ := (s.strobe_recorded n).port0; rw [h]
@[simp] theorem State.strobe_port0_laneErrs : (s.strobe n).port0.laneErrs = s.port0.laneErrs := by
  obtain ⟨_, _, h⟩ := (s.strobe_recorded n).port0; rw [h]
@[simp] theorem State.strobe_port0_drain : (s.strobe n).port0.drain = s.port0.drain := by
  obtain ⟨_, _, h⟩ := (s.strobe_recorded n).port0; rw [h]
@[simp] theorem State.strobe_port0_gpf : (s.strobe n).port0.gpf = s.port0.gpf := by
  obtain ⟨_, _, h⟩ := (s.strobe_recorded n).port0; rw [h]
@[simp] theorem State.strobe_port0_admitAt : (s.strobe n).port0.admitAt = s.port0.admitAt := by
  obtain ⟨_, _, h⟩ := (s.strobe_recorded n).port0; rw [h]
@[simp] theorem State.strobe_port0_flr : (s.strobe n).port0.flr = s.port0.flr := by
  obtain ⟨_, _, h⟩ := (s.strobe_recorded n).port0; rw [h]
@[simp] theorem State.strobe_port0_heldOut : (s.strobe n).port0.heldOut = s.port0.heldOut := by
  obtain ⟨_, _, h⟩ := (s.strobe_recorded n).port0; rw [h]
@[simp] theorem State.strobe_port0_evtPolicy : (s.strobe n).port0.evtPolicy = s.port0.evtPolicy := by
  obtain ⟨_, _, h⟩ := (s.strobe_recorded n).port0; rw [h]
@[simp] theorem State.strobe_port0_doorbell : (s.strobe n).port0.doorbell = s.port0.doorbell := by
  obtain ⟨_, _, h⟩ := (s.strobe_recorded n).port0; rw [h]
@[simp] theorem State.strobe_port0_lsa : (s.strobe n).port0.lsa = s.port0.lsa := by
  obtain ⟨_, _, h⟩ := (s.strobe_recorded n).port0; rw [h]
@[simp] theorem State.strobe_port0_lsaCopy : (s.strobe n).port0.lsaCopy = s.port0.lsaCopy := by
  obtain ⟨_, _, h⟩ := (s.strobe_recorded n).port0; rw [h]
@[simp] theorem State.strobe_port1_pwb : (s.strobe n).port1.pwb = s.port1.pwb := by
  obtain ⟨_, _, h⟩ := (s.strobe_recorded n).port1; rw [h]
@[simp] theorem State.strobe_port1_reads : (s.strobe n).port1.reads = s.port1.reads := by
  obtain ⟨_, _, h⟩ := (s.strobe_recorded n).port1; rw [h]
@[simp] theorem State.strobe_port1_nextSeq : (s.strobe n).port1.nextSeq = s.port1.nextSeq := by
  obtain ⟨_, _, h⟩ := (s.strobe_recorded n).port1; rw [h]
@[simp] theorem State.strobe_port1_decoders : (s.strobe n).port1.decoders = s.port1.decoders := by
  obtain ⟨_, _, h⟩ := (s.strobe_recorded n).port1; rw [h]
@[simp] theorem State.strobe_port1_ide : (s.strobe n).port1.ide = s.port1.ide := by
  obtain ⟨_, _, h⟩ := (s.strobe_recorded n).port1; rw [h]
@[simp] theorem State.strobe_port1_linkUp : (s.strobe n).port1.linkUp = s.port1.linkUp := by
  obtain ⟨_, _, h⟩ := (s.strobe_recorded n).port1; rw [h]
@[simp] theorem State.strobe_port1_rate : (s.strobe n).port1.rate = s.port1.rate := by
  obtain ⟨_, _, h⟩ := (s.strobe_recorded n).port1; rw [h]
@[simp] theorem State.strobe_port1_width : (s.strobe n).port1.width = s.port1.width := by
  obtain ⟨_, _, h⟩ := (s.strobe_recorded n).port1; rw [h]
@[simp] theorem State.strobe_port1_flit256 : (s.strobe n).port1.flit256 = s.port1.flit256 := by
  obtain ⟨_, _, h⟩ := (s.strobe_recorded n).port1; rw [h]
@[simp] theorem State.strobe_port1_laneOk : (s.strobe n).port1.laneOk = s.port1.laneOk := by
  obtain ⟨_, _, h⟩ := (s.strobe_recorded n).port1; rw [h]
@[simp] theorem State.strobe_port1_laneErrs : (s.strobe n).port1.laneErrs = s.port1.laneErrs := by
  obtain ⟨_, _, h⟩ := (s.strobe_recorded n).port1; rw [h]
@[simp] theorem State.strobe_port1_drain : (s.strobe n).port1.drain = s.port1.drain := by
  obtain ⟨_, _, h⟩ := (s.strobe_recorded n).port1; rw [h]
@[simp] theorem State.strobe_port1_gpf : (s.strobe n).port1.gpf = s.port1.gpf := by
  obtain ⟨_, _, h⟩ := (s.strobe_recorded n).port1; rw [h]
@[simp] theorem State.strobe_port1_admitAt : (s.strobe n).port1.admitAt = s.port1.admitAt := by
  obtain ⟨_, _, h⟩ := (s.strobe_recorded n).port1; rw [h]
@[simp] theorem State.strobe_port1_flr : (s.strobe n).port1.flr = s.port1.flr := by
  obtain ⟨_, _, h⟩ := (s.strobe_recorded n).port1; rw [h]
@[simp] theorem State.strobe_port1_heldOut : (s.strobe n).port1.heldOut = s.port1.heldOut := by
  obtain ⟨_, _, h⟩ := (s.strobe_recorded n).port1; rw [h]
@[simp] theorem State.strobe_port1_evtPolicy : (s.strobe n).port1.evtPolicy = s.port1.evtPolicy := by
  obtain ⟨_, _, h⟩ := (s.strobe_recorded n).port1; rw [h]
@[simp] theorem State.strobe_port1_doorbell : (s.strobe n).port1.doorbell = s.port1.doorbell := by
  obtain ⟨_, _, h⟩ := (s.strobe_recorded n).port1; rw [h]
@[simp] theorem State.strobe_port1_lsa : (s.strobe n).port1.lsa = s.port1.lsa := by
  obtain ⟨_, _, h⟩ := (s.strobe_recorded n).port1; rw [h]
@[simp] theorem State.strobe_port1_lsaCopy : (s.strobe n).port1.lsaCopy = s.port1.lsaCopy := by
  obtain ⟨_, _, h⟩ := (s.strobe_recorded n).port1; rw [h]
@[simp] theorem State.strobe_svy_gen : (s.strobe n).svy.gen = s.svy.gen := by
  obtain ⟨_, h⟩ := (s.strobe_recorded n).svy; rw [h]
@[simp] theorem State.strobe_svy_missed : (s.strobe n).svy.missed = s.svy.missed := by
  obtain ⟨_, h⟩ := (s.strobe_recorded n).svy; rw [h]
@[simp] theorem State.strobe_svy_areas : (s.strobe n).svy.areas = s.svy.areas := by
  obtain ⟨_, h⟩ := (s.strobe_recorded n).svy; rw [h]
@[simp] theorem State.strobe_svy_snaps : (s.strobe n).svy.snaps = s.svy.snaps := by
  obtain ⟨_, h⟩ := (s.strobe_recorded n).svy; rw [h]
@[simp] theorem State.strobe_svy_bufBar2 : (s.strobe n).svy.bufBar2 = s.svy.bufBar2 := by
  obtain ⟨_, h⟩ := (s.strobe_recorded n).svy; rw [h]
@[simp] theorem State.strobe_svy_bufMctp : (s.strobe n).svy.bufMctp = s.svy.bufMctp := by
  obtain ⟨_, h⟩ := (s.strobe_recorded n).svy; rw [h]
theorem State.strobe_getReg (o : Nat) (h : recReg o = false) : (s.strobe n).getReg o = s.getReg o :=
  (Recorded.strobeAt (R := recReg) (tm := false) (fun _ h => h) s s.dtm.mono n).regs o h

end

section
variable (n m : Nat)

theorem State.strobeAt_recorded : Recorded (fun _ => true) false s (s.strobeAt n m) := .strobeAt all_true s n m
@[simp] theorem State.strobeAt_pending : (s.strobeAt n m).pending = s.pending := (s.strobeAt_recorded n m).pending
@[simp] theorem State.strobeAt_bar2 : (s.strobeAt n m).bar2 = s.bar2 := (s.strobeAt_recorded n m).bar2
@[simp] theorem State.strobeAt_mctp : (s.strobeAt n m).mctp = s.mctp := (s.strobeAt_recorded n m).mctp
@[simp] theorem State.strobeAt_sys : (s.strobeAt n m).sys = s.sys := (s.strobeAt_recorded n m).sys
@[simp] theorem State.strobeAt_plat : (s.strobeAt n m).plat = s.plat := (s.strobeAt_recorded n m).plat
@[simp] theorem State.strobeAt_svc : (s.strobeAt n m).svc = s.svc := (s.strobeAt_recorded n m).svc
@[simp] theorem State.strobeAt_stg : (s.strobeAt n m).stg = s.stg := (s.strobeAt_recorded n m).stg
@[simp] theorem State.strobeAt_cds : (s.strobeAt n m).cds = s.cds := (s.strobeAt_recorded n m).cds
@[simp] theorem State.strobeAt_saved : (s.strobeAt n m).saved = s.saved := (s.strobeAt_recorded n m).saved
@[simp] theorem State.strobeAt_med : (s.strobeAt n m).med = s.med := (s.strobeAt_recorded n m).med
@[simp] theorem State.strobeAt_trv : (s.strobeAt n m).trv = s.trv := (s.strobeAt_recorded n m).trv
@[simp] theorem State.strobeAt_mdc : (s.strobeAt n m).mdc = s.mdc := (s.strobeAt_recorded n m).mdc
@[simp] theorem State.strobeAt_pwr : (s.strobeAt n m).pwr = s.pwr := (s.strobeAt_recorded n m).pwr
@[simp] theorem State.strobeAt_pfl : (s.strobeAt n m).pfl = s.pfl := (s.strobeAt_recorded n m).pfl
@[simp] theorem State.strobeAt_ime : (s.strobeAt n m).ime = s.ime := (s.strobeAt_recorded n m).ime
@[simp] theorem State.strobeAt_cke : (s.strobeAt n m).cke = s.cke := (s.strobeAt_recorded n m).cke
@[simp] theorem State.strobeAt_eng : (s.strobeAt n m).eng = s.eng := (s.strobeAt_recorded n m).eng
@[simp] theorem State.strobeAt_thm : (s.strobeAt n m).thm = s.thm := (s.strobeAt_recorded n m).thm
@[simp] theorem State.strobeAt_out : (s.strobeAt n m).out = s.out := (s.strobeAt_recorded n m).out
@[simp] theorem State.strobeAt_free : (s.strobeAt n m).free = s.free := (s.strobeAt_recorded n m).free
@[simp] theorem State.strobeAt_dtm_slewing : (s.strobeAt n m).dtm.slewing = s.dtm.slewing := by
  obtain ⟨_, _, _, _, h, e⟩ := (s.strobeAt_recorded n m).dtm; rw [h]
@[simp] theorem State.strobeAt_dtm_everSet : (s.strobeAt n m).dtm.everSet = s.dtm.everSet := by
  obtain ⟨_, _, _, _, h, e⟩ := (s.strobeAt_recorded n m).dtm; rw [h]
@[simp] theorem State.strobeAt_dtm_xoLost : (s.strobeAt n m).dtm.xoLost = s.dtm.xoLost := by
  obtain ⟨_, _, _, _, h, e⟩ := (s.strobeAt_recorded n m).dtm; rw [h]
@[simp] theorem State.strobeAt_dtm_pllF : (s.strobeAt n m).dtm.pllF = s.dtm.pllF := by
  obtain ⟨_, _, _, _, h, e⟩ := (s.strobeAt_recorded n m).dtm; rw [h]
@[simp] theorem State.strobeAt_dtm_pllE : (s.strobeAt n m).dtm.pllE = s.dtm.pllE := by
  obtain ⟨_, _, _, _, h, e⟩ := (s.strobeAt_recorded n m).dtm; rw [h]
@[simp] theorem State.strobeAt_dtm_pllT : (s.strobeAt n m).dtm.pllT = s.dtm.pllT := by
  obtain ⟨_, _, _, _, h, e⟩ := (s.strobeAt_recorded n m).dtm; rw [h]
@[simp] theorem State.strobeAt_dtm_pllH : (s.strobeAt n m).dtm.pllH = s.dtm.pllH := by
  obtain ⟨_, _, _, _, h, e⟩ := (s.strobeAt_recorded n m).dtm; rw [h]
@[simp] theorem State.strobeAt_dtm_restored : (s.strobeAt n m).dtm.restored = s.dtm.restored := by
  obtain ⟨_, _, _, _, h, e⟩ := (s.strobeAt_recorded n m).dtm; rw [h]
@[simp] theorem State.strobeAt_dtm_retained : (s.strobeAt n m).dtm.retained = s.dtm.retained := by
  obtain ⟨_, _, _, _, h, e⟩ := (s.strobeAt_recorded n m).dtm; rw [h]
@[simp] theorem State.strobeAt_dtm_deedAt : (s.strobeAt n m).dtm.deedAt = s.dtm.deedAt := by
  obtain ⟨_, _, _, _, h, e⟩ := (s.strobeAt_recorded n m).dtm; rw [h]
@[simp] theorem State.strobeAt_dtm_outUntil : (s.strobeAt n m).dtm.outUntil = s.dtm.outUntil := by
  obtain ⟨_, _, _, _, h, e⟩ := (s.strobeAt_recorded n m).dtm; rw [h]
@[simp] theorem State.strobeAt_dtm_mono : (s.strobeAt n m).dtm.mono = s.dtm.mono := by
  obtain ⟨_, _, _, _, h, e⟩ := (s.strobeAt_recorded n m).dtm; rw [h]; simp [e]
@[simp] theorem State.strobeAt_dtm_datum : (s.strobeAt n m).dtm.datum = s.dtm.datum := by
  obtain ⟨_, _, _, _, h, e⟩ := (s.strobeAt_recorded n m).dtm; rw [h]; simp [e]
@[simp] theorem State.strobeAt_dtm_offset : (s.strobeAt n m).dtm.offset = s.dtm.offset := by
  obtain ⟨_, _, _, _, h, e⟩ := (s.strobeAt_recorded n m).dtm; rw [h]; simp [e]
@[simp] theorem State.strobeAt_pst_flash : (s.strobeAt n m).pst.flash = s.pst.flash := by
  obtain ⟨_, h⟩ := (s.strobeAt_recorded n m).pst; rw [h]
@[simp] theorem State.strobeAt_pst_weak : (s.strobeAt n m).pst.weak = s.pst.weak := by
  obtain ⟨_, h⟩ := (s.strobeAt_recorded n m).pst; rw [h]
@[simp] theorem State.strobeAt_pst_areas : (s.strobeAt n m).pst.areas = s.pst.areas := by
  obtain ⟨_, h⟩ := (s.strobeAt_recorded n m).pst; rw [h]
@[simp] theorem State.strobeAt_pst_tallies : (s.strobeAt n m).pst.tallies = s.pst.tallies := by
  obtain ⟨_, h⟩ := (s.strobeAt_recorded n m).pst; rw [h]
@[simp] theorem State.strobeAt_pst_tallyNext : (s.strobeAt n m).pst.tallyNext = s.pst.tallyNext := by
  obtain ⟨_, h⟩ := (s.strobeAt_recorded n m).pst; rw [h]
@[simp] theorem State.strobeAt_pst_hints0 : (s.strobeAt n m).pst.hints0 = s.pst.hints0 := by
  obtain ⟨_, h⟩ := (s.strobeAt_recorded n m).pst; rw [h]
@[simp] theorem State.strobeAt_pst_hints1 : (s.strobeAt n m).pst.hints1 = s.pst.hints1 := by
  obtain ⟨_, h⟩ := (s.strobeAt_recorded n m).pst; rw [h]
@[simp] theorem State.strobeAt_pst_hintHigh : (s.strobeAt n m).pst.hintHigh = s.pst.hintHigh := by
  obtain ⟨_, h⟩ := (s.strobeAt_recorded n m).pst; rw [h]
@[simp] theorem State.strobeAt_pst_hintErasing : (s.strobeAt n m).pst.hintErasing = s.pst.hintErasing := by
  obtain ⟨_, h⟩ := (s.strobeAt_recorded n m).pst; rw [h]
@[simp] theorem State.strobeAt_pst_replaced : (s.strobeAt n m).pst.replaced = s.pst.replaced := by
  obtain ⟨_, h⟩ := (s.strobeAt_recorded n m).pst; rw [h]
@[simp] theorem State.strobeAt_pst_gen : (s.strobeAt n m).pst.gen = s.pst.gen := by
  obtain ⟨_, h⟩ := (s.strobeAt_recorded n m).pst; rw [h]
@[simp] theorem State.strobeAt_pst_inForce : (s.strobeAt n m).pst.inForce = s.pst.inForce := by
  obtain ⟨_, h⟩ := (s.strobeAt_recorded n m).pst; rw [h]
@[simp] theorem State.strobeAt_pst_run : (s.strobeAt n m).pst.run = s.pst.run := by
  obtain ⟨_, h⟩ := (s.strobeAt_recorded n m).pst; rw [h]
@[simp] theorem State.strobeAt_pst_gateWait : (s.strobeAt n m).pst.gateWait = s.pst.gateWait := by
  obtain ⟨_, h⟩ := (s.strobeAt_recorded n m).pst; rw [h]
@[simp] theorem State.strobeAt_pst_ungated : (s.strobeAt n m).pst.ungated = s.pst.ungated := by
  obtain ⟨_, h⟩ := (s.strobeAt_recorded n m).pst; rw [h]
@[simp] theorem State.strobeAt_pst_owed : (s.strobeAt n m).pst.owed = s.pst.owed := by
  obtain ⟨_, h⟩ := (s.strobeAt_recorded n m).pst; rw [h]
@[simp] theorem State.strobeAt_pst_endAt : (s.strobeAt n m).pst.endAt = s.pst.endAt := by
  obtain ⟨_, h⟩ := (s.strobeAt_recorded n m).pst; rw [h]
@[simp] theorem State.strobeAt_pst_buf : (s.strobeAt n m).pst.buf = s.pst.buf := by
  obtain ⟨_, h⟩ := (s.strobeAt_recorded n m).pst; rw [h]
@[simp] theorem State.strobeAt_port0_pwb : (s.strobeAt n m).port0.pwb = s.port0.pwb := by
  obtain ⟨_, _, h⟩ := (s.strobeAt_recorded n m).port0; rw [h]
@[simp] theorem State.strobeAt_port0_reads : (s.strobeAt n m).port0.reads = s.port0.reads := by
  obtain ⟨_, _, h⟩ := (s.strobeAt_recorded n m).port0; rw [h]
@[simp] theorem State.strobeAt_port0_nextSeq : (s.strobeAt n m).port0.nextSeq = s.port0.nextSeq := by
  obtain ⟨_, _, h⟩ := (s.strobeAt_recorded n m).port0; rw [h]
@[simp] theorem State.strobeAt_port0_decoders : (s.strobeAt n m).port0.decoders = s.port0.decoders := by
  obtain ⟨_, _, h⟩ := (s.strobeAt_recorded n m).port0; rw [h]
@[simp] theorem State.strobeAt_port0_ide : (s.strobeAt n m).port0.ide = s.port0.ide := by
  obtain ⟨_, _, h⟩ := (s.strobeAt_recorded n m).port0; rw [h]
@[simp] theorem State.strobeAt_port0_linkUp : (s.strobeAt n m).port0.linkUp = s.port0.linkUp := by
  obtain ⟨_, _, h⟩ := (s.strobeAt_recorded n m).port0; rw [h]
@[simp] theorem State.strobeAt_port0_rate : (s.strobeAt n m).port0.rate = s.port0.rate := by
  obtain ⟨_, _, h⟩ := (s.strobeAt_recorded n m).port0; rw [h]
@[simp] theorem State.strobeAt_port0_width : (s.strobeAt n m).port0.width = s.port0.width := by
  obtain ⟨_, _, h⟩ := (s.strobeAt_recorded n m).port0; rw [h]
@[simp] theorem State.strobeAt_port0_flit256 : (s.strobeAt n m).port0.flit256 = s.port0.flit256 := by
  obtain ⟨_, _, h⟩ := (s.strobeAt_recorded n m).port0; rw [h]
@[simp] theorem State.strobeAt_port0_laneOk : (s.strobeAt n m).port0.laneOk = s.port0.laneOk := by
  obtain ⟨_, _, h⟩ := (s.strobeAt_recorded n m).port0; rw [h]
@[simp] theorem State.strobeAt_port0_laneErrs : (s.strobeAt n m).port0.laneErrs = s.port0.laneErrs := by
  obtain ⟨_, _, h⟩ := (s.strobeAt_recorded n m).port0; rw [h]
@[simp] theorem State.strobeAt_port0_drain : (s.strobeAt n m).port0.drain = s.port0.drain := by
  obtain ⟨_, _, h⟩ := (s.strobeAt_recorded n m).port0; rw [h]
@[simp] theorem State.strobeAt_port0_gpf : (s.strobeAt n m).port0.gpf = s.port0.gpf := by
  obtain ⟨_, _, h⟩ := (s.strobeAt_recorded n m).port0; rw [h]
@[simp] theorem State.strobeAt_port0_admitAt : (s.strobeAt n m).port0.admitAt = s.port0.admitAt := by
  obtain ⟨_, _, h⟩ := (s.strobeAt_recorded n m).port0; rw [h]
@[simp] theorem State.strobeAt_port0_flr : (s.strobeAt n m).port0.flr = s.port0.flr := by
  obtain ⟨_, _, h⟩ := (s.strobeAt_recorded n m).port0; rw [h]
@[simp] theorem State.strobeAt_port0_heldOut : (s.strobeAt n m).port0.heldOut = s.port0.heldOut := by
  obtain ⟨_, _, h⟩ := (s.strobeAt_recorded n m).port0; rw [h]
@[simp] theorem State.strobeAt_port0_evtPolicy : (s.strobeAt n m).port0.evtPolicy = s.port0.evtPolicy := by
  obtain ⟨_, _, h⟩ := (s.strobeAt_recorded n m).port0; rw [h]
@[simp] theorem State.strobeAt_port0_doorbell : (s.strobeAt n m).port0.doorbell = s.port0.doorbell := by
  obtain ⟨_, _, h⟩ := (s.strobeAt_recorded n m).port0; rw [h]
@[simp] theorem State.strobeAt_port0_lsa : (s.strobeAt n m).port0.lsa = s.port0.lsa := by
  obtain ⟨_, _, h⟩ := (s.strobeAt_recorded n m).port0; rw [h]
@[simp] theorem State.strobeAt_port0_lsaCopy : (s.strobeAt n m).port0.lsaCopy = s.port0.lsaCopy := by
  obtain ⟨_, _, h⟩ := (s.strobeAt_recorded n m).port0; rw [h]
@[simp] theorem State.strobeAt_port1_pwb : (s.strobeAt n m).port1.pwb = s.port1.pwb := by
  obtain ⟨_, _, h⟩ := (s.strobeAt_recorded n m).port1; rw [h]
@[simp] theorem State.strobeAt_port1_reads : (s.strobeAt n m).port1.reads = s.port1.reads := by
  obtain ⟨_, _, h⟩ := (s.strobeAt_recorded n m).port1; rw [h]
@[simp] theorem State.strobeAt_port1_nextSeq : (s.strobeAt n m).port1.nextSeq = s.port1.nextSeq := by
  obtain ⟨_, _, h⟩ := (s.strobeAt_recorded n m).port1; rw [h]
@[simp] theorem State.strobeAt_port1_decoders : (s.strobeAt n m).port1.decoders = s.port1.decoders := by
  obtain ⟨_, _, h⟩ := (s.strobeAt_recorded n m).port1; rw [h]
@[simp] theorem State.strobeAt_port1_ide : (s.strobeAt n m).port1.ide = s.port1.ide := by
  obtain ⟨_, _, h⟩ := (s.strobeAt_recorded n m).port1; rw [h]
@[simp] theorem State.strobeAt_port1_linkUp : (s.strobeAt n m).port1.linkUp = s.port1.linkUp := by
  obtain ⟨_, _, h⟩ := (s.strobeAt_recorded n m).port1; rw [h]
@[simp] theorem State.strobeAt_port1_rate : (s.strobeAt n m).port1.rate = s.port1.rate := by
  obtain ⟨_, _, h⟩ := (s.strobeAt_recorded n m).port1; rw [h]
@[simp] theorem State.strobeAt_port1_width : (s.strobeAt n m).port1.width = s.port1.width := by
  obtain ⟨_, _, h⟩ := (s.strobeAt_recorded n m).port1; rw [h]
@[simp] theorem State.strobeAt_port1_flit256 : (s.strobeAt n m).port1.flit256 = s.port1.flit256 := by
  obtain ⟨_, _, h⟩ := (s.strobeAt_recorded n m).port1; rw [h]
@[simp] theorem State.strobeAt_port1_laneOk : (s.strobeAt n m).port1.laneOk = s.port1.laneOk := by
  obtain ⟨_, _, h⟩ := (s.strobeAt_recorded n m).port1; rw [h]
@[simp] theorem State.strobeAt_port1_laneErrs : (s.strobeAt n m).port1.laneErrs = s.port1.laneErrs := by
  obtain ⟨_, _, h⟩ := (s.strobeAt_recorded n m).port1; rw [h]
@[simp] theorem State.strobeAt_port1_drain : (s.strobeAt n m).port1.drain = s.port1.drain := by
  obtain ⟨_, _, h⟩ := (s.strobeAt_recorded n m).port1; rw [h]
@[simp] theorem State.strobeAt_port1_gpf : (s.strobeAt n m).port1.gpf = s.port1.gpf := by
  obtain ⟨_, _, h⟩ := (s.strobeAt_recorded n m).port1; rw [h]
@[simp] theorem State.strobeAt_port1_admitAt : (s.strobeAt n m).port1.admitAt = s.port1.admitAt := by
  obtain ⟨_, _, h⟩ := (s.strobeAt_recorded n m).port1; rw [h]
@[simp] theorem State.strobeAt_port1_flr : (s.strobeAt n m).port1.flr = s.port1.flr := by
  obtain ⟨_, _, h⟩ := (s.strobeAt_recorded n m).port1; rw [h]
@[simp] theorem State.strobeAt_port1_heldOut : (s.strobeAt n m).port1.heldOut = s.port1.heldOut := by
  obtain ⟨_, _, h⟩ := (s.strobeAt_recorded n m).port1; rw [h]
@[simp] theorem State.strobeAt_port1_evtPolicy : (s.strobeAt n m).port1.evtPolicy = s.port1.evtPolicy := by
  obtain ⟨_, _, h⟩ := (s.strobeAt_recorded n m).port1; rw [h]
@[simp] theorem State.strobeAt_port1_doorbell : (s.strobeAt n m).port1.doorbell = s.port1.doorbell := by
  obtain ⟨_, _, h⟩ := (s.strobeAt_recorded n m).port1; rw [h]
@[simp] theorem State.strobeAt_port1_lsa : (s.strobeAt n m).port1.lsa = s.port1.lsa := by
  obtain ⟨_, _, h⟩ := (s.strobeAt_recorded n m).port1; rw [h]
@[simp] theorem State.strobeAt_port1_lsaCopy : (s.strobeAt n m).port1.lsaCopy = s.port1.lsaCopy := by
  obtain ⟨_, _, h⟩ := (s.strobeAt_recorded n m).port1; rw [h]
@[simp] theorem State.strobeAt_svy_gen : (s.strobeAt n m).svy.gen = s.svy.gen := by
  obtain ⟨_, h⟩ := (s.strobeAt_recorded n m).svy; rw [h]
@[simp] theorem State.strobeAt_svy_missed : (s.strobeAt n m).svy.missed = s.svy.missed := by
  obtain ⟨_, h⟩ := (s.strobeAt_recorded n m).svy; rw [h]
@[simp] theorem State.strobeAt_svy_areas : (s.strobeAt n m).svy.areas = s.svy.areas := by
  obtain ⟨_, h⟩ := (s.strobeAt_recorded n m).svy; rw [h]
@[simp] theorem State.strobeAt_svy_snaps : (s.strobeAt n m).svy.snaps = s.svy.snaps := by
  obtain ⟨_, h⟩ := (s.strobeAt_recorded n m).svy; rw [h]
@[simp] theorem State.strobeAt_svy_bufBar2 : (s.strobeAt n m).svy.bufBar2 = s.svy.bufBar2 := by
  obtain ⟨_, h⟩ := (s.strobeAt_recorded n m).svy; rw [h]
@[simp] theorem State.strobeAt_svy_bufMctp : (s.strobeAt n m).svy.bufMctp = s.svy.bufMctp := by
  obtain ⟨_, h⟩ := (s.strobeAt_recorded n m).svy; rw [h]
theorem State.strobeAt_getReg (o : Nat) (h : recReg o = false) : (s.strobeAt n m).getReg o = s.getReg o :=
  (Recorded.strobeAt (R := recReg) (tm := false) (fun _ h => h) s n m).regs o h

end

section
variable (e f k a : Nat)

theorem State.pmc_recorded : Recorded (fun _ => true) false s (s.pmc e f k a) := .pmc all_true s e f k a
@[simp] theorem State.pmc_pending : (s.pmc e f k a).pending = s.pending := (s.pmc_recorded e f k a).pending
@[simp] theorem State.pmc_bar2 : (s.pmc e f k a).bar2 = s.bar2 := (s.pmc_recorded e f k a).bar2
@[simp] theorem State.pmc_mctp : (s.pmc e f k a).mctp = s.mctp := (s.pmc_recorded e f k a).mctp
@[simp] theorem State.pmc_sys : (s.pmc e f k a).sys = s.sys := (s.pmc_recorded e f k a).sys
@[simp] theorem State.pmc_plat : (s.pmc e f k a).plat = s.plat := (s.pmc_recorded e f k a).plat
@[simp] theorem State.pmc_svc : (s.pmc e f k a).svc = s.svc := (s.pmc_recorded e f k a).svc
@[simp] theorem State.pmc_stg : (s.pmc e f k a).stg = s.stg := (s.pmc_recorded e f k a).stg
@[simp] theorem State.pmc_cds : (s.pmc e f k a).cds = s.cds := (s.pmc_recorded e f k a).cds
@[simp] theorem State.pmc_saved : (s.pmc e f k a).saved = s.saved := (s.pmc_recorded e f k a).saved
@[simp] theorem State.pmc_med : (s.pmc e f k a).med = s.med := (s.pmc_recorded e f k a).med
@[simp] theorem State.pmc_trv : (s.pmc e f k a).trv = s.trv := (s.pmc_recorded e f k a).trv
@[simp] theorem State.pmc_mdc : (s.pmc e f k a).mdc = s.mdc := (s.pmc_recorded e f k a).mdc
@[simp] theorem State.pmc_pwr : (s.pmc e f k a).pwr = s.pwr := (s.pmc_recorded e f k a).pwr
@[simp] theorem State.pmc_pfl : (s.pmc e f k a).pfl = s.pfl := (s.pmc_recorded e f k a).pfl
@[simp] theorem State.pmc_ime : (s.pmc e f k a).ime = s.ime := (s.pmc_recorded e f k a).ime
@[simp] theorem State.pmc_cke : (s.pmc e f k a).cke = s.cke := (s.pmc_recorded e f k a).cke
@[simp] theorem State.pmc_eng : (s.pmc e f k a).eng = s.eng := (s.pmc_recorded e f k a).eng
@[simp] theorem State.pmc_thm : (s.pmc e f k a).thm = s.thm := (s.pmc_recorded e f k a).thm
@[simp] theorem State.pmc_out : (s.pmc e f k a).out = s.out := (s.pmc_recorded e f k a).out
@[simp] theorem State.pmc_free : (s.pmc e f k a).free = s.free := (s.pmc_recorded e f k a).free
@[simp] theorem State.pmc_dtm_slewing : (s.pmc e f k a).dtm.slewing = s.dtm.slewing := by
  obtain ⟨_, _, _, _, h, e⟩ := (s.pmc_recorded e f k a).dtm; rw [h]
@[simp] theorem State.pmc_dtm_everSet : (s.pmc e f k a).dtm.everSet = s.dtm.everSet := by
  obtain ⟨_, _, _, _, h, e⟩ := (s.pmc_recorded e f k a).dtm; rw [h]
@[simp] theorem State.pmc_dtm_xoLost : (s.pmc e f k a).dtm.xoLost = s.dtm.xoLost := by
  obtain ⟨_, _, _, _, h, e⟩ := (s.pmc_recorded e f k a).dtm; rw [h]
@[simp] theorem State.pmc_dtm_pllF : (s.pmc e f k a).dtm.pllF = s.dtm.pllF := by
  obtain ⟨_, _, _, _, h, e⟩ := (s.pmc_recorded e f k a).dtm; rw [h]
@[simp] theorem State.pmc_dtm_pllE : (s.pmc e f k a).dtm.pllE = s.dtm.pllE := by
  obtain ⟨_, _, _, _, h, e⟩ := (s.pmc_recorded e f k a).dtm; rw [h]
@[simp] theorem State.pmc_dtm_pllT : (s.pmc e f k a).dtm.pllT = s.dtm.pllT := by
  obtain ⟨_, _, _, _, h, e⟩ := (s.pmc_recorded e f k a).dtm; rw [h]
@[simp] theorem State.pmc_dtm_pllH : (s.pmc e f k a).dtm.pllH = s.dtm.pllH := by
  obtain ⟨_, _, _, _, h, e⟩ := (s.pmc_recorded e f k a).dtm; rw [h]
@[simp] theorem State.pmc_dtm_restored : (s.pmc e f k a).dtm.restored = s.dtm.restored := by
  obtain ⟨_, _, _, _, h, e⟩ := (s.pmc_recorded e f k a).dtm; rw [h]
@[simp] theorem State.pmc_dtm_retained : (s.pmc e f k a).dtm.retained = s.dtm.retained := by
  obtain ⟨_, _, _, _, h, e⟩ := (s.pmc_recorded e f k a).dtm; rw [h]
@[simp] theorem State.pmc_dtm_deedAt : (s.pmc e f k a).dtm.deedAt = s.dtm.deedAt := by
  obtain ⟨_, _, _, _, h, e⟩ := (s.pmc_recorded e f k a).dtm; rw [h]
@[simp] theorem State.pmc_dtm_outUntil : (s.pmc e f k a).dtm.outUntil = s.dtm.outUntil := by
  obtain ⟨_, _, _, _, h, e⟩ := (s.pmc_recorded e f k a).dtm; rw [h]
@[simp] theorem State.pmc_dtm_mono : (s.pmc e f k a).dtm.mono = s.dtm.mono := by
  obtain ⟨_, _, _, _, h, e⟩ := (s.pmc_recorded e f k a).dtm; rw [h]; simp [e]
@[simp] theorem State.pmc_dtm_datum : (s.pmc e f k a).dtm.datum = s.dtm.datum := by
  obtain ⟨_, _, _, _, h, e⟩ := (s.pmc_recorded e f k a).dtm; rw [h]; simp [e]
@[simp] theorem State.pmc_dtm_offset : (s.pmc e f k a).dtm.offset = s.dtm.offset := by
  obtain ⟨_, _, _, _, h, e⟩ := (s.pmc_recorded e f k a).dtm; rw [h]; simp [e]
@[simp] theorem State.pmc_pst_flash : (s.pmc e f k a).pst.flash = s.pst.flash := by
  obtain ⟨_, h⟩ := (s.pmc_recorded e f k a).pst; rw [h]
@[simp] theorem State.pmc_pst_weak : (s.pmc e f k a).pst.weak = s.pst.weak := by
  obtain ⟨_, h⟩ := (s.pmc_recorded e f k a).pst; rw [h]
@[simp] theorem State.pmc_pst_areas : (s.pmc e f k a).pst.areas = s.pst.areas := by
  obtain ⟨_, h⟩ := (s.pmc_recorded e f k a).pst; rw [h]
@[simp] theorem State.pmc_pst_tallies : (s.pmc e f k a).pst.tallies = s.pst.tallies := by
  obtain ⟨_, h⟩ := (s.pmc_recorded e f k a).pst; rw [h]
@[simp] theorem State.pmc_pst_tallyNext : (s.pmc e f k a).pst.tallyNext = s.pst.tallyNext := by
  obtain ⟨_, h⟩ := (s.pmc_recorded e f k a).pst; rw [h]
@[simp] theorem State.pmc_pst_hints0 : (s.pmc e f k a).pst.hints0 = s.pst.hints0 := by
  obtain ⟨_, h⟩ := (s.pmc_recorded e f k a).pst; rw [h]
@[simp] theorem State.pmc_pst_hints1 : (s.pmc e f k a).pst.hints1 = s.pst.hints1 := by
  obtain ⟨_, h⟩ := (s.pmc_recorded e f k a).pst; rw [h]
@[simp] theorem State.pmc_pst_hintHigh : (s.pmc e f k a).pst.hintHigh = s.pst.hintHigh := by
  obtain ⟨_, h⟩ := (s.pmc_recorded e f k a).pst; rw [h]
@[simp] theorem State.pmc_pst_hintErasing : (s.pmc e f k a).pst.hintErasing = s.pst.hintErasing := by
  obtain ⟨_, h⟩ := (s.pmc_recorded e f k a).pst; rw [h]
@[simp] theorem State.pmc_pst_replaced : (s.pmc e f k a).pst.replaced = s.pst.replaced := by
  obtain ⟨_, h⟩ := (s.pmc_recorded e f k a).pst; rw [h]
@[simp] theorem State.pmc_pst_gen : (s.pmc e f k a).pst.gen = s.pst.gen := by
  obtain ⟨_, h⟩ := (s.pmc_recorded e f k a).pst; rw [h]
@[simp] theorem State.pmc_pst_inForce : (s.pmc e f k a).pst.inForce = s.pst.inForce := by
  obtain ⟨_, h⟩ := (s.pmc_recorded e f k a).pst; rw [h]
@[simp] theorem State.pmc_pst_run : (s.pmc e f k a).pst.run = s.pst.run := by
  obtain ⟨_, h⟩ := (s.pmc_recorded e f k a).pst; rw [h]
@[simp] theorem State.pmc_pst_gateWait : (s.pmc e f k a).pst.gateWait = s.pst.gateWait := by
  obtain ⟨_, h⟩ := (s.pmc_recorded e f k a).pst; rw [h]
@[simp] theorem State.pmc_pst_ungated : (s.pmc e f k a).pst.ungated = s.pst.ungated := by
  obtain ⟨_, h⟩ := (s.pmc_recorded e f k a).pst; rw [h]
@[simp] theorem State.pmc_pst_owed : (s.pmc e f k a).pst.owed = s.pst.owed := by
  obtain ⟨_, h⟩ := (s.pmc_recorded e f k a).pst; rw [h]
@[simp] theorem State.pmc_pst_endAt : (s.pmc e f k a).pst.endAt = s.pst.endAt := by
  obtain ⟨_, h⟩ := (s.pmc_recorded e f k a).pst; rw [h]
@[simp] theorem State.pmc_pst_buf : (s.pmc e f k a).pst.buf = s.pst.buf := by
  obtain ⟨_, h⟩ := (s.pmc_recorded e f k a).pst; rw [h]
@[simp] theorem State.pmc_port0_pwb : (s.pmc e f k a).port0.pwb = s.port0.pwb := by
  obtain ⟨_, _, h⟩ := (s.pmc_recorded e f k a).port0; rw [h]
@[simp] theorem State.pmc_port0_reads : (s.pmc e f k a).port0.reads = s.port0.reads := by
  obtain ⟨_, _, h⟩ := (s.pmc_recorded e f k a).port0; rw [h]
@[simp] theorem State.pmc_port0_nextSeq : (s.pmc e f k a).port0.nextSeq = s.port0.nextSeq := by
  obtain ⟨_, _, h⟩ := (s.pmc_recorded e f k a).port0; rw [h]
@[simp] theorem State.pmc_port0_decoders : (s.pmc e f k a).port0.decoders = s.port0.decoders := by
  obtain ⟨_, _, h⟩ := (s.pmc_recorded e f k a).port0; rw [h]
@[simp] theorem State.pmc_port0_ide : (s.pmc e f k a).port0.ide = s.port0.ide := by
  obtain ⟨_, _, h⟩ := (s.pmc_recorded e f k a).port0; rw [h]
@[simp] theorem State.pmc_port0_linkUp : (s.pmc e f k a).port0.linkUp = s.port0.linkUp := by
  obtain ⟨_, _, h⟩ := (s.pmc_recorded e f k a).port0; rw [h]
@[simp] theorem State.pmc_port0_rate : (s.pmc e f k a).port0.rate = s.port0.rate := by
  obtain ⟨_, _, h⟩ := (s.pmc_recorded e f k a).port0; rw [h]
@[simp] theorem State.pmc_port0_width : (s.pmc e f k a).port0.width = s.port0.width := by
  obtain ⟨_, _, h⟩ := (s.pmc_recorded e f k a).port0; rw [h]
@[simp] theorem State.pmc_port0_flit256 : (s.pmc e f k a).port0.flit256 = s.port0.flit256 := by
  obtain ⟨_, _, h⟩ := (s.pmc_recorded e f k a).port0; rw [h]
@[simp] theorem State.pmc_port0_laneOk : (s.pmc e f k a).port0.laneOk = s.port0.laneOk := by
  obtain ⟨_, _, h⟩ := (s.pmc_recorded e f k a).port0; rw [h]
@[simp] theorem State.pmc_port0_laneErrs : (s.pmc e f k a).port0.laneErrs = s.port0.laneErrs := by
  obtain ⟨_, _, h⟩ := (s.pmc_recorded e f k a).port0; rw [h]
@[simp] theorem State.pmc_port0_drain : (s.pmc e f k a).port0.drain = s.port0.drain := by
  obtain ⟨_, _, h⟩ := (s.pmc_recorded e f k a).port0; rw [h]
@[simp] theorem State.pmc_port0_gpf : (s.pmc e f k a).port0.gpf = s.port0.gpf := by
  obtain ⟨_, _, h⟩ := (s.pmc_recorded e f k a).port0; rw [h]
@[simp] theorem State.pmc_port0_admitAt : (s.pmc e f k a).port0.admitAt = s.port0.admitAt := by
  obtain ⟨_, _, h⟩ := (s.pmc_recorded e f k a).port0; rw [h]
@[simp] theorem State.pmc_port0_flr : (s.pmc e f k a).port0.flr = s.port0.flr := by
  obtain ⟨_, _, h⟩ := (s.pmc_recorded e f k a).port0; rw [h]
@[simp] theorem State.pmc_port0_heldOut : (s.pmc e f k a).port0.heldOut = s.port0.heldOut := by
  obtain ⟨_, _, h⟩ := (s.pmc_recorded e f k a).port0; rw [h]
@[simp] theorem State.pmc_port0_evtPolicy : (s.pmc e f k a).port0.evtPolicy = s.port0.evtPolicy := by
  obtain ⟨_, _, h⟩ := (s.pmc_recorded e f k a).port0; rw [h]
@[simp] theorem State.pmc_port0_doorbell : (s.pmc e f k a).port0.doorbell = s.port0.doorbell := by
  obtain ⟨_, _, h⟩ := (s.pmc_recorded e f k a).port0; rw [h]
@[simp] theorem State.pmc_port0_lsa : (s.pmc e f k a).port0.lsa = s.port0.lsa := by
  obtain ⟨_, _, h⟩ := (s.pmc_recorded e f k a).port0; rw [h]
@[simp] theorem State.pmc_port0_lsaCopy : (s.pmc e f k a).port0.lsaCopy = s.port0.lsaCopy := by
  obtain ⟨_, _, h⟩ := (s.pmc_recorded e f k a).port0; rw [h]
@[simp] theorem State.pmc_port1_pwb : (s.pmc e f k a).port1.pwb = s.port1.pwb := by
  obtain ⟨_, _, h⟩ := (s.pmc_recorded e f k a).port1; rw [h]
@[simp] theorem State.pmc_port1_reads : (s.pmc e f k a).port1.reads = s.port1.reads := by
  obtain ⟨_, _, h⟩ := (s.pmc_recorded e f k a).port1; rw [h]
@[simp] theorem State.pmc_port1_nextSeq : (s.pmc e f k a).port1.nextSeq = s.port1.nextSeq := by
  obtain ⟨_, _, h⟩ := (s.pmc_recorded e f k a).port1; rw [h]
@[simp] theorem State.pmc_port1_decoders : (s.pmc e f k a).port1.decoders = s.port1.decoders := by
  obtain ⟨_, _, h⟩ := (s.pmc_recorded e f k a).port1; rw [h]
@[simp] theorem State.pmc_port1_ide : (s.pmc e f k a).port1.ide = s.port1.ide := by
  obtain ⟨_, _, h⟩ := (s.pmc_recorded e f k a).port1; rw [h]
@[simp] theorem State.pmc_port1_linkUp : (s.pmc e f k a).port1.linkUp = s.port1.linkUp := by
  obtain ⟨_, _, h⟩ := (s.pmc_recorded e f k a).port1; rw [h]
@[simp] theorem State.pmc_port1_rate : (s.pmc e f k a).port1.rate = s.port1.rate := by
  obtain ⟨_, _, h⟩ := (s.pmc_recorded e f k a).port1; rw [h]
@[simp] theorem State.pmc_port1_width : (s.pmc e f k a).port1.width = s.port1.width := by
  obtain ⟨_, _, h⟩ := (s.pmc_recorded e f k a).port1; rw [h]
@[simp] theorem State.pmc_port1_flit256 : (s.pmc e f k a).port1.flit256 = s.port1.flit256 := by
  obtain ⟨_, _, h⟩ := (s.pmc_recorded e f k a).port1; rw [h]
@[simp] theorem State.pmc_port1_laneOk : (s.pmc e f k a).port1.laneOk = s.port1.laneOk := by
  obtain ⟨_, _, h⟩ := (s.pmc_recorded e f k a).port1; rw [h]
@[simp] theorem State.pmc_port1_laneErrs : (s.pmc e f k a).port1.laneErrs = s.port1.laneErrs := by
  obtain ⟨_, _, h⟩ := (s.pmc_recorded e f k a).port1; rw [h]
@[simp] theorem State.pmc_port1_drain : (s.pmc e f k a).port1.drain = s.port1.drain := by
  obtain ⟨_, _, h⟩ := (s.pmc_recorded e f k a).port1; rw [h]
@[simp] theorem State.pmc_port1_gpf : (s.pmc e f k a).port1.gpf = s.port1.gpf := by
  obtain ⟨_, _, h⟩ := (s.pmc_recorded e f k a).port1; rw [h]
@[simp] theorem State.pmc_port1_admitAt : (s.pmc e f k a).port1.admitAt = s.port1.admitAt := by
  obtain ⟨_, _, h⟩ := (s.pmc_recorded e f k a).port1; rw [h]
@[simp] theorem State.pmc_port1_flr : (s.pmc e f k a).port1.flr = s.port1.flr := by
  obtain ⟨_, _, h⟩ := (s.pmc_recorded e f k a).port1; rw [h]
@[simp] theorem State.pmc_port1_heldOut : (s.pmc e f k a).port1.heldOut = s.port1.heldOut := by
  obtain ⟨_, _, h⟩ := (s.pmc_recorded e f k a).port1; rw [h]
@[simp] theorem State.pmc_port1_evtPolicy : (s.pmc e f k a).port1.evtPolicy = s.port1.evtPolicy := by
  obtain ⟨_, _, h⟩ := (s.pmc_recorded e f k a).port1; rw [h]
@[simp] theorem State.pmc_port1_doorbell : (s.pmc e f k a).port1.doorbell = s.port1.doorbell := by
  obtain ⟨_, _, h⟩ := (s.pmc_recorded e f k a).port1; rw [h]
@[simp] theorem State.pmc_port1_lsa : (s.pmc e f k a).port1.lsa = s.port1.lsa := by
  obtain ⟨_, _, h⟩ := (s.pmc_recorded e f k a).port1; rw [h]
@[simp] theorem State.pmc_port1_lsaCopy : (s.pmc e f k a).port1.lsaCopy = s.port1.lsaCopy := by
  obtain ⟨_, _, h⟩ := (s.pmc_recorded e f k a).port1; rw [h]
@[simp] theorem State.pmc_svy_gen : (s.pmc e f k a).svy.gen = s.svy.gen := by
  obtain ⟨_, h⟩ := (s.pmc_recorded e f k a).svy; rw [h]
@[simp] theorem State.pmc_svy_missed : (s.pmc e f k a).svy.missed = s.svy.missed := by
  obtain ⟨_, h⟩ := (s.pmc_recorded e f k a).svy; rw [h]
@[simp] theorem State.pmc_svy_areas : (s.pmc e f k a).svy.areas = s.svy.areas := by
  obtain ⟨_, h⟩ := (s.pmc_recorded e f k a).svy; rw [h]
@[simp] theorem State.pmc_svy_snaps : (s.pmc e f k a).svy.snaps = s.svy.snaps := by
  obtain ⟨_, h⟩ := (s.pmc_recorded e f k a).svy; rw [h]
@[simp] theorem State.pmc_svy_bufBar2 : (s.pmc e f k a).svy.bufBar2 = s.svy.bufBar2 := by
  obtain ⟨_, h⟩ := (s.pmc_recorded e f k a).svy; rw [h]
@[simp] theorem State.pmc_svy_bufMctp : (s.pmc e f k a).svy.bufMctp = s.svy.bufMctp := by
  obtain ⟨_, h⟩ := (s.pmc_recorded e f k a).svy; rw [h]
theorem State.pmc_getReg (o : Nat) (h : recReg o = false) : (s.pmc e f k a).getReg o = s.getReg o :=
  (Recorded.pmc (R := recReg) (tm := false) (fun _ h => h) s e f k a).regs o h

end

section
variable (e : Nat) (l : List Nat) (a : Nat)

theorem State.pmcMany_recorded : Recorded (fun _ => true) false s (s.pmcMany e l a) := .pmcMany all_true s e l a
@[simp] theorem State.pmcMany_pending : (s.pmcMany e l a).pending = s.pending := (s.pmcMany_recorded e l a).pending
@[simp] theorem State.pmcMany_bar2 : (s.pmcMany e l a).bar2 = s.bar2 := (s.pmcMany_recorded e l a).bar2
@[simp] theorem State.pmcMany_mctp : (s.pmcMany e l a).mctp = s.mctp := (s.pmcMany_recorded e l a).mctp
@[simp] theorem State.pmcMany_sys : (s.pmcMany e l a).sys = s.sys := (s.pmcMany_recorded e l a).sys
@[simp] theorem State.pmcMany_plat : (s.pmcMany e l a).plat = s.plat := (s.pmcMany_recorded e l a).plat
@[simp] theorem State.pmcMany_svc : (s.pmcMany e l a).svc = s.svc := (s.pmcMany_recorded e l a).svc
@[simp] theorem State.pmcMany_stg : (s.pmcMany e l a).stg = s.stg := (s.pmcMany_recorded e l a).stg
@[simp] theorem State.pmcMany_cds : (s.pmcMany e l a).cds = s.cds := (s.pmcMany_recorded e l a).cds
@[simp] theorem State.pmcMany_saved : (s.pmcMany e l a).saved = s.saved := (s.pmcMany_recorded e l a).saved
@[simp] theorem State.pmcMany_med : (s.pmcMany e l a).med = s.med := (s.pmcMany_recorded e l a).med
@[simp] theorem State.pmcMany_trv : (s.pmcMany e l a).trv = s.trv := (s.pmcMany_recorded e l a).trv
@[simp] theorem State.pmcMany_mdc : (s.pmcMany e l a).mdc = s.mdc := (s.pmcMany_recorded e l a).mdc
@[simp] theorem State.pmcMany_pwr : (s.pmcMany e l a).pwr = s.pwr := (s.pmcMany_recorded e l a).pwr
@[simp] theorem State.pmcMany_pfl : (s.pmcMany e l a).pfl = s.pfl := (s.pmcMany_recorded e l a).pfl
@[simp] theorem State.pmcMany_ime : (s.pmcMany e l a).ime = s.ime := (s.pmcMany_recorded e l a).ime
@[simp] theorem State.pmcMany_cke : (s.pmcMany e l a).cke = s.cke := (s.pmcMany_recorded e l a).cke
@[simp] theorem State.pmcMany_eng : (s.pmcMany e l a).eng = s.eng := (s.pmcMany_recorded e l a).eng
@[simp] theorem State.pmcMany_thm : (s.pmcMany e l a).thm = s.thm := (s.pmcMany_recorded e l a).thm
@[simp] theorem State.pmcMany_out : (s.pmcMany e l a).out = s.out := (s.pmcMany_recorded e l a).out
@[simp] theorem State.pmcMany_free : (s.pmcMany e l a).free = s.free := (s.pmcMany_recorded e l a).free
@[simp] theorem State.pmcMany_dtm_slewing : (s.pmcMany e l a).dtm.slewing = s.dtm.slewing := by
  obtain ⟨_, _, _, _, h, e⟩ := (s.pmcMany_recorded e l a).dtm; rw [h]
@[simp] theorem State.pmcMany_dtm_everSet : (s.pmcMany e l a).dtm.everSet = s.dtm.everSet := by
  obtain ⟨_, _, _, _, h, e⟩ := (s.pmcMany_recorded e l a).dtm; rw [h]
@[simp] theorem State.pmcMany_dtm_xoLost : (s.pmcMany e l a).dtm.xoLost = s.dtm.xoLost := by
  obtain ⟨_, _, _, _, h, e⟩ := (s.pmcMany_recorded e l a).dtm; rw [h]
@[simp] theorem State.pmcMany_dtm_pllF : (s.pmcMany e l a).dtm.pllF = s.dtm.pllF := by
  obtain ⟨_, _, _, _, h, e⟩ := (s.pmcMany_recorded e l a).dtm; rw [h]
@[simp] theorem State.pmcMany_dtm_pllE : (s.pmcMany e l a).dtm.pllE = s.dtm.pllE := by
  obtain ⟨_, _, _, _, h, e⟩ := (s.pmcMany_recorded e l a).dtm; rw [h]
@[simp] theorem State.pmcMany_dtm_pllT : (s.pmcMany e l a).dtm.pllT = s.dtm.pllT := by
  obtain ⟨_, _, _, _, h, e⟩ := (s.pmcMany_recorded e l a).dtm; rw [h]
@[simp] theorem State.pmcMany_dtm_pllH : (s.pmcMany e l a).dtm.pllH = s.dtm.pllH := by
  obtain ⟨_, _, _, _, h, e⟩ := (s.pmcMany_recorded e l a).dtm; rw [h]
@[simp] theorem State.pmcMany_dtm_restored : (s.pmcMany e l a).dtm.restored = s.dtm.restored := by
  obtain ⟨_, _, _, _, h, e⟩ := (s.pmcMany_recorded e l a).dtm; rw [h]
@[simp] theorem State.pmcMany_dtm_retained : (s.pmcMany e l a).dtm.retained = s.dtm.retained := by
  obtain ⟨_, _, _, _, h, e⟩ := (s.pmcMany_recorded e l a).dtm; rw [h]
@[simp] theorem State.pmcMany_dtm_deedAt : (s.pmcMany e l a).dtm.deedAt = s.dtm.deedAt := by
  obtain ⟨_, _, _, _, h, e⟩ := (s.pmcMany_recorded e l a).dtm; rw [h]
@[simp] theorem State.pmcMany_dtm_outUntil : (s.pmcMany e l a).dtm.outUntil = s.dtm.outUntil := by
  obtain ⟨_, _, _, _, h, e⟩ := (s.pmcMany_recorded e l a).dtm; rw [h]
@[simp] theorem State.pmcMany_dtm_mono : (s.pmcMany e l a).dtm.mono = s.dtm.mono := by
  obtain ⟨_, _, _, _, h, e⟩ := (s.pmcMany_recorded e l a).dtm; rw [h]; simp [e]
@[simp] theorem State.pmcMany_dtm_datum : (s.pmcMany e l a).dtm.datum = s.dtm.datum := by
  obtain ⟨_, _, _, _, h, e⟩ := (s.pmcMany_recorded e l a).dtm; rw [h]; simp [e]
@[simp] theorem State.pmcMany_dtm_offset : (s.pmcMany e l a).dtm.offset = s.dtm.offset := by
  obtain ⟨_, _, _, _, h, e⟩ := (s.pmcMany_recorded e l a).dtm; rw [h]; simp [e]
@[simp] theorem State.pmcMany_pst_flash : (s.pmcMany e l a).pst.flash = s.pst.flash := by
  obtain ⟨_, h⟩ := (s.pmcMany_recorded e l a).pst; rw [h]
@[simp] theorem State.pmcMany_pst_weak : (s.pmcMany e l a).pst.weak = s.pst.weak := by
  obtain ⟨_, h⟩ := (s.pmcMany_recorded e l a).pst; rw [h]
@[simp] theorem State.pmcMany_pst_areas : (s.pmcMany e l a).pst.areas = s.pst.areas := by
  obtain ⟨_, h⟩ := (s.pmcMany_recorded e l a).pst; rw [h]
@[simp] theorem State.pmcMany_pst_tallies : (s.pmcMany e l a).pst.tallies = s.pst.tallies := by
  obtain ⟨_, h⟩ := (s.pmcMany_recorded e l a).pst; rw [h]
@[simp] theorem State.pmcMany_pst_tallyNext : (s.pmcMany e l a).pst.tallyNext = s.pst.tallyNext := by
  obtain ⟨_, h⟩ := (s.pmcMany_recorded e l a).pst; rw [h]
@[simp] theorem State.pmcMany_pst_hints0 : (s.pmcMany e l a).pst.hints0 = s.pst.hints0 := by
  obtain ⟨_, h⟩ := (s.pmcMany_recorded e l a).pst; rw [h]
@[simp] theorem State.pmcMany_pst_hints1 : (s.pmcMany e l a).pst.hints1 = s.pst.hints1 := by
  obtain ⟨_, h⟩ := (s.pmcMany_recorded e l a).pst; rw [h]
@[simp] theorem State.pmcMany_pst_hintHigh : (s.pmcMany e l a).pst.hintHigh = s.pst.hintHigh := by
  obtain ⟨_, h⟩ := (s.pmcMany_recorded e l a).pst; rw [h]
@[simp] theorem State.pmcMany_pst_hintErasing : (s.pmcMany e l a).pst.hintErasing = s.pst.hintErasing := by
  obtain ⟨_, h⟩ := (s.pmcMany_recorded e l a).pst; rw [h]
@[simp] theorem State.pmcMany_pst_replaced : (s.pmcMany e l a).pst.replaced = s.pst.replaced := by
  obtain ⟨_, h⟩ := (s.pmcMany_recorded e l a).pst; rw [h]
@[simp] theorem State.pmcMany_pst_gen : (s.pmcMany e l a).pst.gen = s.pst.gen := by
  obtain ⟨_, h⟩ := (s.pmcMany_recorded e l a).pst; rw [h]
@[simp] theorem State.pmcMany_pst_inForce : (s.pmcMany e l a).pst.inForce = s.pst.inForce := by
  obtain ⟨_, h⟩ := (s.pmcMany_recorded e l a).pst; rw [h]
@[simp] theorem State.pmcMany_pst_run : (s.pmcMany e l a).pst.run = s.pst.run := by
  obtain ⟨_, h⟩ := (s.pmcMany_recorded e l a).pst; rw [h]
@[simp] theorem State.pmcMany_pst_gateWait : (s.pmcMany e l a).pst.gateWait = s.pst.gateWait := by
  obtain ⟨_, h⟩ := (s.pmcMany_recorded e l a).pst; rw [h]
@[simp] theorem State.pmcMany_pst_ungated : (s.pmcMany e l a).pst.ungated = s.pst.ungated := by
  obtain ⟨_, h⟩ := (s.pmcMany_recorded e l a).pst; rw [h]
@[simp] theorem State.pmcMany_pst_owed : (s.pmcMany e l a).pst.owed = s.pst.owed := by
  obtain ⟨_, h⟩ := (s.pmcMany_recorded e l a).pst; rw [h]
@[simp] theorem State.pmcMany_pst_endAt : (s.pmcMany e l a).pst.endAt = s.pst.endAt := by
  obtain ⟨_, h⟩ := (s.pmcMany_recorded e l a).pst; rw [h]
@[simp] theorem State.pmcMany_pst_buf : (s.pmcMany e l a).pst.buf = s.pst.buf := by
  obtain ⟨_, h⟩ := (s.pmcMany_recorded e l a).pst; rw [h]
@[simp] theorem State.pmcMany_port0_pwb : (s.pmcMany e l a).port0.pwb = s.port0.pwb := by
  obtain ⟨_, _, h⟩ := (s.pmcMany_recorded e l a).port0; rw [h]
@[simp] theorem State.pmcMany_port0_reads : (s.pmcMany e l a).port0.reads = s.port0.reads := by
  obtain ⟨_, _, h⟩ := (s.pmcMany_recorded e l a).port0; rw [h]
@[simp] theorem State.pmcMany_port0_nextSeq : (s.pmcMany e l a).port0.nextSeq = s.port0.nextSeq := by
  obtain ⟨_, _, h⟩ := (s.pmcMany_recorded e l a).port0; rw [h]
@[simp] theorem State.pmcMany_port0_decoders : (s.pmcMany e l a).port0.decoders = s.port0.decoders := by
  obtain ⟨_, _, h⟩ := (s.pmcMany_recorded e l a).port0; rw [h]
@[simp] theorem State.pmcMany_port0_ide : (s.pmcMany e l a).port0.ide = s.port0.ide := by
  obtain ⟨_, _, h⟩ := (s.pmcMany_recorded e l a).port0; rw [h]
@[simp] theorem State.pmcMany_port0_linkUp : (s.pmcMany e l a).port0.linkUp = s.port0.linkUp := by
  obtain ⟨_, _, h⟩ := (s.pmcMany_recorded e l a).port0; rw [h]
@[simp] theorem State.pmcMany_port0_rate : (s.pmcMany e l a).port0.rate = s.port0.rate := by
  obtain ⟨_, _, h⟩ := (s.pmcMany_recorded e l a).port0; rw [h]
@[simp] theorem State.pmcMany_port0_width : (s.pmcMany e l a).port0.width = s.port0.width := by
  obtain ⟨_, _, h⟩ := (s.pmcMany_recorded e l a).port0; rw [h]
@[simp] theorem State.pmcMany_port0_flit256 : (s.pmcMany e l a).port0.flit256 = s.port0.flit256 := by
  obtain ⟨_, _, h⟩ := (s.pmcMany_recorded e l a).port0; rw [h]
@[simp] theorem State.pmcMany_port0_laneOk : (s.pmcMany e l a).port0.laneOk = s.port0.laneOk := by
  obtain ⟨_, _, h⟩ := (s.pmcMany_recorded e l a).port0; rw [h]
@[simp] theorem State.pmcMany_port0_laneErrs : (s.pmcMany e l a).port0.laneErrs = s.port0.laneErrs := by
  obtain ⟨_, _, h⟩ := (s.pmcMany_recorded e l a).port0; rw [h]
@[simp] theorem State.pmcMany_port0_drain : (s.pmcMany e l a).port0.drain = s.port0.drain := by
  obtain ⟨_, _, h⟩ := (s.pmcMany_recorded e l a).port0; rw [h]
@[simp] theorem State.pmcMany_port0_gpf : (s.pmcMany e l a).port0.gpf = s.port0.gpf := by
  obtain ⟨_, _, h⟩ := (s.pmcMany_recorded e l a).port0; rw [h]
@[simp] theorem State.pmcMany_port0_admitAt : (s.pmcMany e l a).port0.admitAt = s.port0.admitAt := by
  obtain ⟨_, _, h⟩ := (s.pmcMany_recorded e l a).port0; rw [h]
@[simp] theorem State.pmcMany_port0_flr : (s.pmcMany e l a).port0.flr = s.port0.flr := by
  obtain ⟨_, _, h⟩ := (s.pmcMany_recorded e l a).port0; rw [h]
@[simp] theorem State.pmcMany_port0_heldOut : (s.pmcMany e l a).port0.heldOut = s.port0.heldOut := by
  obtain ⟨_, _, h⟩ := (s.pmcMany_recorded e l a).port0; rw [h]
@[simp] theorem State.pmcMany_port0_evtPolicy : (s.pmcMany e l a).port0.evtPolicy = s.port0.evtPolicy := by
  obtain ⟨_, _, h⟩ := (s.pmcMany_recorded e l a).port0; rw [h]
@[simp] theorem State.pmcMany_port0_doorbell : (s.pmcMany e l a).port0.doorbell = s.port0.doorbell := by
  obtain ⟨_, _, h⟩ := (s.pmcMany_recorded e l a).port0; rw [h]
@[simp] theorem State.pmcMany_port0_lsa : (s.pmcMany e l a).port0.lsa = s.port0.lsa := by
  obtain ⟨_, _, h⟩ := (s.pmcMany_recorded e l a).port0; rw [h]
@[simp] theorem State.pmcMany_port0_lsaCopy : (s.pmcMany e l a).port0.lsaCopy = s.port0.lsaCopy := by
  obtain ⟨_, _, h⟩ := (s.pmcMany_recorded e l a).port0; rw [h]
@[simp] theorem State.pmcMany_port1_pwb : (s.pmcMany e l a).port1.pwb = s.port1.pwb := by
  obtain ⟨_, _, h⟩ := (s.pmcMany_recorded e l a).port1; rw [h]
@[simp] theorem State.pmcMany_port1_reads : (s.pmcMany e l a).port1.reads = s.port1.reads := by
  obtain ⟨_, _, h⟩ := (s.pmcMany_recorded e l a).port1; rw [h]
@[simp] theorem State.pmcMany_port1_nextSeq : (s.pmcMany e l a).port1.nextSeq = s.port1.nextSeq := by
  obtain ⟨_, _, h⟩ := (s.pmcMany_recorded e l a).port1; rw [h]
@[simp] theorem State.pmcMany_port1_decoders : (s.pmcMany e l a).port1.decoders = s.port1.decoders := by
  obtain ⟨_, _, h⟩ := (s.pmcMany_recorded e l a).port1; rw [h]
@[simp] theorem State.pmcMany_port1_ide : (s.pmcMany e l a).port1.ide = s.port1.ide := by
  obtain ⟨_, _, h⟩ := (s.pmcMany_recorded e l a).port1; rw [h]
@[simp] theorem State.pmcMany_port1_linkUp : (s.pmcMany e l a).port1.linkUp = s.port1.linkUp := by
  obtain ⟨_, _, h⟩ := (s.pmcMany_recorded e l a).port1; rw [h]
@[simp] theorem State.pmcMany_port1_rate : (s.pmcMany e l a).port1.rate = s.port1.rate := by
  obtain ⟨_, _, h⟩ := (s.pmcMany_recorded e l a).port1; rw [h]
@[simp] theorem State.pmcMany_port1_width : (s.pmcMany e l a).port1.width = s.port1.width := by
  obtain ⟨_, _, h⟩ := (s.pmcMany_recorded e l a).port1; rw [h]
@[simp] theorem State.pmcMany_port1_flit256 : (s.pmcMany e l a).port1.flit256 = s.port1.flit256 := by
  obtain ⟨_, _, h⟩ := (s.pmcMany_recorded e l a).port1; rw [h]
@[simp] theorem State.pmcMany_port1_laneOk : (s.pmcMany e l a).port1.laneOk = s.port1.laneOk := by
  obtain ⟨_, _, h⟩ := (s.pmcMany_recorded e l a).port1; rw [h]
@[simp] theorem State.pmcMany_port1_laneErrs : (s.pmcMany e l a).port1.laneErrs = s.port1.laneErrs := by
  obtain ⟨_, _, h⟩ := (s.pmcMany_recorded e l a).port1; rw [h]
@[simp] theorem State.pmcMany_port1_drain : (s.pmcMany e l a).port1.drain = s.port1.drain := by
  obtain ⟨_, _, h⟩ := (s.pmcMany_recorded e l a).port1; rw [h]
@[simp] theorem State.pmcMany_port1_gpf : (s.pmcMany e l a).port1.gpf = s.port1.gpf := by
  obtain ⟨_, _, h⟩ := (s.pmcMany_recorded e l a).port1; rw [h]
@[simp] theorem State.pmcMany_port1_admitAt : (s.pmcMany e l a).port1.admitAt = s.port1.admitAt := by
  obtain ⟨_, _, h⟩ := (s.pmcMany_recorded e l a).port1; rw [h]
@[simp] theorem State.pmcMany_port1_flr : (s.pmcMany e l a).port1.flr = s.port1.flr := by
  obtain ⟨_, _, h⟩ := (s.pmcMany_recorded e l a).port1; rw [h]
@[simp] theorem State.pmcMany_port1_heldOut : (s.pmcMany e l a).port1.heldOut = s.port1.heldOut := by
  obtain ⟨_, _, h⟩ := (s.pmcMany_recorded e l a).port1; rw [h]
@[simp] theorem State.pmcMany_port1_evtPolicy : (s.pmcMany e l a).port1.evtPolicy = s.port1.evtPolicy := by
  obtain ⟨_, _, h⟩ := (s.pmcMany_recorded e l a).port1; rw [h]
@[simp] theorem State.pmcMany_port1_doorbell : (s.pmcMany e l a).port1.doorbell = s.port1.doorbell := by
  obtain ⟨_, _, h⟩ := (s.pmcMany_recorded e l a).port1; rw [h]
@[simp] theorem State.pmcMany_port1_lsa : (s.pmcMany e l a).port1.lsa = s.port1.lsa := by
  obtain ⟨_, _, h⟩ := (s.pmcMany_recorded e l a).port1; rw [h]
@[simp] theorem State.pmcMany_port1_lsaCopy : (s.pmcMany e l a).port1.lsaCopy = s.port1.lsaCopy := by
  obtain ⟨_, _, h⟩ := (s.pmcMany_recorded e l a).port1; rw [h]
@[simp] theorem State.pmcMany_svy_gen : (s.pmcMany e l a).svy.gen = s.svy.gen := by
  obtain ⟨_, h⟩ := (s.pmcMany_recorded e l a).svy; rw [h]
@[simp] theorem State.pmcMany_svy_missed : (s.pmcMany e l a).svy.missed = s.svy.missed := by
  obtain ⟨_, h⟩ := (s.pmcMany_recorded e l a).svy; rw [h]
@[simp] theorem State.pmcMany_svy_areas : (s.pmcMany e l a).svy.areas = s.svy.areas := by
  obtain ⟨_, h⟩ := (s.pmcMany_recorded e l a).svy; rw [h]
@[simp] theorem State.pmcMany_svy_snaps : (s.pmcMany e l a).svy.snaps = s.svy.snaps := by
  obtain ⟨_, h⟩ := (s.pmcMany_recorded e l a).svy; rw [h]
@[simp] theorem State.pmcMany_svy_bufBar2 : (s.pmcMany e l a).svy.bufBar2 = s.svy.bufBar2 := by
  obtain ⟨_, h⟩ := (s.pmcMany_recorded e l a).svy; rw [h]
@[simp] theorem State.pmcMany_svy_bufMctp : (s.pmcMany e l a).svy.bufMctp = s.svy.bufMctp := by
  obtain ⟨_, h⟩ := (s.pmcMany_recorded e l a).svy; rw [h]
theorem State.pmcMany_getReg (o : Nat) (h : recReg o = false) : (s.pmcMany e l a).getReg o = s.getReg o :=
  (Recorded.pmcMany (R := recReg) (tm := false) (fun _ h => h) s e l a).regs o h

end

section
variable (ns : Nat)

theorem State.clockTo_recorded : Recorded (fun _ => true) true s (s.clockTo ns) := .clockTo all_true s ns
@[simp] theorem State.clockTo_pending : (s.clockTo ns).pending = s.pending := (s.clockTo_recorded ns).pending
@[simp] theorem State.clockTo_bar2 : (s.clockTo ns).bar2 = s.bar2 := (s.clockTo_recorded ns).bar2
@[simp] theorem State.clockTo_mctp : (s.clockTo ns).mctp = s.mctp := (s.clockTo_recorded ns).mctp
@[simp] theorem State.clockTo_sys : (s.clockTo ns).sys = s.sys := (s.clockTo_recorded ns).sys
@[simp] theorem State.clockTo_plat : (s.clockTo ns).plat = s.plat := (s.clockTo_recorded ns).plat
@[simp] theorem State.clockTo_svc : (s.clockTo ns).svc = s.svc := (s.clockTo_recorded ns).svc
@[simp] theorem State.clockTo_stg : (s.clockTo ns).stg = s.stg := (s.clockTo_recorded ns).stg
@[simp] theorem State.clockTo_cds : (s.clockTo ns).cds = s.cds := (s.clockTo_recorded ns).cds
@[simp] theorem State.clockTo_saved : (s.clockTo ns).saved = s.saved := (s.clockTo_recorded ns).saved
@[simp] theorem State.clockTo_med : (s.clockTo ns).med = s.med := (s.clockTo_recorded ns).med
@[simp] theorem State.clockTo_trv : (s.clockTo ns).trv = s.trv := (s.clockTo_recorded ns).trv
@[simp] theorem State.clockTo_mdc : (s.clockTo ns).mdc = s.mdc := (s.clockTo_recorded ns).mdc
@[simp] theorem State.clockTo_pwr : (s.clockTo ns).pwr = s.pwr := (s.clockTo_recorded ns).pwr
@[simp] theorem State.clockTo_pfl : (s.clockTo ns).pfl = s.pfl := (s.clockTo_recorded ns).pfl
@[simp] theorem State.clockTo_ime : (s.clockTo ns).ime = s.ime := (s.clockTo_recorded ns).ime
@[simp] theorem State.clockTo_cke : (s.clockTo ns).cke = s.cke := (s.clockTo_recorded ns).cke
@[simp] theorem State.clockTo_eng : (s.clockTo ns).eng = s.eng := (s.clockTo_recorded ns).eng
@[simp] theorem State.clockTo_thm : (s.clockTo ns).thm = s.thm := (s.clockTo_recorded ns).thm
@[simp] theorem State.clockTo_out : (s.clockTo ns).out = s.out := (s.clockTo_recorded ns).out
@[simp] theorem State.clockTo_free : (s.clockTo ns).free = s.free := (s.clockTo_recorded ns).free
@[simp] theorem State.clockTo_dtm_slewing : (s.clockTo ns).dtm.slewing = s.dtm.slewing := by
  obtain ⟨_, _, _, _, h, e⟩ := (s.clockTo_recorded ns).dtm; rw [h]
@[simp] theorem State.clockTo_dtm_everSet : (s.clockTo ns).dtm.everSet = s.dtm.everSet := by
  obtain ⟨_, _, _, _, h, e⟩ := (s.clockTo_recorded ns).dtm; rw [h]
@[simp] theorem State.clockTo_dtm_xoLost : (s.clockTo ns).dtm.xoLost = s.dtm.xoLost := by
  obtain ⟨_, _, _, _, h, e⟩ := (s.clockTo_recorded ns).dtm; rw [h]
@[simp] theorem State.clockTo_dtm_pllF : (s.clockTo ns).dtm.pllF = s.dtm.pllF := by
  obtain ⟨_, _, _, _, h, e⟩ := (s.clockTo_recorded ns).dtm; rw [h]
@[simp] theorem State.clockTo_dtm_pllE : (s.clockTo ns).dtm.pllE = s.dtm.pllE := by
  obtain ⟨_, _, _, _, h, e⟩ := (s.clockTo_recorded ns).dtm; rw [h]
@[simp] theorem State.clockTo_dtm_pllT : (s.clockTo ns).dtm.pllT = s.dtm.pllT := by
  obtain ⟨_, _, _, _, h, e⟩ := (s.clockTo_recorded ns).dtm; rw [h]
@[simp] theorem State.clockTo_dtm_pllH : (s.clockTo ns).dtm.pllH = s.dtm.pllH := by
  obtain ⟨_, _, _, _, h, e⟩ := (s.clockTo_recorded ns).dtm; rw [h]
@[simp] theorem State.clockTo_dtm_restored : (s.clockTo ns).dtm.restored = s.dtm.restored := by
  obtain ⟨_, _, _, _, h, e⟩ := (s.clockTo_recorded ns).dtm; rw [h]
@[simp] theorem State.clockTo_dtm_retained : (s.clockTo ns).dtm.retained = s.dtm.retained := by
  obtain ⟨_, _, _, _, h, e⟩ := (s.clockTo_recorded ns).dtm; rw [h]
@[simp] theorem State.clockTo_dtm_deedAt : (s.clockTo ns).dtm.deedAt = s.dtm.deedAt := by
  obtain ⟨_, _, _, _, h, e⟩ := (s.clockTo_recorded ns).dtm; rw [h]
@[simp] theorem State.clockTo_dtm_outUntil : (s.clockTo ns).dtm.outUntil = s.dtm.outUntil := by
  obtain ⟨_, _, _, _, h, e⟩ := (s.clockTo_recorded ns).dtm; rw [h]
@[simp] theorem State.clockTo_pst_flash : (s.clockTo ns).pst.flash = s.pst.flash := by
  obtain ⟨_, h⟩ := (s.clockTo_recorded ns).pst; rw [h]
@[simp] theorem State.clockTo_pst_weak : (s.clockTo ns).pst.weak = s.pst.weak := by
  obtain ⟨_, h⟩ := (s.clockTo_recorded ns).pst; rw [h]
@[simp] theorem State.clockTo_pst_areas : (s.clockTo ns).pst.areas = s.pst.areas := by
  obtain ⟨_, h⟩ := (s.clockTo_recorded ns).pst; rw [h]
@[simp] theorem State.clockTo_pst_tallies : (s.clockTo ns).pst.tallies = s.pst.tallies := by
  obtain ⟨_, h⟩ := (s.clockTo_recorded ns).pst; rw [h]
@[simp] theorem State.clockTo_pst_tallyNext : (s.clockTo ns).pst.tallyNext = s.pst.tallyNext := by
  obtain ⟨_, h⟩ := (s.clockTo_recorded ns).pst; rw [h]
@[simp] theorem State.clockTo_pst_hints0 : (s.clockTo ns).pst.hints0 = s.pst.hints0 := by
  obtain ⟨_, h⟩ := (s.clockTo_recorded ns).pst; rw [h]
@[simp] theorem State.clockTo_pst_hints1 : (s.clockTo ns).pst.hints1 = s.pst.hints1 := by
  obtain ⟨_, h⟩ := (s.clockTo_recorded ns).pst; rw [h]
@[simp] theorem State.clockTo_pst_hintHigh : (s.clockTo ns).pst.hintHigh = s.pst.hintHigh := by
  obtain ⟨_, h⟩ := (s.clockTo_recorded ns).pst; rw [h]
@[simp] theorem State.clockTo_pst_hintErasing : (s.clockTo ns).pst.hintErasing = s.pst.hintErasing := by
  obtain ⟨_, h⟩ := (s.clockTo_recorded ns).pst; rw [h]
@[simp] theorem State.clockTo_pst_replaced : (s.clockTo ns).pst.replaced = s.pst.replaced := by
  obtain ⟨_, h⟩ := (s.clockTo_recorded ns).pst; rw [h]
@[simp] theorem State.clockTo_pst_gen : (s.clockTo ns).pst.gen = s.pst.gen := by
  obtain ⟨_, h⟩ := (s.clockTo_recorded ns).pst; rw [h]
@[simp] theorem State.clockTo_pst_inForce : (s.clockTo ns).pst.inForce = s.pst.inForce := by
  obtain ⟨_, h⟩ := (s.clockTo_recorded ns).pst; rw [h]
@[simp] theorem State.clockTo_pst_run : (s.clockTo ns).pst.run = s.pst.run := by
  obtain ⟨_, h⟩ := (s.clockTo_recorded ns).pst; rw [h]
@[simp] theorem State.clockTo_pst_gateWait : (s.clockTo ns).pst.gateWait = s.pst.gateWait := by
  obtain ⟨_, h⟩ := (s.clockTo_recorded ns).pst; rw [h]
@[simp] theorem State.clockTo_pst_ungated : (s.clockTo ns).pst.ungated = s.pst.ungated := by
  obtain ⟨_, h⟩ := (s.clockTo_recorded ns).pst; rw [h]
@[simp] theorem State.clockTo_pst_owed : (s.clockTo ns).pst.owed = s.pst.owed := by
  obtain ⟨_, h⟩ := (s.clockTo_recorded ns).pst; rw [h]
@[simp] theorem State.clockTo_pst_endAt : (s.clockTo ns).pst.endAt = s.pst.endAt := by
  obtain ⟨_, h⟩ := (s.clockTo_recorded ns).pst; rw [h]
@[simp] theorem State.clockTo_pst_buf : (s.clockTo ns).pst.buf = s.pst.buf := by
  obtain ⟨_, h⟩ := (s.clockTo_recorded ns).pst; rw [h]
@[simp] theorem State.clockTo_port0_pwb : (s.clockTo ns).port0.pwb = s.port0.pwb := by
  obtain ⟨_, _, h⟩ := (s.clockTo_recorded ns).port0; rw [h]
@[simp] theorem State.clockTo_port0_reads : (s.clockTo ns).port0.reads = s.port0.reads := by
  obtain ⟨_, _, h⟩ := (s.clockTo_recorded ns).port0; rw [h]
@[simp] theorem State.clockTo_port0_nextSeq : (s.clockTo ns).port0.nextSeq = s.port0.nextSeq := by
  obtain ⟨_, _, h⟩ := (s.clockTo_recorded ns).port0; rw [h]
@[simp] theorem State.clockTo_port0_decoders : (s.clockTo ns).port0.decoders = s.port0.decoders := by
  obtain ⟨_, _, h⟩ := (s.clockTo_recorded ns).port0; rw [h]
@[simp] theorem State.clockTo_port0_ide : (s.clockTo ns).port0.ide = s.port0.ide := by
  obtain ⟨_, _, h⟩ := (s.clockTo_recorded ns).port0; rw [h]
@[simp] theorem State.clockTo_port0_linkUp : (s.clockTo ns).port0.linkUp = s.port0.linkUp := by
  obtain ⟨_, _, h⟩ := (s.clockTo_recorded ns).port0; rw [h]
@[simp] theorem State.clockTo_port0_rate : (s.clockTo ns).port0.rate = s.port0.rate := by
  obtain ⟨_, _, h⟩ := (s.clockTo_recorded ns).port0; rw [h]
@[simp] theorem State.clockTo_port0_width : (s.clockTo ns).port0.width = s.port0.width := by
  obtain ⟨_, _, h⟩ := (s.clockTo_recorded ns).port0; rw [h]
@[simp] theorem State.clockTo_port0_flit256 : (s.clockTo ns).port0.flit256 = s.port0.flit256 := by
  obtain ⟨_, _, h⟩ := (s.clockTo_recorded ns).port0; rw [h]
@[simp] theorem State.clockTo_port0_laneOk : (s.clockTo ns).port0.laneOk = s.port0.laneOk := by
  obtain ⟨_, _, h⟩ := (s.clockTo_recorded ns).port0; rw [h]
@[simp] theorem State.clockTo_port0_laneErrs : (s.clockTo ns).port0.laneErrs = s.port0.laneErrs := by
  obtain ⟨_, _, h⟩ := (s.clockTo_recorded ns).port0; rw [h]
@[simp] theorem State.clockTo_port0_drain : (s.clockTo ns).port0.drain = s.port0.drain := by
  obtain ⟨_, _, h⟩ := (s.clockTo_recorded ns).port0; rw [h]
@[simp] theorem State.clockTo_port0_gpf : (s.clockTo ns).port0.gpf = s.port0.gpf := by
  obtain ⟨_, _, h⟩ := (s.clockTo_recorded ns).port0; rw [h]
@[simp] theorem State.clockTo_port0_admitAt : (s.clockTo ns).port0.admitAt = s.port0.admitAt := by
  obtain ⟨_, _, h⟩ := (s.clockTo_recorded ns).port0; rw [h]
@[simp] theorem State.clockTo_port0_flr : (s.clockTo ns).port0.flr = s.port0.flr := by
  obtain ⟨_, _, h⟩ := (s.clockTo_recorded ns).port0; rw [h]
@[simp] theorem State.clockTo_port0_heldOut : (s.clockTo ns).port0.heldOut = s.port0.heldOut := by
  obtain ⟨_, _, h⟩ := (s.clockTo_recorded ns).port0; rw [h]
@[simp] theorem State.clockTo_port0_evtPolicy : (s.clockTo ns).port0.evtPolicy = s.port0.evtPolicy := by
  obtain ⟨_, _, h⟩ := (s.clockTo_recorded ns).port0; rw [h]
@[simp] theorem State.clockTo_port0_doorbell : (s.clockTo ns).port0.doorbell = s.port0.doorbell := by
  obtain ⟨_, _, h⟩ := (s.clockTo_recorded ns).port0; rw [h]
@[simp] theorem State.clockTo_port0_lsa : (s.clockTo ns).port0.lsa = s.port0.lsa := by
  obtain ⟨_, _, h⟩ := (s.clockTo_recorded ns).port0; rw [h]
@[simp] theorem State.clockTo_port0_lsaCopy : (s.clockTo ns).port0.lsaCopy = s.port0.lsaCopy := by
  obtain ⟨_, _, h⟩ := (s.clockTo_recorded ns).port0; rw [h]
@[simp] theorem State.clockTo_port1_pwb : (s.clockTo ns).port1.pwb = s.port1.pwb := by
  obtain ⟨_, _, h⟩ := (s.clockTo_recorded ns).port1; rw [h]
@[simp] theorem State.clockTo_port1_reads : (s.clockTo ns).port1.reads = s.port1.reads := by
  obtain ⟨_, _, h⟩ := (s.clockTo_recorded ns).port1; rw [h]
@[simp] theorem State.clockTo_port1_nextSeq : (s.clockTo ns).port1.nextSeq = s.port1.nextSeq := by
  obtain ⟨_, _, h⟩ := (s.clockTo_recorded ns).port1; rw [h]
@[simp] theorem State.clockTo_port1_decoders : (s.clockTo ns).port1.decoders = s.port1.decoders := by
  obtain ⟨_, _, h⟩ := (s.clockTo_recorded ns).port1; rw [h]
@[simp] theorem State.clockTo_port1_ide : (s.clockTo ns).port1.ide = s.port1.ide := by
  obtain ⟨_, _, h⟩ := (s.clockTo_recorded ns).port1; rw [h]
@[simp] theorem State.clockTo_port1_linkUp : (s.clockTo ns).port1.linkUp = s.port1.linkUp := by
  obtain ⟨_, _, h⟩ := (s.clockTo_recorded ns).port1; rw [h]
@[simp] theorem State.clockTo_port1_rate : (s.clockTo ns).port1.rate = s.port1.rate := by
  obtain ⟨_, _, h⟩ := (s.clockTo_recorded ns).port1; rw [h]
@[simp] theorem State.clockTo_port1_width : (s.clockTo ns).port1.width = s.port1.width := by
  obtain ⟨_, _, h⟩ := (s.clockTo_recorded ns).port1; rw [h]
@[simp] theorem State.clockTo_port1_flit256 : (s.clockTo ns).port1.flit256 = s.port1.flit256 := by
  obtain ⟨_, _, h⟩ := (s.clockTo_recorded ns).port1; rw [h]
@[simp] theorem State.clockTo_port1_laneOk : (s.clockTo ns).port1.laneOk = s.port1.laneOk := by
  obtain ⟨_, _, h⟩ := (s.clockTo_recorded ns).port1; rw [h]
@[simp] theorem State.clockTo_port1_laneErrs : (s.clockTo ns).port1.laneErrs = s.port1.laneErrs := by
  obtain ⟨_, _, h⟩ := (s.clockTo_recorded ns).port1; rw [h]
@[simp] theorem State.clockTo_port1_drain : (s.clockTo ns).port1.drain = s.port1.drain := by
  obtain ⟨_, _, h⟩ := (s.clockTo_recorded ns).port1; rw [h]
@[simp] theorem State.clockTo_port1_gpf : (s.clockTo ns).port1.gpf = s.port1.gpf := by
  obtain ⟨_, _, h⟩ := (s.clockTo_recorded ns).port1; rw [h]
@[simp] theorem State.clockTo_port1_admitAt : (s.clockTo ns).port1.admitAt = s.port1.admitAt := by
  obtain ⟨_, _, h⟩ := (s.clockTo_recorded ns).port1; rw [h]
@[simp] theorem State.clockTo_port1_flr : (s.clockTo ns).port1.flr = s.port1.flr := by
  obtain ⟨_, _, h⟩ := (s.clockTo_recorded ns).port1; rw [h]
@[simp] theorem State.clockTo_port1_heldOut : (s.clockTo ns).port1.heldOut = s.port1.heldOut := by
  obtain ⟨_, _, h⟩ := (s.clockTo_recorded ns).port1; rw [h]
@[simp] theorem State.clockTo_port1_evtPolicy : (s.clockTo ns).port1.evtPolicy = s.port1.evtPolicy := by
  obtain ⟨_, _, h⟩ := (s.clockTo_recorded ns).port1; rw [h]
@[simp] theorem State.clockTo_port1_doorbell : (s.clockTo ns).port1.doorbell = s.port1.doorbell := by
  obtain ⟨_, _, h⟩ := (s.clockTo_recorded ns).port1; rw [h]
@[simp] theorem State.clockTo_port1_lsa : (s.clockTo ns).port1.lsa = s.port1.lsa := by
  obtain ⟨_, _, h⟩ := (s.clockTo_recorded ns).port1; rw [h]
@[simp] theorem State.clockTo_port1_lsaCopy : (s.clockTo ns).port1.lsaCopy = s.port1.lsaCopy := by
  obtain ⟨_, _, h⟩ := (s.clockTo_recorded ns).port1; rw [h]
@[simp] theorem State.clockTo_svy_gen : (s.clockTo ns).svy.gen = s.svy.gen := by
  obtain ⟨_, h⟩ := (s.clockTo_recorded ns).svy; rw [h]
@[simp] theorem State.clockTo_svy_missed : (s.clockTo ns).svy.missed = s.svy.missed := by
  obtain ⟨_, h⟩ := (s.clockTo_recorded ns).svy; rw [h]
@[simp] theorem State.clockTo_svy_areas : (s.clockTo ns).svy.areas = s.svy.areas := by
  obtain ⟨_, h⟩ := (s.clockTo_recorded ns).svy; rw [h]
@[simp] theorem State.clockTo_svy_snaps : (s.clockTo ns).svy.snaps = s.svy.snaps := by
  obtain ⟨_, h⟩ := (s.clockTo_recorded ns).svy; rw [h]
@[simp] theorem State.clockTo_svy_bufBar2 : (s.clockTo ns).svy.bufBar2 = s.svy.bufBar2 := by
  obtain ⟨_, h⟩ := (s.clockTo_recorded ns).svy; rw [h]
@[simp] theorem State.clockTo_svy_bufMctp : (s.clockTo ns).svy.bufMctp = s.svy.bufMctp := by
  obtain ⟨_, h⟩ := (s.clockTo_recorded ns).svy; rw [h]
theorem State.clockTo_getReg (o : Nat) (h : recReg o = false) : (s.clockTo ns).getReg o = s.getReg o :=
  (Recorded.clockTo (R := recReg) (fun _ h => h) s ns).regs o h

end

/-! Time. -/

theorem State.pass_mono (d : Nat) : (s.pass d).dtm.mono = s.dtm.mono + d := by
  unfold State.pass Dtm.advance
  simp only [State.modDtm_dtm]
  split
  · split <;> rfl
  · rfl

/-- DTM_MONO after an event's stamp: the later of the stamp and the time already reached, while supplies are good. -/
theorem State.clockTo_mono (ns : Nat) :
    (s.clockTo ns).dtm.mono = if s.sys.supplies then max s.dtm.mono (ns * nsUnits) else s.dtm.mono := by
  have hc (a b : Nat) : (s.countConds a b).dtm.mono = s.dtm.mono := by
    obtain ⟨_, _, _, _, h, e⟩ := (Recorded.countConds (R := fun _ => true) (tm := false) (fun _ _ => rfl) s a b).dtm
    rw [h]; simp [e]
  unfold State.clockTo State.elapse
  cases hs : s.sys.supplies
  · simp
  · by_cases h : s.dtm.mono < ns * nsUnits
    · simp only [h, decide_true, Bool.and_self, if_true, State.pass_mono]
      split
      · omega
      · rw [hc]; omega
    · simp only [h, decide_false, Bool.and_false, if_true]
      rw [if_neg (by simp)]
      omega

/-- An event stamped no earlier than the time already reached sets DTM_MONO to its stamp. -/
theorem State.clockTo_nowNs (ns : Nat) (hs : s.sys.supplies = true) (h : s.nowNs ≤ ns) : (s.clockTo ns).nowNs = ns := by
  unfold State.nowNs at h ⊢
  rw [State.clockTo_mono, hs, if_pos rfl]
  have : (0 : Nat) < nsUnits := by decide
  rcases Nat.le_total s.dtm.mono (ns * nsUnits) with hle | hle
  · rw [Nat.max_eq_right hle, Nat.mul_div_cancel _ this]
  · rw [Nat.max_eq_left hle]
    exact Nat.le_antisymm h (by rwa [Nat.le_div_iff_mul_le this])

end Sys2Proof.Machine
end

