-- ==== Sys2Proof/Laws/Trans.lean ====
section
/-! SUPPORT. What settling the applied level and entering a top-level state change. -/

namespace Sys2Proof.Machine

/-- Settling the applied level changes the level last reported and its time, the boost, THM_INT_STAT, and records. -/
theorem Recorded.settleTemper {R : Nat → Bool} {tm : Bool}
    (hR : ∀ o, recReg o = true ∨ o = Reg.THM_INT_STAT → R o = true) (s : State) :
    ∃ b a n d, Recorded R tm (s.modThm fun t => { t with boost := b, applied := a, temperNs := n, temperAt := d })
      s.settleTemper := by
  have h7 : R Reg.THM_INT_STAT = true := hR _ (.inr rfl)
  have hr : ∀ o, recReg o = true → R o = true := fun o h => hR o (.inl h)
  unfold State.settleTemper
  extract_lets u new old now v w x
  have hu : ∃ b, u = s.modThm fun t => { t with boost := b } := by
    unfold u; split
    · exact ⟨s.thm.boost, rfl⟩
    · exact ⟨0, rfl⟩
  obtain ⟨b, hb⟩ := hu
  split
  · refine ⟨b, s.thm.applied, s.thm.temperNs, s.thm.temperAt, ?_⟩
    have : u = s.modThm fun t => { t with boost := b, applied := s.thm.applied, temperNs := s.thm.temperNs, temperAt := s.thm.temperAt } := hb
    rw [this]; exact .refl R _
  · refine ⟨b, v.thm.applied, v.thm.temperNs, v.thm.temperAt, ?_⟩
    have hv : v = s.modThm fun t => { t with boost := b, applied := v.thm.applied, temperNs := v.thm.temperNs, temperAt := v.thm.temperAt } := by
      unfold v; rw [hb]; rfl
    rw [← hv]
    have h1 : Recorded R tm v w := .setBits _ _ h7
    have h2 : Recorded R tm w x := .raise hr _ _ _ _
    refine (h1.trans h2).trans (.ite ?_ (.refl R _))
    unfold State.thermalTrip
    exact .ite (.strobeAt hr _ _ _) (.refl R _)

/-- The same change of the thermal state on both sides. -/
theorem Recorded.modThm {R : Nat → Bool} {tm : Bool} {s t : State} (h : Recorded R tm s t) {f g : Thm → Thm}
    (e : g t.thm = f s.thm) : Recorded R tm (s.modThm f) (t.modThm g) where
  pending := h.pending
  wf := h.wf
  bar2 := h.bar2
  mctp := h.mctp
  sys := h.sys
  plat := h.plat
  svc := h.svc
  stg := h.stg
  cds := h.cds
  saved := h.saved
  med := h.med
  trv := h.trv
  mdc := h.mdc
  pwr := h.pwr
  pfl := h.pfl
  ime := h.ime
  cke := h.cke
  eng := h.eng
  thm := e
  out := h.out
  free := h.free
  dtm := h.dtm
  port0 := h.port0
  port1 := h.port1
  pst := h.pst
  svy := h.svy
  regs := h.regs

/-- Entering a top-level state changes the SYS block's state, SYS_LAST_TRANS, SYS_TRANS_CNT and SYS_INT_STAT, settles the
applied level, and records. -/
theorem Recorded.goState {R : Nat → Bool} {tm : Bool}
    (hR : ∀ o, recReg o = true ∨ o ∈ [Reg.THM_INT_STAT, Reg.SYS_LAST_TRANS, Reg.SYS_TRANS_CNT, Reg.SYS_INT_STAT] →
      R o = true) (s : State) (t : DevState) :
    ∃ b a n d q, Recorded R tm ((s.modSys fun x => { x with
        state := t, prev := s.sys.state.code, since := s.nowNs, readySeen := x.readySeen || t == .ready }).modThm fun t =>
        { t with boost := b, applied := a, temperNs := n, temperAt := d, sensorQuenches := q }) (s.goState t) := by
  have hm {o : Nat} (h : o ∈ [Reg.THM_INT_STAT, Reg.SYS_LAST_TRANS, Reg.SYS_TRANS_CNT, Reg.SYS_INT_STAT]) : R o = true :=
    hR o (.inr h)
  have hr : ∀ o, recReg o = true → R o = true := fun o h => hR o (.inl h)
  unfold State.goState
  extract_lets old now u v w
  have h1 : Recorded R tm u v := .trans (.setReg _ _ (hm (by decide))) (.incReg _ (hm (by decide)))
  have h2 : Recorded R tm v w := .trans (.setBits _ _ (hm (by decide))) (.raise hr _ _ _ _)
  have h3 := h1.trans h2
  clear_value w v
  generalize hx0 : (if t == .ready then w.modThm fun x => { x with sensorQuenches := 0 } else w) = x
  have hx : ∃ q, x = w.modThm fun y => { y with sensorQuenches := q } := by
    rw [← hx0]; split
    · exact ⟨0, rfl⟩
    · exact ⟨w.thm.sensorQuenches, rfl⟩
  obtain ⟨q, hq⟩ := hx
  obtain ⟨b, a, n, d, h⟩ := Recorded.settleTemper (R := R) (tm := tm) (fun o h => by
    rcases h with h | rfl
    · exact hr o h
    · exact hm (by decide)) x
  refine ⟨b, a, n, d, q, Recorded.trans ?_ h⟩
  rw [hq]
  exact h3.modThm (by rw [h3.thm])

variable (s : State)

section

@[simp] theorem State.settleTemper_pending : (s.settleTemper).pending = s.pending := by
  obtain ⟨_, _, _, _, h⟩ := Recorded.settleTemper (R := fun _ => true) (tm := false) (fun _ _ => rfl) s; exact h.pending
@[simp] theorem State.settleTemper_bar2 : (s.settleTemper).bar2 = s.bar2 := by
  obtain ⟨_, _, _, _, h⟩ := Recorded.settleTemper (R := fun _ => true) (tm := false) (fun _ _ => rfl) s; exact h.bar2
@[simp] theorem State.settleTemper_mctp : (s.settleTemper).mctp = s.mctp := by
  obtain ⟨_, _, _, _, h⟩ := Recorded.settleTemper (R := fun _ => true) (tm := false) (fun _ _ => rfl) s; exact h.mctp
@[simp] theorem State.settleTemper_sys : (s.settleTemper).sys = s.sys := by
  obtain ⟨_, _, _, _, h⟩ := Recorded.settleTemper (R := fun _ => true) (tm := false) (fun _ _ => rfl) s; exact h.sys
@[simp] theorem State.settleTemper_plat : (s.settleTemper).plat = s.plat := by
  obtain ⟨_, _, _, _, h⟩ := Recorded.settleTemper (R := fun _ => true) (tm := false) (fun _ _ => rfl) s; exact h.plat
@[simp] theorem State.settleTemper_svc : (s.settleTemper).svc = s.svc := by
  obtain ⟨_, _, _, _, h⟩ := Recorded.settleTemper (R := fun _ => true) (tm := false) (fun _ _ => rfl) s; exact h.svc
@[simp] theorem State.settleTemper_stg : (s.settleTemper).stg = s.stg := by
  obtain ⟨_, _, _, _, h⟩ := Recorded.settleTemper (R := fun _ => true) (tm := false) (fun _ _ => rfl) s; exact h.stg
@[simp] theorem State.settleTemper_cds : (s.settleTemper).cds = s.cds := by
  obtain ⟨_, _, _, _, h⟩ := Recorded.settleTemper (R := fun _ => true) (tm := false) (fun _ _ => rfl) s; exact h.cds
@[simp] theorem State.settleTemper_saved : (s.settleTemper).saved = s.saved := by
  obtain ⟨_, _, _, _, h⟩ := Recorded.settleTemper (R := fun _ => true) (tm := false) (fun _ _ => rfl) s; exact h.saved
@[simp] theorem State.settleTemper_med : (s.settleTemper).med = s.med := by
  obtain ⟨_, _, _, _, h⟩ := Recorded.settleTemper (R := fun _ => true) (tm := false) (fun _ _ => rfl) s; exact h.med
@[simp] theorem State.settleTemper_trv : (s.settleTemper).trv = s.trv := by
  obtain ⟨_, _, _, _, h⟩ := Recorded.settleTemper (R := fun _ => true) (tm := false) (fun _ _ => rfl) s; exact h.trv
@[simp] theorem State.settleTemper_mdc : (s.settleTemper).mdc = s.mdc := by
  obtain ⟨_, _, _, _, h⟩ := Recorded.settleTemper (R := fun _ => true) (tm := false) (fun _ _ => rfl) s; exact h.mdc
@[simp] theorem State.settleTemper_pwr : (s.settleTemper).pwr = s.pwr := by
  obtain ⟨_, _, _, _, h⟩ := Recorded.settleTemper (R := fun _ => true) (tm := false) (fun _ _ => rfl) s; exact h.pwr
@[simp] theorem State.settleTemper_pfl : (s.settleTemper).pfl = s.pfl := by
  obtain ⟨_, _, _, _, h⟩ := Recorded.settleTemper (R := fun _ => true) (tm := false) (fun _ _ => rfl) s; exact h.pfl
@[simp] theorem State.settleTemper_ime : (s.settleTemper).ime = s.ime := by
  obtain ⟨_, _, _, _, h⟩ := Recorded.settleTemper (R := fun _ => true) (tm := false) (fun _ _ => rfl) s; exact h.ime
@[simp] theorem State.settleTemper_cke : (s.settleTemper).cke = s.cke := by
  obtain ⟨_, _, _, _, h⟩ := Recorded.settleTemper (R := fun _ => true) (tm := false) (fun _ _ => rfl) s; exact h.cke
@[simp] theorem State.settleTemper_eng : (s.settleTemper).eng = s.eng := by
  obtain ⟨_, _, _, _, h⟩ := Recorded.settleTemper (R := fun _ => true) (tm := false) (fun _ _ => rfl) s; exact h.eng
@[simp] theorem State.settleTemper_out : (s.settleTemper).out = s.out := by
  obtain ⟨_, _, _, _, h⟩ := Recorded.settleTemper (R := fun _ => true) (tm := false) (fun _ _ => rfl) s; exact h.out
@[simp] theorem State.settleTemper_free : (s.settleTemper).free = s.free := by
  obtain ⟨_, _, _, _, h⟩ := Recorded.settleTemper (R := fun _ => true) (tm := false) (fun _ _ => rfl) s; exact h.free
@[simp] theorem State.settleTemper_thm_sensors : (s.settleTemper).thm.sensors = s.thm.sensors := by
  obtain ⟨_, _, _, _, h⟩ := Recorded.settleTemper (R := fun _ => true) (tm := false) (fun _ _ => rfl) s; rw [h.thm]; rfl
@[simp] theorem State.settleTemper_thm_level : (s.settleTemper).thm.level = s.thm.level := by
  obtain ⟨_, _, _, _, h⟩ := Recorded.settleTemper (R := fun _ => true) (tm := false) (fun _ _ => rfl) s; rw [h.thm]; rfl
@[simp] theorem State.settleTemper_thm_hist : (s.settleTemper).thm.hist = s.thm.hist := by
  obtain ⟨_, _, _, _, h⟩ := Recorded.settleTemper (R := fun _ => true) (tm := false) (fun _ _ => rfl) s; rw [h.thm]; rfl
@[simp] theorem State.settleTemper_thm_rate : (s.settleTemper).thm.rate = s.thm.rate := by
  obtain ⟨_, _, _, _, h⟩ := Recorded.settleTemper (R := fun _ => true) (tm := false) (fun _ _ => rfl) s; rw [h.thm]; rfl
@[simp] theorem State.settleTemper_thm_fallSince : (s.settleTemper).thm.fallSince = s.thm.fallSince := by
  obtain ⟨_, _, _, _, h⟩ := Recorded.settleTemper (R := fun _ => true) (tm := false) (fun _ _ => rfl) s; rw [h.thm]; rfl
@[simp] theorem State.settleTemper_thm_overSince : (s.settleTemper).thm.overSince = s.thm.overSince := by
  obtain ⟨_, _, _, _, h⟩ := Recorded.settleTemper (R := fun _ => true) (tm := false) (fun _ _ => rfl) s; rw [h.thm]; rfl
@[simp] theorem State.settleTemper_thm_underSince : (s.settleTemper).thm.underSince = s.thm.underSince := by
  obtain ⟨_, _, _, _, h⟩ := Recorded.settleTemper (R := fun _ => true) (tm := false) (fun _ _ => rfl) s; rw [h.thm]; rfl
@[simp] theorem State.settleTemper_thm_quenchSince : (s.settleTemper).thm.quenchSince = s.thm.quenchSince := by
  obtain ⟨_, _, _, _, h⟩ := Recorded.settleTemper (R := fun _ => true) (tm := false) (fun _ _ => rfl) s; rw [h.thm]; rfl
@[simp] theorem State.settleTemper_thm_restartSince : (s.settleTemper).thm.restartSince = s.thm.restartSince := by
  obtain ⟨_, _, _, _, h⟩ := Recorded.settleTemper (R := fun _ => true) (tm := false) (fun _ _ => rfl) s; rw [h.thm]; rfl
@[simp] theorem State.settleTemper_thm_warmSince : (s.settleTemper).thm.warmSince = s.thm.warmSince := by
  obtain ⟨_, _, _, _, h⟩ := Recorded.settleTemper (R := fun _ => true) (tm := false) (fun _ _ => rfl) s; rw [h.thm]; rfl
@[simp] theorem State.settleTemper_thm_warmTimeout : (s.settleTemper).thm.warmTimeout = s.thm.warmTimeout := by
  obtain ⟨_, _, _, _, h⟩ := Recorded.settleTemper (R := fun _ => true) (tm := false) (fun _ _ => rfl) s; rw [h.thm]; rfl
@[simp] theorem State.settleTemper_thm_stuck : (s.settleTemper).thm.stuck = s.thm.stuck := by
  obtain ⟨_, _, _, _, h⟩ := Recorded.settleTemper (R := fun _ => true) (tm := false) (fun _ _ => rfl) s; rw [h.thm]; rfl
@[simp] theorem State.settleTemper_thm_bandgapAt : (s.settleTemper).thm.bandgapAt = s.thm.bandgapAt := by
  obtain ⟨_, _, _, _, h⟩ := Recorded.settleTemper (R := fun _ => true) (tm := false) (fun _ _ => rfl) s; rw [h.thm]; rfl
@[simp] theorem State.settleTemper_thm_oscAt : (s.settleTemper).thm.oscAt = s.thm.oscAt := by
  obtain ⟨_, _, _, _, h⟩ := Recorded.settleTemper (R := fun _ => true) (tm := false) (fun _ _ => rfl) s; rw [h.thm]; rfl
@[simp] theorem State.settleTemper_thm_refresh : (s.settleTemper).thm.refresh = s.thm.refresh := by
  obtain ⟨_, _, _, _, h⟩ := Recorded.settleTemper (R := fun _ => true) (tm := false) (fun _ _ => rfl) s; rw [h.thm]; rfl
@[simp] theorem State.settleTemper_dtm_slewing : (s.settleTemper).dtm.slewing = s.dtm.slewing := by
  obtain ⟨_, _, _, _, h⟩ := Recorded.settleTemper (R := fun _ => true) (tm := false) (fun _ _ => rfl) s
  obtain ⟨_, _, _, _, h, e⟩ := h.dtm; rw [h]; simp
@[simp] theorem State.settleTemper_dtm_everSet : (s.settleTemper).dtm.everSet = s.dtm.everSet := by
  obtain ⟨_, _, _, _, h⟩ := Recorded.settleTemper (R := fun _ => true) (tm := false) (fun _ _ => rfl) s
  obtain ⟨_, _, _, _, h, e⟩ := h.dtm; rw [h]; simp
@[simp] theorem State.settleTemper_dtm_xoLost : (s.settleTemper).dtm.xoLost = s.dtm.xoLost := by
  obtain ⟨_, _, _, _, h⟩ := Recorded.settleTemper (R := fun _ => true) (tm := false) (fun _ _ => rfl) s
  obtain ⟨_, _, _, _, h, e⟩ := h.dtm; rw [h]; simp
@[simp] theorem State.settleTemper_dtm_pllF : (s.settleTemper).dtm.pllF = s.dtm.pllF := by
  obtain ⟨_, _, _, _, h⟩ := Recorded.settleTemper (R := fun _ => true) (tm := false) (fun _ _ => rfl) s
  obtain ⟨_, _, _, _, h, e⟩ := h.dtm; rw [h]; simp
@[simp] theorem State.settleTemper_dtm_pllE : (s.settleTemper).dtm.pllE = s.dtm.pllE := by
  obtain ⟨_, _, _, _, h⟩ := Recorded.settleTemper (R := fun _ => true) (tm := false) (fun _ _ => rfl) s
  obtain ⟨_, _, _, _, h, e⟩ := h.dtm; rw [h]; simp
@[simp] theorem State.settleTemper_dtm_pllT : (s.settleTemper).dtm.pllT = s.dtm.pllT := by
  obtain ⟨_, _, _, _, h⟩ := Recorded.settleTemper (R := fun _ => true) (tm := false) (fun _ _ => rfl) s
  obtain ⟨_, _, _, _, h, e⟩ := h.dtm; rw [h]; simp
@[simp] theorem State.settleTemper_dtm_pllH : (s.settleTemper).dtm.pllH = s.dtm.pllH := by
  obtain ⟨_, _, _, _, h⟩ := Recorded.settleTemper (R := fun _ => true) (tm := false) (fun _ _ => rfl) s
  obtain ⟨_, _, _, _, h, e⟩ := h.dtm; rw [h]; simp
@[simp] theorem State.settleTemper_dtm_restored : (s.settleTemper).dtm.restored = s.dtm.restored := by
  obtain ⟨_, _, _, _, h⟩ := Recorded.settleTemper (R := fun _ => true) (tm := false) (fun _ _ => rfl) s
  obtain ⟨_, _, _, _, h, e⟩ := h.dtm; rw [h]; simp
@[simp] theorem State.settleTemper_dtm_retained : (s.settleTemper).dtm.retained = s.dtm.retained := by
  obtain ⟨_, _, _, _, h⟩ := Recorded.settleTemper (R := fun _ => true) (tm := false) (fun _ _ => rfl) s
  obtain ⟨_, _, _, _, h, e⟩ := h.dtm; rw [h]; simp
@[simp] theorem State.settleTemper_dtm_deedAt : (s.settleTemper).dtm.deedAt = s.dtm.deedAt := by
  obtain ⟨_, _, _, _, h⟩ := Recorded.settleTemper (R := fun _ => true) (tm := false) (fun _ _ => rfl) s
  obtain ⟨_, _, _, _, h, e⟩ := h.dtm; rw [h]; simp
@[simp] theorem State.settleTemper_dtm_outUntil : (s.settleTemper).dtm.outUntil = s.dtm.outUntil := by
  obtain ⟨_, _, _, _, h⟩ := Recorded.settleTemper (R := fun _ => true) (tm := false) (fun _ _ => rfl) s
  obtain ⟨_, _, _, _, h, e⟩ := h.dtm; rw [h]; simp
@[simp] theorem State.settleTemper_dtm_mono : (s.settleTemper).dtm.mono = s.dtm.mono := by
  obtain ⟨_, _, _, _, h⟩ := Recorded.settleTemper (R := fun _ => true) (tm := false) (fun _ _ => rfl) s
  obtain ⟨_, _, _, _, h, e⟩ := h.dtm; rw [h]; simp [e]
@[simp] theorem State.settleTemper_dtm_datum : (s.settleTemper).dtm.datum = s.dtm.datum := by
  obtain ⟨_, _, _, _, h⟩ := Recorded.settleTemper (R := fun _ => true) (tm := false) (fun _ _ => rfl) s
  obtain ⟨_, _, _, _, h, e⟩ := h.dtm; rw [h]; simp [e]
@[simp] theorem State.settleTemper_dtm_offset : (s.settleTemper).dtm.offset = s.dtm.offset := by
  obtain ⟨_, _, _, _, h⟩ := Recorded.settleTemper (R := fun _ => true) (tm := false) (fun _ _ => rfl) s
  obtain ⟨_, _, _, _, h, e⟩ := h.dtm; rw [h]; simp [e]
@[simp] theorem State.settleTemper_pst_flash : (s.settleTemper).pst.flash = s.pst.flash := by
  obtain ⟨_, _, _, _, h⟩ := Recorded.settleTemper (R := fun _ => true) (tm := false) (fun _ _ => rfl) s
  obtain ⟨_, h⟩ := h.pst; rw [h]; simp
@[simp] theorem State.settleTemper_pst_weak : (s.settleTemper).pst.weak = s.pst.weak := by
  obtain ⟨_, _, _, _, h⟩ := Recorded.settleTemper (R := fun _ => true) (tm := false) (fun _ _ => rfl) s
  obtain ⟨_, h⟩ := h.pst; rw [h]; simp
@[simp] theorem State.settleTemper_pst_areas : (s.settleTemper).pst.areas = s.pst.areas := by
  obtain ⟨_, _, _, _, h⟩ := Recorded.settleTemper (R := fun _ => true) (tm := false) (fun _ _ => rfl) s
  obtain ⟨_, h⟩ := h.pst; rw [h]; simp
@[simp] theorem State.settleTemper_pst_tallies : (s.settleTemper).pst.tallies = s.pst.tallies := by
  obtain ⟨_, _, _, _, h⟩ := Recorded.settleTemper (R := fun _ => true) (tm := false) (fun _ _ => rfl) s
  obtain ⟨_, h⟩ := h.pst; rw [h]; simp
@[simp] theorem State.settleTemper_pst_tallyNext : (s.settleTemper).pst.tallyNext = s.pst.tallyNext := by
  obtain ⟨_, _, _, _, h⟩ := Recorded.settleTemper (R := fun _ => true) (tm := false) (fun _ _ => rfl) s
  obtain ⟨_, h⟩ := h.pst; rw [h]; simp
@[simp] theorem State.settleTemper_pst_hints0 : (s.settleTemper).pst.hints0 = s.pst.hints0 := by
  obtain ⟨_, _, _, _, h⟩ := Recorded.settleTemper (R := fun _ => true) (tm := false) (fun _ _ => rfl) s
  obtain ⟨_, h⟩ := h.pst; rw [h]; simp
@[simp] theorem State.settleTemper_pst_hints1 : (s.settleTemper).pst.hints1 = s.pst.hints1 := by
  obtain ⟨_, _, _, _, h⟩ := Recorded.settleTemper (R := fun _ => true) (tm := false) (fun _ _ => rfl) s
  obtain ⟨_, h⟩ := h.pst; rw [h]; simp
@[simp] theorem State.settleTemper_pst_hintHigh : (s.settleTemper).pst.hintHigh = s.pst.hintHigh := by
  obtain ⟨_, _, _, _, h⟩ := Recorded.settleTemper (R := fun _ => true) (tm := false) (fun _ _ => rfl) s
  obtain ⟨_, h⟩ := h.pst; rw [h]; simp
@[simp] theorem State.settleTemper_pst_hintErasing : (s.settleTemper).pst.hintErasing = s.pst.hintErasing := by
  obtain ⟨_, _, _, _, h⟩ := Recorded.settleTemper (R := fun _ => true) (tm := false) (fun _ _ => rfl) s
  obtain ⟨_, h⟩ := h.pst; rw [h]; simp
@[simp] theorem State.settleTemper_pst_replaced : (s.settleTemper).pst.replaced = s.pst.replaced := by
  obtain ⟨_, _, _, _, h⟩ := Recorded.settleTemper (R := fun _ => true) (tm := false) (fun _ _ => rfl) s
  obtain ⟨_, h⟩ := h.pst; rw [h]; simp
@[simp] theorem State.settleTemper_pst_gen : (s.settleTemper).pst.gen = s.pst.gen := by
  obtain ⟨_, _, _, _, h⟩ := Recorded.settleTemper (R := fun _ => true) (tm := false) (fun _ _ => rfl) s
  obtain ⟨_, h⟩ := h.pst; rw [h]; simp
@[simp] theorem State.settleTemper_pst_inForce : (s.settleTemper).pst.inForce = s.pst.inForce := by
  obtain ⟨_, _, _, _, h⟩ := Recorded.settleTemper (R := fun _ => true) (tm := false) (fun _ _ => rfl) s
  obtain ⟨_, h⟩ := h.pst; rw [h]; simp
@[simp] theorem State.settleTemper_pst_run : (s.settleTemper).pst.run = s.pst.run := by
  obtain ⟨_, _, _, _, h⟩ := Recorded.settleTemper (R := fun _ => true) (tm := false) (fun _ _ => rfl) s
  obtain ⟨_, h⟩ := h.pst; rw [h]; simp
@[simp] theorem State.settleTemper_pst_gateWait : (s.settleTemper).pst.gateWait = s.pst.gateWait := by
  obtain ⟨_, _, _, _, h⟩ := Recorded.settleTemper (R := fun _ => true) (tm := false) (fun _ _ => rfl) s
  obtain ⟨_, h⟩ := h.pst; rw [h]; simp
@[simp] theorem State.settleTemper_pst_ungated : (s.settleTemper).pst.ungated = s.pst.ungated := by
  obtain ⟨_, _, _, _, h⟩ := Recorded.settleTemper (R := fun _ => true) (tm := false) (fun _ _ => rfl) s
  obtain ⟨_, h⟩ := h.pst; rw [h]; simp
@[simp] theorem State.settleTemper_pst_owed : (s.settleTemper).pst.owed = s.pst.owed := by
  obtain ⟨_, _, _, _, h⟩ := Recorded.settleTemper (R := fun _ => true) (tm := false) (fun _ _ => rfl) s
  obtain ⟨_, h⟩ := h.pst; rw [h]; simp
@[simp] theorem State.settleTemper_pst_endAt : (s.settleTemper).pst.endAt = s.pst.endAt := by
  obtain ⟨_, _, _, _, h⟩ := Recorded.settleTemper (R := fun _ => true) (tm := false) (fun _ _ => rfl) s
  obtain ⟨_, h⟩ := h.pst; rw [h]; simp
@[simp] theorem State.settleTemper_pst_buf : (s.settleTemper).pst.buf = s.pst.buf := by
  obtain ⟨_, _, _, _, h⟩ := Recorded.settleTemper (R := fun _ => true) (tm := false) (fun _ _ => rfl) s
  obtain ⟨_, h⟩ := h.pst; rw [h]; simp
@[simp] theorem State.settleTemper_port0_pwb : (s.settleTemper).port0.pwb = s.port0.pwb := by
  obtain ⟨_, _, _, _, h⟩ := Recorded.settleTemper (R := fun _ => true) (tm := false) (fun _ _ => rfl) s
  obtain ⟨_, _, h⟩ := h.port0; rw [h]; simp
@[simp] theorem State.settleTemper_port0_reads : (s.settleTemper).port0.reads = s.port0.reads := by
  obtain ⟨_, _, _, _, h⟩ := Recorded.settleTemper (R := fun _ => true) (tm := false) (fun _ _ => rfl) s
  obtain ⟨_, _, h⟩ := h.port0; rw [h]; simp
@[simp] theorem State.settleTemper_port0_nextSeq : (s.settleTemper).port0.nextSeq = s.port0.nextSeq := by
  obtain ⟨_, _, _, _, h⟩ := Recorded.settleTemper (R := fun _ => true) (tm := false) (fun _ _ => rfl) s
  obtain ⟨_, _, h⟩ := h.port0; rw [h]; simp
@[simp] theorem State.settleTemper_port0_decoders : (s.settleTemper).port0.decoders = s.port0.decoders := by
  obtain ⟨_, _, _, _, h⟩ := Recorded.settleTemper (R := fun _ => true) (tm := false) (fun _ _ => rfl) s
  obtain ⟨_, _, h⟩ := h.port0; rw [h]; simp
@[simp] theorem State.settleTemper_port0_ide : (s.settleTemper).port0.ide = s.port0.ide := by
  obtain ⟨_, _, _, _, h⟩ := Recorded.settleTemper (R := fun _ => true) (tm := false) (fun _ _ => rfl) s
  obtain ⟨_, _, h⟩ := h.port0; rw [h]; simp
@[simp] theorem State.settleTemper_port0_linkUp : (s.settleTemper).port0.linkUp = s.port0.linkUp := by
  obtain ⟨_, _, _, _, h⟩ := Recorded.settleTemper (R := fun _ => true) (tm := false) (fun _ _ => rfl) s
  obtain ⟨_, _, h⟩ := h.port0; rw [h]; simp
@[simp] theorem State.settleTemper_port0_rate : (s.settleTemper).port0.rate = s.port0.rate := by
  obtain ⟨_, _, _, _, h⟩ := Recorded.settleTemper (R := fun _ => true) (tm := false) (fun _ _ => rfl) s
  obtain ⟨_, _, h⟩ := h.port0; rw [h]; simp
@[simp] theorem State.settleTemper_port0_width : (s.settleTemper).port0.width = s.port0.width := by
  obtain ⟨_, _, _, _, h⟩ := Recorded.settleTemper (R := fun _ => true) (tm := false) (fun _ _ => rfl) s
  obtain ⟨_, _, h⟩ := h.port0; rw [h]; simp
@[simp] theorem State.settleTemper_port0_flit256 : (s.settleTemper).port0.flit256 = s.port0.flit256 := by
  obtain ⟨_, _, _, _, h⟩ := Recorded.settleTemper (R := fun _ => true) (tm := false) (fun _ _ => rfl) s
  obtain ⟨_, _, h⟩ := h.port0; rw [h]; simp
@[simp] theorem State.settleTemper_port0_laneOk : (s.settleTemper).port0.laneOk = s.port0.laneOk := by
  obtain ⟨_, _, _, _, h⟩ := Recorded.settleTemper (R := fun _ => true) (tm := false) (fun _ _ => rfl) s
  obtain ⟨_, _, h⟩ := h.port0; rw [h]; simp
@[simp] theorem State.settleTemper_port0_laneErrs : (s.settleTemper).port0.laneErrs = s.port0.laneErrs := by
  obtain ⟨_, _, _, _, h⟩ := Recorded.settleTemper (R := fun _ => true) (tm := false) (fun _ _ => rfl) s
  obtain ⟨_, _, h⟩ := h.port0; rw [h]; simp
@[simp] theorem State.settleTemper_port0_drain : (s.settleTemper).port0.drain = s.port0.drain := by
  obtain ⟨_, _, _, _, h⟩ := Recorded.settleTemper (R := fun _ => true) (tm := false) (fun _ _ => rfl) s
  obtain ⟨_, _, h⟩ := h.port0; rw [h]; simp
@[simp] theorem State.settleTemper_port0_gpf : (s.settleTemper).port0.gpf = s.port0.gpf := by
  obtain ⟨_, _, _, _, h⟩ := Recorded.settleTemper (R := fun _ => true) (tm := false) (fun _ _ => rfl) s
  obtain ⟨_, _, h⟩ := h.port0; rw [h]; simp
@[simp] theorem State.settleTemper_port0_admitAt : (s.settleTemper).port0.admitAt = s.port0.admitAt := by
  obtain ⟨_, _, _, _, h⟩ := Recorded.settleTemper (R := fun _ => true) (tm := false) (fun _ _ => rfl) s
  obtain ⟨_, _, h⟩ := h.port0; rw [h]; simp
@[simp] theorem State.settleTemper_port0_flr : (s.settleTemper).port0.flr = s.port0.flr := by
  obtain ⟨_, _, _, _, h⟩ := Recorded.settleTemper (R := fun _ => true) (tm := false) (fun _ _ => rfl) s
  obtain ⟨_, _, h⟩ := h.port0; rw [h]; simp
@[simp] theorem State.settleTemper_port0_heldOut : (s.settleTemper).port0.heldOut = s.port0.heldOut := by
  obtain ⟨_, _, _, _, h⟩ := Recorded.settleTemper (R := fun _ => true) (tm := false) (fun _ _ => rfl) s
  obtain ⟨_, _, h⟩ := h.port0; rw [h]; simp
@[simp] theorem State.settleTemper_port0_evtPolicy : (s.settleTemper).port0.evtPolicy = s.port0.evtPolicy := by
  obtain ⟨_, _, _, _, h⟩ := Recorded.settleTemper (R := fun _ => true) (tm := false) (fun _ _ => rfl) s
  obtain ⟨_, _, h⟩ := h.port0; rw [h]; simp
@[simp] theorem State.settleTemper_port0_doorbell : (s.settleTemper).port0.doorbell = s.port0.doorbell := by
  obtain ⟨_, _, _, _, h⟩ := Recorded.settleTemper (R := fun _ => true) (tm := false) (fun _ _ => rfl) s
  obtain ⟨_, _, h⟩ := h.port0; rw [h]; simp
@[simp] theorem State.settleTemper_port0_lsa : (s.settleTemper).port0.lsa = s.port0.lsa := by
  obtain ⟨_, _, _, _, h⟩ := Recorded.settleTemper (R := fun _ => true) (tm := false) (fun _ _ => rfl) s
  obtain ⟨_, _, h⟩ := h.port0; rw [h]; simp
@[simp] theorem State.settleTemper_port0_lsaCopy : (s.settleTemper).port0.lsaCopy = s.port0.lsaCopy := by
  obtain ⟨_, _, _, _, h⟩ := Recorded.settleTemper (R := fun _ => true) (tm := false) (fun _ _ => rfl) s
  obtain ⟨_, _, h⟩ := h.port0; rw [h]; simp
@[simp] theorem State.settleTemper_port1_pwb : (s.settleTemper).port1.pwb = s.port1.pwb := by
  obtain ⟨_, _, _, _, h⟩ := Recorded.settleTemper (R := fun _ => true) (tm := false) (fun _ _ => rfl) s
  obtain ⟨_, _, h⟩ := h.port1; rw [h]; simp
@[simp] theorem State.settleTemper_port1_reads : (s.settleTemper).port1.reads = s.port1.reads := by
  obtain ⟨_, _, _, _, h⟩ := Recorded.settleTemper (R := fun _ => true) (tm := false) (fun _ _ => rfl) s
  obtain ⟨_, _, h⟩ := h.port1; rw [h]; simp
@[simp] theorem State.settleTemper_port1_nextSeq : (s.settleTemper).port1.nextSeq = s.port1.nextSeq := by
  obtain ⟨_, _, _, _, h⟩ := Recorded.settleTemper (R := fun _ => true) (tm := false) (fun _ _ => rfl) s
  obtain ⟨_, _, h⟩ := h.port1; rw [h]; simp
@[simp] theorem State.settleTemper_port1_decoders : (s.settleTemper).port1.decoders = s.port1.decoders := by
  obtain ⟨_, _, _, _, h⟩ := Recorded.settleTemper (R := fun _ => true) (tm := false) (fun _ _ => rfl) s
  obtain ⟨_, _, h⟩ := h.port1; rw [h]; simp
@[simp] theorem State.settleTemper_port1_ide : (s.settleTemper).port1.ide = s.port1.ide := by
  obtain ⟨_, _, _, _, h⟩ := Recorded.settleTemper (R := fun _ => true) (tm := false) (fun _ _ => rfl) s
  obtain ⟨_, _, h⟩ := h.port1; rw [h]; simp
@[simp] theorem State.settleTemper_port1_linkUp : (s.settleTemper).port1.linkUp = s.port1.linkUp := by
  obtain ⟨_, _, _, _, h⟩ := Recorded.settleTemper (R := fun _ => true) (tm := false) (fun _ _ => rfl) s
  obtain ⟨_, _, h⟩ := h.port1; rw [h]; simp
@[simp] theorem State.settleTemper_port1_rate : (s.settleTemper).port1.rate = s.port1.rate := by
  obtain ⟨_, _, _, _, h⟩ := Recorded.settleTemper (R := fun _ => true) (tm := false) (fun _ _ => rfl) s
  obtain ⟨_, _, h⟩ := h.port1; rw [h]; simp
@[simp] theorem State.settleTemper_port1_width : (s.settleTemper).port1.width = s.port1.width := by
  obtain ⟨_, _, _, _, h⟩ := Recorded.settleTemper (R := fun _ => true) (tm := false) (fun _ _ => rfl) s
  obtain ⟨_, _, h⟩ := h.port1; rw [h]; simp
@[simp] theorem State.settleTemper_port1_flit256 : (s.settleTemper).port1.flit256 = s.port1.flit256 := by
  obtain ⟨_, _, _, _, h⟩ := Recorded.settleTemper (R := fun _ => true) (tm := false) (fun _ _ => rfl) s
  obtain ⟨_, _, h⟩ := h.port1; rw [h]; simp
@[simp] theorem State.settleTemper_port1_laneOk : (s.settleTemper).port1.laneOk = s.port1.laneOk := by
  obtain ⟨_, _, _, _, h⟩ := Recorded.settleTemper (R := fun _ => true) (tm := false) (fun _ _ => rfl) s
  obtain ⟨_, _, h⟩ := h.port1; rw [h]; simp
@[simp] theorem State.settleTemper_port1_laneErrs : (s.settleTemper).port1.laneErrs = s.port1.laneErrs := by
  obtain ⟨_, _, _, _, h⟩ := Recorded.settleTemper (R := fun _ => true) (tm := false) (fun _ _ => rfl) s
  obtain ⟨_, _, h⟩ := h.port1; rw [h]; simp
@[simp] theorem State.settleTemper_port1_drain : (s.settleTemper).port1.drain = s.port1.drain := by
  obtain ⟨_, _, _, _, h⟩ := Recorded.settleTemper (R := fun _ => true) (tm := false) (fun _ _ => rfl) s
  obtain ⟨_, _, h⟩ := h.port1; rw [h]; simp
@[simp] theorem State.settleTemper_port1_gpf : (s.settleTemper).port1.gpf = s.port1.gpf := by
  obtain ⟨_, _, _, _, h⟩ := Recorded.settleTemper (R := fun _ => true) (tm := false) (fun _ _ => rfl) s
  obtain ⟨_, _, h⟩ := h.port1; rw [h]; simp
@[simp] theorem State.settleTemper_port1_admitAt : (s.settleTemper).port1.admitAt = s.port1.admitAt := by
  obtain ⟨_, _, _, _, h⟩ := Recorded.settleTemper (R := fun _ => true) (tm := false) (fun _ _ => rfl) s
  obtain ⟨_, _, h⟩ := h.port1; rw [h]; simp
@[simp] theorem State.settleTemper_port1_flr : (s.settleTemper).port1.flr = s.port1.flr := by
  obtain ⟨_, _, _, _, h⟩ := Recorded.settleTemper (R := fun _ => true) (tm := false) (fun _ _ => rfl) s
  obtain ⟨_, _, h⟩ := h.port1; rw [h]; simp
@[simp] theorem State.settleTemper_port1_heldOut : (s.settleTemper).port1.heldOut = s.port1.heldOut := by
  obtain ⟨_, _, _, _, h⟩ := Recorded.settleTemper (R := fun _ => true) (tm := false) (fun _ _ => rfl) s
  obtain ⟨_, _, h⟩ := h.port1; rw [h]; simp
@[simp] theorem State.settleTemper_port1_evtPolicy : (s.settleTemper).port1.evtPolicy = s.port1.evtPolicy := by
  obtain ⟨_, _, _, _, h⟩ := Recorded.settleTemper (R := fun _ => true) (tm := false) (fun _ _ => rfl) s
  obtain ⟨_, _, h⟩ := h.port1; rw [h]; simp
@[simp] theorem State.settleTemper_port1_doorbell : (s.settleTemper).port1.doorbell = s.port1.doorbell := by
  obtain ⟨_, _, _, _, h⟩ := Recorded.settleTemper (R := fun _ => true) (tm := false) (fun _ _ => rfl) s
  obtain ⟨_, _, h⟩ := h.port1; rw [h]; simp
@[simp] theorem State.settleTemper_port1_lsa : (s.settleTemper).port1.lsa = s.port1.lsa := by
  obtain ⟨_, _, _, _, h⟩ := Recorded.settleTemper (R := fun _ => true) (tm := false) (fun _ _ => rfl) s
  obtain ⟨_, _, h⟩ := h.port1; rw [h]; simp
@[simp] theorem State.settleTemper_port1_lsaCopy : (s.settleTemper).port1.lsaCopy = s.port1.lsaCopy := by
  obtain ⟨_, _, _, _, h⟩ := Recorded.settleTemper (R := fun _ => true) (tm := false) (fun _ _ => rfl) s
  obtain ⟨_, _, h⟩ := h.port1; rw [h]; simp
@[simp] theorem State.settleTemper_svy_gen : (s.settleTemper).svy.gen = s.svy.gen := by
  obtain ⟨_, _, _, _, h⟩ := Recorded.settleTemper (R := fun _ => true) (tm := false) (fun _ _ => rfl) s
  obtain ⟨_, h⟩ := h.svy; rw [h]; simp
@[simp] theorem State.settleTemper_svy_missed : (s.settleTemper).svy.missed = s.svy.missed := by
  obtain ⟨_, _, _, _, h⟩ := Recorded.settleTemper (R := fun _ => true) (tm := false) (fun _ _ => rfl) s
  obtain ⟨_, h⟩ := h.svy; rw [h]; simp
@[simp] theorem State.settleTemper_svy_areas : (s.settleTemper).svy.areas = s.svy.areas := by
  obtain ⟨_, _, _, _, h⟩ := Recorded.settleTemper (R := fun _ => true) (tm := false) (fun _ _ => rfl) s
  obtain ⟨_, h⟩ := h.svy; rw [h]; simp
@[simp] theorem State.settleTemper_svy_snaps : (s.settleTemper).svy.snaps = s.svy.snaps := by
  obtain ⟨_, _, _, _, h⟩ := Recorded.settleTemper (R := fun _ => true) (tm := false) (fun _ _ => rfl) s
  obtain ⟨_, h⟩ := h.svy; rw [h]; simp
@[simp] theorem State.settleTemper_svy_bufBar2 : (s.settleTemper).svy.bufBar2 = s.svy.bufBar2 := by
  obtain ⟨_, _, _, _, h⟩ := Recorded.settleTemper (R := fun _ => true) (tm := false) (fun _ _ => rfl) s
  obtain ⟨_, h⟩ := h.svy; rw [h]; simp
@[simp] theorem State.settleTemper_svy_bufMctp : (s.settleTemper).svy.bufMctp = s.svy.bufMctp := by
  obtain ⟨_, _, _, _, h⟩ := Recorded.settleTemper (R := fun _ => true) (tm := false) (fun _ _ => rfl) s
  obtain ⟨_, h⟩ := h.svy; rw [h]; simp
theorem State.settleTemper_getReg (o : Nat) (h : recReg o = false) (h' : o ≠ Reg.THM_INT_STAT) :
    s.settleTemper.getReg o = s.getReg o := by
  obtain ⟨_, _, _, _, h1⟩ := Recorded.settleTemper (R := fun o => recReg o || o == Reg.THM_INT_STAT) (tm := false)
    (fun o h => by simpa using h) s
  rw [h1.regs o (by simp [h, h'])]; rfl

end

section
variable (t : DevState)

@[simp] theorem State.goState_pending : (s.goState t).pending = s.pending := by
  obtain ⟨_, _, _, _, _, h⟩ := Recorded.goState (R := fun _ => true) (tm := false) (fun _ _ => rfl) s t; exact h.pending
@[simp] theorem State.goState_bar2 : (s.goState t).bar2 = s.bar2 := by
  obtain ⟨_, _, _, _, _, h⟩ := Recorded.goState (R := fun _ => true) (tm := false) (fun _ _ => rfl) s t; exact h.bar2
@[simp] theorem State.goState_mctp : (s.goState t).mctp = s.mctp := by
  obtain ⟨_, _, _, _, _, h⟩ := Recorded.goState (R := fun _ => true) (tm := false) (fun _ _ => rfl) s t; exact h.mctp
@[simp] theorem State.goState_plat : (s.goState t).plat = s.plat := by
  obtain ⟨_, _, _, _, _, h⟩ := Recorded.goState (R := fun _ => true) (tm := false) (fun _ _ => rfl) s t; exact h.plat
@[simp] theorem State.goState_svc : (s.goState t).svc = s.svc := by
  obtain ⟨_, _, _, _, _, h⟩ := Recorded.goState (R := fun _ => true) (tm := false) (fun _ _ => rfl) s t; exact h.svc
@[simp] theorem State.goState_stg : (s.goState t).stg = s.stg := by
  obtain ⟨_, _, _, _, _, h⟩ := Recorded.goState (R := fun _ => true) (tm := false) (fun _ _ => rfl) s t; exact h.stg
@[simp] theorem State.goState_cds : (s.goState t).cds = s.cds := by
  obtain ⟨_, _, _, _, _, h⟩ := Recorded.goState (R := fun _ => true) (tm := false) (fun _ _ => rfl) s t; exact h.cds
@[simp] theorem State.goState_saved : (s.goState t).saved = s.saved := by
  obtain ⟨_, _, _, _, _, h⟩ := Recorded.goState (R := fun _ => true) (tm := false) (fun _ _ => rfl) s t; exact h.saved
@[simp] theorem State.goState_med : (s.goState t).med = s.med := by
  obtain ⟨_, _, _, _, _, h⟩ := Recorded.goState (R := fun _ => true) (tm := false) (fun _ _ => rfl) s t; exact h.med
@[simp] theorem State.goState_trv : (s.goState t).trv = s.trv := by
  obtain ⟨_, _, _, _, _, h⟩ := Recorded.goState (R := fun _ => true) (tm := false) (fun _ _ => rfl) s t; exact h.trv
@[simp] theorem State.goState_mdc : (s.goState t).mdc = s.mdc := by
  obtain ⟨_, _, _, _, _, h⟩ := Recorded.goState (R := fun _ => true) (tm := false) (fun _ _ => rfl) s t; exact h.mdc
@[simp] theorem State.goState_pwr : (s.goState t).pwr = s.pwr := by
  obtain ⟨_, _, _, _, _, h⟩ := Recorded.goState (R := fun _ => true) (tm := false) (fun _ _ => rfl) s t; exact h.pwr
@[simp] theorem State.goState_pfl : (s.goState t).pfl = s.pfl := by
  obtain ⟨_, _, _, _, _, h⟩ := Recorded.goState (R := fun _ => true) (tm := false) (fun _ _ => rfl) s t; exact h.pfl
@[simp] theorem State.goState_ime : (s.goState t).ime = s.ime := by
  obtain ⟨_, _, _, _, _, h⟩ := Recorded.goState (R := fun _ => true) (tm := false) (fun _ _ => rfl) s t; exact h.ime
@[simp] theorem State.goState_cke : (s.goState t).cke = s.cke := by
  obtain ⟨_, _, _, _, _, h⟩ := Recorded.goState (R := fun _ => true) (tm := false) (fun _ _ => rfl) s t; exact h.cke
@[simp] theorem State.goState_eng : (s.goState t).eng = s.eng := by
  obtain ⟨_, _, _, _, _, h⟩ := Recorded.goState (R := fun _ => true) (tm := false) (fun _ _ => rfl) s t; exact h.eng
@[simp] theorem State.goState_out : (s.goState t).out = s.out := by
  obtain ⟨_, _, _, _, _, h⟩ := Recorded.goState (R := fun _ => true) (tm := false) (fun _ _ => rfl) s t; exact h.out
@[simp] theorem State.goState_free : (s.goState t).free = s.free := by
  obtain ⟨_, _, _, _, _, h⟩ := Recorded.goState (R := fun _ => true) (tm := false) (fun _ _ => rfl) s t; exact h.free
@[simp] theorem State.goState_sys : (s.goState t).sys = { s.sys with
    state := t, prev := s.sys.state.code, since := s.nowNs, readySeen := s.sys.readySeen || t == .ready } := by
  obtain ⟨_, _, _, _, _, h⟩ := Recorded.goState (R := fun _ => true) (tm := false) (fun _ _ => rfl) s t; exact h.sys
@[simp] theorem State.goState_thm_sensors : (s.goState t).thm.sensors = s.thm.sensors := by
  obtain ⟨_, _, _, _, _, h⟩ := Recorded.goState (R := fun _ => true) (tm := false) (fun _ _ => rfl) s t; rw [h.thm]; rfl
@[simp] theorem State.goState_thm_level : (s.goState t).thm.level = s.thm.level := by
  obtain ⟨_, _, _, _, _, h⟩ := Recorded.goState (R := fun _ => true) (tm := false) (fun _ _ => rfl) s t; rw [h.thm]; rfl
@[simp] theorem State.goState_thm_hist : (s.goState t).thm.hist = s.thm.hist := by
  obtain ⟨_, _, _, _, _, h⟩ := Recorded.goState (R := fun _ => true) (tm := false) (fun _ _ => rfl) s t; rw [h.thm]; rfl
@[simp] theorem State.goState_thm_rate : (s.goState t).thm.rate = s.thm.rate := by
  obtain ⟨_, _, _, _, _, h⟩ := Recorded.goState (R := fun _ => true) (tm := false) (fun _ _ => rfl) s t; rw [h.thm]; rfl
@[simp] theorem State.goState_thm_fallSince : (s.goState t).thm.fallSince = s.thm.fallSince := by
  obtain ⟨_, _, _, _, _, h⟩ := Recorded.goState (R := fun _ => true) (tm := false) (fun _ _ => rfl) s t; rw [h.thm]; rfl
@[simp] theorem State.goState_thm_overSince : (s.goState t).thm.overSince = s.thm.overSince := by
  obtain ⟨_, _, _, _, _, h⟩ := Recorded.goState (R := fun _ => true) (tm := false) (fun _ _ => rfl) s t; rw [h.thm]; rfl
@[simp] theorem State.goState_thm_underSince : (s.goState t).thm.underSince = s.thm.underSince := by
  obtain ⟨_, _, _, _, _, h⟩ := Recorded.goState (R := fun _ => true) (tm := false) (fun _ _ => rfl) s t; rw [h.thm]; rfl
@[simp] theorem State.goState_thm_quenchSince : (s.goState t).thm.quenchSince = s.thm.quenchSince := by
  obtain ⟨_, _, _, _, _, h⟩ := Recorded.goState (R := fun _ => true) (tm := false) (fun _ _ => rfl) s t; rw [h.thm]; rfl
@[simp] theorem State.goState_thm_restartSince : (s.goState t).thm.restartSince = s.thm.restartSince := by
  obtain ⟨_, _, _, _, _, h⟩ := Recorded.goState (R := fun _ => true) (tm := false) (fun _ _ => rfl) s t; rw [h.thm]; rfl
@[simp] theorem State.goState_thm_warmSince : (s.goState t).thm.warmSince = s.thm.warmSince := by
  obtain ⟨_, _, _, _, _, h⟩ := Recorded.goState (R := fun _ => true) (tm := false) (fun _ _ => rfl) s t; rw [h.thm]; rfl
@[simp] theorem State.goState_thm_warmTimeout : (s.goState t).thm.warmTimeout = s.thm.warmTimeout := by
  obtain ⟨_, _, _, _, _, h⟩ := Recorded.goState (R := fun _ => true) (tm := false) (fun _ _ => rfl) s t; rw [h.thm]; rfl
@[simp] theorem State.goState_thm_stuck : (s.goState t).thm.stuck = s.thm.stuck := by
  obtain ⟨_, _, _, _, _, h⟩ := Recorded.goState (R := fun _ => true) (tm := false) (fun _ _ => rfl) s t; rw [h.thm]; rfl
@[simp] theorem State.goState_thm_bandgapAt : (s.goState t).thm.bandgapAt = s.thm.bandgapAt := by
  obtain ⟨_, _, _, _, _, h⟩ := Recorded.goState (R := fun _ => true) (tm := false) (fun _ _ => rfl) s t; rw [h.thm]; rfl
@[simp] theorem State.goState_thm_oscAt : (s.goState t).thm.oscAt = s.thm.oscAt := by
  obtain ⟨_, _, _, _, _, h⟩ := Recorded.goState (R := fun _ => true) (tm := false) (fun _ _ => rfl) s t; rw [h.thm]; rfl
@[simp] theorem State.goState_thm_refresh : (s.goState t).thm.refresh = s.thm.refresh := by
  obtain ⟨_, _, _, _, _, h⟩ := Recorded.goState (R := fun _ => true) (tm := false) (fun _ _ => rfl) s t; rw [h.thm]; rfl
@[simp] theorem State.goState_dtm_slewing : (s.goState t).dtm.slewing = s.dtm.slewing := by
  obtain ⟨_, _, _, _, _, h⟩ := Recorded.goState (R := fun _ => true) (tm := false) (fun _ _ => rfl) s t
  obtain ⟨_, _, _, _, h, e⟩ := h.dtm; rw [h]; simp
@[simp] theorem State.goState_dtm_everSet : (s.goState t).dtm.everSet = s.dtm.everSet := by
  obtain ⟨_, _, _, _, _, h⟩ := Recorded.goState (R := fun _ => true) (tm := false) (fun _ _ => rfl) s t
  obtain ⟨_, _, _, _, h, e⟩ := h.dtm; rw [h]; simp
@[simp] theorem State.goState_dtm_xoLost : (s.goState t).dtm.xoLost = s.dtm.xoLost := by
  obtain ⟨_, _, _, _, _, h⟩ := Recorded.goState (R := fun _ => true) (tm := false) (fun _ _ => rfl) s t
  obtain ⟨_, _, _, _, h, e⟩ := h.dtm; rw [h]; simp
@[simp] theorem State.goState_dtm_pllF : (s.goState t).dtm.pllF = s.dtm.pllF := by
  obtain ⟨_, _, _, _, _, h⟩ := Recorded.goState (R := fun _ => true) (tm := false) (fun _ _ => rfl) s t
  obtain ⟨_, _, _, _, h, e⟩ := h.dtm; rw [h]; simp
@[simp] theorem State.goState_dtm_pllE : (s.goState t).dtm.pllE = s.dtm.pllE := by
  obtain ⟨_, _, _, _, _, h⟩ := Recorded.goState (R := fun _ => true) (tm := false) (fun _ _ => rfl) s t
  obtain ⟨_, _, _, _, h, e⟩ := h.dtm; rw [h]; simp
@[simp] theorem State.goState_dtm_pllT : (s.goState t).dtm.pllT = s.dtm.pllT := by
  obtain ⟨_, _, _, _, _, h⟩ := Recorded.goState (R := fun _ => true) (tm := false) (fun _ _ => rfl) s t
  obtain ⟨_, _, _, _, h, e⟩ := h.dtm; rw [h]; simp
@[simp] theorem State.goState_dtm_pllH : (s.goState t).dtm.pllH = s.dtm.pllH := by
  obtain ⟨_, _, _, _, _, h⟩ := Recorded.goState (R := fun _ => true) (tm := false) (fun _ _ => rfl) s t
  obtain ⟨_, _, _, _, h, e⟩ := h.dtm; rw [h]; simp
@[simp] theorem State.goState_dtm_restored : (s.goState t).dtm.restored = s.dtm.restored := by
  obtain ⟨_, _, _, _, _, h⟩ := Recorded.goState (R := fun _ => true) (tm := false) (fun _ _ => rfl) s t
  obtain ⟨_, _, _, _, h, e⟩ := h.dtm; rw [h]; simp
@[simp] theorem State.goState_dtm_retained : (s.goState t).dtm.retained = s.dtm.retained := by
  obtain ⟨_, _, _, _, _, h⟩ := Recorded.goState (R := fun _ => true) (tm := false) (fun _ _ => rfl) s t
  obtain ⟨_, _, _, _, h, e⟩ := h.dtm; rw [h]; simp
@[simp] theorem State.goState_dtm_deedAt : (s.goState t).dtm.deedAt = s.dtm.deedAt := by
  obtain ⟨_, _, _, _, _, h⟩ := Recorded.goState (R := fun _ => true) (tm := false) (fun _ _ => rfl) s t
  obtain ⟨_, _, _, _, h, e⟩ := h.dtm; rw [h]; simp
@[simp] theorem State.goState_dtm_outUntil : (s.goState t).dtm.outUntil = s.dtm.outUntil := by
  obtain ⟨_, _, _, _, _, h⟩ := Recorded.goState (R := fun _ => true) (tm := false) (fun _ _ => rfl) s t
  obtain ⟨_, _, _, _, h, e⟩ := h.dtm; rw [h]; simp
@[simp] theorem State.goState_dtm_mono : (s.goState t).dtm.mono = s.dtm.mono := by
  obtain ⟨_, _, _, _, _, h⟩ := Recorded.goState (R := fun _ => true) (tm := false) (fun _ _ => rfl) s t
  obtain ⟨_, _, _, _, h, e⟩ := h.dtm; rw [h]; simp [e]
@[simp] theorem State.goState_dtm_datum : (s.goState t).dtm.datum = s.dtm.datum := by
  obtain ⟨_, _, _, _, _, h⟩ := Recorded.goState (R := fun _ => true) (tm := false) (fun _ _ => rfl) s t
  obtain ⟨_, _, _, _, h, e⟩ := h.dtm; rw [h]; simp [e]
@[simp] theorem State.goState_dtm_offset : (s.goState t).dtm.offset = s.dtm.offset := by
  obtain ⟨_, _, _, _, _, h⟩ := Recorded.goState (R := fun _ => true) (tm := false) (fun _ _ => rfl) s t
  obtain ⟨_, _, _, _, h, e⟩ := h.dtm; rw [h]; simp [e]
@[simp] theorem State.goState_pst_flash : (s.goState t).pst.flash = s.pst.flash := by
  obtain ⟨_, _, _, _, _, h⟩ := Recorded.goState (R := fun _ => true) (tm := false) (fun _ _ => rfl) s t
  obtain ⟨_, h⟩ := h.pst; rw [h]; simp
@[simp] theorem State.goState_pst_weak : (s.goState t).pst.weak = s.pst.weak := by
  obtain ⟨_, _, _, _, _, h⟩ := Recorded.goState (R := fun _ => true) (tm := false) (fun _ _ => rfl) s t
  obtain ⟨_, h⟩ := h.pst; rw [h]; simp
@[simp] theorem State.goState_pst_areas : (s.goState t).pst.areas = s.pst.areas := by
  obtain ⟨_, _, _, _, _, h⟩ := Recorded.goState (R := fun _ => true) (tm := false) (fun _ _ => rfl) s t
  obtain ⟨_, h⟩ := h.pst; rw [h]; simp
@[simp] theorem State.goState_pst_tallies : (s.goState t).pst.tallies = s.pst.tallies := by
  obtain ⟨_, _, _, _, _, h⟩ := Recorded.goState (R := fun _ => true) (tm := false) (fun _ _ => rfl) s t
  obtain ⟨_, h⟩ := h.pst; rw [h]; simp
@[simp] theorem State.goState_pst_tallyNext : (s.goState t).pst.tallyNext = s.pst.tallyNext := by
  obtain ⟨_, _, _, _, _, h⟩ := Recorded.goState (R := fun _ => true) (tm := false) (fun _ _ => rfl) s t
  obtain ⟨_, h⟩ := h.pst; rw [h]; simp
@[simp] theorem State.goState_pst_hints0 : (s.goState t).pst.hints0 = s.pst.hints0 := by
  obtain ⟨_, _, _, _, _, h⟩ := Recorded.goState (R := fun _ => true) (tm := false) (fun _ _ => rfl) s t
  obtain ⟨_, h⟩ := h.pst; rw [h]; simp
@[simp] theorem State.goState_pst_hints1 : (s.goState t).pst.hints1 = s.pst.hints1 := by
  obtain ⟨_, _, _, _, _, h⟩ := Recorded.goState (R := fun _ => true) (tm := false) (fun _ _ => rfl) s t
  obtain ⟨_, h⟩ := h.pst; rw [h]; simp
@[simp] theorem State.goState_pst_hintHigh : (s.goState t).pst.hintHigh = s.pst.hintHigh := by
  obtain ⟨_, _, _, _, _, h⟩ := Recorded.goState (R := fun _ => true) (tm := false) (fun _ _ => rfl) s t
  obtain ⟨_, h⟩ := h.pst; rw [h]; simp
@[simp] theorem State.goState_pst_hintErasing : (s.goState t).pst.hintErasing = s.pst.hintErasing := by
  obtain ⟨_, _, _, _, _, h⟩ := Recorded.goState (R := fun _ => true) (tm := false) (fun _ _ => rfl) s t
  obtain ⟨_, h⟩ := h.pst; rw [h]; simp
@[simp] theorem State.goState_pst_replaced : (s.goState t).pst.replaced = s.pst.replaced := by
  obtain ⟨_, _, _, _, _, h⟩ := Recorded.goState (R := fun _ => true) (tm := false) (fun _ _ => rfl) s t
  obtain ⟨_, h⟩ := h.pst; rw [h]; simp
@[simp] theorem State.goState_pst_gen : (s.goState t).pst.gen = s.pst.gen := by
  obtain ⟨_, _, _, _, _, h⟩ := Recorded.goState (R := fun _ => true) (tm := false) (fun _ _ => rfl) s t
  obtain ⟨_, h⟩ := h.pst; rw [h]; simp
@[simp] theorem State.goState_pst_inForce : (s.goState t).pst.inForce = s.pst.inForce := by
  obtain ⟨_, _, _, _, _, h⟩ := Recorded.goState (R := fun _ => true) (tm := false) (fun _ _ => rfl) s t
  obtain ⟨_, h⟩ := h.pst; rw [h]; simp
@[simp] theorem State.goState_pst_run : (s.goState t).pst.run = s.pst.run := by
  obtain ⟨_, _, _, _, _, h⟩ := Recorded.goState (R := fun _ => true) (tm := false) (fun _ _ => rfl) s t
  obtain ⟨_, h⟩ := h.pst; rw [h]; simp
@[simp] theorem State.goState_pst_gateWait : (s.goState t).pst.gateWait = s.pst.gateWait := by
  obtain ⟨_, _, _, _, _, h⟩ := Recorded.goState (R := fun _ => true) (tm := false) (fun _ _ => rfl) s t
  obtain ⟨_, h⟩ := h.pst; rw [h]; simp
@[simp] theorem State.goState_pst_ungated : (s.goState t).pst.ungated = s.pst.ungated := by
  obtain ⟨_, _, _, _, _, h⟩ := Recorded.goState (R := fun _ => true) (tm := false) (fun _ _ => rfl) s t
  obtain ⟨_, h⟩ := h.pst; rw [h]; simp
@[simp] theorem State.goState_pst_owed : (s.goState t).pst.owed = s.pst.owed := by
  obtain ⟨_, _, _, _, _, h⟩ := Recorded.goState (R := fun _ => true) (tm := false) (fun _ _ => rfl) s t
  obtain ⟨_, h⟩ := h.pst; rw [h]; simp
@[simp] theorem State.goState_pst_endAt : (s.goState t).pst.endAt = s.pst.endAt := by
  obtain ⟨_, _, _, _, _, h⟩ := Recorded.goState (R := fun _ => true) (tm := false) (fun _ _ => rfl) s t
  obtain ⟨_, h⟩ := h.pst; rw [h]; simp
@[simp] theorem State.goState_pst_buf : (s.goState t).pst.buf = s.pst.buf := by
  obtain ⟨_, _, _, _, _, h⟩ := Recorded.goState (R := fun _ => true) (tm := false) (fun _ _ => rfl) s t
  obtain ⟨_, h⟩ := h.pst; rw [h]; simp
@[simp] theorem State.goState_port0_pwb : (s.goState t).port0.pwb = s.port0.pwb := by
  obtain ⟨_, _, _, _, _, h⟩ := Recorded.goState (R := fun _ => true) (tm := false) (fun _ _ => rfl) s t
  obtain ⟨_, _, h⟩ := h.port0; rw [h]; simp
@[simp] theorem State.goState_port0_reads : (s.goState t).port0.reads = s.port0.reads := by
  obtain ⟨_, _, _, _, _, h⟩ := Recorded.goState (R := fun _ => true) (tm := false) (fun _ _ => rfl) s t
  obtain ⟨_, _, h⟩ := h.port0; rw [h]; simp
@[simp] theorem State.goState_port0_nextSeq : (s.goState t).port0.nextSeq = s.port0.nextSeq := by
  obtain ⟨_, _, _, _, _, h⟩ := Recorded.goState (R := fun _ => true) (tm := false) (fun _ _ => rfl) s t
  obtain ⟨_, _, h⟩ := h.port0; rw [h]; simp
@[simp] theorem State.goState_port0_decoders : (s.goState t).port0.decoders = s.port0.decoders := by
  obtain ⟨_, _, _, _, _, h⟩ := Recorded.goState (R := fun _ => true) (tm := false) (fun _ _ => rfl) s t
  obtain ⟨_, _, h⟩ := h.port0; rw [h]; simp
@[simp] theorem State.goState_port0_ide : (s.goState t).port0.ide = s.port0.ide := by
  obtain ⟨_, _, _, _, _, h⟩ := Recorded.goState (R := fun _ => true) (tm := false) (fun _ _ => rfl) s t
  obtain ⟨_, _, h⟩ := h.port0; rw [h]; simp
@[simp] theorem State.goState_port0_linkUp : (s.goState t).port0.linkUp = s.port0.linkUp := by
  obtain ⟨_, _, _, _, _, h⟩ := Recorded.goState (R := fun _ => true) (tm := false) (fun _ _ => rfl) s t
  obtain ⟨_, _, h⟩ := h.port0; rw [h]; simp
@[simp] theorem State.goState_port0_rate : (s.goState t).port0.rate = s.port0.rate := by
  obtain ⟨_, _, _, _, _, h⟩ := Recorded.goState (R := fun _ => true) (tm := false) (fun _ _ => rfl) s t
  obtain ⟨_, _, h⟩ := h.port0; rw [h]; simp
@[simp] theorem State.goState_port0_width : (s.goState t).port0.width = s.port0.width := by
  obtain ⟨_, _, _, _, _, h⟩ := Recorded.goState (R := fun _ => true) (tm := false) (fun _ _ => rfl) s t
  obtain ⟨_, _, h⟩ := h.port0; rw [h]; simp
@[simp] theorem State.goState_port0_flit256 : (s.goState t).port0.flit256 = s.port0.flit256 := by
  obtain ⟨_, _, _, _, _, h⟩ := Recorded.goState (R := fun _ => true) (tm := false) (fun _ _ => rfl) s t
  obtain ⟨_, _, h⟩ := h.port0; rw [h]; simp
@[simp] theorem State.goState_port0_laneOk : (s.goState t).port0.laneOk = s.port0.laneOk := by
  obtain ⟨_, _, _, _, _, h⟩ := Recorded.goState (R := fun _ => true) (tm := false) (fun _ _ => rfl) s t
  obtain ⟨_, _, h⟩ := h.port0; rw [h]; simp
@[simp] theorem State.goState_port0_laneErrs : (s.goState t).port0.laneErrs = s.port0.laneErrs := by
  obtain ⟨_, _, _, _, _, h⟩ := Recorded.goState (R := fun _ => true) (tm := false) (fun _ _ => rfl) s t
  obtain ⟨_, _, h⟩ := h.port0; rw [h]; simp
@[simp] theorem State.goState_port0_drain : (s.goState t).port0.drain = s.port0.drain := by
  obtain ⟨_, _, _, _, _, h⟩ := Recorded.goState (R := fun _ => true) (tm := false) (fun _ _ => rfl) s t
  obtain ⟨_, _, h⟩ := h.port0; rw [h]; simp
@[simp] theorem State.goState_port0_gpf : (s.goState t).port0.gpf = s.port0.gpf := by
  obtain ⟨_, _, _, _, _, h⟩ := Recorded.goState (R := fun _ => true) (tm := false) (fun _ _ => rfl) s t
  obtain ⟨_, _, h⟩ := h.port0; rw [h]; simp
@[simp] theorem State.goState_port0_admitAt : (s.goState t).port0.admitAt = s.port0.admitAt := by
  obtain ⟨_, _, _, _, _, h⟩ := Recorded.goState (R := fun _ => true) (tm := false) (fun _ _ => rfl) s t
  obtain ⟨_, _, h⟩ := h.port0; rw [h]; simp
@[simp] theorem State.goState_port0_flr : (s.goState t).port0.flr = s.port0.flr := by
  obtain ⟨_, _, _, _, _, h⟩ := Recorded.goState (R := fun _ => true) (tm := false) (fun _ _ => rfl) s t
  obtain ⟨_, _, h⟩ := h.port0; rw [h]; simp
@[simp] theorem State.goState_port0_heldOut : (s.goState t).port0.heldOut = s.port0.heldOut := by
  obtain ⟨_, _, _, _, _, h⟩ := Recorded.goState (R := fun _ => true) (tm := false) (fun _ _ => rfl) s t
  obtain ⟨_, _, h⟩ := h.port0; rw [h]; simp
@[simp] theorem State.goState_port0_evtPolicy : (s.goState t).port0.evtPolicy = s.port0.evtPolicy := by
  obtain ⟨_, _, _, _, _, h⟩ := Recorded.goState (R := fun _ => true) (tm := false) (fun _ _ => rfl) s t
  obtain ⟨_, _, h⟩ := h.port0; rw [h]; simp
@[simp] theorem State.goState_port0_doorbell : (s.goState t).port0.doorbell = s.port0.doorbell := by
  obtain ⟨_, _, _, _, _, h⟩ := Recorded.goState (R := fun _ => true) (tm := false) (fun _ _ => rfl) s t
  obtain ⟨_, _, h⟩ := h.port0; rw [h]; simp
@[simp] theorem State.goState_port0_lsa : (s.goState t).port0.lsa = s.port0.lsa := by
  obtain ⟨_, _, _, _, _, h⟩ := Recorded.goState (R := fun _ => true) (tm := false) (fun _ _ => rfl) s t
  obtain ⟨_, _, h⟩ := h.port0; rw [h]; simp
@[simp] theorem State.goState_port0_lsaCopy : (s.goState t).port0.lsaCopy = s.port0.lsaCopy := by
  obtain ⟨_, _, _, _, _, h⟩ := Recorded.goState (R := fun _ => true) (tm := false) (fun _ _ => rfl) s t
  obtain ⟨_, _, h⟩ := h.port0; rw [h]; simp
@[simp] theorem State.goState_port1_pwb : (s.goState t).port1.pwb = s.port1.pwb := by
  obtain ⟨_, _, _, _, _, h⟩ := Recorded.goState (R := fun _ => true) (tm := false) (fun _ _ => rfl) s t
  obtain ⟨_, _, h⟩ := h.port1; rw [h]; simp
@[simp] theorem State.goState_port1_reads : (s.goState t).port1.reads = s.port1.reads := by
  obtain ⟨_, _, _, _, _, h⟩ := Recorded.goState (R := fun _ => true) (tm := false) (fun _ _ => rfl) s t
  obtain ⟨_, _, h⟩ := h.port1; rw [h]; simp
@[simp] theorem State.goState_port1_nextSeq : (s.goState t).port1.nextSeq = s.port1.nextSeq := by
  obtain ⟨_, _, _, _, _, h⟩ := Recorded.goState (R := fun _ => true) (tm := false) (fun _ _ => rfl) s t
  obtain ⟨_, _, h⟩ := h.port1; rw [h]; simp
@[simp] theorem State.goState_port1_decoders : (s.goState t).port1.decoders = s.port1.decoders := by
  obtain ⟨_, _, _, _, _, h⟩ := Recorded.goState (R := fun _ => true) (tm := false) (fun _ _ => rfl) s t
  obtain ⟨_, _, h⟩ := h.port1; rw [h]; simp
@[simp] theorem State.goState_port1_ide : (s.goState t).port1.ide = s.port1.ide := by
  obtain ⟨_, _, _, _, _, h⟩ := Recorded.goState (R := fun _ => true) (tm := false) (fun _ _ => rfl) s t
  obtain ⟨_, _, h⟩ := h.port1; rw [h]; simp
@[simp] theorem State.goState_port1_linkUp : (s.goState t).port1.linkUp = s.port1.linkUp := by
  obtain ⟨_, _, _, _, _, h⟩ := Recorded.goState (R := fun _ => true) (tm := false) (fun _ _ => rfl) s t
  obtain ⟨_, _, h⟩ := h.port1; rw [h]; simp
@[simp] theorem State.goState_port1_rate : (s.goState t).port1.rate = s.port1.rate := by
  obtain ⟨_, _, _, _, _, h⟩ := Recorded.goState (R := fun _ => true) (tm := false) (fun _ _ => rfl) s t
  obtain ⟨_, _, h⟩ := h.port1; rw [h]; simp
@[simp] theorem State.goState_port1_width : (s.goState t).port1.width = s.port1.width := by
  obtain ⟨_, _, _, _, _, h⟩ := Recorded.goState (R := fun _ => true) (tm := false) (fun _ _ => rfl) s t
  obtain ⟨_, _, h⟩ := h.port1; rw [h]; simp
@[simp] theorem State.goState_port1_flit256 : (s.goState t).port1.flit256 = s.port1.flit256 := by
  obtain ⟨_, _, _, _, _, h⟩ := Recorded.goState (R := fun _ => true) (tm := false) (fun _ _ => rfl) s t
  obtain ⟨_, _, h⟩ := h.port1; rw [h]; simp
@[simp] theorem State.goState_port1_laneOk : (s.goState t).port1.laneOk = s.port1.laneOk := by
  obtain ⟨_, _, _, _, _, h⟩ := Recorded.goState (R := fun _ => true) (tm := false) (fun _ _ => rfl) s t
  obtain ⟨_, _, h⟩ := h.port1; rw [h]; simp
@[simp] theorem State.goState_port1_laneErrs : (s.goState t).port1.laneErrs = s.port1.laneErrs := by
  obtain ⟨_, _, _, _, _, h⟩ := Recorded.goState (R := fun _ => true) (tm := false) (fun _ _ => rfl) s t
  obtain ⟨_, _, h⟩ := h.port1; rw [h]; simp
@[simp] theorem State.goState_port1_drain : (s.goState t).port1.drain = s.port1.drain := by
  obtain ⟨_, _, _, _, _, h⟩ := Recorded.goState (R := fun _ => true) (tm := false) (fun _ _ => rfl) s t
  obtain ⟨_, _, h⟩ := h.port1; rw [h]; simp
@[simp] theorem State.goState_port1_gpf : (s.goState t).port1.gpf = s.port1.gpf := by
  obtain ⟨_, _, _, _, _, h⟩ := Recorded.goState (R := fun _ => true) (tm := false) (fun _ _ => rfl) s t
  obtain ⟨_, _, h⟩ := h.port1; rw [h]; simp
@[simp] theorem State.goState_port1_admitAt : (s.goState t).port1.admitAt = s.port1.admitAt := by
  obtain ⟨_, _, _, _, _, h⟩ := Recorded.goState (R := fun _ => true) (tm := false) (fun _ _ => rfl) s t
  obtain ⟨_, _, h⟩ := h.port1; rw [h]; simp
@[simp] theorem State.goState_port1_flr : (s.goState t).port1.flr = s.port1.flr := by
  obtain ⟨_, _, _, _, _, h⟩ := Recorded.goState (R := fun _ => true) (tm := false) (fun _ _ => rfl) s t
  obtain ⟨_, _, h⟩ := h.port1; rw [h]; simp
@[simp] theorem State.goState_port1_heldOut : (s.goState t).port1.heldOut = s.port1.heldOut := by
  obtain ⟨_, _, _, _, _, h⟩ := Recorded.goState (R := fun _ => true) (tm := false) (fun _ _ => rfl) s t
  obtain ⟨_, _, h⟩ := h.port1; rw [h]; simp
@[simp] theorem State.goState_port1_evtPolicy : (s.goState t).port1.evtPolicy = s.port1.evtPolicy := by
  obtain ⟨_, _, _, _, _, h⟩ := Recorded.goState (R := fun _ => true) (tm := false) (fun _ _ => rfl) s t
  obtain ⟨_, _, h⟩ := h.port1; rw [h]; simp
@[simp] theorem State.goState_port1_doorbell : (s.goState t).port1.doorbell = s.port1.doorbell := by
  obtain ⟨_, _, _, _, _, h⟩ := Recorded.goState (R := fun _ => true) (tm := false) (fun _ _ => rfl) s t
  obtain ⟨_, _, h⟩ := h.port1; rw [h]; simp
@[simp] theorem State.goState_port1_lsa : (s.goState t).port1.lsa = s.port1.lsa := by
  obtain ⟨_, _, _, _, _, h⟩ := Recorded.goState (R := fun _ => true) (tm := false) (fun _ _ => rfl) s t
  obtain ⟨_, _, h⟩ := h.port1; rw [h]; simp
@[simp] theorem State.goState_port1_lsaCopy : (s.goState t).port1.lsaCopy = s.port1.lsaCopy := by
  obtain ⟨_, _, _, _, _, h⟩ := Recorded.goState (R := fun _ => true) (tm := false) (fun _ _ => rfl) s t
  obtain ⟨_, _, h⟩ := h.port1; rw [h]; simp
@[simp] theorem State.goState_svy_gen : (s.goState t).svy.gen = s.svy.gen := by
  obtain ⟨_, _, _, _, _, h⟩ := Recorded.goState (R := fun _ => true) (tm := false) (fun _ _ => rfl) s t
  obtain ⟨_, h⟩ := h.svy; rw [h]; simp
@[simp] theorem State.goState_svy_missed : (s.goState t).svy.missed = s.svy.missed := by
  obtain ⟨_, _, _, _, _, h⟩ := Recorded.goState (R := fun _ => true) (tm := false) (fun _ _ => rfl) s t
  obtain ⟨_, h⟩ := h.svy; rw [h]; simp
@[simp] theorem State.goState_svy_areas : (s.goState t).svy.areas = s.svy.areas := by
  obtain ⟨_, _, _, _, _, h⟩ := Recorded.goState (R := fun _ => true) (tm := false) (fun _ _ => rfl) s t
  obtain ⟨_, h⟩ := h.svy; rw [h]; simp
@[simp] theorem State.goState_svy_snaps : (s.goState t).svy.snaps = s.svy.snaps := by
  obtain ⟨_, _, _, _, _, h⟩ := Recorded.goState (R := fun _ => true) (tm := false) (fun _ _ => rfl) s t
  obtain ⟨_, h⟩ := h.svy; rw [h]; simp
@[simp] theorem State.goState_svy_bufBar2 : (s.goState t).svy.bufBar2 = s.svy.bufBar2 := by
  obtain ⟨_, _, _, _, _, h⟩ := Recorded.goState (R := fun _ => true) (tm := false) (fun _ _ => rfl) s t
  obtain ⟨_, h⟩ := h.svy; rw [h]; simp
@[simp] theorem State.goState_svy_bufMctp : (s.goState t).svy.bufMctp = s.svy.bufMctp := by
  obtain ⟨_, _, _, _, _, h⟩ := Recorded.goState (R := fun _ => true) (tm := false) (fun _ _ => rfl) s t
  obtain ⟨_, h⟩ := h.svy; rw [h]; simp
/-- Registers that entering a state leaves as they were. -/
theorem State.goState_getReg (o : Nat) (h : recReg o = false)
    (h' : o ∉ [Reg.THM_INT_STAT, Reg.SYS_LAST_TRANS, Reg.SYS_TRANS_CNT, Reg.SYS_INT_STAT]) :
    (s.goState t).getReg o = s.getReg o := by
  obtain ⟨_, _, _, _, _, h1⟩ := Recorded.goState (tm := false)
    (R := fun o => recReg o || decide (o ∈ [Reg.THM_INT_STAT, Reg.SYS_LAST_TRANS, Reg.SYS_TRANS_CNT, Reg.SYS_INT_STAT]))
    (fun o h => by simpa using h) s t
  have hf : (recReg o || decide (o ∈ [Reg.THM_INT_STAT, Reg.SYS_LAST_TRANS, Reg.SYS_TRANS_CNT, Reg.SYS_INT_STAT])) = false := by
    rw [h, Bool.false_or]; exact decide_eq_false h'
  rw [h1.regs o hf]; rfl

end

end Sys2Proof.Machine
end

