-- ==== Sys2Proof/Laws/Touches.lean ====
section
/-! SUPPORT. The footprint of the operations of Machine/Ops.lean: which parts of the state each may change. -/

namespace Sys2Proof.Machine

variable {m : Nat} {s t u : State}

theorem Touches.refl (m : Nat) (s : State) : Touches m s s where
  pending := rfl
  wf := id
  regs _ _ _ := rfl
  bar2 _ := rfl
  mctp _ := rfl
  sys _ := rfl
  dtm _ := rfl
  plat _ := rfl
  port0 _ := rfl
  port1 _ := rfl
  svc _ := rfl
  stg _ := rfl
  cds _ := rfl
  saved _ := rfl
  med _ := rfl
  trv _ := rfl
  mdc _ := rfl
  pwr _ := rfl
  pfl _ := rfl
  ime _ := rfl
  cke _ := rfl
  eng _ := rfl
  pst _ := rfl
  evr _ := rfl
  thm _ := rfl
  svy _ := rfl
  out _ := rfl
  free _ := rfl

/-- What follows may touch fewer parts. -/
theorem Touches.step {f : Nat} (a : Touches m s t) (b : Touches f t u) (h : f ||| m = m) : Touches m s u := by
  have out {k : Nat} (e : m.testBit k = false) : f.testBit k = false := by
    rw [← h, Nat.testBit_or, Bool.or_eq_false_iff] at e; exact e.1
  exact {
    pending := b.pending.trans a.pending
    wf := b.wf ∘ a.wf
    regs := fun o h1 e => (b.regs o h1 (out e)).trans (a.regs o h1 e)
    bar2 := fun e => (b.bar2 (out e)).trans (a.bar2 e)
    mctp := fun e => (b.mctp (out e)).trans (a.mctp e)
    sys := fun e => (b.sys (out e)).trans (a.sys e)
    dtm := fun e => (b.dtm (out e)).trans (a.dtm e)
    plat := fun e => (b.plat (out e)).trans (a.plat e)
    port0 := fun e => (b.port0 (out e)).trans (a.port0 e)
    port1 := fun e => (b.port1 (out e)).trans (a.port1 e)
    svc := fun e => (b.svc (out e)).trans (a.svc e)
    stg := fun e => (b.stg (out e)).trans (a.stg e)
    cds := fun e => (b.cds (out e)).trans (a.cds e)
    saved := fun e => (b.saved (out e)).trans (a.saved e)
    med := fun e => (b.med (out e)).trans (a.med e)
    trv := fun e => (b.trv (out e)).trans (a.trv e)
    mdc := fun e => (b.mdc (out e)).trans (a.mdc e)
    pwr := fun e => (b.pwr (out e)).trans (a.pwr e)
    pfl := fun e => (b.pfl (out e)).trans (a.pfl e)
    ime := fun e => (b.ime (out e)).trans (a.ime e)
    cke := fun e => (b.cke (out e)).trans (a.cke e)
    eng := fun e => (b.eng (out e)).trans (a.eng e)
    pst := fun e => (b.pst (out e)).trans (a.pst e)
    evr := fun e => (b.evr (out e)).trans (a.evr e)
    thm := fun e => (b.thm (out e)).trans (a.thm e)
    svy := fun e => (b.svy (out e)).trans (a.svy e)
    out := fun e => (b.out (out e)).trans (a.out e)
    free := fun e => (b.free (out e)).trans (a.free e)
  }

theorem Touches.mono {f : Nat} (b : Touches f s t) (h : f ||| m = m) : Touches m s t := .step (.refl m s) b h

/-- A fold of operations. -/
theorem Touches.foldl {β : Type} {f : State → β → State} (h : ∀ (b : β) (t : State), Touches m s t → Touches m s (f t b)) {l : List β}
    (a : Touches m s t) : Touches m s (l.foldl f t) := by
  induction l generalizing t with
  | nil => exact a
  | cons b l ih => exact ih (h b t a)

/-- A write of one register. -/
theorem Touches.setReg (a : Touches m s t) {o : Nat} {v : Word} (h : m.testBit (o / 0x10000) = true) :
    Touches m s (t.setReg o v) := by
  refine { a with wf := fun w => mapSet_wf regReset o v (a.wf w), regs := fun o' h1 e => ?_ }
  rw [State.getReg_setReg_ne t v (fun e' => by rw [e', h] at e; cases e)]
  exact a.regs o' h1 e

section
variable (a : Touches m s t) {o : Nat} (h : m.testBit (o / 0x10000) = true)
include a h
theorem Touches.clearReg : Touches m s (t.clearReg o) := a.setReg h
theorem Touches.setNat {v : Nat} : Touches m s (t.setNat o v) := a.setReg h
theorem Touches.setBits {k : Nat} : Touches m s (t.setBits o k) := a.setReg h
theorem Touches.clearBits {k : Nat} : Touches m s (t.clearBits o k) := a.setReg h
theorem Touches.setField {l w v : Nat} : Touches m s (t.setField o l w v) := (a.setReg h).setReg h
theorem Touches.addReg {k : Nat} : Touches m s (t.addReg o k) := a.setReg h
theorem Touches.incReg : Touches m s (t.incReg o) := a.setReg h
theorem Touches.satField {l w k : Nat} : Touches m s (t.satField o l w k) := a.setField h
theorem Touches.maxReg {v : Nat} : Touches m s (t.maxReg o v) := by
  unfold State.maxReg; split
  · exact a.setReg h
  · exact a
theorem Touches.addPair (h' : m.testBit ((o + 4) / 0x10000) = true) {k : Nat} : Touches m s (t.addPair o k) :=
  (a.setReg h).setReg h'
theorem Touches.setPair (h' : m.testBit ((o + 4) / 0x10000) = true) {k : Nat} : Touches m s (t.setPair o k) :=
  (a.setReg h).setReg h'
end

/-- A reset of registers: every block. -/
theorem Touches.resetRegs (a : Touches m s t) {p : RegDom → Bool} {q : Nat → Bool} (h : ∀ b, b < 16 → m.testBit b = true) :
    Touches m s (t.resetRegs p q) := by
  refine { a with wf := fun w => mapFilter_wf regReset _ (a.wf w), regs := fun o' h1 e => ?_ }
  rw [h (o' / 0x10000) (by omega)] at e; cases e

section
variable (a : Touches m s t)
include a
theorem Touches.modSys {f : Sys → Sys} (h : m.testBit 18 = true) : Touches m s (t.modSys f) :=
  { a with sys := fun e => by rw [h] at e; cases e }
theorem Touches.modDtm {f : Dtm → Dtm} (h : m.testBit 19 = true) : Touches m s (t.modDtm f) :=
  { a with dtm := fun e => by rw [h] at e; cases e }
theorem Touches.modPlat {f : PlatState → PlatState} (h : m.testBit 20 = true) : Touches m s (t.modPlat f) :=
  { a with plat := fun e => by rw [h] at e; cases e }
theorem Touches.modSvc {f : Svc → Svc} (h : m.testBit 23 = true) : Touches m s (t.modSvc f) :=
  { a with svc := fun e => by rw [h] at e; cases e }
theorem Touches.modStg {f : Stg → Stg} (h : m.testBit 24 = true) : Touches m s (t.modStg f) :=
  { a with stg := fun e => by rw [h] at e; cases e }
theorem Touches.modCds {f : Cds → Cds} (h : m.testBit 25 = true) : Touches m s (t.modCds f) :=
  { a with cds := fun e => by rw [h] at e; cases e }
theorem Touches.modSaved {f : MapSave → MapSave} (h : m.testBit 26 = true) : Touches m s (t.modSaved f) :=
  { a with saved := fun e => by rw [h] at e; cases e }
theorem Touches.modMed {f : SMap MedLine → SMap MedLine} (h : m.testBit 27 = true) : Touches m s (t.modMed f) :=
  { a with med := fun e => by rw [h] at e; cases e }
theorem Touches.modTrv {f : Trv → Trv} (h : m.testBit 28 = true) : Touches m s (t.modTrv f) :=
  { a with trv := fun e => by rw [h] at e; cases e }
theorem Touches.modMdc {f : Mdc → Mdc} (h : m.testBit 29 = true) : Touches m s (t.modMdc f) :=
  { a with mdc := fun e => by rw [h] at e; cases e }
theorem Touches.modPwr {f : Pwr → Pwr} (h : m.testBit 30 = true) : Touches m s (t.modPwr f) :=
  { a with pwr := fun e => by rw [h] at e; cases e }
theorem Touches.modPfl {f : Pfl → Pfl} (h : m.testBit 31 = true) : Touches m s (t.modPfl f) :=
  { a with pfl := fun e => by rw [h] at e; cases e }
theorem Touches.modIme {f : Ime → Ime} (h : m.testBit 32 = true) : Touches m s (t.modIme f) :=
  { a with ime := fun e => by rw [h] at e; cases e }
theorem Touches.modCke {f : Cke → Cke} (h : m.testBit 33 = true) : Touches m s (t.modCke f) :=
  { a with cke := fun e => by rw [h] at e; cases e }
theorem Touches.modEng {f : Eng → Eng} (h : m.testBit 34 = true) : Touches m s (t.modEng f) :=
  { a with eng := fun e => by rw [h] at e; cases e }
theorem Touches.modPst {f : Pst → Pst} (h : m.testBit 35 = true) : Touches m s (t.modPst f) :=
  { a with pst := fun e => by rw [h] at e; cases e }
theorem Touches.modEvr {f : Evr → Evr} (h : m.testBit 36 = true) : Touches m s (t.modEvr f) :=
  { a with evr := fun e => by rw [h] at e; cases e }
theorem Touches.modThm {f : Thm → Thm} (h : m.testBit 37 = true) : Touches m s (t.modThm f) :=
  { a with thm := fun e => by rw [h] at e; cases e }
theorem Touches.modSvy {f : Svy → Svy} (h : m.testBit 38 = true) : Touches m s (t.modSvy f) :=
  { a with svy := fun e => by rw [h] at e; cases e }
theorem Touches.emit {x : Output} (h : m.testBit 39 = true) : Touches m s (t.emit x) :=
  { a with out := fun e => by rw [h] at e; cases e }
theorem Touches.useFree (h : m.testBit 40 = true) : Touches m s t.useFree :=
  { a with free := fun e => by rw [h] at e; cases e }
theorem Touches.useFrees {k : Nat} (h : m.testBit 40 = true) : Touches m s (t.useFrees k) :=
  { a with free := fun e => by rw [h] at e; cases e }
theorem Touches.modShadow {q : Requester} {f : Shadow → Shadow} (h : m.testBit 16 = true)
    (h' : m.testBit 17 = true) : Touches m s (t.modShadow q f) := by
  cases q
  · exact { a with bar2 := fun e => by rw [h] at e; cases e }
  · exact { a with mctp := fun e => by rw [h'] at e; cases e }
theorem Touches.modPort {p : Nat} {f : Port → Port} (h : m.testBit 21 = true) (h' : m.testBit 22 = true) :
    Touches m s (t.modPort p f) := by
  unfold State.modPort
  split
  · exact { a with port0 := fun e => by rw [h] at e; cases e }
  · exact { a with port1 := fun e => by rw [h'] at e; cases e }
end

/-- What recording may touch: registers of the blocks HPT, DTM, EVR and SVY, the time and the strobe, the ports' event logs,
the parameter store's queue, the recorder and the counters; `b` is the block of a register of its own. -/
def recParts : Nat := 0x580068a084

theorem Recorded.touches {R : Nat → Bool} {tm : Bool} {f : Nat} (h : Recorded R tm s t) (hf : recParts ||| f = f)
    (hR : ∀ o, o < 0x100000 → f.testBit (o / 0x10000) = false → R o = false) : Touches f s t := by
  have bt {k : Nat} (e : f.testBit k = false) : recParts.testBit k = false := by
    rw [← hf, Nat.testBit_or, Bool.or_eq_false_iff] at e; exact e.1
  have no {k : Nat} {P : Prop} (hk : recParts.testBit k = true) (e : f.testBit k = false) : P := by
    rw [bt e] at hk; cases hk
  exact {
    pending := h.pending
    wf := h.wf
    regs := fun o h1 e => h.regs o (hR o h1 e)
    bar2 := fun _ => h.bar2
    mctp := fun _ => h.mctp
    sys := fun _ => h.sys
    dtm := no (by decide)
    plat := fun _ => h.plat
    port0 := no (by decide)
    port1 := no (by decide)
    svc := fun _ => h.svc
    stg := fun _ => h.stg
    cds := fun _ => h.cds
    saved := fun _ => h.saved
    med := fun _ => h.med
    trv := fun _ => h.trv
    mdc := fun _ => h.mdc
    pwr := fun _ => h.pwr
    pfl := fun _ => h.pfl
    ime := fun _ => h.ime
    cke := fun _ => h.cke
    eng := fun _ => h.eng
    pst := no (by decide)
    evr := no (by decide)
    thm := fun _ => h.thm
    svy := no (by decide)
    out := fun _ => h.out
    free := fun _ => h.free
  }

theorem recReg_block {f o : Nat} (hf : recParts ||| f = f) (h1 : o < 0x100000) (e : f.testBit (o / 0x10000) = false) : recReg o = false := by
  have bt : recParts.testBit (o / 0x10000) = false := by
    rw [← hf, Nat.testBit_or, Bool.or_eq_false_iff] at e; exact e.1
  have hb : o / 0x10000 < 16 := by omega
  unfold recReg
  rw [Bool.eq_false_iff]
  intro h
  simp only [Bool.or_eq_true, beq_iff_eq] at h
  have : o / 0x10000 = 7 ∨ o / 0x10000 = 2 ∨ o / 0x10000 = 0xD ∨ o / 0x10000 = 0xF := by
    rcases h with (((h | h) | h) | h) | h
    · left; rw [h]; rfl
    · right; left; rw [h]; rfl
    · right; left; rw [h]; rfl
    · simp [h]
    · simp [h]
  rcases this with h | h | h | h <;> rw [h] at bt <;> exact absurd bt (by decide)

section
variable (z : Touches m s t) (hm : recParts ||| m = m)
include z hm
theorem Touches.raise {c a b : Nat} : Touches m s (t.raise c a b) :=
  z.step ((Recorded.raise (R := recReg) (tm := false) (fun _ h => h) t c a b).touches hm fun _ h1 e => recReg_block hm h1 e) (Nat.or_self m)
theorem Touches.strobe {n : Nat} : Touches m s (t.strobe n) :=
  z.step ((Recorded.strobeAt (R := recReg) (tm := false) (fun _ h => h) t t.dtm.mono n).touches hm fun _ h1 e => recReg_block hm h1 e) (Nat.or_self m)
theorem Touches.strobeAt {n k : Nat} : Touches m s (t.strobeAt n k) :=
  z.step ((Recorded.strobeAt (R := recReg) (tm := false) (fun _ h => h) t n k).touches hm fun _ h1 e => recReg_block hm h1 e) (Nat.or_self m)
theorem Touches.pmc {e f k a : Nat} : Touches m s (t.pmc e f k a) :=
  z.step ((Recorded.pmc (R := recReg) (tm := false) (fun _ h => h) t e f k a).touches hm fun _ h1 e => recReg_block hm h1 e) (Nat.or_self m)
theorem Touches.pmcMany {e : Nat} {l : List Nat} {a : Nat} : Touches m s (t.pmcMany e l a) :=
  z.step ((Recorded.pmcMany (R := recReg) (tm := false) (fun _ h => h) t e l a).touches hm fun _ h1 e => recReg_block hm h1 e) (Nat.or_self m)
theorem Touches.enqueueRec {r : EvrRec} : Touches m s (t.enqueueRec r) :=
  z.step ((Recorded.enqueueRec (R := recReg) (tm := false) (fun _ h => h) t r).touches hm fun _ h1 e => recReg_block hm h1 e) (Nat.or_self m)
theorem Touches.raiseEvr {c a b : Nat} : Touches m s (t.raiseEvr c a b) :=
  z.step ((Recorded.raiseEvr (R := recReg) (tm := false) (fun _ h => h) t c a b).touches hm fun _ h1 e => recReg_block hm h1 e) (Nat.or_self m)
theorem Touches.evrFlag {n : Nat} {l : Bool} : Touches m s (t.evrFlag n l) :=
  z.step ((Recorded.evrFlag (R := recReg) (tm := false) (fun _ h => h) t n l).touches hm fun _ h1 e => recReg_block hm h1 e) (Nat.or_self m)
theorem Touches.countRaised {n k : Nat} : Touches m s (t.countRaised n k) :=
  z.step ((Recorded.countRaised (R := recReg) (tm := false) (fun _ h => h) t n k).touches hm fun _ h1 e => recReg_block hm h1 e) (Nat.or_self m)
theorem Touches.portCopies {r : EvrRec} : Touches m s (t.portCopies r) :=
  z.step ((Recorded.portCopies (R := recReg) (tm := false) (fun _ h => h) t r).touches hm fun _ h1 e => recReg_block hm h1 e) (Nat.or_self m)
theorem Touches.pmcOverflow {n : Nat} {e : Bool} {k l : Nat} : Touches m s (t.pmcOverflow n e k l) :=
  z.step ((Recorded.pmcOverflow (R := recReg) (tm := false) (fun _ h => h) t n e k l).touches hm fun _ h1 e => recReg_block hm h1 e) (Nat.or_self m)
theorem Touches.clockTo {ns : Nat} : Touches m s (t.clockTo ns) :=
  z.step ((Recorded.clockTo (R := recReg) (fun _ h => h) t ns).touches hm fun _ h1 e => recReg_block hm h1 e) (Nat.or_self m)
theorem Touches.countConds {k l : Nat} : Touches m s (t.countConds k l) :=
  z.step ((Recorded.countConds (R := recReg) (tm := false) (fun _ h => h) t k l).touches hm fun _ h1 e => recReg_block hm h1 e) (Nat.or_self m)
theorem Touches.pass {k : Nat} : Touches m s (t.pass k) :=
  z.step ((Recorded.pass (R := recReg) t k).touches hm fun _ h1 e => recReg_block hm h1 e) (Nat.or_self m)
theorem Touches.pmcAdd {fuel n k : Nat} {e : Bool} {x y : Nat} (h : n < 48) : Touches m s (t.pmcAdd fuel n k e x y) :=
  z.step ((Recorded.pmcAdd (R := recReg) (tm := false) (fun _ h => h) t fuel k e x y h).touches hm
    fun _ h1 e => recReg_block hm h1 e) (Nat.or_self m)
theorem Touches.elapse {k : Nat} : Touches m s (t.elapse k) := by
  unfold State.elapse
  split
  · exact z.pass hm
  · exact (z.countConds hm).pass hm
theorem Touches.settleTemper (h1 : m.testBit 14 = true) (h2 : m.testBit 37 = true) : Touches m s t.settleTemper := by
  obtain ⟨_, _, _, _, h⟩ := Recorded.settleTemper (R := fun o => recReg o || o == Reg.THM_INT_STAT) (tm := false)
    (fun o h => by simpa using h) t
  refine (z.modThm h2).step (h.touches hm fun o h3 e => ?_) (Nat.or_self m)
  have : o ≠ Reg.THM_INT_STAT := fun e' => by
    rw [e', show Reg.THM_INT_STAT / 0x10000 = 14 from rfl, h1] at e; cases e
  simp [recReg_block hm h3 e, this]
theorem Touches.flag {st en n : Nat} {l : Bool} (h : m.testBit (st / 0x10000) = true) : Touches m s (t.flag st en n l) := by
  refine z.step ((Recorded.flag (R := fun o => recReg o || o == st) (tm := false) (fun o h => by simp [h]) t en n l
    (by simp)).touches hm fun o h1 e => ?_) (Nat.or_self m)
  have : o ≠ st := fun e' => by rw [e', h] at e; cases e
  simp [recReg_block hm h1 e, this]
theorem Touches.nearMiss {n : Nat} : Touches m s (t.nearMiss n) := by
  have h7 : m.testBit 7 = true := by rw [← hm, Nat.testBit_or]; rfl
  unfold State.nearMiss
  extract_lets u
  have hu : Touches m s u := ((z.incReg h7).setNat h7).setBits h7
  split
  · exact hu.raise hm
  · exact hu
theorem Touches.goState {d : DevState} (h0 : m.testBit 0 = true) (h1 : m.testBit 14 = true) (h2 : m.testBit 37 = true)
    (h3 : m.testBit 18 = true) : Touches m s (t.goState d) := by
  unfold State.goState
  extract_lets old now u v w
  have hu : Touches m s u := z.modSys h3
  have hv : Touches m s v := (hu.setNat h0).incReg h0
  have hw : Touches m s w := (hv.setBits h0).raise hm
  refine Touches.settleTemper ?_ hm h1 h2
  split
  · exact hw.modThm h2
  · exact hw
end

end Sys2Proof.Machine
end

