-- ==== Sys2Proof/Laws/FootBase.lean ====
section
/-! SUPPORT. Footprints of operations that answer more than a state: a command's outcome, an option, a pair. -/

namespace Sys2Proof.Machine

variable {m f : Nat} {s t u : State} {α β : Type}

/-! The block of each register that takes an index. -/

@[simp] theorem Reg.HPT_ID_block (n : Nat) : Reg.HPT_ID n / 65536 = 2 := by simp only [Reg.HPT_ID]; omega
@[simp] theorem Reg.HPT_CTL_block (n : Nat) : Reg.HPT_CTL n / 65536 = 2 := by simp only [Reg.HPT_CTL]; omega
@[simp] theorem Reg.HPT_STAT_block (n : Nat) : Reg.HPT_STAT n / 65536 = 2 := by simp only [Reg.HPT_STAT]; omega
@[simp] theorem Reg.HPT_LINK_CAP_block (n : Nat) : Reg.HPT_LINK_CAP n / 65536 = 2 := by simp only [Reg.HPT_LINK_CAP]; omega
@[simp] theorem Reg.HPT_LINK_STAT_block (n : Nat) : Reg.HPT_LINK_STAT n / 65536 = 2 := by simp only [Reg.HPT_LINK_STAT]; omega
@[simp] theorem Reg.HPT_LINK_CTL_block (n : Nat) : Reg.HPT_LINK_CTL n / 65536 = 2 := by simp only [Reg.HPT_LINK_CTL]; omega
@[simp] theorem Reg.HPT_LANE_FAIL_block (n : Nat) : Reg.HPT_LANE_FAIL n / 65536 = 2 := by simp only [Reg.HPT_LANE_FAIL]; omega
@[simp] theorem Reg.HPT_RETRAIN_CNT_block (n : Nat) : Reg.HPT_RETRAIN_CNT n / 65536 = 2 := by simp only [Reg.HPT_RETRAIN_CNT]; omega
@[simp] theorem Reg.HPT_FLIT_ERR_CNT_block (n : Nat) : Reg.HPT_FLIT_ERR_CNT n / 65536 = 2 := by simp only [Reg.HPT_FLIT_ERR_CNT]; omega
@[simp] theorem Reg.HPT_PWB_STAT_block (n : Nat) : Reg.HPT_PWB_STAT n / 65536 = 2 := by simp only [Reg.HPT_PWB_STAT]; omega
@[simp] theorem Reg.HPT_PWB_HWM_block (n : Nat) : Reg.HPT_PWB_HWM n / 65536 = 2 := by simp only [Reg.HPT_PWB_HWM]; omega
@[simp] theorem Reg.HPT_DRAIN_CTL_block (n : Nat) : Reg.HPT_DRAIN_CTL n / 65536 = 2 := by simp only [Reg.HPT_DRAIN_CTL]; omega
@[simp] theorem Reg.HPT_DRAIN_STAT_block (n : Nat) : Reg.HPT_DRAIN_STAT n / 65536 = 2 := by simp only [Reg.HPT_DRAIN_STAT]; omega
@[simp] theorem Reg.HPT_DEC_ERR_block (n : Nat) : Reg.HPT_DEC_ERR n / 65536 = 2 := by simp only [Reg.HPT_DEC_ERR]; omega
@[simp] theorem Reg.HPT_DEC_STAT_block (n : Nat) : Reg.HPT_DEC_STAT n / 65536 = 2 := by simp only [Reg.HPT_DEC_STAT]; omega
@[simp] theorem Reg.HPT_IDE_STAT_block (n : Nat) : Reg.HPT_IDE_STAT n / 65536 = 2 := by simp only [Reg.HPT_IDE_STAT]; omega
@[simp] theorem Reg.HPT_IDE_CTL_block (n : Nat) : Reg.HPT_IDE_CTL n / 65536 = 2 := by simp only [Reg.HPT_IDE_CTL]; omega
@[simp] theorem Reg.HPT_IDE_ERR_CNT_block (n : Nat) : Reg.HPT_IDE_ERR_CNT n / 65536 = 2 := by simp only [Reg.HPT_IDE_ERR_CNT]; omega
@[simp] theorem Reg.HPT_IDE_TX_IV_LO_block (n : Nat) : Reg.HPT_IDE_TX_IV_LO n / 65536 = 2 := by simp only [Reg.HPT_IDE_TX_IV_LO]; omega
@[simp] theorem Reg.HPT_IDE_TX_IV_HI_block (n : Nat) : Reg.HPT_IDE_TX_IV_HI n / 65536 = 2 := by simp only [Reg.HPT_IDE_TX_IV_HI]; omega
@[simp] theorem Reg.HPT_IDE_RX_IV_LO_block (n : Nat) : Reg.HPT_IDE_RX_IV_LO n / 65536 = 2 := by simp only [Reg.HPT_IDE_RX_IV_LO]; omega
@[simp] theorem Reg.HPT_IDE_RX_IV_HI_block (n : Nat) : Reg.HPT_IDE_RX_IV_HI n / 65536 = 2 := by simp only [Reg.HPT_IDE_RX_IV_HI]; omega
@[simp] theorem Reg.HPT_GPF_STAT_block (n : Nat) : Reg.HPT_GPF_STAT n / 65536 = 2 := by simp only [Reg.HPT_GPF_STAT]; omega
@[simp] theorem Reg.HPT_GPF_TIME_block (n : Nat) : Reg.HPT_GPF_TIME n / 65536 = 2 := by simp only [Reg.HPT_GPF_TIME]; omega
@[simp] theorem Reg.HPT_MBOX_STAT_block (n : Nat) : Reg.HPT_MBOX_STAT n / 65536 = 2 := by simp only [Reg.HPT_MBOX_STAT]; omega
@[simp] theorem Reg.HPT_MBOX_LAST_block (n : Nat) : Reg.HPT_MBOX_LAST n / 65536 = 2 := by simp only [Reg.HPT_MBOX_LAST]; omega
@[simp] theorem Reg.HPT_BG_STAT_block (n : Nat) : Reg.HPT_BG_STAT n / 65536 = 2 := by simp only [Reg.HPT_BG_STAT]; omega
@[simp] theorem Reg.HPT_RD_CNT_LO_block (n : Nat) : Reg.HPT_RD_CNT_LO n / 65536 = 2 := by simp only [Reg.HPT_RD_CNT_LO]; omega
@[simp] theorem Reg.HPT_RD_CNT_HI_block (n : Nat) : Reg.HPT_RD_CNT_HI n / 65536 = 2 := by simp only [Reg.HPT_RD_CNT_HI]; omega
@[simp] theorem Reg.HPT_WR_CNT_LO_block (n : Nat) : Reg.HPT_WR_CNT_LO n / 65536 = 2 := by simp only [Reg.HPT_WR_CNT_LO]; omega
@[simp] theorem Reg.HPT_WR_CNT_HI_block (n : Nat) : Reg.HPT_WR_CNT_HI n / 65536 = 2 := by simp only [Reg.HPT_WR_CNT_HI]; omega
@[simp] theorem Reg.HPT_WR_REFUSED_block (n : Nat) : Reg.HPT_WR_REFUSED n / 65536 = 2 := by simp only [Reg.HPT_WR_REFUSED]; omega
@[simp] theorem Reg.HPT_POISON_TX_block (n : Nat) : Reg.HPT_POISON_TX n / 65536 = 2 := by simp only [Reg.HPT_POISON_TX]; omega
@[simp] theorem Reg.HPT_TMO_NEAR_block (n : Nat) : Reg.HPT_TMO_NEAR n / 65536 = 2 := by simp only [Reg.HPT_TMO_NEAR]; omega
@[simp] theorem Reg.HPT_ADMIT_PAUSE_block (n : Nat) : Reg.HPT_ADMIT_PAUSE n / 65536 = 2 := by simp only [Reg.HPT_ADMIT_PAUSE]; omega
@[simp] theorem Reg.HPT_DEVLOAD_block (n : Nat) : Reg.HPT_DEVLOAD n / 65536 = 2 := by simp only [Reg.HPT_DEVLOAD]; omega
@[simp] theorem Reg.HPT_LAT_RD_block (n : Nat) : Reg.HPT_LAT_RD n / 65536 = 2 := by simp only [Reg.HPT_LAT_RD]; omega
@[simp] theorem Reg.HPT_LAT_WR_block (n : Nat) : Reg.HPT_LAT_WR n / 65536 = 2 := by simp only [Reg.HPT_LAT_WR]; omega
@[simp] theorem Reg.HPT_ERR_STAT_block (n : Nat) : Reg.HPT_ERR_STAT n / 65536 = 2 := by simp only [Reg.HPT_ERR_STAT]; omega
@[simp] theorem Reg.HPT_ERR_EN_block (n : Nat) : Reg.HPT_ERR_EN n / 65536 = 2 := by simp only [Reg.HPT_ERR_EN]; omega
@[simp] theorem Reg.HPT_INT_STAT_block (n : Nat) : Reg.HPT_INT_STAT n / 65536 = 2 := by simp only [Reg.HPT_INT_STAT]; omega
@[simp] theorem Reg.HPT_INT_EN_block (n : Nat) : Reg.HPT_INT_EN n / 65536 = 2 := by simp only [Reg.HPT_INT_EN]; omega
@[simp] theorem Reg.HPT_SNAP_STAT_block (n : Nat) : Reg.HPT_SNAP_STAT n / 65536 = 2 := by simp only [Reg.HPT_SNAP_STAT]; omega
@[simp] theorem Reg.HPT_SNAP_PWB_block (n : Nat) : Reg.HPT_SNAP_PWB n / 65536 = 2 := by simp only [Reg.HPT_SNAP_PWB]; omega
@[simp] theorem Reg.HPT_EVT_PEND_block (n : Nat) : Reg.HPT_EVT_PEND n / 65536 = 2 := by simp only [Reg.HPT_EVT_PEND]; omega
@[simp] theorem Reg.HPT_EVT_OVF_block (n : Nat) : Reg.HPT_EVT_OVF n / 65536 = 2 := by simp only [Reg.HPT_EVT_OVF]; omega
@[simp] theorem Reg.TRVn_CTL_block (n : Nat) : Reg.TRVn_CTL n / 65536 = 5 := by simp only [Reg.TRVn_CTL]; omega
@[simp] theorem Reg.TRVn_STAT_block (n : Nat) : Reg.TRVn_STAT n / 65536 = 5 := by simp only [Reg.TRVn_STAT]; omega
@[simp] theorem Reg.TRVn_DIE_block (n : Nat) : Reg.TRVn_DIE n / 65536 = 5 := by simp only [Reg.TRVn_DIE]; omega
@[simp] theorem Reg.TRVn_PHY_block (n : Nat) : Reg.TRVn_PHY n / 65536 = 5 := by simp only [Reg.TRVn_PHY]; omega
@[simp] theorem Reg.TRVn_TEMP_block (n : Nat) : Reg.TRVn_TEMP n / 65536 = 5 := by simp only [Reg.TRVn_TEMP]; omega
@[simp] theorem Reg.TRVn_ERR_CNT_block (n : Nat) : Reg.TRVn_ERR_CNT n / 65536 = 5 := by simp only [Reg.TRVn_ERR_CNT]; omega
@[simp] theorem Reg.TRVn_UTIL_block (n : Nat) : Reg.TRVn_UTIL n / 65536 = 5 := by simp only [Reg.TRVn_UTIL]; omega
@[simp] theorem Reg.TRVn_SNAP_block (n : Nat) : Reg.TRVn_SNAP n / 65536 = 5 := by simp only [Reg.TRVn_SNAP]; omega
@[simp] theorem Reg.En_CTL_block (n : Nat) : Reg.En_CTL n / 65536 = 11 := by simp only [Reg.En_CTL]; omega
@[simp] theorem Reg.En_STAT_block (n : Nat) : Reg.En_STAT n / 65536 = 11 := by simp only [Reg.En_STAT]; omega
@[simp] theorem Reg.En_WDOG_block (n : Nat) : Reg.En_WDOG n / 65536 = 11 := by simp only [Reg.En_WDOG]; omega
@[simp] theorem Reg.En_SNAP_block (n : Nat) : Reg.En_SNAP n / 65536 = 11 := by simp only [Reg.En_SNAP]; omega
@[simp] theorem Reg.THM_TS_block (n : Nat) : Reg.THM_TS n / 65536 = 14 := by simp only [Reg.THM_TS]; omega
@[simp] theorem Reg.SVY_WIN_block (n : Nat) : Reg.SVY_WIN n / 65536 = 15 := by simp only [Reg.SVY_WIN]; omega
@[simp] theorem Reg.PMC_CFG_block (n : Nat) : Reg.PMC_CFG n / 65536 = 15 := by simp only [Reg.PMC_CFG]; omega
@[simp] theorem Reg.PMC_CNT_block (n : Nat) : Reg.PMC_CNT n / 65536 = 15 := by simp only [Reg.PMC_CNT]; omega

/-- A set within a set within `m`. -/
theorem sub_of {g : Nat} (h : g ||| f = f) (hm : f ||| m = m) : g ||| m = m := by
  rw [← hm, ← Nat.or_assoc, h]

theorem bit_of {k : Nat} (h : f.testBit k = true) (hm : f ||| m = m) : m.testBit k = true := by
  rw [← hm, Nat.testBit_or, h, Bool.true_or]

/-- The next state of an outcome. -/
structure ResT (m : Nat) (s : State) (r : Res) : Prop where
  all : ∀ t, r = .next t → Touches m s t

/-- The state an operation may answer. -/
structure OptT (m : Nat) (s : State) (r : Option State) : Prop where
  all : ∀ t, r = some t → Touches m s t

structure OptT2 (m : Nat) (s : State) (r : Option (α × State)) : Prop where
  all : ∀ a t, r = some (a, t) → Touches m s t

structure OptT3 (m : Nat) (s : State) (r : Option (α × β × State)) : Prop where
  all : ∀ a b t, r = some (a, b, t) → Touches m s t

structure FstT (m : Nat) (s : State) (r : State × α) : Prop where
  all : Touches m s r.1

structure SndT (m : Nat) (s : State) (r : α × State) : Prop where
  all : Touches m s r.2

theorem ResT.next (a : Touches m s t) : ResT m s (.next t) := ⟨fun _ e => by cases e; exact a⟩

theorem ResT.step {r : Res} (a : Touches m s t) (b : ResT f t r) (h : f ||| m = m) : ResT m s r :=
  ⟨fun u e => a.step (b.all u e) h⟩

theorem OptT.none : OptT m s none := ⟨fun _ e => by cases e⟩

theorem OptT.some (a : Touches m s t) : OptT m s (some t) := ⟨fun _ e => by cases e; exact a⟩

theorem OptT.step {r : Option State} (a : Touches m s t) (b : OptT f t r) (h : f ||| m = m) : OptT m s r :=
  ⟨fun u e => a.step (b.all u e) h⟩

theorem OptT.get {r : Option State} (b : OptT f t r) (e : r = .some u) (a : Touches m s t) (h : f ||| m = m) :
    Touches m s u := a.step (b.all u e) h

theorem OptT.map {o : Option α} {g : α → State} (h : ∀ x, Touches m s (g x)) : OptT m s (o.map g) :=
  ⟨fun u e => by obtain ⟨x, _, rfl⟩ := Option.map_eq_some_iff.1 e; exact h x⟩

theorem OptT.bind {o : Option α} {g : α → Option State} (h : ∀ x, OptT m s (g x)) : OptT m s (o.bind g) :=
  ⟨fun u e => by obtain ⟨x, _, e⟩ := Option.bind_eq_some_iff.1 e; exact (h x).all u e⟩

/-- An option with a default. -/
theorem Touches.getD {o : Option State} (b : OptT m s o) (a : Touches m s t) : Touches m s (o.getD t) := by
  cases o with
  | none => exact a
  | some u => exact b.all u rfl

theorem OptT2.snd {o : Option (α × State)} (b : OptT2 m s o) : OptT m s (o.map fun x => x.2) :=
  ⟨fun u e => by obtain ⟨x, h, rfl⟩ := Option.map_eq_some_iff.1 e; exact b.all x.1 x.2 h⟩

theorem OptT2.map {o : Option β} {g : β → α × State} (h : ∀ x, Touches m s (g x).2) : OptT2 m s (o.map g) :=
  ⟨fun a u e => by obtain ⟨x, _, e⟩ := Option.map_eq_some_iff.1 e; have := h x; rw [e] at this; exact this⟩

theorem OptT3.map {γ : Type} {o : Option γ} {g : γ → α × β × State} (h : ∀ x, Touches m s (g x).2.2) : OptT3 m s (o.map g) :=
  ⟨fun a b u e => by obtain ⟨x, _, e⟩ := Option.map_eq_some_iff.1 e; have := h x; rw [e] at this; exact this⟩

theorem OptT2.none : OptT2 (α := α) m s none := ⟨fun _ _ e => by cases e⟩

theorem OptT2.some {x : α} (a : Touches m s t) : OptT2 m s (some (x, t)) := ⟨fun _ _ e => by cases e; exact a⟩

theorem OptT2.step {r : Option (α × State)} (a : Touches m s t) (b : OptT2 f t r) (h : f ||| m = m) : OptT2 m s r :=
  ⟨fun x u e => a.step (b.all x u e) h⟩

theorem OptT2.get {r : Option (α × State)} {x : α} (b : OptT2 f t r) (e : r = .some (x, u)) (a : Touches m s t)
    (h : f ||| m = m) : Touches m s u := a.step (b.all x u e) h

theorem OptT3.none : OptT3 (α := α) (β := β) m s none := ⟨fun _ _ _ e => by cases e⟩

theorem OptT3.some {x : α} {y : β} (a : Touches m s t) : OptT3 m s (some (x, y, t)) := ⟨fun _ _ _ e => by cases e; exact a⟩

theorem OptT3.step {r : Option (α × β × State)} (a : Touches m s t) (b : OptT3 f t r) (h : f ||| m = m) : OptT3 m s r :=
  ⟨fun x y u e => a.step (b.all x y u e) h⟩

theorem OptT3.get {r : Option (α × β × State)} {x : α} {y : β} (b : OptT3 f t r) (e : r = .some (x, y, u))
    (a : Touches m s t) (h : f ||| m = m) : Touches m s u := a.step (b.all x y u e) h

theorem FstT.pair {x : α} (a : Touches m s t) : FstT m s (t, x) := ⟨a⟩

theorem FstT.step {r : State × α} (a : Touches m s t) (b : FstT f t r) (h : f ||| m = m) : FstT m s r := ⟨a.step b.all h⟩

theorem FstT.fst {r : State × α} (b : FstT f t r) (a : Touches m s t) (h : f ||| m = m) : Touches m s r.1 := a.step b.all h

theorem FstT.get {r : State × α} {x : α} (b : FstT f t r) (e : r = (u, x)) (a : Touches m s t) (h : f ||| m = m) :
    Touches m s u := by subst e; exact a.step b.all h

theorem SndT.pair {x : α} (a : Touches m s t) : SndT m s (x, t) := ⟨a⟩

theorem SndT.step {r : α × State} (a : Touches m s t) (b : SndT f t r) (h : f ||| m = m) : SndT m s r := ⟨a.step b.all h⟩

theorem SndT.snd {r : α × State} (b : SndT f t r) (a : Touches m s t) (h : f ||| m = m) : Touches m s r.2 := a.step b.all h

theorem SndT.get {r : α × State} {x : α} (b : SndT f t r) (e : r = (x, u)) (a : Touches m s t) (h : f ||| m = m) :
    Touches m s u := by subst e; exact a.step b.all h

end Sys2Proof.Machine
end

