-- ==== Sys2Proof/Laws/FootMeter.lean ====
section
/-! SUPPORT. The footprint of each operation of Machine/Meter.lean: the parts of the state it may change. -/

namespace Sys2Proof.Machine

theorem Foot.setBank : ∀ s x1, Touches 0x40000100 s (State.setBank s x1) := by
  intro s x1
  unfold State.setBank
  extract_lets +onlyGivenNames -underBinder v
  extract_lets +onlyGivenNames -underBinder v
  have hv : Touches 0x40000100 s v := by
    unfold v
    with_reducible refine Touches.modPwr ?_ ?_
    with_reducible exact Touches.refl _ _
    rfl
  clear_value v
  extract_lets +onlyGivenNames -underBinder v
  have hv : Touches 0x40000100 s v := by
    unfold v
    split
    with_reducible refine Touches.setBits ?_ ?_
    with_reducible assumption
    rfl
    with_reducible assumption
  clear_value v
  extract_lets +onlyGivenNames -underBinder v
  have hv : Touches 0x40000100 s v := by
    unfold v
    split
    with_reducible refine Touches.setBits ?_ ?_
    with_reducible assumption
    rfl
    with_reducible assumption
  clear_value v
  split
  with_reducible refine Touches.setBits ?_ ?_
  with_reducible assumption
  rfl
  with_reducible assumption

theorem Foot.bankArm : ∀ s, Touches 0x40000100 s (State.bankArm s) := by
  intro s
  unfold State.bankArm
  extract_lets +onlyGivenNames -underBinder v
  split
  split
  with_reducible refine Touches.step ?_ (Foot.setBank ..) ?_
  with_reducible exact Touches.refl _ _
  rfl
  with_reducible exact Touches.refl _ _
  split
  with_reducible refine Touches.step ?_ (Foot.setBank ..) ?_
  with_reducible exact Touches.refl _ _
  rfl
  with_reducible exact Touches.refl _ _
  with_reducible exact Touches.refl _ _

theorem Foot.gateFree : ∀ s x1, Touches 0x40000000 s (State.gateFree s x1) := by
  intro s x1
  unfold State.gateFree
  with_reducible refine Touches.modPwr ?_ ?_
  with_reducible exact Touches.refl _ _
  rfl

theorem Foot.setBudget : ∀ s, Touches 0x1000100 s (State.setBudget s) := by
  intro s
  unfold State.setBudget
  extract_lets +onlyGivenNames -underBinder v
  extract_lets +onlyGivenNames -underBinder v
  extract_lets +onlyGivenNames -underBinder v
  extract_lets +onlyGivenNames -underBinder v
  have hv : Touches 0x1000100 s v := by
    unfold v
    with_reducible refine Touches.modStg ?_ ?_
    with_reducible exact Touches.refl _ _
    rfl
  clear_value v
  split
  with_reducible refine Touches.setBits ?_ ?_
  with_reducible assumption
  rfl
  with_reducible assumption

theorem Foot.gateTake : ∀ s x1, Touches 0x41000100 s (State.gateTake s x1) := by
  intro s x1
  unfold State.gateTake
  with_reducible refine Touches.step ?_ (Foot.setBudget ..) ?_
  extract_lets +onlyGivenNames -underBinder v
  with_reducible refine Touches.modPwr ?_ ?_
  with_reducible exact Touches.refl _ _
  rfl
  rfl

theorem Foot.degrade : ∀ s x1 x2, Touches 0x584168a184 s (State.degrade s x1 x2) := by
  intro s x1 x2
  unfold State.degrade
  extract_lets +onlyGivenNames -underBinder v
  have hv : Touches 0x584168a184 s v := by
    unfold v
    with_reducible refine Touches.modPwr ?_ ?_
    with_reducible exact Touches.refl _ _
    rfl
  clear_value v
  extract_lets +onlyGivenNames -underBinder v
  have hv : Touches 0x584168a184 s v := by
    unfold v
    split
    with_reducible refine Touches.step ?_ (Foot.setBank ..) ?_
    with_reducible assumption
    rfl
    with_reducible assumption
  clear_value v
  with_reducible refine Touches.step ?_ (Foot.setBudget ..) ?_
  extract_lets +onlyGivenNames -underBinder v
  with_reducible refine Touches.raise ?_ ?_
  with_reducible assumption
  rfl
  rfl

theorem Foot.meter : ∀ s, Touches 0x41000100 s (State.meter s) := by
  intro s
  unfold State.meter
  extract_lets +onlyGivenNames -underBinder v
  extract_lets +onlyGivenNames -underBinder v
  with_reducible refine Touches.step ?_ (Foot.setBudget ..) ?_
  extract_lets +onlyGivenNames -underBinder v
  with_reducible refine Touches.modPwr ?_ ?_
  with_reducible exact Touches.refl _ _
  rfl
  rfl

end Sys2Proof.Machine
end

