-- ==== Sys2Proof/Laws/Regs.lean ====
section
/-! SUPPORT. The register operations of Machine/Ops.lean: each leaves every other component, and what each leaves in the
register it writes and in every other. -/

namespace Sys2Proof.Machine

variable (s : State) (o o' : Nat)

section
variable (n : Nat)
@[simp] theorem State.setNat_pending : (s.setNat o n).pending = s.pending := by simp only [State.setNat, State.setReg_pending]
@[simp] theorem State.setNat_bar2 : (s.setNat o n).bar2 = s.bar2 := by simp only [State.setNat, State.setReg_bar2]
@[simp] theorem State.setNat_mctp : (s.setNat o n).mctp = s.mctp := by simp only [State.setNat, State.setReg_mctp]
@[simp] theorem State.setNat_sys : (s.setNat o n).sys = s.sys := by simp only [State.setNat, State.setReg_sys]
@[simp] theorem State.setNat_dtm : (s.setNat o n).dtm = s.dtm := by simp only [State.setNat, State.setReg_dtm]
@[simp] theorem State.setNat_plat : (s.setNat o n).plat = s.plat := by simp only [State.setNat, State.setReg_plat]
@[simp] theorem State.setNat_port0 : (s.setNat o n).port0 = s.port0 := by simp only [State.setNat, State.setReg_port0]
@[simp] theorem State.setNat_port1 : (s.setNat o n).port1 = s.port1 := by simp only [State.setNat, State.setReg_port1]
@[simp] theorem State.setNat_svc : (s.setNat o n).svc = s.svc := by simp only [State.setNat, State.setReg_svc]
@[simp] theorem State.setNat_stg : (s.setNat o n).stg = s.stg := by simp only [State.setNat, State.setReg_stg]
@[simp] theorem State.setNat_cds : (s.setNat o n).cds = s.cds := by simp only [State.setNat, State.setReg_cds]
@[simp] theorem State.setNat_saved : (s.setNat o n).saved = s.saved := by simp only [State.setNat, State.setReg_saved]
@[simp] theorem State.setNat_med : (s.setNat o n).med = s.med := by simp only [State.setNat, State.setReg_med]
@[simp] theorem State.setNat_trv : (s.setNat o n).trv = s.trv := by simp only [State.setNat, State.setReg_trv]
@[simp] theorem State.setNat_mdc : (s.setNat o n).mdc = s.mdc := by simp only [State.setNat, State.setReg_mdc]
@[simp] theorem State.setNat_pwr : (s.setNat o n).pwr = s.pwr := by simp only [State.setNat, State.setReg_pwr]
@[simp] theorem State.setNat_pfl : (s.setNat o n).pfl = s.pfl := by simp only [State.setNat, State.setReg_pfl]
@[simp] theorem State.setNat_ime : (s.setNat o n).ime = s.ime := by simp only [State.setNat, State.setReg_ime]
@[simp] theorem State.setNat_cke : (s.setNat o n).cke = s.cke := by simp only [State.setNat, State.setReg_cke]
@[simp] theorem State.setNat_eng : (s.setNat o n).eng = s.eng := by simp only [State.setNat, State.setReg_eng]
@[simp] theorem State.setNat_pst : (s.setNat o n).pst = s.pst := by simp only [State.setNat, State.setReg_pst]
@[simp] theorem State.setNat_evr : (s.setNat o n).evr = s.evr := by simp only [State.setNat, State.setReg_evr]
@[simp] theorem State.setNat_thm : (s.setNat o n).thm = s.thm := by simp only [State.setNat, State.setReg_thm]
@[simp] theorem State.setNat_svy : (s.setNat o n).svy = s.svy := by simp only [State.setNat, State.setReg_svy]
@[simp] theorem State.setNat_out : (s.setNat o n).out = s.out := by simp only [State.setNat, State.setReg_out]
@[simp] theorem State.setNat_free : (s.setNat o n).free = s.free := by simp only [State.setNat, State.setReg_free]
end

section
variable (n : Nat)
@[simp] theorem State.setBits_pending : (s.setBits o n).pending = s.pending := by simp only [State.setBits, State.setReg_pending]
@[simp] theorem State.setBits_bar2 : (s.setBits o n).bar2 = s.bar2 := by simp only [State.setBits, State.setReg_bar2]
@[simp] theorem State.setBits_mctp : (s.setBits o n).mctp = s.mctp := by simp only [State.setBits, State.setReg_mctp]
@[simp] theorem State.setBits_sys : (s.setBits o n).sys = s.sys := by simp only [State.setBits, State.setReg_sys]
@[simp] theorem State.setBits_dtm : (s.setBits o n).dtm = s.dtm := by simp only [State.setBits, State.setReg_dtm]
@[simp] theorem State.setBits_plat : (s.setBits o n).plat = s.plat := by simp only [State.setBits, State.setReg_plat]
@[simp] theorem State.setBits_port0 : (s.setBits o n).port0 = s.port0 := by simp only [State.setBits, State.setReg_port0]
@[simp] theorem State.setBits_port1 : (s.setBits o n).port1 = s.port1 := by simp only [State.setBits, State.setReg_port1]
@[simp] theorem State.setBits_svc : (s.setBits o n).svc = s.svc := by simp only [State.setBits, State.setReg_svc]
@[simp] theorem State.setBits_stg : (s.setBits o n).stg = s.stg := by simp only [State.setBits, State.setReg_stg]
@[simp] theorem State.setBits_cds : (s.setBits o n).cds = s.cds := by simp only [State.setBits, State.setReg_cds]
@[simp] theorem State.setBits_saved : (s.setBits o n).saved = s.saved := by simp only [State.setBits, State.setReg_saved]
@[simp] theorem State.setBits_med : (s.setBits o n).med = s.med := by simp only [State.setBits, State.setReg_med]
@[simp] theorem State.setBits_trv : (s.setBits o n).trv = s.trv := by simp only [State.setBits, State.setReg_trv]
@[simp] theorem State.setBits_mdc : (s.setBits o n).mdc = s.mdc := by simp only [State.setBits, State.setReg_mdc]
@[simp] theorem State.setBits_pwr : (s.setBits o n).pwr = s.pwr := by simp only [State.setBits, State.setReg_pwr]
@[simp] theorem State.setBits_pfl : (s.setBits o n).pfl = s.pfl := by simp only [State.setBits, State.setReg_pfl]
@[simp] theorem State.setBits_ime : (s.setBits o n).ime = s.ime := by simp only [State.setBits, State.setReg_ime]
@[simp] theorem State.setBits_cke : (s.setBits o n).cke = s.cke := by simp only [State.setBits, State.setReg_cke]
@[simp] theorem State.setBits_eng : (s.setBits o n).eng = s.eng := by simp only [State.setBits, State.setReg_eng]
@[simp] theorem State.setBits_pst : (s.setBits o n).pst = s.pst := by simp only [State.setBits, State.setReg_pst]
@[simp] theorem State.setBits_evr : (s.setBits o n).evr = s.evr := by simp only [State.setBits, State.setReg_evr]
@[simp] theorem State.setBits_thm : (s.setBits o n).thm = s.thm := by simp only [State.setBits, State.setReg_thm]
@[simp] theorem State.setBits_svy : (s.setBits o n).svy = s.svy := by simp only [State.setBits, State.setReg_svy]
@[simp] theorem State.setBits_out : (s.setBits o n).out = s.out := by simp only [State.setBits, State.setReg_out]
@[simp] theorem State.setBits_free : (s.setBits o n).free = s.free := by simp only [State.setBits, State.setReg_free]
end

section
variable (n : Nat)
@[simp] theorem State.clearBits_pending : (s.clearBits o n).pending = s.pending := by simp only [State.clearBits, State.setReg_pending]
@[simp] theorem State.clearBits_bar2 : (s.clearBits o n).bar2 = s.bar2 := by simp only [State.clearBits, State.setReg_bar2]
@[simp] theorem State.clearBits_mctp : (s.clearBits o n).mctp = s.mctp := by simp only [State.clearBits, State.setReg_mctp]
@[simp] theorem State.clearBits_sys : (s.clearBits o n).sys = s.sys := by simp only [State.clearBits, State.setReg_sys]
@[simp] theorem State.clearBits_dtm : (s.clearBits o n).dtm = s.dtm := by simp only [State.clearBits, State.setReg_dtm]
@[simp] theorem State.clearBits_plat : (s.clearBits o n).plat = s.plat := by simp only [State.clearBits, State.setReg_plat]
@[simp] theorem State.clearBits_port0 : (s.clearBits o n).port0 = s.port0 := by simp only [State.clearBits, State.setReg_port0]
@[simp] theorem State.clearBits_port1 : (s.clearBits o n).port1 = s.port1 := by simp only [State.clearBits, State.setReg_port1]
@[simp] theorem State.clearBits_svc : (s.clearBits o n).svc = s.svc := by simp only [State.clearBits, State.setReg_svc]
@[simp] theorem State.clearBits_stg : (s.clearBits o n).stg = s.stg := by simp only [State.clearBits, State.setReg_stg]
@[simp] theorem State.clearBits_cds : (s.clearBits o n).cds = s.cds := by simp only [State.clearBits, State.setReg_cds]
@[simp] theorem State.clearBits_saved : (s.clearBits o n).saved = s.saved := by simp only [State.clearBits, State.setReg_saved]
@[simp] theorem State.clearBits_med : (s.clearBits o n).med = s.med := by simp only [State.clearBits, State.setReg_med]
@[simp] theorem State.clearBits_trv : (s.clearBits o n).trv = s.trv := by simp only [State.clearBits, State.setReg_trv]
@[simp] theorem State.clearBits_mdc : (s.clearBits o n).mdc = s.mdc := by simp only [State.clearBits, State.setReg_mdc]
@[simp] theorem State.clearBits_pwr : (s.clearBits o n).pwr = s.pwr := by simp only [State.clearBits, State.setReg_pwr]
@[simp] theorem State.clearBits_pfl : (s.clearBits o n).pfl = s.pfl := by simp only [State.clearBits, State.setReg_pfl]
@[simp] theorem State.clearBits_ime : (s.clearBits o n).ime = s.ime := by simp only [State.clearBits, State.setReg_ime]
@[simp] theorem State.clearBits_cke : (s.clearBits o n).cke = s.cke := by simp only [State.clearBits, State.setReg_cke]
@[simp] theorem State.clearBits_eng : (s.clearBits o n).eng = s.eng := by simp only [State.clearBits, State.setReg_eng]
@[simp] theorem State.clearBits_pst : (s.clearBits o n).pst = s.pst := by simp only [State.clearBits, State.setReg_pst]
@[simp] theorem State.clearBits_evr : (s.clearBits o n).evr = s.evr := by simp only [State.clearBits, State.setReg_evr]
@[simp] theorem State.clearBits_thm : (s.clearBits o n).thm = s.thm := by simp only [State.clearBits, State.setReg_thm]
@[simp] theorem State.clearBits_svy : (s.clearBits o n).svy = s.svy := by simp only [State.clearBits, State.setReg_svy]
@[simp] theorem State.clearBits_out : (s.clearBits o n).out = s.out := by simp only [State.clearBits, State.setReg_out]
@[simp] theorem State.clearBits_free : (s.clearBits o n).free = s.free := by simp only [State.clearBits, State.setReg_free]
end

section
@[simp] theorem State.clearReg_pending : (s.clearReg o).pending = s.pending := by simp only [State.clearReg, State.setReg_pending]
@[simp] theorem State.clearReg_bar2 : (s.clearReg o).bar2 = s.bar2 := by simp only [State.clearReg, State.setReg_bar2]
@[simp] theorem State.clearReg_mctp : (s.clearReg o).mctp = s.mctp := by simp only [State.clearReg, State.setReg_mctp]
@[simp] theorem State.clearReg_sys : (s.clearReg o).sys = s.sys := by simp only [State.clearReg, State.setReg_sys]
@[simp] theorem State.clearReg_dtm : (s.clearReg o).dtm = s.dtm := by simp only [State.clearReg, State.setReg_dtm]
@[simp] theorem State.clearReg_plat : (s.clearReg o).plat = s.plat := by simp only [State.clearReg, State.setReg_plat]
@[simp] theorem State.clearReg_port0 : (s.clearReg o).port0 = s.port0 := by simp only [State.clearReg, State.setReg_port0]
@[simp] theorem State.clearReg_port1 : (s.clearReg o).port1 = s.port1 := by simp only [State.clearReg, State.setReg_port1]
@[simp] theorem State.clearReg_svc : (s.clearReg o).svc = s.svc := by simp only [State.clearReg, State.setReg_svc]
@[simp] theorem State.clearReg_stg : (s.clearReg o).stg = s.stg := by simp only [State.clearReg, State.setReg_stg]
@[simp] theorem State.clearReg_cds : (s.clearReg o).cds = s.cds := by simp only [State.clearReg, State.setReg_cds]
@[simp] theorem State.clearReg_saved : (s.clearReg o).saved = s.saved := by simp only [State.clearReg, State.setReg_saved]
@[simp] theorem State.clearReg_med : (s.clearReg o).med = s.med := by simp only [State.clearReg, State.setReg_med]
@[simp] theorem State.clearReg_trv : (s.clearReg o).trv = s.trv := by simp only [State.clearReg, State.setReg_trv]
@[simp] theorem State.clearReg_mdc : (s.clearReg o).mdc = s.mdc := by simp only [State.clearReg, State.setReg_mdc]
@[simp] theorem State.clearReg_pwr : (s.clearReg o).pwr = s.pwr := by simp only [State.clearReg, State.setReg_pwr]
@[simp] theorem State.clearReg_pfl : (s.clearReg o).pfl = s.pfl := by simp only [State.clearReg, State.setReg_pfl]
@[simp] theorem State.clearReg_ime : (s.clearReg o).ime = s.ime := by simp only [State.clearReg, State.setReg_ime]
@[simp] theorem State.clearReg_cke : (s.clearReg o).cke = s.cke := by simp only [State.clearReg, State.setReg_cke]
@[simp] theorem State.clearReg_eng : (s.clearReg o).eng = s.eng := by simp only [State.clearReg, State.setReg_eng]
@[simp] theorem State.clearReg_pst : (s.clearReg o).pst = s.pst := by simp only [State.clearReg, State.setReg_pst]
@[simp] theorem State.clearReg_evr : (s.clearReg o).evr = s.evr := by simp only [State.clearReg, State.setReg_evr]
@[simp] theorem State.clearReg_thm : (s.clearReg o).thm = s.thm := by simp only [State.clearReg, State.setReg_thm]
@[simp] theorem State.clearReg_svy : (s.clearReg o).svy = s.svy := by simp only [State.clearReg, State.setReg_svy]
@[simp] theorem State.clearReg_out : (s.clearReg o).out = s.out := by simp only [State.clearReg, State.setReg_out]
@[simp] theorem State.clearReg_free : (s.clearReg o).free = s.free := by simp only [State.clearReg, State.setReg_free]
end

section
variable (n : Nat)
@[simp] theorem State.addReg_pending : (s.addReg o n).pending = s.pending := by simp only [State.addReg, State.setReg_pending]
@[simp] theorem State.addReg_bar2 : (s.addReg o n).bar2 = s.bar2 := by simp only [State.addReg, State.setReg_bar2]
@[simp] theorem State.addReg_mctp : (s.addReg o n).mctp = s.mctp := by simp only [State.addReg, State.setReg_mctp]
@[simp] theorem State.addReg_sys : (s.addReg o n).sys = s.sys := by simp only [State.addReg, State.setReg_sys]
@[simp] theorem State.addReg_dtm : (s.addReg o n).dtm = s.dtm := by simp only [State.addReg, State.setReg_dtm]
@[simp] theorem State.addReg_plat : (s.addReg o n).plat = s.plat := by simp only [State.addReg, State.setReg_plat]
@[simp] theorem State.addReg_port0 : (s.addReg o n).port0 = s.port0 := by simp only [State.addReg, State.setReg_port0]
@[simp] theorem State.addReg_port1 : (s.addReg o n).port1 = s.port1 := by simp only [State.addReg, State.setReg_port1]
@[simp] theorem State.addReg_svc : (s.addReg o n).svc = s.svc := by simp only [State.addReg, State.setReg_svc]
@[simp] theorem State.addReg_stg : (s.addReg o n).stg = s.stg := by simp only [State.addReg, State.setReg_stg]
@[simp] theorem State.addReg_cds : (s.addReg o n).cds = s.cds := by simp only [State.addReg, State.setReg_cds]
@[simp] theorem State.addReg_saved : (s.addReg o n).saved = s.saved := by simp only [State.addReg, State.setReg_saved]
@[simp] theorem State.addReg_med : (s.addReg o n).med = s.med := by simp only [State.addReg, State.setReg_med]
@[simp] theorem State.addReg_trv : (s.addReg o n).trv = s.trv := by simp only [State.addReg, State.setReg_trv]
@[simp] theorem State.addReg_mdc : (s.addReg o n).mdc = s.mdc := by simp only [State.addReg, State.setReg_mdc]
@[simp] theorem State.addReg_pwr : (s.addReg o n).pwr = s.pwr := by simp only [State.addReg, State.setReg_pwr]
@[simp] theorem State.addReg_pfl : (s.addReg o n).pfl = s.pfl := by simp only [State.addReg, State.setReg_pfl]
@[simp] theorem State.addReg_ime : (s.addReg o n).ime = s.ime := by simp only [State.addReg, State.setReg_ime]
@[simp] theorem State.addReg_cke : (s.addReg o n).cke = s.cke := by simp only [State.addReg, State.setReg_cke]
@[simp] theorem State.addReg_eng : (s.addReg o n).eng = s.eng := by simp only [State.addReg, State.setReg_eng]
@[simp] theorem State.addReg_pst : (s.addReg o n).pst = s.pst := by simp only [State.addReg, State.setReg_pst]
@[simp] theorem State.addReg_evr : (s.addReg o n).evr = s.evr := by simp only [State.addReg, State.setReg_evr]
@[simp] theorem State.addReg_thm : (s.addReg o n).thm = s.thm := by simp only [State.addReg, State.setReg_thm]
@[simp] theorem State.addReg_svy : (s.addReg o n).svy = s.svy := by simp only [State.addReg, State.setReg_svy]
@[simp] theorem State.addReg_out : (s.addReg o n).out = s.out := by simp only [State.addReg, State.setReg_out]
@[simp] theorem State.addReg_free : (s.addReg o n).free = s.free := by simp only [State.addReg, State.setReg_free]
end

section
@[simp] theorem State.incReg_pending : (s.incReg o).pending = s.pending := by simp only [State.incReg, State.addReg_pending]
@[simp] theorem State.incReg_bar2 : (s.incReg o).bar2 = s.bar2 := by simp only [State.incReg, State.addReg_bar2]
@[simp] theorem State.incReg_mctp : (s.incReg o).mctp = s.mctp := by simp only [State.incReg, State.addReg_mctp]
@[simp] theorem State.incReg_sys : (s.incReg o).sys = s.sys := by simp only [State.incReg, State.addReg_sys]
@[simp] theorem State.incReg_dtm : (s.incReg o).dtm = s.dtm := by simp only [State.incReg, State.addReg_dtm]
@[simp] theorem State.incReg_plat : (s.incReg o).plat = s.plat := by simp only [State.incReg, State.addReg_plat]
@[simp] theorem State.incReg_port0 : (s.incReg o).port0 = s.port0 := by simp only [State.incReg, State.addReg_port0]
@[simp] theorem State.incReg_port1 : (s.incReg o).port1 = s.port1 := by simp only [State.incReg, State.addReg_port1]
@[simp] theorem State.incReg_svc : (s.incReg o).svc = s.svc := by simp only [State.incReg, State.addReg_svc]
@[simp] theorem State.incReg_stg : (s.incReg o).stg = s.stg := by simp only [State.incReg, State.addReg_stg]
@[simp] theorem State.incReg_cds : (s.incReg o).cds = s.cds := by simp only [State.incReg, State.addReg_cds]
@[simp] theorem State.incReg_saved : (s.incReg o).saved = s.saved := by simp only [State.incReg, State.addReg_saved]
@[simp] theorem State.incReg_med : (s.incReg o).med = s.med := by simp only [State.incReg, State.addReg_med]
@[simp] theorem State.incReg_trv : (s.incReg o).trv = s.trv := by simp only [State.incReg, State.addReg_trv]
@[simp] theorem State.incReg_mdc : (s.incReg o).mdc = s.mdc := by simp only [State.incReg, State.addReg_mdc]
@[simp] theorem State.incReg_pwr : (s.incReg o).pwr = s.pwr := by simp only [State.incReg, State.addReg_pwr]
@[simp] theorem State.incReg_pfl : (s.incReg o).pfl = s.pfl := by simp only [State.incReg, State.addReg_pfl]
@[simp] theorem State.incReg_ime : (s.incReg o).ime = s.ime := by simp only [State.incReg, State.addReg_ime]
@[simp] theorem State.incReg_cke : (s.incReg o).cke = s.cke := by simp only [State.incReg, State.addReg_cke]
@[simp] theorem State.incReg_eng : (s.incReg o).eng = s.eng := by simp only [State.incReg, State.addReg_eng]
@[simp] theorem State.incReg_pst : (s.incReg o).pst = s.pst := by simp only [State.incReg, State.addReg_pst]
@[simp] theorem State.incReg_evr : (s.incReg o).evr = s.evr := by simp only [State.incReg, State.addReg_evr]
@[simp] theorem State.incReg_thm : (s.incReg o).thm = s.thm := by simp only [State.incReg, State.addReg_thm]
@[simp] theorem State.incReg_svy : (s.incReg o).svy = s.svy := by simp only [State.incReg, State.addReg_svy]
@[simp] theorem State.incReg_out : (s.incReg o).out = s.out := by simp only [State.incReg, State.addReg_out]
@[simp] theorem State.incReg_free : (s.incReg o).free = s.free := by simp only [State.incReg, State.addReg_free]
end

section
variable (l w v : Nat)
@[simp] theorem State.setField_pending : (s.setField o l w v).pending = s.pending := by simp only [State.setField, State.setBits_pending, State.clearBits_pending]
@[simp] theorem State.setField_bar2 : (s.setField o l w v).bar2 = s.bar2 := by simp only [State.setField, State.setBits_bar2, State.clearBits_bar2]
@[simp] theorem State.setField_mctp : (s.setField o l w v).mctp = s.mctp := by simp only [State.setField, State.setBits_mctp, State.clearBits_mctp]
@[simp] theorem State.setField_sys : (s.setField o l w v).sys = s.sys := by simp only [State.setField, State.setBits_sys, State.clearBits_sys]
@[simp] theorem State.setField_dtm : (s.setField o l w v).dtm = s.dtm := by simp only [State.setField, State.setBits_dtm, State.clearBits_dtm]
@[simp] theorem State.setField_plat : (s.setField o l w v).plat = s.plat := by simp only [State.setField, State.setBits_plat, State.clearBits_plat]
@[simp] theorem State.setField_port0 : (s.setField o l w v).port0 = s.port0 := by simp only [State.setField, State.setBits_port0, State.clearBits_port0]
@[simp] theorem State.setField_port1 : (s.setField o l w v).port1 = s.port1 := by simp only [State.setField, State.setBits_port1, State.clearBits_port1]
@[simp] theorem State.setField_svc : (s.setField o l w v).svc = s.svc := by simp only [State.setField, State.setBits_svc, State.clearBits_svc]
@[simp] theorem State.setField_stg : (s.setField o l w v).stg = s.stg := by simp only [State.setField, State.setBits_stg, State.clearBits_stg]
@[simp] theorem State.setField_cds : (s.setField o l w v).cds = s.cds := by simp only [State.setField, State.setBits_cds, State.clearBits_cds]
@[simp] theorem State.setField_saved : (s.setField o l w v).saved = s.saved := by simp only [State.setField, State.setBits_saved, State.clearBits_saved]
@[simp] theorem State.setField_med : (s.setField o l w v).med = s.med := by simp only [State.setField, State.setBits_med, State.clearBits_med]
@[simp] theorem State.setField_trv : (s.setField o l w v).trv = s.trv := by simp only [State.setField, State.setBits_trv, State.clearBits_trv]
@[simp] theorem State.setField_mdc : (s.setField o l w v).mdc = s.mdc := by simp only [State.setField, State.setBits_mdc, State.clearBits_mdc]
@[simp] theorem State.setField_pwr : (s.setField o l w v).pwr = s.pwr := by simp only [State.setField, State.setBits_pwr, State.clearBits_pwr]
@[simp] theorem State.setField_pfl : (s.setField o l w v).pfl = s.pfl := by simp only [State.setField, State.setBits_pfl, State.clearBits_pfl]
@[simp] theorem State.setField_ime : (s.setField o l w v).ime = s.ime := by simp only [State.setField, State.setBits_ime, State.clearBits_ime]
@[simp] theorem State.setField_cke : (s.setField o l w v).cke = s.cke := by simp only [State.setField, State.setBits_cke, State.clearBits_cke]
@[simp] theorem State.setField_eng : (s.setField o l w v).eng = s.eng := by simp only [State.setField, State.setBits_eng, State.clearBits_eng]
@[simp] theorem State.setField_pst : (s.setField o l w v).pst = s.pst := by simp only [State.setField, State.setBits_pst, State.clearBits_pst]
@[simp] theorem State.setField_evr : (s.setField o l w v).evr = s.evr := by simp only [State.setField, State.setBits_evr, State.clearBits_evr]
@[simp] theorem State.setField_thm : (s.setField o l w v).thm = s.thm := by simp only [State.setField, State.setBits_thm, State.clearBits_thm]
@[simp] theorem State.setField_svy : (s.setField o l w v).svy = s.svy := by simp only [State.setField, State.setBits_svy, State.clearBits_svy]
@[simp] theorem State.setField_out : (s.setField o l w v).out = s.out := by simp only [State.setField, State.setBits_out, State.clearBits_out]
@[simp] theorem State.setField_free : (s.setField o l w v).free = s.free := by simp only [State.setField, State.setBits_free, State.clearBits_free]
end

section
variable (l w v : Nat)
@[simp] theorem State.satField_pending : (s.satField o l w v).pending = s.pending := by simp only [State.satField, State.setField_pending]
@[simp] theorem State.satField_bar2 : (s.satField o l w v).bar2 = s.bar2 := by simp only [State.satField, State.setField_bar2]
@[simp] theorem State.satField_mctp : (s.satField o l w v).mctp = s.mctp := by simp only [State.satField, State.setField_mctp]
@[simp] theorem State.satField_sys : (s.satField o l w v).sys = s.sys := by simp only [State.satField, State.setField_sys]
@[simp] theorem State.satField_dtm : (s.satField o l w v).dtm = s.dtm := by simp only [State.satField, State.setField_dtm]
@[simp] theorem State.satField_plat : (s.satField o l w v).plat = s.plat := by simp only [State.satField, State.setField_plat]
@[simp] theorem State.satField_port0 : (s.satField o l w v).port0 = s.port0 := by simp only [State.satField, State.setField_port0]
@[simp] theorem State.satField_port1 : (s.satField o l w v).port1 = s.port1 := by simp only [State.satField, State.setField_port1]
@[simp] theorem State.satField_svc : (s.satField o l w v).svc = s.svc := by simp only [State.satField, State.setField_svc]
@[simp] theorem State.satField_stg : (s.satField o l w v).stg = s.stg := by simp only [State.satField, State.setField_stg]
@[simp] theorem State.satField_cds : (s.satField o l w v).cds = s.cds := by simp only [State.satField, State.setField_cds]
@[simp] theorem State.satField_saved : (s.satField o l w v).saved = s.saved := by simp only [State.satField, State.setField_saved]
@[simp] theorem State.satField_med : (s.satField o l w v).med = s.med := by simp only [State.satField, State.setField_med]
@[simp] theorem State.satField_trv : (s.satField o l w v).trv = s.trv := by simp only [State.satField, State.setField_trv]
@[simp] theorem State.satField_mdc : (s.satField o l w v).mdc = s.mdc := by simp only [State.satField, State.setField_mdc]
@[simp] theorem State.satField_pwr : (s.satField o l w v).pwr = s.pwr := by simp only [State.satField, State.setField_pwr]
@[simp] theorem State.satField_pfl : (s.satField o l w v).pfl = s.pfl := by simp only [State.satField, State.setField_pfl]
@[simp] theorem State.satField_ime : (s.satField o l w v).ime = s.ime := by simp only [State.satField, State.setField_ime]
@[simp] theorem State.satField_cke : (s.satField o l w v).cke = s.cke := by simp only [State.satField, State.setField_cke]
@[simp] theorem State.satField_eng : (s.satField o l w v).eng = s.eng := by simp only [State.satField, State.setField_eng]
@[simp] theorem State.satField_pst : (s.satField o l w v).pst = s.pst := by simp only [State.satField, State.setField_pst]
@[simp] theorem State.satField_evr : (s.satField o l w v).evr = s.evr := by simp only [State.satField, State.setField_evr]
@[simp] theorem State.satField_thm : (s.satField o l w v).thm = s.thm := by simp only [State.satField, State.setField_thm]
@[simp] theorem State.satField_svy : (s.satField o l w v).svy = s.svy := by simp only [State.satField, State.setField_svy]
@[simp] theorem State.satField_out : (s.satField o l w v).out = s.out := by simp only [State.satField, State.setField_out]
@[simp] theorem State.satField_free : (s.satField o l w v).free = s.free := by simp only [State.satField, State.setField_free]
end

section
variable (n : Nat)
@[simp] theorem State.addPair_pending : (s.addPair o n).pending = s.pending := by simp only [State.addPair, State.setNat_pending]
@[simp] theorem State.addPair_bar2 : (s.addPair o n).bar2 = s.bar2 := by simp only [State.addPair, State.setNat_bar2]
@[simp] theorem State.addPair_mctp : (s.addPair o n).mctp = s.mctp := by simp only [State.addPair, State.setNat_mctp]
@[simp] theorem State.addPair_sys : (s.addPair o n).sys = s.sys := by simp only [State.addPair, State.setNat_sys]
@[simp] theorem State.addPair_dtm : (s.addPair o n).dtm = s.dtm := by simp only [State.addPair, State.setNat_dtm]
@[simp] theorem State.addPair_plat : (s.addPair o n).plat = s.plat := by simp only [State.addPair, State.setNat_plat]
@[simp] theorem State.addPair_port0 : (s.addPair o n).port0 = s.port0 := by simp only [State.addPair, State.setNat_port0]
@[simp] theorem State.addPair_port1 : (s.addPair o n).port1 = s.port1 := by simp only [State.addPair, State.setNat_port1]
@[simp] theorem State.addPair_svc : (s.addPair o n).svc = s.svc := by simp only [State.addPair, State.setNat_svc]
@[simp] theorem State.addPair_stg : (s.addPair o n).stg = s.stg := by simp only [State.addPair, State.setNat_stg]
@[simp] theorem State.addPair_cds : (s.addPair o n).cds = s.cds := by simp only [State.addPair, State.setNat_cds]
@[simp] theorem State.addPair_saved : (s.addPair o n).saved = s.saved := by simp only [State.addPair, State.setNat_saved]
@[simp] theorem State.addPair_med : (s.addPair o n).med = s.med := by simp only [State.addPair, State.setNat_med]
@[simp] theorem State.addPair_trv : (s.addPair o n).trv = s.trv := by simp only [State.addPair, State.setNat_trv]
@[simp] theorem State.addPair_mdc : (s.addPair o n).mdc = s.mdc := by simp only [State.addPair, State.setNat_mdc]
@[simp] theorem State.addPair_pwr : (s.addPair o n).pwr = s.pwr := by simp only [State.addPair, State.setNat_pwr]
@[simp] theorem State.addPair_pfl : (s.addPair o n).pfl = s.pfl := by simp only [State.addPair, State.setNat_pfl]
@[simp] theorem State.addPair_ime : (s.addPair o n).ime = s.ime := by simp only [State.addPair, State.setNat_ime]
@[simp] theorem State.addPair_cke : (s.addPair o n).cke = s.cke := by simp only [State.addPair, State.setNat_cke]
@[simp] theorem State.addPair_eng : (s.addPair o n).eng = s.eng := by simp only [State.addPair, State.setNat_eng]
@[simp] theorem State.addPair_pst : (s.addPair o n).pst = s.pst := by simp only [State.addPair, State.setNat_pst]
@[simp] theorem State.addPair_evr : (s.addPair o n).evr = s.evr := by simp only [State.addPair, State.setNat_evr]
@[simp] theorem State.addPair_thm : (s.addPair o n).thm = s.thm := by simp only [State.addPair, State.setNat_thm]
@[simp] theorem State.addPair_svy : (s.addPair o n).svy = s.svy := by simp only [State.addPair, State.setNat_svy]
@[simp] theorem State.addPair_out : (s.addPair o n).out = s.out := by simp only [State.addPair, State.setNat_out]
@[simp] theorem State.addPair_free : (s.addPair o n).free = s.free := by simp only [State.addPair, State.setNat_free]
end

section
variable (n : Nat)
@[simp] theorem State.setPair_pending : (s.setPair o n).pending = s.pending := by simp only [State.setPair, State.setNat_pending]
@[simp] theorem State.setPair_bar2 : (s.setPair o n).bar2 = s.bar2 := by simp only [State.setPair, State.setNat_bar2]
@[simp] theorem State.setPair_mctp : (s.setPair o n).mctp = s.mctp := by simp only [State.setPair, State.setNat_mctp]
@[simp] theorem State.setPair_sys : (s.setPair o n).sys = s.sys := by simp only [State.setPair, State.setNat_sys]
@[simp] theorem State.setPair_dtm : (s.setPair o n).dtm = s.dtm := by simp only [State.setPair, State.setNat_dtm]
@[simp] theorem State.setPair_plat : (s.setPair o n).plat = s.plat := by simp only [State.setPair, State.setNat_plat]
@[simp] theorem State.setPair_port0 : (s.setPair o n).port0 = s.port0 := by simp only [State.setPair, State.setNat_port0]
@[simp] theorem State.setPair_port1 : (s.setPair o n).port1 = s.port1 := by simp only [State.setPair, State.setNat_port1]
@[simp] theorem State.setPair_svc : (s.setPair o n).svc = s.svc := by simp only [State.setPair, State.setNat_svc]
@[simp] theorem State.setPair_stg : (s.setPair o n).stg = s.stg := by simp only [State.setPair, State.setNat_stg]
@[simp] theorem State.setPair_cds : (s.setPair o n).cds = s.cds := by simp only [State.setPair, State.setNat_cds]
@[simp] theorem State.setPair_saved : (s.setPair o n).saved = s.saved := by simp only [State.setPair, State.setNat_saved]
@[simp] theorem State.setPair_med : (s.setPair o n).med = s.med := by simp only [State.setPair, State.setNat_med]
@[simp] theorem State.setPair_trv : (s.setPair o n).trv = s.trv := by simp only [State.setPair, State.setNat_trv]
@[simp] theorem State.setPair_mdc : (s.setPair o n).mdc = s.mdc := by simp only [State.setPair, State.setNat_mdc]
@[simp] theorem State.setPair_pwr : (s.setPair o n).pwr = s.pwr := by simp only [State.setPair, State.setNat_pwr]
@[simp] theorem State.setPair_pfl : (s.setPair o n).pfl = s.pfl := by simp only [State.setPair, State.setNat_pfl]
@[simp] theorem State.setPair_ime : (s.setPair o n).ime = s.ime := by simp only [State.setPair, State.setNat_ime]
@[simp] theorem State.setPair_cke : (s.setPair o n).cke = s.cke := by simp only [State.setPair, State.setNat_cke]
@[simp] theorem State.setPair_eng : (s.setPair o n).eng = s.eng := by simp only [State.setPair, State.setNat_eng]
@[simp] theorem State.setPair_pst : (s.setPair o n).pst = s.pst := by simp only [State.setPair, State.setNat_pst]
@[simp] theorem State.setPair_evr : (s.setPair o n).evr = s.evr := by simp only [State.setPair, State.setNat_evr]
@[simp] theorem State.setPair_thm : (s.setPair o n).thm = s.thm := by simp only [State.setPair, State.setNat_thm]
@[simp] theorem State.setPair_svy : (s.setPair o n).svy = s.svy := by simp only [State.setPair, State.setNat_svy]
@[simp] theorem State.setPair_out : (s.setPair o n).out = s.out := by simp only [State.setPair, State.setNat_out]
@[simp] theorem State.setPair_free : (s.setPair o n).free = s.free := by simp only [State.setPair, State.setNat_free]
end

section
variable (n : Nat)
@[simp] theorem State.maxReg_pending : (s.maxReg o n).pending = s.pending := by unfold State.maxReg; split <;> simp only [State.setNat_pending]
@[simp] theorem State.maxReg_bar2 : (s.maxReg o n).bar2 = s.bar2 := by unfold State.maxReg; split <;> simp only [State.setNat_bar2]
@[simp] theorem State.maxReg_mctp : (s.maxReg o n).mctp = s.mctp := by unfold State.maxReg; split <;> simp only [State.setNat_mctp]
@[simp] theorem State.maxReg_sys : (s.maxReg o n).sys = s.sys := by unfold State.maxReg; split <;> simp only [State.setNat_sys]
@[simp] theorem State.maxReg_dtm : (s.maxReg o n).dtm = s.dtm := by unfold State.maxReg; split <;> simp only [State.setNat_dtm]
@[simp] theorem State.maxReg_plat : (s.maxReg o n).plat = s.plat := by unfold State.maxReg; split <;> simp only [State.setNat_plat]
@[simp] theorem State.maxReg_port0 : (s.maxReg o n).port0 = s.port0 := by unfold State.maxReg; split <;> simp only [State.setNat_port0]
@[simp] theorem State.maxReg_port1 : (s.maxReg o n).port1 = s.port1 := by unfold State.maxReg; split <;> simp only [State.setNat_port1]
@[simp] theorem State.maxReg_svc : (s.maxReg o n).svc = s.svc := by unfold State.maxReg; split <;> simp only [State.setNat_svc]
@[simp] theorem State.maxReg_stg : (s.maxReg o n).stg = s.stg := by unfold State.maxReg; split <;> simp only [State.setNat_stg]
@[simp] theorem State.maxReg_cds : (s.maxReg o n).cds = s.cds := by unfold State.maxReg; split <;> simp only [State.setNat_cds]
@[simp] theorem State.maxReg_saved : (s.maxReg o n).saved = s.saved := by unfold State.maxReg; split <;> simp only [State.setNat_saved]
@[simp] theorem State.maxReg_med : (s.maxReg o n).med = s.med := by unfold State.maxReg; split <;> simp only [State.setNat_med]
@[simp] theorem State.maxReg_trv : (s.maxReg o n).trv = s.trv := by unfold State.maxReg; split <;> simp only [State.setNat_trv]
@[simp] theorem State.maxReg_mdc : (s.maxReg o n).mdc = s.mdc := by unfold State.maxReg; split <;> simp only [State.setNat_mdc]
@[simp] theorem State.maxReg_pwr : (s.maxReg o n).pwr = s.pwr := by unfold State.maxReg; split <;> simp only [State.setNat_pwr]
@[simp] theorem State.maxReg_pfl : (s.maxReg o n).pfl = s.pfl := by unfold State.maxReg; split <;> simp only [State.setNat_pfl]
@[simp] theorem State.maxReg_ime : (s.maxReg o n).ime = s.ime := by unfold State.maxReg; split <;> simp only [State.setNat_ime]
@[simp] theorem State.maxReg_cke : (s.maxReg o n).cke = s.cke := by unfold State.maxReg; split <;> simp only [State.setNat_cke]
@[simp] theorem State.maxReg_eng : (s.maxReg o n).eng = s.eng := by unfold State.maxReg; split <;> simp only [State.setNat_eng]
@[simp] theorem State.maxReg_pst : (s.maxReg o n).pst = s.pst := by unfold State.maxReg; split <;> simp only [State.setNat_pst]
@[simp] theorem State.maxReg_evr : (s.maxReg o n).evr = s.evr := by unfold State.maxReg; split <;> simp only [State.setNat_evr]
@[simp] theorem State.maxReg_thm : (s.maxReg o n).thm = s.thm := by unfold State.maxReg; split <;> simp only [State.setNat_thm]
@[simp] theorem State.maxReg_svy : (s.maxReg o n).svy = s.svy := by unfold State.maxReg; split <;> simp only [State.setNat_svy]
@[simp] theorem State.maxReg_out : (s.maxReg o n).out = s.out := by unfold State.maxReg; split <;> simp only [State.setNat_out]
@[simp] theorem State.maxReg_free : (s.maxReg o n).free = s.free := by unfold State.maxReg; split <;> simp only [State.setNat_free]
end

theorem State.setNat_getReg (n : Nat) :
    (s.setNat o n).getReg o' = if o' = o then BitVec.ofNat 32 n else s.getReg o' := s.getReg_setReg ..
theorem State.setBits_getReg (n : Nat) :
    (s.setBits o n).getReg o' = if o' = o then s.getReg o ||| BitVec.ofNat 32 n else s.getReg o' := s.getReg_setReg ..
theorem State.clearBits_getReg (n : Nat) :
    (s.clearBits o n).getReg o' = if o' = o then s.getReg o &&& ~~~ BitVec.ofNat 32 n else s.getReg o' :=
  s.getReg_setReg ..
theorem State.clearReg_getReg : (s.clearReg o).getReg o' = if o' = o then regReset o else s.getReg o' := s.getReg_setReg ..
theorem State.addReg_getReg (n : Nat) :
    (s.addReg o n).getReg o' = if o' = o then s.getReg o + BitVec.ofNat 32 n else s.getReg o' := s.getReg_setReg ..
theorem State.incReg_getReg : (s.incReg o).getReg o' = if o' = o then s.getReg o + 1 else s.getReg o' := s.getReg_setReg ..
theorem State.setField_getReg (l w v : Nat) : (s.setField o l w v).getReg o' =
    if o' = o then s.getReg o &&& ~~~ BitVec.ofNat 32 ((2 ^ w - 1) * 2 ^ l) ||| BitVec.ofNat 32 (v % 2 ^ w * 2 ^ l)
    else s.getReg o' := by
  rw [State.setField, State.setBits_getReg]
  split
  · rw [State.clearBits_getReg, if_pos rfl]
  · rename_i h; rw [State.clearBits_getReg, if_neg h]
theorem State.satField_getReg_ne (l w v : Nat) (h : o' ≠ o) : (s.satField o l w v).getReg o' = s.getReg o' := by
  rw [State.satField, State.setField_getReg, if_neg h]
theorem State.setPair_getReg (n : Nat) : (s.setPair o n).getReg o' =
    if o' = o + 4 then BitVec.ofNat 32 (n / 2 ^ 32) else if o' = o then BitVec.ofNat 32 n else s.getReg o' := by
  rw [State.setPair, State.setNat_getReg, State.setNat_getReg]
theorem State.addPair_getReg_ne (n : Nat) (h : o' ≠ o) (h' : o' ≠ o + 4) : (s.addPair o n).getReg o' = s.getReg o' := by
  simp only [State.addPair, State.setNat_getReg, if_neg h, if_neg h']
theorem State.maxReg_getReg_ne (n : Nat) (h : o' ≠ o) : (s.maxReg o n).getReg o' = s.getReg o' := by
  unfold State.maxReg; split
  · rw [State.setNat_getReg, if_neg h]
  · rfl

@[simp] theorem State.modSys_getReg (f) : (s.modSys f).getReg o = s.getReg o := rfl
@[simp] theorem State.modDtm_getReg (f) : (s.modDtm f).getReg o = s.getReg o := rfl
@[simp] theorem State.modPlat_getReg (f) : (s.modPlat f).getReg o = s.getReg o := rfl
@[simp] theorem State.modSvc_getReg (f) : (s.modSvc f).getReg o = s.getReg o := rfl
@[simp] theorem State.modStg_getReg (f) : (s.modStg f).getReg o = s.getReg o := rfl
@[simp] theorem State.modCds_getReg (f) : (s.modCds f).getReg o = s.getReg o := rfl
@[simp] theorem State.modSaved_getReg (f) : (s.modSaved f).getReg o = s.getReg o := rfl
@[simp] theorem State.modMed_getReg (f) : (s.modMed f).getReg o = s.getReg o := rfl
@[simp] theorem State.modTrv_getReg (f) : (s.modTrv f).getReg o = s.getReg o := rfl
@[simp] theorem State.modMdc_getReg (f) : (s.modMdc f).getReg o = s.getReg o := rfl
@[simp] theorem State.modPwr_getReg (f) : (s.modPwr f).getReg o = s.getReg o := rfl
@[simp] theorem State.modPfl_getReg (f) : (s.modPfl f).getReg o = s.getReg o := rfl
@[simp] theorem State.modIme_getReg (f) : (s.modIme f).getReg o = s.getReg o := rfl
@[simp] theorem State.modCke_getReg (f) : (s.modCke f).getReg o = s.getReg o := rfl
@[simp] theorem State.modEng_getReg (f) : (s.modEng f).getReg o = s.getReg o := rfl
@[simp] theorem State.modPst_getReg (f) : (s.modPst f).getReg o = s.getReg o := rfl
@[simp] theorem State.modEvr_getReg (f) : (s.modEvr f).getReg o = s.getReg o := rfl
@[simp] theorem State.modThm_getReg (f) : (s.modThm f).getReg o = s.getReg o := rfl
@[simp] theorem State.modSvy_getReg (f) : (s.modSvy f).getReg o = s.getReg o := rfl
@[simp] theorem State.modBoth_getReg (f) : (s.modBoth f).getReg o = s.getReg o := rfl
@[simp] theorem State.emit_getReg (x : Output) : (s.emit x).getReg o = s.getReg o := rfl
@[simp] theorem State.useFree_getReg : s.useFree.getReg o = s.getReg o := rfl
@[simp] theorem State.useFrees_getReg (k : Nat) : (s.useFrees k).getReg o = s.getReg o := rfl
@[simp] theorem State.modPort_getReg (p : Nat) (f : Port → Port) : (s.modPort p f).getReg o = s.getReg o := by
  unfold State.modPort; split <;> rfl
@[simp] theorem State.modShadow_getReg (q : Requester) (f : Shadow → Shadow) : (s.modShadow q f).getReg o = s.getReg o := by
  cases q <;> rfl

end Sys2Proof.Machine
end

