-- ==== Sys2Proof/Laws/Effects.lean ====
section
/-! SUPPORT. What the shared operations write: an error flag, the budget, the bank's state and its fall to DEGRADED. -/

namespace Sys2Proof.Machine

/-- An error flag sets its bit. -/
theorem State.flag_stat (s : State) (st en n : Nat) (l : Bool) (h : recReg st = false) :
    (s.flag st en n l).getReg st = s.getReg st ||| BitVec.ofNat 32 (2 ^ n) := by
  have R := Recorded.countRaised (R := recReg) (tm := false) (fun _ h => h) (s.flagCore st en n l) s.evr.nextSeq
    (s.regField Reg.EVR_DROP_CNT 0 16)
  rw [State.flag, R.regs _ h]
  unfold State.flagCore
  dsimp only
  split
  · rw [(Recorded.raiseCore (R := recReg) (tm := false) (fun _ h => h) _ _ _ _).regs _ h, State.setBits_getReg, if_pos rfl]
  · rw [State.setBits_getReg, if_pos rfl]

theorem State.setBank_pwr (s : State) (b : BankState) : (s.setBank b).pwr = { s.pwr with bank := b } := by
  unfold State.setBank
  dsimp only
  split <;> split <;> split <;> rfl

/-- The budget follows R20, R285 and R403. -/
theorem State.setBudget_stg (s : State) : s.setBudget.stg =
    { s.stg with budget := if s.eng.pairDown then min s.stg.budget s.budgetNow else s.budgetNow } := by
  unfold State.setBudget
  dsimp only
  generalize (if s.eng.pairDown then min s.stg.budget s.budgetNow else s.budgetNow) = b
  split <;> rfl

/-- A bank that is not ARMED has no budget. -/
theorem State.setBudget_unarmed (s : State) (h : s.pwr.bank ≠ .armed) : s.setBudget.stg = { s.stg with budget := 0 } := by
  rw [State.setBudget_stg]
  have : s.budgetNow = 0 := by
    unfold State.budgetNow
    rw [if_pos (by simp [h])]
  simp [this]

theorem State.degrade_pwr (s : State) (c : BankCause) (l : Bool) : (s.degrade c l).pwr =
    { s.pwr with
      cause := c
      latched := if l && !s.pwr.latched.contains c then s.pwr.latched ++ [c] else s.pwr.latched
      bankBefore := if s.pwr.bank == .discharging then .degraded else s.pwr.bankBefore
      bank := if s.pwr.bank = .charging ∨ s.pwr.bank = .armed then .degraded else s.pwr.bank } := by
  simp only [State.degrade, (Foot.setBudget _).pwr rfl, State.raise_pwr]
  by_cases h : s.pwr.bank = .charging ∨ s.pwr.bank = .armed
  · have h' : (s.pwr.bank == BankState.charging || s.pwr.bank == BankState.armed) = true := by simpa using h
    simp only [State.modPwr_pwr, h', if_pos h, if_true, State.setBank_pwr]
  · have h' : (s.pwr.bank == BankState.charging || s.pwr.bank == BankState.armed) = false := by simpa using h
    simp only [State.modPwr_pwr, h', if_neg h, Bool.false_eq_true, if_false]

theorem State.degrade_stg (s : State) (c : BankCause) (l : Bool) :
    (s.degrade c l).stg = { s.stg with budget := 0 } := by
  unfold State.degrade
  dsimp only
  rw [State.setBudget_unarmed]
  · rw [State.raise_stg]; split
    · rw [(Foot.setBank _ _).stg rfl]; rfl
    · rfl
  · rw [State.raise_pwr]; split
    · rw [State.setBank_pwr]; simp
    · rename_i h'; simp at h' ⊢; exact h'.2

end Sys2Proof.Machine
end

