-- ==== Sys2Proof/Laws/FootInline.lean ====
section
/-! SUPPORT. The footprint of each operation of Machine/Inline.lean: the parts of the state it may change. -/

namespace Sys2Proof.Machine

theorem Foot.addPoison : ∀ s x1, Touches 0x800000 s (State.addPoison s x1) := by
  intro s x1
  unfold State.addPoison
  with_reducible refine Touches.modSvc ?_ ?_
  with_reducible exact Touches.refl _ _
  rfl

theorem Foot.programLine : ∀ s x1 x2, Touches 0x8000000 s (State.programLine s x1 x2) := by
  intro s x1 x2
  unfold State.programLine
  with_reducible refine Touches.modMed ?_ ?_
  with_reducible exact Touches.refl _ _
  rfl

theorem Foot.onBlock : ∀ s x1 x2, Touches 0x104000000 s (State.onBlock s x1 x2) := by
  intro s x1 x2
  unfold State.onBlock
  extract_lets +onlyGivenNames -underBinder v
  extract_lets +onlyGivenNames -underBinder v
  have hv : Touches 0x104000000 s v := by
    unfold v
    with_reducible refine Touches.modIme ?_ ?_
    with_reducible exact Touches.refl _ _
    rfl
  clear_value v
  split
  with_reducible assumption
  with_reducible refine Touches.modSaved ?_ ?_
  with_reducible assumption
  rfl

theorem Foot.imeFlag : ∀ s x1 x2, Touches 0x580068a284 s (State.imeFlag s x1 x2) := by
  intro s x1 x2
  unfold State.imeFlag
  with_reducible refine Touches.flag ?_ ?_ ?_
  with_reducible exact Touches.refl _ _
  rfl
  rfl

theorem Foot.onRekey : ∀ s x1 x2, Touches 0x104000000 s (State.onRekey s x1 x2) := by
  intro s x1 x2
  unfold State.onRekey
  extract_lets +onlyGivenNames -underBinder v
  have hv : Touches 0x104000000 s v := by
    unfold v
    with_reducible refine Touches.modIme ?_ ?_
    with_reducible exact Touches.refl _ _
    rfl
  clear_value v
  split
  with_reducible assumption
  with_reducible refine Touches.modSaved ?_ ?_
  with_reducible assumption
  rfl

theorem Foot.useKek : ∀ s, Touches 0xa00000000 s (State.useKek s) := by
  intro s
  unfold State.useKek
  extract_lets +onlyGivenNames -underBinder v
  have hv : Touches 0xa00000000 s v := by
    unfold v
    with_reducible refine Touches.modCke ?_ ?_
    with_reducible exact Touches.refl _ _
    rfl
  clear_value v
  extract_lets +onlyGivenNames -underBinder v
  split
  with_reducible refine Touches.modPst ?_ ?_
  with_reducible assumption
  rfl
  with_reducible assumption

theorem Foot.wrapKey : ∀ s x1 x2 x3 x4, FstT 0x10a00000000 s (State.wrapKey s x1 x2 x3 x4) := by
  intro s x1 x2 x3 x4
  unfold State.wrapKey
  with_reducible refine FstT.pair ?_
  extract_lets +onlyGivenNames -underBinder v
  split
  with_reducible refine Touches.useFree ?_ ?_
  with_reducible exact Touches.refl _ _
  rfl
  with_reducible refine Touches.step ?_ (Foot.useKek ..) ?_
  with_reducible exact Touches.refl _ _
  rfl

theorem Foot.freshKey : ∀ s x1 x2, FstT 0x10a00000000 s (State.freshKey s x1 x2) := by
  intro s x1 x2
  unfold State.freshKey
  with_reducible refine FstT.pair ?_
  extract_lets +onlyGivenNames -underBinder v
  with_reducible refine FstT.fst (Foot.wrapKey ..) ?_ ?_
  extract_lets +onlyGivenNames -underBinder v
  with_reducible refine Touches.useFree ?_ ?_
  extract_lets +onlyGivenNames -underBinder v
  with_reducible refine Touches.modCke ?_ ?_
  with_reducible exact Touches.refl _ _
  rfl
  rfl
  rfl

theorem Foot.queueWrap : ∀ s x1, Touches 0x800000000 s (State.queueWrap s x1) := by
  intro s x1
  unfold State.queueWrap
  with_reducible refine Touches.modPst ?_ ?_
  with_reducible exact Touches.refl _ _
  rfl

theorem Foot.startRekey : ∀ s x1, Touches 0x15b0668a284 s (State.startRekey s x1) := by
  intro s x1
  unfold State.startRekey
  split
  with_reducible exact Touches.refl _ _
  extract_lets +onlyGivenNames -underBinder v
  extract_lets +onlyGivenNames -underBinder v
  have hv : Touches 0x15b0668a284 s v := by
    unfold v
    with_reducible refine Touches.step ?_ (Foot.onRekey ..) ?_
    with_reducible exact Touches.refl _ _
    rfl
  clear_value v
  extract_lets +onlyGivenNames -underBinder v
  have hv : Touches 0x15b0668a284 s v := by
    unfold v
    split
    with_reducible assumption
    with_reducible refine Touches.step ?_ (Foot.queueWrap ..) ?_
    extract_lets +onlyGivenNames -underBinder w
    with_reducible refine FstT.fst (Foot.freshKey ..) ?_ ?_
    with_reducible assumption
    rfl
    rfl
  clear_value v
  split
  split
  with_reducible exact Touches.refl _ _
  with_reducible refine Touches.raise ?_ ?_
  extract_lets +onlyGivenNames -underBinder v
  with_reducible refine Touches.step ?_ (Foot.onRekey ..) ?_
  with_reducible exact Touches.refl _ _
  rfl
  rfl
  with_reducible refine Touches.raise ?_ ?_
  extract_lets +onlyGivenNames -underBinder v
  with_reducible refine Touches.modCds ?_ ?_
  extract_lets +onlyGivenNames -underBinder v
  with_reducible refine Touches.setBits ?_ ?_
  with_reducible assumption
  rfl
  rfl
  rfl

theorem Foot.majorAlarms : ∀ s x1, Touches 0x15b0668a284 s (State.majorAlarms s x1) := by
  intro s x1
  unfold State.majorAlarms
  extract_lets +onlyGivenNames -underBinder v
  extract_lets +onlyGivenNames -underBinder v
  have hv : Touches 0x15b0668a284 s v := by
    unfold v
    with_reducible refine Touches.step ?_ (Foot.onBlock ..) ?_
    with_reducible exact Touches.refl _ _
    rfl
  clear_value v
  extract_lets +onlyGivenNames -underBinder v
  have hv : Touches 0x15b0668a284 s v := by
    unfold v
    with_reducible refine Touches.raise ?_ ?_
    extract_lets +onlyGivenNames -underBinder w
    with_reducible refine Touches.step ?_ (Foot.imeFlag ..) ?_
    with_reducible assumption
    rfl
    rfl
  clear_value v
  extract_lets +onlyGivenNames -underBinder v
  have hv : Touches 0x15b0668a284 s v := by
    unfold v
    split
    split
    with_reducible refine Touches.step ?_ (Foot.startRekey ..) ?_
    with_reducible assumption
    rfl
    with_reducible assumption
    with_reducible exact Touches.refl _ _
  clear_value v
  split
  with_reducible refine Touches.raise ?_ ?_
  extract_lets +onlyGivenNames -underBinder v
  with_reducible refine Touches.step ?_ (Foot.imeFlag ..) ?_
  extract_lets +onlyGivenNames -underBinder v
  with_reducible refine Touches.step ?_ (Foot.onBlock ..) ?_
  with_reducible assumption
  rfl
  rfl
  rfl
  with_reducible assumption

theorem Foot.touchTree : ∀ s x1, Touches 0x104000000 s (State.touchTree s x1) := by
  intro s x1
  unfold State.touchTree
  split
  with_reducible exact Touches.refl _ _
  extract_lets +onlyGivenNames -underBinder v
  extract_lets +onlyGivenNames -underBinder v
  extract_lets +onlyGivenNames -underBinder v
  extract_lets +onlyGivenNames -underBinder v
  have hv : Touches 0x104000000 s v := by
    unfold v
    with_reducible refine Touches.modIme ?_ ?_
    with_reducible exact Touches.refl _ _
    rfl
  clear_value v
  split
  with_reducible assumption
  with_reducible refine Touches.modSaved ?_ ?_
  with_reducible assumption
  rfl

theorem Foot.commitSeals : ∀ s x1 x2, Touches 0x15b0668a284 s (State.commitSeals s x1 x2) := by
  intro s x1 x2
  unfold State.commitSeals
  split
  with_reducible exact Touches.refl _ _
  with_reducible exact Touches.refl _ _
  extract_lets +onlyGivenNames -underBinder v
  have hv : Touches 0x15b0668a284 s v := by
    unfold v
    with_reducible refine Touches.step ?_ (Foot.onBlock ..) ?_
    with_reducible exact Touches.refl _ _
    rfl
  clear_value v
  extract_lets +onlyGivenNames -underBinder v
  have hv : Touches 0x15b0668a284 s v := by
    unfold v
    with_reducible refine Touches.modIme ?_ ?_
    with_reducible assumption
    rfl
  clear_value v
  with_reducible refine Touches.step ?_ (Foot.majorAlarms ..) ?_
  extract_lets +onlyGivenNames -underBinder v
  with_reducible refine Touches.step ?_ (Foot.touchTree ..) ?_
  with_reducible assumption
  rfl
  rfl

theorem Foot.sealLine : ∀ s x1, FstT 0x100000000 s (State.sealLine s x1) := by
  intro s x1
  unfold State.sealLine
  with_reducible refine FstT.pair ?_
  extract_lets +onlyGivenNames -underBinder v
  split
  with_reducible exact Touches.refl _ _
  extract_lets +onlyGivenNames -underBinder v
  split
  with_reducible refine Touches.modIme ?_ ?_
  with_reducible exact Touches.refl _ _
  rfl
  with_reducible exact Touches.refl _ _

theorem Foot.laneMiss : ∀ s x1, Touches 0x590068a284 s (State.laneMiss s x1) := by
  intro s x1
  unfold State.laneMiss
  extract_lets +onlyGivenNames -underBinder v
  extract_lets +onlyGivenNames -underBinder v
  extract_lets +onlyGivenNames -underBinder v
  have hv : Touches 0x590068a284 s v := by
    unfold v
    with_reducible refine Touches.modIme ?_ ?_
    with_reducible exact Touches.refl _ _
    rfl
  clear_value v
  extract_lets +onlyGivenNames -underBinder v
  split
  with_reducible refine Touches.raise ?_ ?_
  extract_lets +onlyGivenNames -underBinder v
  with_reducible refine Touches.step ?_ (Foot.imeFlag ..) ?_
  extract_lets +onlyGivenNames -underBinder v
  with_reducible refine Touches.modIme ?_ ?_
  with_reducible assumption
  rfl
  rfl
  rfl
  with_reducible assumption

theorem Foot.secInfo : ∀ s x1 x2 x3, Touches 0x200 s (State.secInfo s x1 x2 x3) := by
  intro s x1 x2 x3
  unfold State.secInfo
  with_reducible refine Touches.setNat ?_ ?_
  extract_lets +onlyGivenNames -underBinder v
  with_reducible refine Touches.setPair ?_ ?_ ?_
  with_reducible exact Touches.refl _ _
  rfl
  rfl
  rfl

theorem Foot.tamper : ∀ s x1 x2 x3 x4, Touches 0x580068a284 s (State.tamper s x1 x2 x3 x4) := by
  intro s x1 x2 x3 x4
  unfold State.tamper
  with_reducible refine Touches.raise ?_ ?_
  extract_lets +onlyGivenNames -underBinder v
  with_reducible refine Touches.step ?_ (Foot.secInfo ..) ?_
  extract_lets +onlyGivenNames -underBinder v
  with_reducible refine Touches.incReg ?_ ?_
  extract_lets +onlyGivenNames -underBinder v
  with_reducible refine Touches.setBits ?_ ?_
  with_reducible exact Touches.refl _ _
  rfl
  rfl
  rfl
  rfl

theorem Foot.quarantine : ∀ s x1 x2 x3, Touches 0x15b0668a284 s (State.quarantine s x1 x2 x3) := by
  intro s x1 x2 x3
  unfold State.quarantine
  split
  with_reducible exact Touches.refl _ _
  extract_lets +onlyGivenNames -underBinder v
  split
  with_reducible exact Touches.refl _ _
  split
  extract_lets +onlyGivenNames -underBinder v
  extract_lets +onlyGivenNames -underBinder v
  extract_lets +onlyGivenNames -underBinder v
  extract_lets +onlyGivenNames -underBinder v
  have hv : Touches 0x15b0668a284 s v := by
    unfold v
    with_reducible refine Touches.modIme ?_ ?_
    with_reducible exact Touches.refl _ _
    rfl
  clear_value v
  extract_lets +onlyGivenNames -underBinder v
  have hv : Touches 0x15b0668a284 s v := by
    unfold v
    split
    with_reducible refine Touches.step ?_ (Foot.imeFlag ..) ?_
    with_reducible assumption
    rfl
    with_reducible assumption
  clear_value v
  extract_lets +onlyGivenNames -underBinder v
  have hv : Touches 0x15b0668a284 s v := by
    unfold v
    split
    with_reducible assumption
    with_reducible refine Touches.foldl (fun _ _ _ => ?_) ?_
    extract_lets +onlyGivenNames -underBinder w
    with_reducible refine Touches.step ?_ (Foot.touchTree ..) ?_
    extract_lets +onlyGivenNames -underBinder w
    with_reducible refine Touches.step ?_ (Foot.onBlock ..) ?_
    with_reducible assumption
    rfl
    rfl
    with_reducible assumption
  clear_value v
  extract_lets +onlyGivenNames -underBinder v
  have hv : Touches 0x15b0668a284 s v := by
    unfold v
    split
    with_reducible assumption
    with_reducible refine Touches.modSaved ?_ ?_
    with_reducible assumption
    rfl
  clear_value v
  split
  with_reducible assumption
  with_reducible refine Touches.step ?_ (Foot.startRekey ..) ?_
  with_reducible assumption
  rfl

theorem Foot.dropPoison : ∀ s x1, Touches 0x800000 s (State.dropPoison s x1) := by
  intro s x1
  unfold State.dropPoison
  with_reducible refine Touches.modSvc ?_ ?_
  with_reducible exact Touches.refl _ _
  rfl

theorem Foot.stick : ∀ s x1, Touches 0x590068a284 s (State.stick s x1) := by
  intro s x1
  unfold State.stick
  with_reducible refine Touches.modIme ?_ ?_
  extract_lets +onlyGivenNames -underBinder v
  with_reducible refine Touches.raise ?_ ?_
  extract_lets +onlyGivenNames -underBinder v
  with_reducible refine Touches.step ?_ (Foot.imeFlag ..) ?_
  with_reducible exact Touches.refl _ _
  rfl
  rfl
  rfl

theorem Foot.inverseMiss : ∀ s x1 x2, Touches 0x590068a284 s (State.inverseMiss s x1 x2) := by
  intro s x1 x2
  unfold State.inverseMiss
  with_reducible refine Touches.step ?_ (Foot.laneMiss ..) ?_
  extract_lets +onlyGivenNames -underBinder v
  with_reducible refine Touches.raise ?_ ?_
  extract_lets +onlyGivenNames -underBinder v
  with_reducible refine Touches.incReg ?_ ?_
  extract_lets +onlyGivenNames -underBinder v
  with_reducible refine Touches.step ?_ (Foot.imeFlag ..) ?_
  with_reducible exact Touches.refl _ _
  rfl
  rfl
  rfl
  rfl

theorem Foot.inverseMisses : ∀ s x1 x2, Touches 0x590068a284 s (State.inverseMisses s x1 x2) := by
  intro s x1 x2
  unfold State.inverseMisses
  with_reducible refine Touches.foldl (fun _ _ _ => ?_) ?_
  extract_lets +onlyGivenNames -underBinder v
  with_reducible refine Touches.step ?_ (Foot.inverseMiss ..) ?_
  with_reducible assumption
  rfl
  with_reducible exact Touches.refl _ _

end Sys2Proof.Machine
end

