-- ==== Sys2Proof/Laws/FootTick.lean ====
section
/-! SUPPORT. The footprint of each operation of Machine/Tick.lean: the parts of the state it may change. -/

namespace Sys2Proof.Machine

theorem Foot.collect : ∀ s x1, Touches 0x10000020 s (State.collect s x1) := by
  intro s x1
  unfold State.collect
  extract_lets +onlyGivenNames -underBinder v
  extract_lets +onlyGivenNames -underBinder v
  have hv : Touches 0x10000020 s v := by
    unfold v
    split
    with_reducible refine Touches.modTrv ?_ ?_
    extract_lets +onlyGivenNames -underBinder w
    with_reducible refine Touches.incReg ?_ ?_
    with_reducible exact Touches.refl _ _
    rfl
    rfl
    with_reducible exact Touches.refl _ _
  clear_value v
  with_reducible refine Touches.modTrv ?_ ?_
  with_reducible assumption
  rfl

theorem Foot.tick : ∀ s, Touches 0x581068a0a4 s (State.tick s) := by
  intro s
  unfold State.tick
  extract_lets +onlyGivenNames -underBinder v
  have hv : Touches 0x581068a0a4 s v := by
    unfold v
    with_reducible refine Touches.elapse ?_ ?_
    with_reducible exact Touches.refl _ _
    rfl
  clear_value v
  extract_lets +onlyGivenNames -underBinder v
  extract_lets +onlyGivenNames -underBinder v
  have hv : Touches 0x581068a0a4 s v := by
    unfold v
    with_reducible refine Touches.modTrv ?_ ?_
    with_reducible assumption
    rfl
  clear_value v
  extract_lets +onlyGivenNames -underBinder v
  have hv : Touches 0x581068a0a4 s v := by
    unfold v
    with_reducible refine Touches.maxReg ?_ ?_
    with_reducible assumption
    rfl
  clear_value v
  split
  with_reducible exact Touches.refl _ _
  split
  with_reducible refine Touches.elapse ?_ ?_
  with_reducible exact Touches.refl _ _
  rfl
  with_reducible refine Touches.pmcMany ?_ ?_
  with_reducible assumption
  rfl

end Sys2Proof.Machine
end

