-- ==== Sys2Proof/Laws/FootPlace.lean ====
section
/-! SUPPORT. The footprint of each operation of Machine/Place.lean: the parts of the state it may change. -/

namespace Sys2Proof.Machine

theorem Foot.modMap : ∀ s x1, Touches 0x6000000 s (State.modMap s x1) := by
  intro s x1
  unfold State.modMap
  extract_lets +onlyGivenNames -underBinder v
  have hv : Touches 0x6000000 s v := by
    unfold v
    with_reducible refine Touches.modCds ?_ ?_
    with_reducible exact Touches.refl _ _
    rfl
  clear_value v
  split
  with_reducible assumption
  with_reducible refine Touches.modSaved ?_ ?_
  with_reducible assumption
  rfl

theorem Foot.mapCommit : ∀ s x1 x2, Touches 0x581668a0a4 s (State.mapCommit s x1 x2) := by
  intro s x1 x2
  unfold State.mapCommit
  extract_lets +onlyGivenNames -underBinder v
  have hv : Touches 0x581668a0a4 s v := by
    unfold v
    with_reducible refine Touches.step ?_ (Foot.collect ..) ?_
    extract_lets +onlyGivenNames -underBinder w
    with_reducible refine Touches.pmc ?_ ?_
    with_reducible exact Touches.refl _ _
    rfl
    rfl
  clear_value v
  extract_lets +onlyGivenNames -underBinder v
  have hv : Touches 0x581668a0a4 s v := by
    unfold v
    with_reducible refine Touches.modCds ?_ ?_
    with_reducible assumption
    rfl
  clear_value v
  split
  with_reducible refine Touches.modCds ?_ ?_
  with_reducible assumption
  rfl
  with_reducible refine Touches.modSaved ?_ ?_
  with_reducible assumption
  rfl

theorem Foot.eraseTract : ∀ s x1, Touches 0x18000000 s (State.eraseTract s x1) := by
  intro s x1
  unfold State.eraseTract
  with_reducible refine Touches.modTrv ?_ ?_
  extract_lets +onlyGivenNames -underBinder v
  with_reducible refine Touches.modMed ?_ ?_
  with_reducible exact Touches.refl _ _
  rfl
  rfl

end Sys2Proof.Machine
end

