-- ==== Sys2Proof/Laws/FootOps.lean ====
section
/-! SUPPORT. The footprint of each operation of Machine/Ops.lean: the parts of the state it may change. -/

namespace Sys2Proof.Machine

theorem Foot.portCopy : ∀ s x1 x2, Touches 0x600004 s (State.portCopy s x1 x2) := by
  intro s x1 x2
  unfold State.portCopy
  extract_lets +onlyGivenNames -underBinder v
  split
  with_reducible refine Touches.modPort ?_ ?_ ?_
  extract_lets +onlyGivenNames -underBinder v
  with_reducible refine Touches.incReg ?_ ?_
  with_reducible exact Touches.refl _ _
  extract_lets +onlyGivenNames -underBinder v
  (simp <;> rfl)
  rfl
  rfl
  with_reducible refine Touches.modPort ?_ ?_ ?_
  with_reducible exact Touches.refl _ _
  rfl
  rfl

theorem Foot.thermalTrip : ∀ s, Touches 0x580068a084 s (State.thermalTrip s) := by
  intro s
  unfold State.thermalTrip
  split
  with_reducible refine Touches.strobe ?_ ?_
  with_reducible exact Touches.refl _ _
  rfl
  with_reducible exact Touches.refl _ _

theorem Foot.modBoth : ∀ s x1, Touches 0x6000000 s (State.modBoth s x1) := by
  intro s x1
  unfold State.modBoth
  with_reducible refine Touches.modSaved ?_ ?_
  extract_lets +onlyGivenNames -underBinder v
  with_reducible refine Touches.modCds ?_ ?_
  with_reducible exact Touches.refl _ _
  rfl
  rfl

end Sys2Proof.Machine
end

