-- ==== Sys2Proof/Laws/FootPst.lean ====
section
/-! SUPPORT. The footprint of each operation of Machine/Pst.lean: the parts of the state it may change. -/

namespace Sys2Proof.Machine

theorem Foot.endBackground : ∀ s x1, Touches 0x800000 s (State.endBackground s x1) := by
  intro s x1
  unfold State.endBackground
  with_reducible refine Touches.modSvc ?_ ?_
  with_reducible exact Touches.refl _ _
  rfl

theorem Foot.pstQueue : ∀ s x1, Touches 0x800000000 s (State.pstQueue s x1) := by
  intro s x1
  unfold State.pstQueue
  with_reducible refine Touches.modPst ?_ ?_
  with_reducible exact Touches.refl _ _
  rfl

theorem Foot.queueDeed : ∀ s x1 x2, Touches 0x800000000 s (State.queueDeed s x1 x2) := by
  intro s x1 x2
  unfold State.queueDeed
  with_reducible refine Touches.step ?_ (Foot.pstQueue ..) ?_
  with_reducible exact Touches.refl _ _
  rfl

theorem Foot.readyWork : ∀ s, Touches 0x800080000 s (State.readyWork s) := by
  intro s
  unfold State.readyWork
  extract_lets +onlyGivenNames -underBinder v
  have hv : Touches 0x800080000 s v := by
    unfold v
    with_reducible refine Touches.modPst ?_ ?_
    with_reducible exact Touches.refl _ _
    rfl
  clear_value v
  extract_lets +onlyGivenNames -underBinder v
  extract_lets +onlyGivenNames -underBinder v
  have hv : Touches 0x800080000 s v := by
    unfold v
    split
    with_reducible assumption
    with_reducible refine Touches.step ?_ (Foot.queueDeed ..) ?_
    extract_lets +onlyGivenNames -underBinder w
    with_reducible refine Touches.modDtm ?_ ?_
    with_reducible assumption
    rfl
    rfl
  clear_value v
  extract_lets +onlyGivenNames -underBinder v
  split
  with_reducible refine Touches.step ?_ (Foot.pstQueue ..) ?_
  with_reducible assumption
  rfl
  with_reducible assumption

theorem Foot.goReady : ∀ s, Touches 0x78006ce085 s (State.goReady s) := by
  intro s
  unfold State.goReady
  extract_lets +onlyGivenNames -underBinder v
  extract_lets +onlyGivenNames -underBinder v
  have hv : Touches 0x78006ce085 s v := by
    unfold v
    with_reducible refine Touches.step ?_ (Foot.readyWork ..) ?_
    extract_lets +onlyGivenNames -underBinder w
    with_reducible refine Touches.goState ?_ ?_ ?_ ?_ ?_ ?_
    with_reducible exact Touches.refl _ _
    rfl
    rfl
    rfl
    rfl
    rfl
    rfl
  clear_value v
  split
  with_reducible refine Touches.setNat ?_ ?_
  with_reducible assumption
  rfl
  with_reducible assumption

theorem Foot.mboxReply : ∀ s x1 x2 x3 x4 x5, Touches 0x8800600004 s (State.mboxReply s x1 x2 x3 x4 x5) := by
  intro s x1 x2 x3 x4 x5
  unfold State.mboxReply
  extract_lets +onlyGivenNames -underBinder v
  have hv : Touches 0x8800600004 s v := by
    unfold v
    split
    extract_lets +onlyGivenNames -underBinder w
    extract_lets +onlyGivenNames -underBinder w
    have hw : Touches 0x8800600004 s w := by
      unfold w
      with_reducible refine Touches.clearBits ?_ ?_
      with_reducible refine Touches.modPort ?_ ?_ ?_
      with_reducible exact Touches.refl _ _
      rfl
      rfl
      (simp <;> rfl)
    clear_value w
    extract_lets +onlyGivenNames -underBinder w
    have hw : Touches 0x8800600004 s w := by
      unfold w
      with_reducible refine Touches.setNat ?_ ?_
      with_reducible assumption
      (simp <;> rfl)
    clear_value w
    split
    with_reducible refine Touches.modPst ?_ ?_
    with_reducible assumption
    rfl
    with_reducible assumption
    with_reducible exact Touches.refl _ _
  clear_value v
  with_reducible refine Touches.emit ?_ ?_
  with_reducible assumption
  rfl

theorem Foot.queueConfig : ∀ s x1, Touches 0x800000000 s (State.queueConfig s x1) := by
  intro s x1
  unfold State.queueConfig
  with_reducible refine Touches.step ?_ (Foot.queueDeed ..) ?_
  with_reducible exact Touches.refl _ _
  rfl

theorem Foot.raiseMinimum : ∀ s x1, Touches 0x800000000 s (State.raiseMinimum s x1) := by
  intro s x1
  unfold State.raiseMinimum
  split
  split
  with_reducible refine Touches.step ?_ (Foot.pstQueue ..) ?_
  with_reducible exact Touches.refl _ _
  rfl
  with_reducible exact Touches.refl _ _
  with_reducible exact Touches.refl _ _

theorem Foot.keyErased : ∀ s x1 x2, Touches 0x106000000 s (State.keyErased s x1 x2) := by
  intro s x1 x2
  unfold State.keyErased
  split
  with_reducible exact Touches.refl _ _
  extract_lets +onlyGivenNames -underBinder v
  extract_lets +onlyGivenNames -underBinder v
  extract_lets +onlyGivenNames -underBinder v
  extract_lets +onlyGivenNames -underBinder v
  have hv : Touches 0x106000000 s v := by
    unfold v
    with_reducible refine Touches.modIme ?_ ?_
    with_reducible exact Touches.refl _ _
    rfl
  clear_value v
  extract_lets +onlyGivenNames -underBinder v
  have hv : Touches 0x106000000 s v := by
    unfold v
    with_reducible refine Touches.modSaved ?_ ?_
    with_reducible assumption
    rfl
  clear_value v
  extract_lets +onlyGivenNames -underBinder v
  extract_lets +onlyGivenNames -underBinder v
  split
  with_reducible assumption
  with_reducible refine Touches.step ?_ (Foot.modBoth ..) ?_
  with_reducible assumption
  rfl

theorem Foot.deedEffect : ∀ s x1, Touches 0x5b46f8a186 s (State.deedEffect s x1) := by
  intro s x1
  unfold State.deedEffect
  split
  extract_lets +onlyGivenNames -underBinder v
  have hv : Touches 0x5b46f8a186 s v := by
    unfold v
    with_reducible refine Touches.modCke ?_ ?_
    with_reducible exact Touches.refl _ _
    rfl
  clear_value v
  extract_lets +onlyGivenNames -underBinder v
  have hv : Touches 0x5b46f8a186 s v := by
    unfold v
    with_reducible refine Touches.modSvc ?_ ?_
    with_reducible assumption
    rfl
  clear_value v
  extract_lets +onlyGivenNames -underBinder v
  extract_lets +onlyGivenNames -underBinder v
  have hv : Touches 0x5b46f8a186 s v := by
    unfold v
    with_reducible refine Touches.modPlat ?_ ?_
    with_reducible assumption
    rfl
  clear_value v
  extract_lets +onlyGivenNames -underBinder v
  have hv : Touches 0x5b46f8a186 s v := by
    unfold v
    split
    with_reducible refine Touches.step ?_ (Foot.raiseMinimum ..) ?_
    extract_lets +onlyGivenNames -underBinder w
    with_reducible refine Touches.raise ?_ ?_
    extract_lets +onlyGivenNames -underBinder w
    with_reducible refine Touches.setBits ?_ ?_
    with_reducible assumption
    rfl
    rfl
    rfl
    with_reducible assumption
  clear_value v
  split
  extract_lets +onlyGivenNames -underBinder v
  have hv : Touches 0x5b46f8a186 s v := by
    unfold v
    with_reducible refine Touches.setNat ?_ ?_
    extract_lets +onlyGivenNames -underBinder w
    with_reducible refine Touches.setBits ?_ ?_
    with_reducible assumption
    rfl
    rfl
  clear_value v
  split
  with_reducible refine Touches.step ?_ (Foot.raiseMinimum ..) ?_
  extract_lets +onlyGivenNames -underBinder v
  with_reducible refine Touches.raise ?_ ?_
  extract_lets +onlyGivenNames -underBinder v
  with_reducible refine Touches.raise ?_ ?_
  with_reducible assumption
  rfl
  rfl
  rfl
  with_reducible assumption
  with_reducible assumption
  with_reducible refine Touches.modSvc ?_ ?_
  with_reducible exact Touches.refl _ _
  rfl
  with_reducible refine Touches.setNat ?_ ?_
  extract_lets +onlyGivenNames -underBinder v
  with_reducible refine Touches.setNat ?_ ?_
  extract_lets +onlyGivenNames -underBinder v
  with_reducible refine Touches.setNat ?_ ?_
  with_reducible exact Touches.refl _ _
  rfl
  rfl
  rfl
  with_reducible refine Touches.modPwr ?_ ?_
  with_reducible exact Touches.refl _ _
  rfl
  extract_lets +onlyGivenNames -underBinder v
  split
  split
  with_reducible refine Touches.step ?_ (Foot.keyErased ..) ?_
  with_reducible exact Touches.refl _ _
  rfl
  with_reducible refine Touches.modIme ?_ ?_
  with_reducible exact Touches.refl _ _
  rfl
  with_reducible exact Touches.refl _ _
  with_reducible exact Touches.refl _ _

theorem Foot.endWriting : ∀ s, Touches 0x8800f00004 s (State.endWriting s) := by
  intro s
  unfold State.endWriting
  split
  with_reducible exact Touches.refl _ _
  extract_lets +onlyGivenNames -underBinder v
  have hv : Touches 0x8800f00004 s v := by
    unfold v
    with_reducible refine Touches.modSvc ?_ ?_
    with_reducible exact Touches.refl _ _
    rfl
  clear_value v
  extract_lets +onlyGivenNames -underBinder v
  extract_lets +onlyGivenNames -underBinder v
  have hv : Touches 0x8800f00004 s v := by
    unfold v
    split
    with_reducible assumption
    with_reducible refine Touches.modPlat ?_ ?_
    with_reducible assumption
    rfl
  clear_value v
  extract_lets +onlyGivenNames -underBinder v
  have hv : Touches 0x8800f00004 s v := by
    unfold v
    split
    with_reducible assumption
    with_reducible refine Touches.modSvc ?_ ?_
    with_reducible assumption
    rfl
  clear_value v
  split
  with_reducible exact Touches.refl _ _
  split
  with_reducible refine Touches.step ?_ (Foot.endBackground ..) ?_
  with_reducible assumption
  rfl
  split
  with_reducible refine Touches.step ?_ (Foot.mboxReply ..) ?_
  with_reducible assumption
  rfl
  with_reducible refine Touches.step ?_ (Foot.mboxReply ..) ?_
  with_reducible assumption
  rfl

theorem Foot.pstEnd : ∀ s x1, Touches 0x8850f00024 s (State.pstEnd s x1) := by
  intro s x1
  unfold State.pstEnd
  extract_lets +onlyGivenNames -underBinder v
  have hv : Touches 0x8850f00024 s v := by
    unfold v
    with_reducible refine Touches.step ?_ (Foot.gateFree ..) ?_
    with_reducible exact Touches.refl _ _
    rfl
  clear_value v
  extract_lets +onlyGivenNames -underBinder v
  extract_lets +onlyGivenNames -underBinder v
  have hv : Touches 0x8850f00024 s v := by
    unfold v
    with_reducible refine Touches.modPst ?_ ?_
    with_reducible assumption
    rfl
  clear_value v
  extract_lets +onlyGivenNames -underBinder v
  have hv : Touches 0x8850f00024 s v := by
    unfold v
    with_reducible refine Touches.step ?_ (Foot.collect ..) ?_
    extract_lets +onlyGivenNames -underBinder w
    with_reducible refine Touches.clearBits ?_ ?_
    extract_lets +onlyGivenNames -underBinder w
    with_reducible refine Touches.clearBits ?_ ?_
    with_reducible assumption
    rfl
    rfl
    rfl
  clear_value v
  split
  with_reducible refine Touches.step ?_ (Foot.endWriting ..) ?_
  with_reducible assumption
  rfl
  with_reducible assumption

theorem Foot.spoilImage : ∀ s x1, Touches 0x900000 s (State.spoilImage s x1) := by
  intro s x1
  unfold State.spoilImage
  split
  with_reducible refine Touches.modSvc ?_ ?_
  with_reducible exact Touches.refl _ _
  rfl
  split
  with_reducible refine Touches.modSvc ?_ ?_
  with_reducible exact Touches.refl _ _
  rfl
  split
  with_reducible refine Touches.modPlat ?_ ?_
  with_reducible exact Touches.refl _ _
  rfl
  split
  with_reducible refine Touches.modPlat ?_ ?_
  with_reducible exact Touches.refl _ _
  rfl
  with_reducible exact Touches.refl _ _

theorem Foot.deferredNext : ∀ s x1, Touches 0x800001000 s (State.deferredNext s x1) := by
  intro s x1
  unfold State.deferredNext
  extract_lets +onlyGivenNames -underBinder v
  have hv : Touches 0x800001000 s v := by
    unfold v
    with_reducible refine Touches.incReg ?_ ?_
    with_reducible exact Touches.refl _ _
    rfl
  clear_value v
  extract_lets +onlyGivenNames -underBinder v
  have hv : Touches 0x800001000 s v := by
    unfold v
    split
    with_reducible refine Touches.setBits ?_ ?_
    with_reducible assumption
    rfl
    with_reducible assumption
  clear_value v
  split
  with_reducible refine Touches.modPst ?_ ?_
  with_reducible assumption
  rfl
  with_reducible assumption

theorem Foot.eraseVerified : ∀ s x1 x2, Touches 0x1800901000 s (State.eraseVerified s x1 x2) := by
  intro s x1 x2
  unfold State.eraseVerified
  extract_lets +onlyGivenNames -underBinder v
  have hv : Touches 0x1800901000 s v := by
    unfold v
    with_reducible refine Touches.step ?_ (Foot.spoilImage ..) ?_
    extract_lets +onlyGivenNames -underBinder w
    with_reducible refine Touches.modPst ?_ ?_
    with_reducible exact Touches.refl _ _
    rfl
    rfl
  clear_value v
  split
  extract_lets +onlyGivenNames -underBinder v
  have hv : Touches 0x1800901000 s v := by
    unfold v
    with_reducible refine Touches.setBits ?_ ?_
    with_reducible assumption
    rfl
  clear_value v
  split
  with_reducible refine Touches.step ?_ (Foot.deferredNext ..) ?_
  extract_lets +onlyGivenNames -underBinder v
  with_reducible refine Touches.modPst ?_ ?_
  with_reducible assumption
  rfl
  rfl
  split
  with_reducible refine Touches.clearBits ?_ ?_
  with_reducible assumption
  rfl
  with_reducible assumption
  with_reducible refine Touches.modEvr ?_ ?_
  with_reducible assumption
  rfl
  with_reducible refine Touches.modEvr ?_ ?_
  with_reducible assumption
  rfl
  with_reducible refine Touches.modPst ?_ ?_
  with_reducible assumption
  rfl
  with_reducible refine Touches.setBits ?_ ?_
  extract_lets +onlyGivenNames -underBinder v
  with_reducible refine Touches.setNat ?_ ?_
  with_reducible assumption
  rfl
  rfl
  with_reducible assumption
  with_reducible assumption

theorem Foot.rollEffect : ∀ s x1 x2, Touches 0x200000000 s (State.rollEffect s x1 x2) := by
  intro s x1 x2
  unfold State.rollEffect
  split
  split
  with_reducible refine Touches.modCke ?_ ?_
  with_reducible exact Touches.refl _ _
  rfl
  with_reducible exact Touches.refl _ _
  with_reducible exact Touches.refl _ _

theorem Foot.settlePass : ∀ s, Touches 0x800000 s (State.settlePass s) := by
  intro s
  unfold State.settlePass
  split
  split
  with_reducible exact Touches.refl _ _
  with_reducible refine Touches.modSvc ?_ ?_
  with_reducible exact Touches.refl _ _
  rfl
  with_reducible exact Touches.refl _ _

theorem Foot.deedPersistent : ∀ s x1 x2, Touches 0x5b46f8a186 s (State.deedPersistent s x1 x2) := by
  intro s x1 x2
  unfold State.deedPersistent
  extract_lets +onlyGivenNames -underBinder v
  have hv : Touches 0x5b46f8a186 s v := by
    unfold v
    with_reducible refine Touches.step ?_ (Foot.deedEffect ..) ?_
    extract_lets +onlyGivenNames -underBinder w
    with_reducible refine Touches.modPst ?_ ?_
    with_reducible exact Touches.refl _ _
    rfl
    rfl
  clear_value v
  split
  with_reducible refine Touches.step ?_ (Foot.settlePass ..) ?_
  with_reducible assumption
  rfl
  with_reducible assumption

theorem Foot.tallyEffect : ∀ s x1 x2, Touches 0x200000000 s (State.tallyEffect s x1 x2) := by
  intro s x1 x2
  unfold State.tallyEffect
  split
  with_reducible refine Touches.modCke ?_ ?_
  with_reducible exact Touches.refl _ _
  rfl
  with_reducible exact Touches.refl _ _

theorem Foot.tallyProgram : ∀ s x1 x2, Touches 0x800000000 s (State.tallyProgram s x1 x2) := by
  intro s x1 x2
  unfold State.tallyProgram
  split
  split
  with_reducible refine Touches.modPst ?_ ?_
  with_reducible exact Touches.refl _ _
  rfl
  with_reducible exact Touches.refl _ _
  with_reducible refine Touches.modPst ?_ ?_
  with_reducible exact Touches.refl _ _
  rfl

theorem Foot.hintWritten : ∀ s x1, Touches 0x800000000 s (State.hintWritten s x1) := by
  intro s x1
  unfold State.hintWritten
  extract_lets +onlyGivenNames -underBinder v
  have hv : Touches 0x800000000 s v := by
    unfold v
    with_reducible refine Touches.modPst ?_ ?_
    with_reducible exact Touches.refl _ _
    rfl
  clear_value v
  extract_lets +onlyGivenNames -underBinder v
  split
  with_reducible assumption
  with_reducible refine Touches.step ?_ (Foot.pstQueue ..) ?_
  extract_lets +onlyGivenNames -underBinder v
  with_reducible refine Touches.modPst ?_ ?_
  with_reducible assumption
  rfl
  rfl

theorem Foot.clearPersistent : ∀ s x1, Touches 0x1800002000 s (State.clearPersistent s x1) := by
  intro s x1
  unfold State.clearPersistent
  extract_lets +onlyGivenNames -underBinder v
  extract_lets +onlyGivenNames -underBinder v
  extract_lets +onlyGivenNames -underBinder v
  extract_lets +onlyGivenNames -underBinder v
  extract_lets +onlyGivenNames -underBinder v
  have hv : Touches 0x1800002000 s v := by
    unfold v
    with_reducible refine Touches.modEvr ?_ ?_
    with_reducible exact Touches.refl _ _
    rfl
  clear_value v
  extract_lets +onlyGivenNames -underBinder v
  have hv : Touches 0x1800002000 s v := by
    unfold v
    with_reducible refine Touches.setBits ?_ ?_
    with_reducible assumption
    rfl
  clear_value v
  with_reducible refine Touches.foldl (fun _ _ _ => ?_) ?_
  extract_lets +onlyGivenNames -underBinder v
  with_reducible refine Touches.step ?_ (Foot.pstQueue ..) ?_
  with_reducible assumption
  rfl
  with_reducible assumption

theorem Foot.enterSector : ∀ s, Touches 0x1800000000 s (State.enterSector s) := by
  intro s
  unfold State.enterSector
  extract_lets +onlyGivenNames -underBinder v
  split
  with_reducible exact Touches.refl _ _
  split
  with_reducible exact Touches.refl _ _
  with_reducible refine Touches.step ?_ (Foot.pstQueue ..) ?_
  extract_lets +onlyGivenNames -underBinder v
  with_reducible refine Touches.modEvr ?_ ?_
  with_reducible exact Touches.refl _ _
  rfl
  rfl

theorem Foot.drainWaiting : ∀ s x1, Touches 0x580068a084 s (State.drainWaiting s x1) := by
  intro s x1
  induction x1 generalizing s with
  | zero =>
    unfold State.drainWaiting
    with_reducible exact Touches.refl _ _
  | succ n ih =>
    unfold State.drainWaiting
    split
    with_reducible exact Touches.refl _ _
    split
    with_reducible refine Touches.step ?_ (ih ..) ?_
    extract_lets +onlyGivenNames -underBinder v
    with_reducible refine Touches.enqueueRec ?_ ?_
    extract_lets +onlyGivenNames -underBinder v
    with_reducible refine Touches.modEvr ?_ ?_
    with_reducible exact Touches.refl _ _
    rfl
    rfl
    rfl
    with_reducible exact Touches.refl _ _

theorem Foot.logMarked : ∀ s, Touches 0x580068a084 s (State.logMarked s) := by
  intro s
  unfold State.logMarked
  extract_lets +onlyGivenNames -underBinder v
  extract_lets +onlyGivenNames -underBinder v
  extract_lets +onlyGivenNames -underBinder v
  extract_lets +onlyGivenNames -underBinder v
  extract_lets +onlyGivenNames -underBinder v
  have hv : Touches 0x580068a084 s v := by
    unfold v
    with_reducible refine Touches.modEvr ?_ ?_
    with_reducible exact Touches.refl _ _
    rfl
  clear_value v
  extract_lets +onlyGivenNames -underBinder v
  have hv : Touches 0x580068a084 s v := by
    unfold v
    split
    with_reducible refine Touches.modEvr ?_ ?_
    with_reducible assumption
    rfl
    with_reducible assumption
  clear_value v
  extract_lets +onlyGivenNames -underBinder v
  have hv : Touches 0x580068a084 s v := by
    unfold v
    split
    with_reducible refine Touches.setBits ?_ ?_
    with_reducible assumption
    rfl
    with_reducible assumption
  clear_value v
  extract_lets +onlyGivenNames -underBinder v
  have hv : Touches 0x580068a084 s v := by
    unfold v
    split
    split
    with_reducible refine Touches.step ?_ (Foot.clearPersistent ..) ?_
    with_reducible assumption
    rfl
    with_reducible assumption
    with_reducible assumption
  clear_value v
  extract_lets +onlyGivenNames -underBinder v
  have hv : Touches 0x580068a084 s v := by
    unfold v
    split
    with_reducible refine Touches.step ?_ (Foot.enterSector ..) ?_
    with_reducible assumption
    rfl
    with_reducible assumption
  clear_value v
  extract_lets +onlyGivenNames -underBinder v
  have hv : Touches 0x580068a084 s v := by
    unfold v
    with_reducible refine Touches.step ?_ (Foot.drainWaiting ..) ?_
    with_reducible assumption
    rfl
  clear_value v
  split
  with_reducible assumption
  with_reducible refine Touches.step ?_ (Foot.pstQueue ..) ?_
  with_reducible assumption
  rfl

theorem Foot.spoilSlots : ∀ s x1 x2, Touches 0x1000000000 s (State.spoilSlots s x1 x2) := by
  intro s x1 x2
  unfold State.spoilSlots
  extract_lets +onlyGivenNames -underBinder v
  with_reducible refine Touches.modEvr ?_ ?_
  with_reducible exact Touches.refl _ _
  rfl

theorem Foot.programOk : ∀ s x1, Touches 0x5b46f8b186 s (State.programOk s x1) := by
  intro s x1
  unfold State.programOk
  split
  split
  with_reducible refine Touches.modPst ?_ ?_
  with_reducible exact Touches.refl _ _
  rfl
  with_reducible refine Touches.step ?_ (Foot.rollEffect ..) ?_
  extract_lets +onlyGivenNames -underBinder v
  with_reducible refine Touches.step ?_ (Foot.deedPersistent ..) ?_
  extract_lets +onlyGivenNames -underBinder v
  with_reducible refine Touches.modPst ?_ ?_
  with_reducible exact Touches.refl _ _
  rfl
  rfl
  rfl
  with_reducible refine Touches.modPst ?_ ?_
  with_reducible exact Touches.refl _ _
  rfl
  with_reducible refine Touches.modPst ?_ ?_
  with_reducible exact Touches.refl _ _
  rfl
  extract_lets +onlyGivenNames -underBinder v
  have hv : Touches 0x5b46f8b186 s v := by
    unfold v
    with_reducible refine Touches.modPst ?_ ?_
    with_reducible exact Touches.refl _ _
    rfl
  clear_value v
  split
  with_reducible exact Touches.refl _ _
  split
  with_reducible refine Touches.step ?_ (Foot.deferredNext ..) ?_
  with_reducible assumption
  rfl
  with_reducible assumption
  with_reducible refine Touches.step ?_ (Foot.tallyEffect ..) ?_
  extract_lets +onlyGivenNames -underBinder v
  with_reducible refine Touches.step ?_ (Foot.tallyProgram ..) ?_
  with_reducible exact Touches.refl _ _
  rfl
  rfl
  with_reducible refine Touches.step ?_ (Foot.hintWritten ..) ?_
  with_reducible exact Touches.refl _ _
  rfl
  with_reducible refine Touches.modPst ?_ ?_
  extract_lets +onlyGivenNames -underBinder v
  with_reducible refine Touches.modEvr ?_ ?_
  with_reducible exact Touches.refl _ _
  rfl
  rfl
  with_reducible refine Touches.step ?_ (Foot.logMarked ..) ?_
  with_reducible exact Touches.refl _ _
  rfl
  with_reducible refine Touches.modPst ?_ ?_
  with_reducible exact Touches.refl _ _
  rfl
  extract_lets +onlyGivenNames -underBinder v
  have hv : Touches 0x5b46f8b186 s v := by
    unfold v
    with_reducible refine Touches.foldl (fun _ _ _ => ?_) ?_
    extract_lets +onlyGivenNames -underBinder w
    with_reducible refine Touches.modPst ?_ ?_
    with_reducible assumption
    rfl
    with_reducible exact Touches.refl _ _
  clear_value v
  extract_lets +onlyGivenNames -underBinder v
  have hv : Touches 0x5b46f8b186 s v := by
    unfold v
    with_reducible refine Touches.step ?_ (Foot.spoilImage ..) ?_
    extract_lets +onlyGivenNames -underBinder w
    with_reducible refine Touches.step ?_ (Foot.spoilSlots ..) ?_
    with_reducible assumption
    rfl
    rfl
  clear_value v
  with_reducible refine Touches.setBits ?_ ?_
  extract_lets +onlyGivenNames -underBinder v
  with_reducible refine Touches.setNat ?_ ?_
  with_reducible assumption
  rfl
  rfl
  with_reducible exact Touches.refl _ _

theorem Foot.rawRead : ∀ s x1 x2, Touches 0x800001000 s (State.rawRead s x1 x2) := by
  intro s x1 x2
  unfold State.rawRead
  extract_lets +onlyGivenNames -underBinder v
  extract_lets +onlyGivenNames -underBinder v
  extract_lets +onlyGivenNames -underBinder v
  have hv : Touches 0x800001000 s v := by
    unfold v
    with_reducible refine Touches.modPst ?_ ?_
    with_reducible exact Touches.refl _ _
    rfl
  clear_value v
  with_reducible refine Touches.setBits ?_ ?_
  extract_lets +onlyGivenNames -underBinder v
  with_reducible refine Touches.setNat ?_ ?_
  with_reducible assumption
  rfl
  rfl

theorem Foot.rawBlank : ∀ s x1, Touches 0x1000 s (State.rawBlank s x1) := by
  intro s x1
  unfold State.rawBlank
  extract_lets +onlyGivenNames -underBinder v
  with_reducible refine Touches.setBits ?_ ?_
  extract_lets +onlyGivenNames -underBinder v
  with_reducible refine Touches.setNat ?_ ?_
  with_reducible exact Touches.refl _ _
  rfl
  rfl

theorem Foot.pstLaunch : ∀ s x1 x2, Touches 0x841001100 s (State.pstLaunch s x1 x2) := by
  intro s x1 x2
  have go (t : State) (h : Touches 0x841001100 s t) (op' : PstOp) : Touches 0x841001100 s (let s := if x2 then t else t.gateTake op'.energy
    let s := match op' with
      | .deed _ _ => s.modPst fun p => { p with gen := p.gen + 1 }
      | _ => s
    s.modPst fun p => { p with run := some { op := op', phase := 0, retried := false, start := s.nowNs }, owed := 0 }) := by
    extract_lets v w
    have hv : Touches 0x841001100 s v := by
      unfold v
      split
      · exact h
      · exact Touches.step h (Foot.gateTake ..) rfl
    have hw : Touches 0x841001100 s w := by
      unfold w
      split
      · exact Touches.modPst hv rfl
      · exact hv
    exact Touches.modPst hw rfl
  have h0 : Touches 0x841001100 s (s.modPst fun p => { p with gateWait := false, ungated := x2 }) := Touches.modPst (Touches.refl _ _) rfl
  cases x1
  case rawRead => exact Touches.step h0 (Foot.rawRead ..) rfl
  case rawBlank => exact Touches.step h0 (Foot.rawBlank ..) rfl
  case collect => exact Touches.modPst (f := fun p => { p with queue := p.collectSteps _ ++ p.queue }) h0 rfl
  case deed a b => exact go _ h0 (.deed a b)
  case mark a b => exact go _ h0 (.mark a b)
  case tally a b => exact go _ h0 (.tally a b)
  case hint a => exact go _ h0 (.hint a)
  case evrMark a => exact go _ h0 (.evrMark a)
  case imagePage a b => exact go _ h0 (.imagePage a b)
  case erase a b => exact go _ h0 (.erase a b)
  case rawProg a b => exact go _ h0 (.rawProg a b)
  case rawErase a => exact go _ h0 (.rawErase a)
  case evrBody => exact go _ h0 (.evrBody _)

theorem Foot.queueFront : ∀ s x1, Touches 0x1800000000 s (State.queueFront s x1) := by
  intro s x1
  unfold State.queueFront
  extract_lets +onlyGivenNames -underBinder v
  have hv : Touches 0x1800000000 s v := by
    unfold v
    with_reducible refine Touches.modEvr ?_ ?_
    with_reducible exact Touches.refl _ _
    rfl
  clear_value v
  with_reducible refine Touches.modPst ?_ ?_
  with_reducible assumption
  rfl

theorem Foot.skipSector : ∀ s, Touches 0x580068a084 s (State.skipSector s) := by
  intro s
  unfold State.skipSector
  extract_lets +onlyGivenNames -underBinder v
  extract_lets +onlyGivenNames -underBinder v
  extract_lets +onlyGivenNames -underBinder v
  have hv : Touches 0x580068a084 s v := by
    unfold v
    with_reducible refine Touches.evrFlag ?_ ?_
    extract_lets +onlyGivenNames -underBinder w
    with_reducible refine Touches.modEvr ?_ ?_
    with_reducible exact Touches.refl _ _
    rfl
    rfl
  clear_value v
  extract_lets +onlyGivenNames -underBinder v
  have hv : Touches 0x580068a084 s v := by
    unfold v
    split
    with_reducible assumption
    with_reducible refine Touches.step ?_ (Foot.pstQueue ..) ?_
    extract_lets +onlyGivenNames -underBinder w
    with_reducible refine Touches.modEvr ?_ ?_
    with_reducible assumption
    rfl
    rfl
  clear_value v
  split
  with_reducible assumption
  with_reducible refine Touches.raise ?_ ?_
  extract_lets +onlyGivenNames -underBinder v
  with_reducible refine Touches.modEvr ?_ ?_
  with_reducible assumption
  rfl
  rfl

theorem Foot.slotFails : ∀ s x1, Touches 0x800800002 s (State.slotFails s x1) := by
  intro s x1
  unfold State.slotFails
  extract_lets +onlyGivenNames -underBinder v
  have hv : Touches 0x800800002 s v := by
    unfold v
    split
    with_reducible refine Touches.setNat ?_ ?_
    with_reducible exact Touches.refl _ _
    rfl
    with_reducible exact Touches.refl _ _
  clear_value v
  extract_lets +onlyGivenNames -underBinder v
  have hv : Touches 0x800800002 s v := by
    unfold v
    with_reducible refine Touches.modPst ?_ ?_
    with_reducible assumption
    rfl
  clear_value v
  with_reducible refine Touches.modSvc ?_ ?_
  with_reducible assumption
  rfl

theorem Foot.retireSector : ∀ s x1, Touches 0x580068b084 s (State.retireSector s x1) := by
  intro s x1
  unfold State.retireSector
  extract_lets +onlyGivenNames -underBinder v
  have hv : Touches 0x580068b084 s v := by
    unfold v
    with_reducible refine Touches.flag ?_ ?_ ?_
    extract_lets +onlyGivenNames -underBinder w
    with_reducible refine Touches.raise ?_ ?_
    with_reducible exact Touches.refl _ _
    rfl
    rfl
    rfl
  clear_value v
  split
  extract_lets +onlyGivenNames -underBinder v
  have hv : Touches 0x580068b084 s v := by
    unfold v
    with_reducible refine Touches.flag ?_ ?_ ?_
    extract_lets +onlyGivenNames -underBinder w
    with_reducible refine Touches.raise ?_ ?_
    with_reducible assumption
    rfl
    rfl
    rfl
  clear_value v
  split
  with_reducible refine Touches.modPst ?_ ?_
  with_reducible assumption
  rfl
  with_reducible assumption
  with_reducible refine Touches.modPst ?_ ?_
  with_reducible assumption
  rfl

theorem Foot.eraseBad : ∀ s x1 x2, Touches 0xd850f8b0a6 s (State.eraseBad s x1 x2) := by
  intro s x1 x2
  unfold State.eraseBad
  extract_lets +onlyGivenNames -underBinder v
  have hv : Touches 0xd850f8b0a6 s v := by
    unfold v
    with_reducible refine Touches.flag ?_ ?_ ?_
    with_reducible exact Touches.refl _ _
    rfl
    rfl
  clear_value v
  extract_lets +onlyGivenNames -underBinder v
  have hv : Touches 0xd850f8b0a6 s v := by
    unfold v
    split
    extract_lets +onlyGivenNames -underBinder w
    have hw : Touches 0xd850f8b0a6 s w := by
      unfold w
      with_reducible refine Touches.modEvr ?_ ?_
      with_reducible assumption
      rfl
    clear_value w
    split
    with_reducible refine Touches.step ?_ (Foot.skipSector ..) ?_
    with_reducible assumption
    rfl
    with_reducible refine Touches.evrFlag ?_ ?_
    with_reducible assumption
    rfl
    with_reducible refine Touches.modEvr ?_ ?_
    with_reducible assumption
    rfl
    with_reducible refine Touches.step ?_ (Foot.slotFails ..) ?_
    extract_lets +onlyGivenNames -underBinder w
    with_reducible refine Touches.step ?_ (Foot.retireSector ..) ?_
    with_reducible assumption
    rfl
    rfl
    with_reducible refine Touches.step ?_ (Foot.retireSector ..) ?_
    with_reducible assumption
    rfl
    with_reducible refine Touches.setBits ?_ ?_
    extract_lets +onlyGivenNames -underBinder w
    with_reducible refine Touches.setNat ?_ ?_
    with_reducible assumption
    rfl
    rfl
    with_reducible assumption
  clear_value v
  split
  with_reducible refine Touches.modPst ?_ ?_
  with_reducible exact Touches.refl _ _
  rfl
  with_reducible refine Touches.step ?_ (Foot.pstEnd ..) ?_
  with_reducible assumption
  rfl

theorem Foot.lastGasp : ∀ s x1, Touches 0x1000002000 s (State.lastGasp s x1) := by
  intro s x1
  unfold State.lastGasp
  extract_lets +onlyGivenNames -underBinder v
  split
  with_reducible refine Touches.modEvr ?_ ?_
  with_reducible exact Touches.refl _ _
  rfl
  with_reducible refine Touches.setBits ?_ ?_
  extract_lets +onlyGivenNames -underBinder v
  with_reducible refine Touches.modEvr ?_ ?_
  with_reducible exact Touches.refl _ _
  rfl
  rfl

theorem Foot.logFailed : ∀ s, Touches 0x580068a084 s (State.logFailed s) := by
  intro s
  unfold State.logFailed
  extract_lets +onlyGivenNames -underBinder v
  extract_lets +onlyGivenNames -underBinder v
  extract_lets +onlyGivenNames -underBinder v
  extract_lets +onlyGivenNames -underBinder v
  extract_lets +onlyGivenNames -underBinder v
  have hv : Touches 0x580068a084 s v := by
    unfold v
    with_reducible refine Touches.modEvr ?_ ?_
    with_reducible exact Touches.refl _ _
    rfl
  clear_value v
  extract_lets +onlyGivenNames -underBinder v
  have hv : Touches 0x580068a084 s v := by
    unfold v
    split
    with_reducible refine Touches.step ?_ (Foot.lastGasp ..) ?_
    with_reducible assumption
    rfl
    with_reducible assumption
  clear_value v
  extract_lets +onlyGivenNames -underBinder v
  have hv : Touches 0x580068a084 s v := by
    unfold v
    with_reducible refine Touches.evrFlag ?_ ?_
    extract_lets +onlyGivenNames -underBinder w
    with_reducible refine Touches.step ?_ (Foot.queueFront ..) ?_
    with_reducible assumption
    rfl
    rfl
  clear_value v
  extract_lets +onlyGivenNames -underBinder v
  have hv : Touches 0x580068a084 s v := by
    unfold v
    with_reducible refine Touches.modEvr ?_ ?_
    with_reducible assumption
    rfl
  clear_value v
  extract_lets +onlyGivenNames -underBinder v
  extract_lets +onlyGivenNames -underBinder v
  extract_lets +onlyGivenNames -underBinder v
  have hv : Touches 0x580068a084 s v := by
    unfold v
    with_reducible refine Touches.modEvr ?_ ?_
    with_reducible assumption
    rfl
  clear_value v
  extract_lets +onlyGivenNames -underBinder v
  have hv : Touches 0x580068a084 s v := by
    unfold v
    with_reducible refine Touches.evrFlag ?_ ?_
    extract_lets +onlyGivenNames -underBinder w
    with_reducible refine Touches.raise ?_ ?_
    with_reducible assumption
    rfl
    rfl
  clear_value v
  split
  with_reducible refine Touches.step ?_ (Foot.skipSector ..) ?_
  with_reducible assumption
  rfl
  split
  with_reducible assumption
  with_reducible refine Touches.step ?_ (Foot.lastGasp ..) ?_
  with_reducible assumption
  rfl

theorem Foot.programFailed : ∀ s x1 x2, Touches 0x5800e8b086 s (State.programFailed s x1 x2) := by
  intro s x1 x2
  unfold State.programFailed
  extract_lets +onlyGivenNames -underBinder v
  have hv : Touches 0x5800e8b086 s v := by
    unfold v
    with_reducible refine Touches.flag ?_ ?_ ?_
    with_reducible exact Touches.refl _ _
    rfl
    rfl
  clear_value v
  split
  with_reducible refine Touches.step ?_ (Foot.retireSector ..) ?_
  extract_lets +onlyGivenNames -underBinder v
  split
  with_reducible refine Touches.flag ?_ ?_ ?_
  with_reducible assumption
  rfl
  rfl
  with_reducible assumption
  rfl
  with_reducible refine Touches.step ?_ (Foot.retireSector ..) ?_
  with_reducible assumption
  rfl
  with_reducible refine Touches.step ?_ (Foot.retireSector ..) ?_
  with_reducible assumption
  rfl
  with_reducible refine Touches.step ?_ (Foot.retireSector ..) ?_
  with_reducible assumption
  rfl
  with_reducible refine Touches.step ?_ (Foot.logFailed ..) ?_
  with_reducible assumption
  rfl
  with_reducible refine Touches.step ?_ (Foot.logFailed ..) ?_
  with_reducible assumption
  rfl
  with_reducible refine Touches.step ?_ (Foot.slotFails ..) ?_
  extract_lets +onlyGivenNames -underBinder v
  with_reducible refine Touches.step ?_ (Foot.retireSector ..) ?_
  with_reducible assumption
  rfl
  rfl
  with_reducible refine Touches.setBits ?_ ?_
  extract_lets +onlyGivenNames -underBinder v
  with_reducible refine Touches.setNat ?_ ?_
  with_reducible assumption
  rfl
  rfl
  with_reducible assumption

theorem Foot.programBad : ∀ s x1 x2, Touches 0xd850f8b0a6 s (State.programBad s x1 x2) := by
  intro s x1 x2
  unfold State.programBad
  extract_lets +onlyGivenNames -underBinder v
  have hv : Touches 0xd850f8b0a6 s v := by
    unfold v
    with_reducible refine Touches.step ?_ (Foot.programFailed ..) ?_
    with_reducible exact Touches.refl _ _
    rfl
  clear_value v
  extract_lets +onlyGivenNames -underBinder v
  have hv : Touches 0xd850f8b0a6 s v := by
    unfold v
    with_reducible refine Touches.step ?_ (Foot.pstEnd ..) ?_
    with_reducible assumption
    rfl
  clear_value v
  split
  with_reducible refine Touches.modPst ?_ ?_
  with_reducible exact Touches.refl _ _
  rfl
  split
  with_reducible refine Touches.modPst ?_ ?_
  with_reducible assumption
  rfl
  split
  split
  with_reducible assumption
  with_reducible refine Touches.step ?_ (Foot.pstQueue ..) ?_
  with_reducible assumption
  rfl
  with_reducible refine Touches.step ?_ (Foot.pstEnd ..) ?_
  with_reducible assumption
  rfl

theorem Foot.pstDataRead : ∀ s, SndT 0x1000 s (State.pstDataRead s) := by
  intro s
  unfold State.pstDataRead
  with_reducible refine SndT.pair ?_
  extract_lets +onlyGivenNames -underBinder v
  with_reducible refine Touches.setNat ?_ ?_
  with_reducible exact Touches.refl _ _
  rfl

theorem Foot.pstDataWrite : ∀ s x1, Touches 0x800001000 s (State.pstDataWrite s x1) := by
  intro s x1
  unfold State.pstDataWrite
  extract_lets +onlyGivenNames -underBinder v
  with_reducible refine Touches.modPst ?_ ?_
  extract_lets +onlyGivenNames -underBinder v
  with_reducible refine Touches.setNat ?_ ?_
  with_reducible exact Touches.refl _ _
  rfl
  rfl

theorem Foot.pstWait : ∀ s, Touches 0x800001000 s (State.pstWait s) := by
  intro s
  unfold State.pstWait
  with_reducible refine Touches.modPst ?_ ?_
  extract_lets +onlyGivenNames -underBinder v
  split
  with_reducible exact Touches.refl _ _
  with_reducible refine Touches.incReg ?_ ?_
  with_reducible exact Touches.refl _ _
  rfl
  rfl

theorem Foot.pstStart : ∀ s x1, Touches 0x841001100 s (State.pstStart s x1) := by
  intro s x1
  unfold State.pstStart
  split
  with_reducible exact Touches.refl _ _
  split
  with_reducible exact Touches.refl _ _
  split
  with_reducible exact Touches.refl _ _
  split
  with_reducible refine Touches.modPst ?_ ?_
  with_reducible exact Touches.refl _ _
  rfl
  split
  with_reducible refine Touches.modPst ?_ ?_
  with_reducible exact Touches.refl _ _
  rfl
  split
  with_reducible exact Touches.refl _ _
  split
  with_reducible refine Touches.step ?_ (Foot.pstLaunch ..) ?_
  extract_lets +onlyGivenNames -underBinder v
  with_reducible refine Touches.modPst ?_ ?_
  with_reducible exact Touches.refl _ _
  rfl
  rfl
  with_reducible refine Touches.step ?_ (Foot.pstWait ..) ?_
  with_reducible exact Touches.refl _ _
  rfl

theorem Foot.rawResult : ∀ s x1, Touches 0x1000 s (State.rawResult s x1) := by
  intro s x1
  unfold State.rawResult
  with_reducible refine Touches.setBits ?_ ?_
  extract_lets +onlyGivenNames -underBinder v
  with_reducible refine Touches.setNat ?_ ?_
  with_reducible exact Touches.refl _ _
  rfl
  rfl

theorem Foot.cmdCollect : ∀ x1 x2 s, ResT 0x8800001000 s (execCollect x1 x2 s) := by
  intro x1 x2 s
  unfold execCollect
  extract_lets +onlyGivenNames -underBinder v
  have hv : Touches 0x8800001000 s v := by
    unfold v
    with_reducible refine Touches.setBits ?_ ?_
    extract_lets +onlyGivenNames -underBinder w
    with_reducible refine Touches.setField ?_ ?_
    with_reducible exact Touches.refl _ _
    rfl
    rfl
  clear_value v
  split
  with_reducible refine ResT.next ?_
  with_reducible exact Touches.refl _ _
  with_reducible refine ResT.next ?_
  extract_lets +onlyGivenNames -underBinder v
  with_reducible refine Touches.emit ?_ ?_
  extract_lets +onlyGivenNames -underBinder v
  with_reducible refine Touches.step ?_ (Foot.pstQueue ..) ?_
  with_reducible assumption
  rfl
  rfl

theorem Foot.cmdMarginScan : ∀ x1 s, ResT 0x8800001000 s (execMarginScan x1 s) := by
  intro x1 s
  unfold execMarginScan
  extract_lets +onlyGivenNames -underBinder v
  extract_lets +onlyGivenNames -underBinder v
  have hv : Touches 0x8800001000 s v := by
    unfold v
    with_reducible refine Touches.emit ?_ ?_
    with_reducible exact Touches.refl _ _
    rfl
  clear_value v
  extract_lets +onlyGivenNames -underBinder v
  have hv : Touches 0x8800001000 s v := by
    unfold v
    with_reducible refine Touches.addReg ?_ ?_
    extract_lets +onlyGivenNames -underBinder w
    with_reducible refine Touches.addReg ?_ ?_
    extract_lets +onlyGivenNames -underBinder w
    with_reducible refine Touches.modPst ?_ ?_
    with_reducible assumption
    rfl
    rfl
    rfl
  clear_value v
  split
  with_reducible refine ResT.next ?_
  with_reducible exact Touches.refl _ _
  with_reducible refine ResT.next ?_
  extract_lets +onlyGivenNames -underBinder v
  with_reducible refine Touches.setBits ?_ ?_
  extract_lets +onlyGivenNames -underBinder v
  with_reducible refine Touches.clearBits ?_ ?_
  with_reducible assumption
  rfl
  rfl

theorem Foot.cmdPstParamWrite : ∀ x1 x2 s, ResT 0x8000001000 s (execPstParamWrite x1 x2 s) := by
  intro x1 x2 s
  unfold execPstParamWrite
  extract_lets +onlyGivenNames -underBinder v
  extract_lets +onlyGivenNames -underBinder v
  have hv : Touches 0x8000001000 s v := by
    unfold v
    with_reducible refine Touches.emit ?_ ?_
    with_reducible exact Touches.refl _ _
    rfl
  clear_value v
  split
  with_reducible refine ResT.next ?_
  with_reducible exact Touches.refl _ _
  with_reducible refine ResT.next ?_
  extract_lets +onlyGivenNames -underBinder v
  split
  with_reducible refine Touches.setNat ?_ ?_
  with_reducible assumption
  rfl
  with_reducible assumption

theorem Foot.cmdPstRead : ∀ x1 s, ResT 0x8800001000 s (execPstRead x1 s) := by
  intro x1 s
  unfold execPstRead
  extract_lets +onlyGivenNames -underBinder v
  extract_lets +onlyGivenNames -underBinder v
  extract_lets +onlyGivenNames -underBinder v
  have hv : Touches 0x8800001000 s v := by
    unfold v
    with_reducible refine Touches.emit ?_ ?_
    extract_lets +onlyGivenNames -underBinder w
    with_reducible refine Touches.setNat ?_ ?_
    with_reducible exact Touches.refl _ _
    rfl
    rfl
  clear_value v
  split
  with_reducible refine ResT.next ?_
  with_reducible exact Touches.refl _ _
  split
  with_reducible refine ResT.next ?_
  extract_lets +onlyGivenNames -underBinder v
  with_reducible refine Touches.step ?_ (Foot.pstQueue ..) ?_
  with_reducible assumption
  rfl
  with_reducible refine ResT.next ?_
  extract_lets +onlyGivenNames -underBinder v
  with_reducible refine Touches.step ?_ (Foot.rawRead ..) ?_
  with_reducible assumption
  rfl

theorem Foot.cmdPstProg : ∀ x1 s, ResT 0x8800001000 s (execPstProg x1 s) := by
  intro x1 s
  unfold execPstProg
  extract_lets +onlyGivenNames -underBinder v
  extract_lets +onlyGivenNames -underBinder v
  extract_lets +onlyGivenNames -underBinder v
  have hv : Touches 0x8800001000 s v := by
    unfold v
    with_reducible refine Touches.emit ?_ ?_
    extract_lets +onlyGivenNames -underBinder w
    with_reducible refine Touches.setNat ?_ ?_
    with_reducible exact Touches.refl _ _
    rfl
    rfl
  clear_value v
  extract_lets +onlyGivenNames -underBinder v
  split
  with_reducible refine ResT.next ?_
  with_reducible exact Touches.refl _ _
  split
  with_reducible refine ResT.next ?_
  extract_lets +onlyGivenNames -underBinder v
  with_reducible refine Touches.step ?_ (Foot.rawResult ..) ?_
  with_reducible assumption
  rfl
  split
  with_reducible refine ResT.next ?_
  extract_lets +onlyGivenNames -underBinder v
  with_reducible refine Touches.step ?_ (Foot.rawResult ..) ?_
  with_reducible assumption
  rfl
  with_reducible refine ResT.next ?_
  extract_lets +onlyGivenNames -underBinder v
  with_reducible refine Touches.step ?_ (Foot.pstQueue ..) ?_
  with_reducible assumption
  rfl

theorem Foot.cmdPstErase : ∀ x1 s, ResT 0x8800001000 s (execPstErase x1 s) := by
  intro x1 s
  unfold execPstErase
  extract_lets +onlyGivenNames -underBinder v
  extract_lets +onlyGivenNames -underBinder v
  have hv : Touches 0x8800001000 s v := by
    unfold v
    with_reducible refine Touches.emit ?_ ?_
    extract_lets +onlyGivenNames -underBinder w
    with_reducible refine Touches.setNat ?_ ?_
    with_reducible exact Touches.refl _ _
    rfl
    rfl
  clear_value v
  split
  with_reducible refine ResT.next ?_
  with_reducible exact Touches.refl _ _
  split
  with_reducible refine ResT.next ?_
  extract_lets +onlyGivenNames -underBinder v
  with_reducible refine Touches.step ?_ (Foot.rawResult ..) ?_
  with_reducible assumption
  rfl
  split
  with_reducible refine ResT.next ?_
  extract_lets +onlyGivenNames -underBinder v
  with_reducible refine Touches.step ?_ (Foot.rawResult ..) ?_
  with_reducible assumption
  rfl
  with_reducible refine ResT.next ?_
  extract_lets +onlyGivenNames -underBinder v
  with_reducible refine Touches.step ?_ (Foot.pstQueue ..) ?_
  with_reducible assumption
  rfl

theorem Foot.cmdPstBlankCheck : ∀ x1 s, ResT 0x8800001000 s (execPstBlankCheck x1 s) := by
  intro x1 s
  unfold execPstBlankCheck
  extract_lets +onlyGivenNames -underBinder v
  extract_lets +onlyGivenNames -underBinder v
  have hv : Touches 0x8800001000 s v := by
    unfold v
    with_reducible refine Touches.emit ?_ ?_
    extract_lets +onlyGivenNames -underBinder w
    with_reducible refine Touches.setNat ?_ ?_
    with_reducible exact Touches.refl _ _
    rfl
    rfl
  clear_value v
  split
  with_reducible refine ResT.next ?_
  with_reducible exact Touches.refl _ _
  split
  with_reducible refine ResT.next ?_
  extract_lets +onlyGivenNames -underBinder v
  with_reducible refine Touches.step ?_ (Foot.rawResult ..) ?_
  with_reducible assumption
  rfl
  split
  with_reducible refine ResT.next ?_
  extract_lets +onlyGivenNames -underBinder v
  with_reducible refine Touches.step ?_ (Foot.pstQueue ..) ?_
  with_reducible assumption
  rfl
  with_reducible refine ResT.next ?_
  extract_lets +onlyGivenNames -underBinder v
  with_reducible refine Touches.step ?_ (Foot.rawResult ..) ?_
  with_reducible assumption
  rfl

theorem Foot.cmdPstOpStart : ∀ x1 s, ResT 0x584168b184 s (execPstOpStart x1 s) := by
  intro x1 s
  unfold execPstOpStart
  with_reducible refine ResT.next ?_
  extract_lets +onlyGivenNames -underBinder v
  with_reducible refine Touches.step ?_ (Foot.pstStart ..) ?_
  extract_lets +onlyGivenNames -underBinder v
  with_reducible refine Touches.clockTo ?_ ?_
  with_reducible exact Touches.refl _ _
  rfl
  rfl

theorem Foot.cmdPageProgramDone : ∀ x1 x2 s, ResT 0xdb56f8b1a6 s (execPageProgramDone x1 x2 s) := by
  intro x1 x2 s
  unfold execPageProgramDone
  extract_lets +onlyGivenNames -underBinder v
  have hv : Touches 0xdb56f8b1a6 s v := by
    unfold v
    with_reducible refine Touches.clockTo ?_ ?_
    with_reducible exact Touches.refl _ _
    rfl
  clear_value v
  split
  with_reducible refine ResT.next ?_
  with_reducible assumption
  extract_lets +onlyGivenNames -underBinder v
  have hv : Touches 0xdb56f8b1a6 s v := by
    unfold v
    with_reducible refine Touches.incReg ?_ ?_
    with_reducible assumption
    rfl
  clear_value v
  extract_lets +onlyGivenNames -underBinder v
  have hv : Touches 0xdb56f8b1a6 s v := by
    unfold v
    split
    with_reducible refine Touches.nearMiss ?_ ?_
    with_reducible assumption
    rfl
    with_reducible assumption
  clear_value v
  extract_lets +onlyGivenNames -underBinder v
  have hv : Touches 0xdb56f8b1a6 s v := by
    unfold v
    with_reducible refine Touches.step ?_ (Foot.programOk ..) ?_
    with_reducible assumption
    rfl
  clear_value v
  split
  with_reducible refine ResT.next ?_
  with_reducible assumption
  split
  with_reducible refine ResT.next ?_
  extract_lets +onlyGivenNames -underBinder v
  with_reducible refine Touches.step ?_ (Foot.programBad ..) ?_
  with_reducible assumption
  rfl
  split
  with_reducible refine ResT.next ?_
  extract_lets +onlyGivenNames -underBinder v
  with_reducible refine Touches.modPst ?_ ?_
  with_reducible assumption
  rfl
  with_reducible refine ResT.next ?_
  extract_lets +onlyGivenNames -underBinder v
  with_reducible refine Touches.step ?_ (Foot.pstEnd ..) ?_
  with_reducible assumption
  rfl

theorem Foot.cmdSectorEraseDone : ∀ x1 x2 s, ResT 0xd850f8b0a6 s (execSectorEraseDone x1 x2 s) := by
  intro x1 x2 s
  unfold execSectorEraseDone
  extract_lets +onlyGivenNames -underBinder v
  have hv : Touches 0xd850f8b0a6 s v := by
    unfold v
    with_reducible refine Touches.clockTo ?_ ?_
    with_reducible exact Touches.refl _ _
    rfl
  clear_value v
  split
  with_reducible refine ResT.next ?_
  with_reducible assumption
  extract_lets +onlyGivenNames -underBinder v
  have hv : Touches 0xd850f8b0a6 s v := by
    unfold v
    with_reducible refine Touches.incReg ?_ ?_
    with_reducible assumption
    rfl
  clear_value v
  extract_lets +onlyGivenNames -underBinder v
  have hv : Touches 0xd850f8b0a6 s v := by
    unfold v
    split
    with_reducible refine Touches.nearMiss ?_ ?_
    with_reducible assumption
    rfl
    with_reducible assumption
  clear_value v
  split
  with_reducible refine ResT.next ?_
  with_reducible assumption
  split
  with_reducible refine ResT.next ?_
  extract_lets +onlyGivenNames -underBinder v
  with_reducible refine Touches.step ?_ (Foot.eraseBad ..) ?_
  with_reducible assumption
  rfl
  split
  with_reducible refine ResT.next ?_
  extract_lets +onlyGivenNames -underBinder v
  with_reducible refine Touches.step ?_ (Foot.pstEnd ..) ?_
  extract_lets +onlyGivenNames -underBinder v
  with_reducible refine Touches.step ?_ (Foot.eraseVerified ..) ?_
  with_reducible assumption
  rfl
  rfl
  with_reducible refine ResT.next ?_
  extract_lets +onlyGivenNames -underBinder v
  with_reducible refine Touches.step ?_ (Foot.pstEnd ..) ?_
  extract_lets +onlyGivenNames -underBinder v
  with_reducible refine Touches.modEvr ?_ ?_
  extract_lets +onlyGivenNames -underBinder v
  with_reducible refine Touches.step ?_ (Foot.eraseVerified ..) ?_
  with_reducible assumption
  rfl
  rfl
  rfl
  with_reducible refine ResT.next ?_
  extract_lets +onlyGivenNames -underBinder v
  with_reducible refine Touches.step ?_ (Foot.pstEnd ..) ?_
  with_reducible assumption
  rfl

theorem Foot.cmdPageProgramTimeout : ∀ x1 s, ResT 0xd850f8b0a6 s (execPageProgramTimeout x1 s) := by
  intro x1 s
  unfold execPageProgramTimeout
  extract_lets +onlyGivenNames -underBinder v
  have hv : Touches 0xd850f8b0a6 s v := by
    unfold v
    with_reducible refine Touches.clockTo ?_ ?_
    with_reducible exact Touches.refl _ _
    rfl
  clear_value v
  split
  with_reducible refine ResT.next ?_
  with_reducible assumption
  split
  with_reducible refine ResT.next ?_
  with_reducible assumption
  with_reducible refine ResT.next ?_
  extract_lets +onlyGivenNames -underBinder v
  with_reducible refine Touches.step ?_ (Foot.programBad ..) ?_
  with_reducible assumption
  rfl

theorem Foot.cmdSectorEraseTimeout : ∀ x1 s, ResT 0xd850f8b0a6 s (execSectorEraseTimeout x1 s) := by
  intro x1 s
  unfold execSectorEraseTimeout
  extract_lets +onlyGivenNames -underBinder v
  have hv : Touches 0xd850f8b0a6 s v := by
    unfold v
    with_reducible refine Touches.clockTo ?_ ?_
    with_reducible exact Touches.refl _ _
    rfl
  clear_value v
  split
  with_reducible refine ResT.next ?_
  with_reducible assumption
  split
  with_reducible refine ResT.next ?_
  extract_lets +onlyGivenNames -underBinder v
  with_reducible refine Touches.step ?_ (Foot.eraseBad ..) ?_
  with_reducible assumption
  rfl
  with_reducible refine ResT.next ?_
  with_reducible assumption

theorem Foot.cmdMgmtHoldTimeout : ∀ x1 s, ResT 0x584168b184 s (execMgmtHoldTimeout x1 s) := by
  intro x1 s
  unfold execMgmtHoldTimeout
  with_reducible refine ResT.next ?_
  extract_lets +onlyGivenNames -underBinder v
  split
  with_reducible refine Touches.step ?_ (Foot.pstStart ..) ?_
  extract_lets +onlyGivenNames -underBinder v
  with_reducible refine Touches.clockTo ?_ ?_
  with_reducible exact Touches.refl _ _
  rfl
  rfl
  with_reducible refine Touches.clockTo ?_ ?_
  with_reducible exact Touches.refl _ _
  rfl

theorem Foot.cmdPstDataAccess : ∀ x1 x2 s, ResT 0x8800001000 s (execPstDataAccess x1 x2 s) := by
  intro x1 x2 s
  unfold execPstDataAccess
  split
  with_reducible refine ResT.next ?_
  with_reducible exact Touches.refl _ _
  split
  with_reducible refine ResT.next ?_
  extract_lets +onlyGivenNames -underBinder v
  with_reducible refine Touches.emit ?_ ?_
  extract_lets +onlyGivenNames -underBinder v
  with_reducible refine Touches.step ?_ (Foot.pstDataWrite ..) ?_
  with_reducible exact Touches.refl _ _
  rfl
  rfl
  with_reducible refine ResT.next ?_
  extract_lets +onlyGivenNames -underBinder v
  with_reducible refine Touches.emit ?_ ?_
  extract_lets +onlyGivenNames -underBinder v
  with_reducible refine SndT.snd (Foot.pstDataRead ..) ?_ ?_
  with_reducible exact Touches.refl _ _
  rfl
  rfl

end Sys2Proof.Machine
end

