-- ==== Sys2Proof/Laws/FootStage.lean ====
section
/-! SUPPORT. The footprint of each operation of Machine/Stage.lean: the parts of the state it may change. -/

namespace Sys2Proof.Machine

theorem Foot.closeStripes : ∀ s, Touches 0x20000000 s (State.closeStripes s) := by
  intro s
  unfold State.closeStripes
  extract_lets +onlyGivenNames -underBinder v
  with_reducible refine Touches.modMdc ?_ ?_
  with_reducible exact Touches.refl _ _
  rfl

theorem Foot.closeLog : ∀ s x1, Touches 0x26000000 s (State.closeLog s x1) := by
  intro s x1
  unfold State.closeLog
  split
  extract_lets +onlyGivenNames -underBinder v
  have hv : Touches 0x26000000 s v := by
    unfold v
    with_reducible refine Touches.step ?_ (Foot.modMap ..) ?_
    with_reducible exact Touches.refl _ _
    rfl
  clear_value v
  extract_lets +onlyGivenNames -underBinder v
  have hv : Touches 0x26000000 s v := by
    unfold v
    split
    with_reducible refine Touches.modCds ?_ ?_
    with_reducible assumption
    rfl
    with_reducible assumption
  clear_value v
  with_reducible refine Touches.step ?_ (Foot.closeStripes ..) ?_
  with_reducible assumption
  rfl
  with_reducible exact Touches.refl _ _

theorem Foot.enterReadonly : ∀ s, Touches 0x78036ce09d s (State.enterReadonly s) := by
  intro s
  unfold State.enterReadonly
  extract_lets +onlyGivenNames -underBinder v
  extract_lets +onlyGivenNames -underBinder v
  extract_lets +onlyGivenNames -underBinder v
  have hv : Touches 0x78036ce09d s v := by
    unfold v
    with_reducible refine Touches.setNat ?_ ?_
    with_reducible exact Touches.refl _ _
    rfl
  clear_value v
  extract_lets +onlyGivenNames -underBinder v
  have hv : Touches 0x78036ce09d s v := by
    unfold v
    with_reducible refine Touches.setBits ?_ ?_
    extract_lets +onlyGivenNames -underBinder w
    with_reducible refine Touches.modCds ?_ ?_
    with_reducible assumption
    rfl
    rfl
  clear_value v
  extract_lets +onlyGivenNames -underBinder v
  have hv : Touches 0x78036ce09d s v := by
    unfold v
    with_reducible refine Touches.goState ?_ ?_ ?_ ?_ ?_ ?_
    extract_lets +onlyGivenNames -underBinder w
    with_reducible refine Touches.raise ?_ ?_
    with_reducible assumption
    rfl
    rfl
    rfl
    rfl
    rfl
    rfl
  clear_value v
  extract_lets +onlyGivenNames -underBinder v
  have hv : Touches 0x78036ce09d s v := by
    unfold v
    with_reducible refine Touches.modStg ?_ ?_
    with_reducible assumption
    rfl
  clear_value v
  with_reducible refine Touches.raise ?_ ?_
  extract_lets +onlyGivenNames -underBinder v
  with_reducible refine Touches.setBits ?_ ?_
  with_reducible assumption
  rfl
  rfl

theorem Foot.leaveReadonly : ∀ s, Touches 0x78036ce095 s (State.leaveReadonly s) := by
  intro s
  unfold State.leaveReadonly
  extract_lets +onlyGivenNames -underBinder v
  have hv : Touches 0x78036ce095 s v := by
    unfold v
    with_reducible refine Touches.setBits ?_ ?_
    extract_lets +onlyGivenNames -underBinder w
    with_reducible refine Touches.modCds ?_ ?_
    with_reducible exact Touches.refl _ _
    rfl
    rfl
  clear_value v
  extract_lets +onlyGivenNames -underBinder v
  have hv : Touches 0x78036ce095 s v := by
    unfold v
    with_reducible refine Touches.raise ?_ ?_
    extract_lets +onlyGivenNames -underBinder w
    with_reducible refine Touches.clearBits ?_ ?_
    with_reducible assumption
    rfl
    rfl
  clear_value v
  with_reducible refine Touches.modStg ?_ ?_
  extract_lets +onlyGivenNames -underBinder v
  with_reducible refine Touches.step ?_ (Foot.goReady ..) ?_
  with_reducible assumption
  rfl
  rfl

theorem Foot.checkReadonly : ∀ s, Touches 0x78036ce09d s (State.checkReadonly s) := by
  intro s
  unfold State.checkReadonly
  split
  split
  with_reducible exact Touches.refl _ _
  with_reducible refine Touches.step ?_ (Foot.enterReadonly ..) ?_
  with_reducible exact Touches.refl _ _
  rfl
  split
  with_reducible refine Touches.step ?_ (Foot.leaveReadonly ..) ?_
  with_reducible exact Touches.refl _ _
  rfl
  with_reducible exact Touches.refl _ _
  with_reducible exact Touches.refl _ _

theorem Foot.useSlot : ∀ s x1 x2, SndT 0x6000010 s (State.useSlot s x1 x2) := by
  intro s x1 x2
  unfold State.useSlot
  with_reducible refine SndT.pair ?_
  extract_lets +onlyGivenNames -underBinder v
  with_reducible refine Touches.modCds ?_ ?_
  extract_lets +onlyGivenNames -underBinder v
  with_reducible refine Touches.addPair ?_ ?_ ?_
  extract_lets +onlyGivenNames -underBinder v
  with_reducible refine Touches.step ?_ (Foot.modBoth ..) ?_
  with_reducible exact Touches.refl _ _
  rfl
  rfl
  rfl
  rfl

theorem Foot.streamSlot : ∀ s x1 x2, OptT3 0x6000010 s (State.streamSlot s x1 x2) := by
  intro s x1 x2
  unfold State.streamSlot
  with_reducible refine OptT3.some ?_
  extract_lets +onlyGivenNames -underBinder v
  with_reducible refine SndT.snd (Foot.useSlot ..) ?_ ?_
  with_reducible exact Touches.refl _ _
  rfl

theorem Foot.openLogBand : ∀ s x1 x2, OptT2 0x581668a0a4 s (State.openLogBand s x1 x2) := by
  intro s x1 x2
  unfold State.openLogBand
  split
  exact OptT2.none
  with_reducible refine OptT2.map (fun _ => ?_)
  extract_lets +onlyGivenNames -underBinder v
  extract_lets +onlyGivenNames -underBinder v
  have hv : Touches 0x581668a0a4 s v := by
    unfold v
    with_reducible refine Touches.step ?_ (Foot.mapCommit ..) ?_
    with_reducible exact Touches.refl _ _
    rfl
  clear_value v
  with_reducible assumption

theorem Foot.nextLog : ∀ s, OptT2 0x581668a0a4 s (State.nextLog s) := by
  intro s
  unfold State.nextLog
  extract_lets +onlyGivenNames -underBinder v
  have hv : Touches 0x581668a0a4 s v := by
    unfold v
    split
    with_reducible refine Touches.getD ?_ ?_
    with_reducible refine OptT2.snd ?_
    extract_lets +onlyGivenNames -underBinder w
    with_reducible refine OptT2.step ?_ (Foot.openLogBand ..) ?_
    with_reducible exact Touches.refl _ _
    rfl
    with_reducible exact Touches.refl _ _
    with_reducible exact Touches.refl _ _
  clear_value v
  extract_lets +onlyGivenNames -underBinder v
  extract_lets +onlyGivenNames -underBinder v
  split
  exact OptT2.none
  with_reducible refine OptT2.some ?_
  extract_lets +onlyGivenNames -underBinder v
  with_reducible refine Touches.modCds ?_ ?_
  with_reducible assumption
  rfl

theorem Foot.ordinarySlot : ∀ s, OptT3 0x583668a0b4 s (State.ordinarySlot s) := by
  intro s
  unfold State.ordinarySlot
  split
  exact OptT3.none
  with_reducible refine OptT3.some ?_
  extract_lets +onlyGivenNames -underBinder v
  split
  with_reducible refine Touches.step ?_ (Foot.closeLog ..) ?_
  extract_lets +onlyGivenNames -underBinder v
  with_reducible refine SndT.snd (Foot.useSlot ..) ?_ ?_
  extract_lets +onlyGivenNames -underBinder v
  with_reducible refine OptT2.get (Foot.nextLog ..) (by assumption) ?_ ?_
  with_reducible exact Touches.refl _ _
  rfl
  rfl
  rfl
  with_reducible refine SndT.snd (Foot.useSlot ..) ?_ ?_
  extract_lets +onlyGivenNames -underBinder v
  with_reducible refine OptT2.get (Foot.nextLog ..) (by assumption) ?_ ?_
  with_reducible exact Touches.refl _ _
  rfl
  rfl

theorem Foot.takeSlot : ∀ s x1 x2, OptT3 0x583668a0b4 s (State.takeSlot s x1 x2) := by
  intro s x1 x2
  unfold State.takeSlot
  extract_lets +onlyGivenNames -underBinder v
  extract_lets +onlyGivenNames -underBinder v
  extract_lets +onlyGivenNames -underBinder v
  extract_lets +onlyGivenNames -underBinder v
  split
  exact OptT3.none
  split
  with_reducible refine OptT3.step ?_ (Foot.streamSlot ..) ?_
  with_reducible exact Touches.refl _ _
  rfl
  split
  split
  with_reducible refine OptT3.step ?_ (Foot.streamSlot ..) ?_
  extract_lets +onlyGivenNames -underBinder v
  with_reducible refine OptT2.get (Foot.openLogBand ..) (by assumption) ?_ ?_
  with_reducible exact Touches.refl _ _
  rfl
  rfl
  with_reducible refine OptT3.step ?_ (Foot.ordinarySlot ..) ?_
  with_reducible exact Touches.refl _ _
  rfl
  with_reducible refine OptT3.step ?_ (Foot.ordinarySlot ..) ?_
  with_reducible exact Touches.refl _ _
  rfl

theorem Foot.fillAll : ∀ s x1, Touches 0x1000000 s (State.fillAll s x1) := by
  intro s x1
  unfold State.fillAll
  with_reducible refine Touches.foldl (fun _ _ _ => ?_) ?_
  extract_lets +onlyGivenNames -underBinder v
  extract_lets +onlyGivenNames -underBinder v
  split
  with_reducible refine Touches.modStg ?_ ?_
  with_reducible assumption
  rfl
  split
  split
  with_reducible refine Touches.modStg ?_ ?_
  with_reducible assumption
  rfl
  with_reducible refine Touches.modStg ?_ ?_
  with_reducible assumption
  rfl
  with_reducible assumption
  with_reducible exact Touches.refl _ _

theorem Foot.openStripe : ∀ s x1 x2, OptT 0x20000000 s (State.openStripe s x1 x2) := by
  intro s x1 x2
  unfold State.openStripe
  split
  with_reducible refine OptT.some ?_
  with_reducible exact Touches.refl _ _
  split
  exact OptT.none
  with_reducible refine OptT.some ?_
  extract_lets +onlyGivenNames -underBinder v
  with_reducible refine Touches.modMdc ?_ ?_
  with_reducible exact Touches.refl _ _
  rfl

theorem Foot.sealMask : ∀ s x1 x2 x3, FstT 0x590068a084 s (State.sealMask s x1 x2 x3) := by
  intro s x1 x2 x3
  unfold State.sealMask
  have go (l : List Nat) (a : State × List (Nat × Seal)) (h : Touches 0x590068a084 s a.1) :
      FstT 0x590068a084 s (l.foldl (fun (a : State × List (Nat × Seal)) n =>
        let s := a.1
        let line := x1 * 64 + n
        let s := (s.pmc 0x9001 s.ime.nextWrite 1 (pmcArg line)).modIme fun m =>
          { m with nextWrite := if m.lanes.getD 0 false && m.lanes.getD 1 false then 1 - m.nextWrite else m.nextWrite }
        if x3 then
          (s, a.2 ++ [(n, { gen := s.keyGen line, major := (s.ime.block x1).major + 1, minor := 0, line := line })])
        else
          let (s, x) := s.sealLine line
          (s, a.2 ++ [(n, x)])) a) := by
    induction l generalizing a with
    | nil => exact ⟨h⟩
    | cons n l ih =>
      refine ih _ ?_
      beta_reduce
      extract_lets +onlyGivenNames u line v
      have hv : Touches 0x590068a084 s v := Touches.modIme (Touches.pmc h rfl) rfl
      clear_value v
      split
      · exact hv
      · exact Touches.step hv (Foot.sealLine ..).all rfl
  exact go _ _ (Touches.refl _ _)

theorem Foot.wrapGroup : ∀ s x1, Touches 0x100000200 s (State.wrapGroup s x1) := by
  intro s x1
  unfold State.wrapGroup
  extract_lets +onlyGivenNames -underBinder v
  extract_lets +onlyGivenNames -underBinder v
  have hv : Touches 0x100000200 s v := by
    unfold v
    with_reducible refine Touches.incReg ?_ ?_
    with_reducible exact Touches.refl _ _
    rfl
  clear_value v
  with_reducible refine Touches.modIme ?_ ?_
  with_reducible assumption
  rfl

theorem Foot.programSlot : ∀ s x1 x2 x3 x4, Touches 0x580868a084 s (State.programSlot s x1 x2 x3 x4) := by
  intro s x1 x2 x3 x4
  unfold State.programSlot
  split
  with_reducible exact Touches.refl _ _
  extract_lets +onlyGivenNames -underBinder v
  have hv : Touches 0x580868a084 s v := by
    unfold v
    with_reducible refine Touches.pmc ?_ ?_
    with_reducible exact Touches.refl _ _
    rfl
  clear_value v
  with_reducible refine Touches.foldl (fun _ _ _ => ?_) ?_
  extract_lets +onlyGivenNames -underBinder v
  split
  with_reducible refine Touches.step ?_ (Foot.programLine ..) ?_
  with_reducible assumption
  rfl
  with_reducible assumption
  with_reducible assumption

theorem Foot.startWb : ∀ s x1 x2, OptT 0x593f68a2bc s (State.startWb s x1 x2) := by
  intro s x1 x2
  unfold State.startWb
  extract_lets +onlyGivenNames -underBinder v
  extract_lets +onlyGivenNames -underBinder v
  extract_lets +onlyGivenNames -underBinder v
  have hv : Touches 0x593f68a2bc s v := by
    unfold v
    split
    with_reducible refine Touches.step ?_ (Foot.fillAll ..) ?_
    with_reducible exact Touches.refl _ _
    rfl
    with_reducible exact Touches.refl _ _
  clear_value v
  extract_lets +onlyGivenNames -underBinder v
  split
  exact OptT.none
  split
  exact OptT.none
  split
  exact OptT.none
  split
  exact OptT.none
  with_reducible refine OptT.some ?_
  extract_lets +onlyGivenNames -underBinder v
  with_reducible refine Touches.pmc ?_ ?_
  extract_lets +onlyGivenNames -underBinder v
  split
  with_reducible refine Touches.incReg ?_ ?_
  extract_lets +onlyGivenNames -underBinder v
  with_reducible refine Touches.modStg ?_ ?_
  extract_lets +onlyGivenNames -underBinder v
  with_reducible refine Touches.step ?_ (Foot.programSlot ..) ?_
  extract_lets +onlyGivenNames -underBinder v
  split
  with_reducible refine Touches.step ?_ (Foot.wrapGroup ..) ?_
  extract_lets +onlyGivenNames -underBinder v
  with_reducible refine FstT.fst (Foot.sealMask ..) ?_ ?_
  extract_lets +onlyGivenNames -underBinder v
  with_reducible refine OptT.get (Foot.openStripe ..) (by assumption) ?_ ?_
  extract_lets +onlyGivenNames -underBinder v
  with_reducible refine OptT3.get (Foot.takeSlot ..) (by assumption) ?_ ?_
  with_reducible assumption
  rfl
  rfl
  rfl
  rfl
  with_reducible refine FstT.fst (Foot.sealMask ..) ?_ ?_
  extract_lets +onlyGivenNames -underBinder v
  with_reducible refine OptT.get (Foot.openStripe ..) (by assumption) ?_ ?_
  extract_lets +onlyGivenNames -underBinder v
  with_reducible refine OptT3.get (Foot.takeSlot ..) (by assumption) ?_ ?_
  with_reducible assumption
  rfl
  rfl
  rfl
  rfl
  rfl
  rfl
  with_reducible refine Touches.modStg ?_ ?_
  extract_lets +onlyGivenNames -underBinder v
  with_reducible refine Touches.step ?_ (Foot.programSlot ..) ?_
  extract_lets +onlyGivenNames -underBinder v
  split
  with_reducible refine Touches.step ?_ (Foot.wrapGroup ..) ?_
  extract_lets +onlyGivenNames -underBinder v
  with_reducible refine FstT.fst (Foot.sealMask ..) ?_ ?_
  extract_lets +onlyGivenNames -underBinder v
  with_reducible refine OptT.get (Foot.openStripe ..) (by assumption) ?_ ?_
  extract_lets +onlyGivenNames -underBinder v
  with_reducible refine OptT3.get (Foot.takeSlot ..) (by assumption) ?_ ?_
  with_reducible assumption
  rfl
  rfl
  rfl
  rfl
  with_reducible refine FstT.fst (Foot.sealMask ..) ?_ ?_
  extract_lets +onlyGivenNames -underBinder v
  with_reducible refine OptT.get (Foot.openStripe ..) (by assumption) ?_ ?_
  extract_lets +onlyGivenNames -underBinder v
  with_reducible refine OptT3.get (Foot.takeSlot ..) (by assumption) ?_ ?_
  with_reducible assumption
  rfl
  rfl
  rfl
  rfl
  rfl
  rfl

theorem Foot.wbWaits : ∀ s x1, Touches 0x122000010 s (State.wbWaits s x1) := by
  intro s x1
  unfold State.wbWaits
  extract_lets +onlyGivenNames -underBinder v
  split
  with_reducible exact Touches.refl _ _
  split
  with_reducible refine Touches.modIme ?_ ?_
  with_reducible exact Touches.refl _ _
  rfl
  split
  split
  with_reducible exact Touches.refl _ _
  with_reducible refine Touches.setBits ?_ ?_
  extract_lets +onlyGivenNames -underBinder v
  with_reducible refine Touches.modCds ?_ ?_
  with_reducible exact Touches.refl _ _
  rfl
  rfl
  split
  with_reducible refine Touches.modMdc ?_ ?_
  with_reducible exact Touches.refl _ _
  rfl
  with_reducible exact Touches.refl _ _

theorem Foot.tryWb : ∀ s x1 x2, Touches 0x593f68a2bc s (State.tryWb s x1 x2) := by
  intro s x1 x2
  unfold State.tryWb
  split
  with_reducible refine OptT.get (Foot.startWb ..) (by assumption) ?_ ?_
  with_reducible exact Touches.refl _ _
  rfl
  with_reducible refine Touches.step ?_ (Foot.wbWaits ..) ?_
  with_reducible exact Touches.refl _ _
  rfl

theorem Foot.ckptTrigger : ∀ s x1, Touches 0x2000000 s (State.ckptTrigger s x1) := by
  intro s x1
  unfold State.ckptTrigger
  split
  with_reducible refine Touches.modCds ?_ ?_
  with_reducible exact Touches.refl _ _
  rfl
  with_reducible exact Touches.refl _ _

theorem Foot.victim : ∀ s, OptT2 0x26000000 s (State.victim s) := by
  intro s
  unfold State.victim
  extract_lets +onlyGivenNames -underBinder v
  extract_lets +onlyGivenNames -underBinder v
  split
  with_reducible refine OptT2.some ?_
  with_reducible exact Touches.refl _ _
  split
  with_reducible refine OptT2.some ?_
  extract_lets +onlyGivenNames -underBinder v
  with_reducible refine Touches.step ?_ (Foot.closeLog ..) ?_
  with_reducible exact Touches.refl _ _
  rfl
  with_reducible refine OptT2.map (fun _ => ?_)
  extract_lets +onlyGivenNames -underBinder v
  with_reducible refine Touches.step ?_ (Foot.closeLog ..) ?_
  with_reducible exact Touches.refl _ _
  rfl

theorem Foot.mergeVictim : ∀ s x1, Touches 0x26000000 s (State.mergeVictim s x1) := by
  intro s x1
  unfold State.mergeVictim
  split
  with_reducible refine Touches.foldl (fun _ _ _ => ?_) ?_
  extract_lets +onlyGivenNames -underBinder v
  with_reducible refine Touches.modCds ?_ ?_
  with_reducible assumption
  rfl
  extract_lets +onlyGivenNames -underBinder v
  with_reducible refine OptT2.get (Foot.victim ..) (by assumption) ?_ ?_
  with_reducible exact Touches.refl _ _
  rfl
  with_reducible exact Touches.refl _ _

theorem Foot.logTriggers : ∀ s, Touches 0x582668a094 s (State.logTriggers s) := by
  intro s
  unfold State.logTriggers
  extract_lets +onlyGivenNames -underBinder v
  extract_lets +onlyGivenNames -underBinder v
  extract_lets +onlyGivenNames -underBinder v
  have hv : Touches 0x582668a094 s v := by
    unfold v
    split
    with_reducible exact Touches.refl _ _
    with_reducible refine Touches.raise ?_ ?_
    extract_lets +onlyGivenNames -underBinder w
    with_reducible refine Touches.setBits ?_ ?_
    with_reducible exact Touches.refl _ _
    rfl
    rfl
  clear_value v
  split
  with_reducible refine Touches.step ?_ (Foot.mergeVictim ..) ?_
  with_reducible assumption
  rfl
  split
  with_reducible refine Touches.step ?_ (Foot.mergeVictim ..) ?_
  with_reducible exact Touches.refl _ _
  rfl
  with_reducible exact Touches.refl _ _

theorem Foot.allocFrame : ∀ s x1 x2, OptT2 0x1000000 s (State.allocFrame s x1 x2) := by
  intro s x1 x2
  unfold State.allocFrame
  with_reducible refine OptT2.map (fun _ => ?_)
  extract_lets +onlyGivenNames -underBinder v
  with_reducible refine Touches.modStg ?_ ?_
  with_reducible exact Touches.refl _ _
  rfl

theorem Foot.sealReserve : ∀ s, Touches 0x580168a08c s (State.sealReserve s) := by
  intro s
  unfold State.sealReserve
  split
  with_reducible refine Touches.raise ?_ ?_
  extract_lets +onlyGivenNames -underBinder v
  with_reducible refine Touches.setBits ?_ ?_
  extract_lets +onlyGivenNames -underBinder v
  with_reducible refine Touches.modStg ?_ ?_
  with_reducible exact Touches.refl _ _
  rfl
  rfl
  rfl
  with_reducible exact Touches.refl _ _

theorem Foot.checkReserve : ∀ s, Touches 0x580168a08c s (State.checkReserve s) := by
  intro s
  unfold State.checkReserve
  split
  with_reducible refine Touches.step ?_ (Foot.sealReserve ..) ?_
  with_reducible exact Touches.refl _ _
  rfl
  with_reducible exact Touches.refl _ _

theorem Foot.closeMark : ∀ s, Touches 0x80000000 s (State.closeMark s) := by
  intro s
  unfold State.closeMark
  split
  with_reducible refine Touches.modPfl ?_ ?_
  with_reducible exact Touches.refl _ _
  rfl
  with_reducible exact Touches.refl _ _

theorem Foot.endDrains : ∀ s, Touches 0x1000008 s (State.endDrains s) := by
  intro s
  unfold State.endDrains
  extract_lets +onlyGivenNames -underBinder v
  have hv : Touches 0x1000008 s v := by
    unfold v
    split
    with_reducible refine Touches.setBits ?_ ?_
    extract_lets +onlyGivenNames -underBinder w
    with_reducible refine Touches.modStg ?_ ?_
    with_reducible exact Touches.refl _ _
    rfl
    rfl
    with_reducible exact Touches.refl _ _
  clear_value v
  extract_lets +onlyGivenNames -underBinder v
  split
  with_reducible refine Touches.clearBits ?_ ?_
  extract_lets +onlyGivenNames -underBinder v
  with_reducible refine Touches.setBits ?_ ?_
  extract_lets +onlyGivenNames -underBinder v
  with_reducible refine Touches.modStg ?_ ?_
  with_reducible assumption
  rfl
  rfl
  rfl
  with_reducible refine Touches.modStg ?_ ?_
  with_reducible assumption
  rfl

theorem Foot.settleFrame : ∀ s x1, Touches 0x1000000 s (State.settleFrame s x1) := by
  intro s x1
  unfold State.settleFrame
  generalize s.stg.frame x1 = f
  dsimp only
  split
  · exact Touches.refl _ _
  split
  · exact Touches.modStg (Touches.refl _ _) rfl
  split
  · exact Touches.modStg (Touches.refl _ _) rfl
  · exact Touches.refl _ _

theorem Foot.streamFull : ∀ s x1, Touches 0x26000000 s (State.streamFull s x1) := by
  intro s x1
  unfold State.streamFull
  split
  split
  split
  with_reducible refine Touches.step ?_ (Foot.closeLog ..) ?_
  with_reducible exact Touches.refl _ _
  rfl
  with_reducible exact Touches.refl _ _
  with_reducible exact Touches.refl _ _
  with_reducible exact Touches.refl _ _

theorem Foot.commitWb : ∀ s x1, Touches 0x17bb76ce2bd s (State.commitWb s x1) := by
  intro s x1
  unfold State.commitWb
  extract_lets +onlyGivenNames -underBinder v
  extract_lets +onlyGivenNames -underBinder v
  extract_lets +onlyGivenNames -underBinder v
  have hv : Touches 0x17bb76ce2bd s v := by
    unfold v
    with_reducible refine Touches.step ?_ (Foot.mapCommit ..) ?_
    with_reducible exact Touches.refl _ _
    rfl
  clear_value v
  extract_lets +onlyGivenNames -underBinder v
  have hv : Touches 0x17bb76ce2bd s v := by
    unfold v
    with_reducible refine Touches.step ?_ (Foot.commitSeals ..) ?_
    with_reducible assumption
    rfl
  clear_value v
  extract_lets +onlyGivenNames -underBinder v
  extract_lets +onlyGivenNames -underBinder v
  have hv : Touches 0x17bb76ce2bd s v := by
    unfold v
    with_reducible refine Touches.modStg ?_ ?_
    with_reducible assumption
    rfl
  clear_value v
  extract_lets +onlyGivenNames -underBinder v
  have hv : Touches 0x17bb76ce2bd s v := by
    unfold v
    with_reducible refine Touches.modIme ?_ ?_
    with_reducible assumption
    rfl
  clear_value v
  extract_lets +onlyGivenNames -underBinder v
  have hv : Touches 0x17bb76ce2bd s v := by
    unfold v
    with_reducible refine Touches.step ?_ (Foot.collect ..) ?_
    extract_lets +onlyGivenNames -underBinder w
    with_reducible refine Touches.addPair ?_ ?_ ?_
    with_reducible assumption
    rfl
    rfl
    rfl
  clear_value v
  extract_lets +onlyGivenNames -underBinder v
  extract_lets +onlyGivenNames -underBinder v
  have hv : Touches 0x17bb76ce2bd s v := by
    unfold v
    with_reducible refine Touches.modCds ?_ ?_
    with_reducible assumption
    rfl
  clear_value v
  extract_lets +onlyGivenNames -underBinder v
  have hv : Touches 0x17bb76ce2bd s v := by
    unfold v
    with_reducible refine Touches.step ?_ (Foot.closeMark ..) ?_
    extract_lets +onlyGivenNames -underBinder w
    with_reducible refine Touches.step ?_ (Foot.endDrains ..) ?_
    extract_lets +onlyGivenNames -underBinder w
    with_reducible refine Touches.step ?_ (Foot.closeStripes ..) ?_
    extract_lets +onlyGivenNames -underBinder w
    with_reducible refine Touches.step ?_ (Foot.settleFrame ..) ?_
    extract_lets +onlyGivenNames -underBinder w
    with_reducible refine Touches.step ?_ (Foot.streamFull ..) ?_
    with_reducible assumption
    rfl
    rfl
    rfl
    rfl
    rfl
  clear_value v
  with_reducible refine Touches.step ?_ (Foot.checkReadonly ..) ?_
  extract_lets +onlyGivenNames -underBinder v
  with_reducible refine Touches.step ?_ (Foot.ckptTrigger ..) ?_
  extract_lets +onlyGivenNames -underBinder v
  with_reducible refine Touches.step ?_ (Foot.logTriggers ..) ?_
  with_reducible assumption
  rfl
  rfl
  rfl

end Sys2Proof.Machine
end

