-- ==== Sys2Proof/Laws/FootCare.lean ====
section
/-! SUPPORT. The footprint of each operation of Machine/Care.lean: the parts of the state it may change. -/

namespace Sys2Proof.Machine

theorem Foot.countRead : ∀ s x1 x2, Touches 0x2000000 s (State.countRead s x1 x2) := by
  intro s x1 x2
  unfold State.countRead
  split
  with_reducible refine Touches.modCds ?_ ?_
  with_reducible exact Touches.refl _ _
  rfl
  with_reducible exact Touches.refl _ _

theorem Foot.planAnneal : ∀ s x1 x2, Touches 0x2000040 s (State.planAnneal s x1 x2) := by
  intro s x1 x2
  unfold State.planAnneal
  split
  with_reducible exact Touches.refl _ _
  extract_lets +onlyGivenNames -underBinder v
  have hv : Touches 0x2000040 s v := by
    unfold v
    with_reducible refine Touches.modCds ?_ ?_
    with_reducible exact Touches.refl _ _
    rfl
  clear_value v
  split
  with_reducible exact Touches.refl _ _
  split
  with_reducible refine Touches.setBits ?_ ?_
  with_reducible assumption
  rfl
  with_reducible assumption

theorem Foot.planTract : ∀ s x1 x2, Touches 0x2000040 s (State.planTract s x1 x2) := by
  intro s x1 x2
  unfold State.planTract
  split
  with_reducible refine Touches.step ?_ (Foot.planAnneal ..) ?_
  with_reducible exact Touches.refl _ _
  rfl
  with_reducible exact Touches.refl _ _

theorem Foot.decodeOk : ∀ s x1 x2 x3 x4, Touches 0x582268a0c4 s (State.decodeOk s x1 x2 x3 x4) := by
  intro s x1 x2 x3 x4
  unfold State.decodeOk
  extract_lets +onlyGivenNames -underBinder v
  extract_lets +onlyGivenNames -underBinder v
  extract_lets +onlyGivenNames -underBinder v
  have hv : Touches 0x582268a0c4 s v := by
    unfold v
    with_reducible refine Touches.modMdc ?_ ?_
    extract_lets +onlyGivenNames -underBinder w
    with_reducible refine Touches.addPair ?_ ?_ ?_
    with_reducible exact Touches.refl _ _
    rfl
    rfl
    rfl
  clear_value v
  extract_lets +onlyGivenNames -underBinder v
  have hv : Touches 0x582268a0c4 s v := by
    unfold v
    with_reducible refine Touches.pmc ?_ ?_
    extract_lets +onlyGivenNames -underBinder w
    with_reducible refine Touches.pmc ?_ ?_
    with_reducible assumption
    rfl
    rfl
  clear_value v
  split
  with_reducible refine Touches.step ?_ (Foot.planTract ..) ?_
  extract_lets +onlyGivenNames -underBinder v
  with_reducible refine Touches.flag ?_ ?_ ?_
  with_reducible assumption
  rfl
  rfl
  rfl
  with_reducible assumption

theorem Foot.degradeBand : ∀ s x1 x2, Touches 0x26000040 s (State.degradeBand s x1 x2) := by
  intro s x1 x2
  unfold State.degradeBand
  split
  with_reducible exact Touches.refl _ _
  extract_lets +onlyGivenNames -underBinder v
  extract_lets +onlyGivenNames -underBinder v
  have hv : Touches 0x26000040 s v := by
    unfold v
    split
    with_reducible refine Touches.step ?_ (Foot.closeLog ..) ?_
    with_reducible exact Touches.refl _ _
    rfl
    with_reducible exact Touches.refl _ _
  clear_value v
  extract_lets +onlyGivenNames -underBinder v
  extract_lets +onlyGivenNames -underBinder v
  have hv : Touches 0x26000040 s v := by
    unfold v
    with_reducible refine Touches.modCds ?_ ?_
    with_reducible assumption
    rfl
  clear_value v
  split
  with_reducible exact Touches.refl _ _
  with_reducible refine Touches.setBits ?_ ?_
  with_reducible assumption
  rfl

theorem Foot.degradeAll : ∀ s x1, Touches 0x26000040 s (State.degradeAll s x1) := by
  intro s x1
  unfold State.degradeAll
  with_reducible refine Touches.foldl (fun _ _ _ => ?_) ?_
  extract_lets +onlyGivenNames -underBinder v
  with_reducible refine Touches.step ?_ (Foot.degradeBand ..) ?_
  with_reducible assumption
  rfl
  with_reducible exact Touches.refl _ _

theorem Foot.retireDie : ∀ s x1, Touches 0x78376ce0dd s (State.retireDie s x1) := by
  intro s x1
  unfold State.retireDie
  extract_lets +onlyGivenNames -underBinder v
  have hv : Touches 0x78376ce0dd s v := by
    unfold v
    with_reducible refine Touches.modMdc ?_ ?_
    with_reducible exact Touches.refl _ _
    rfl
  clear_value v
  extract_lets +onlyGivenNames -underBinder v
  have hv : Touches 0x78376ce0dd s v := by
    unfold v
    with_reducible refine Touches.modTrv ?_ ?_
    with_reducible assumption
    rfl
  clear_value v
  extract_lets +onlyGivenNames -underBinder v
  have hv : Touches 0x78376ce0dd s v := by
    unfold v
    with_reducible refine Touches.raise ?_ ?_
    extract_lets +onlyGivenNames -underBinder w
    with_reducible refine Touches.flag ?_ ?_ ?_
    with_reducible assumption
    rfl
    rfl
    rfl
  clear_value v
  split
  with_reducible exact Touches.refl _ _
  with_reducible refine Touches.step ?_ (Foot.checkReadonly ..) ?_
  extract_lets +onlyGivenNames -underBinder v
  with_reducible refine Touches.step ?_ (Foot.degradeAll ..) ?_
  with_reducible assumption
  rfl
  rfl

theorem Foot.retireTract : ∀ s x1, Touches 0x78376ce0dd s (State.retireTract s x1) := by
  intro s x1
  unfold State.retireTract
  extract_lets +onlyGivenNames -underBinder v
  extract_lets +onlyGivenNames -underBinder v
  have hv : Touches 0x78376ce0dd s v := by
    unfold v
    with_reducible refine Touches.modCds ?_ ?_
    with_reducible exact Touches.refl _ _
    rfl
  clear_value v
  extract_lets +onlyGivenNames -underBinder v
  have hv : Touches 0x78376ce0dd s v := by
    unfold v
    with_reducible refine Touches.raise ?_ ?_
    extract_lets +onlyGivenNames -underBinder w
    with_reducible refine Touches.flag ?_ ?_ ?_
    with_reducible assumption
    rfl
    rfl
    rfl
  clear_value v
  extract_lets +onlyGivenNames -underBinder v
  have hv : Touches 0x78376ce0dd s v := by
    unfold v
    with_reducible refine Touches.modMdc ?_ ?_
    with_reducible assumption
    rfl
  clear_value v
  extract_lets +onlyGivenNames -underBinder v
  have hv : Touches 0x78376ce0dd s v := by
    unfold v
    split
    with_reducible refine Touches.step ?_ (Foot.degradeBand ..) ?_
    with_reducible assumption
    rfl
    with_reducible assumption
  clear_value v
  extract_lets +onlyGivenNames -underBinder v
  split
  with_reducible exact Touches.refl _ _
  split
  with_reducible refine Touches.step ?_ (Foot.retireDie ..) ?_
  with_reducible assumption
  rfl
  with_reducible refine Touches.step ?_ (Foot.checkReadonly ..) ?_
  with_reducible assumption
  rfl

theorem Foot.recovered : ∀ s x1 x2 x3, Touches 0x78376ce0dd s (State.recovered s x1 x2 x3) := by
  intro s x1 x2 x3
  unfold State.recovered
  extract_lets +onlyGivenNames -underBinder v
  extract_lets +onlyGivenNames -underBinder v
  extract_lets +onlyGivenNames -underBinder v
  have hv : Touches 0x78376ce0dd s v := by
    unfold v
    split
    with_reducible refine Touches.raise ?_ ?_
    extract_lets +onlyGivenNames -underBinder w
    with_reducible refine Touches.incReg ?_ ?_
    with_reducible exact Touches.refl _ _
    rfl
    rfl
    with_reducible refine Touches.incReg ?_ ?_
    with_reducible exact Touches.refl _ _
    rfl
  clear_value v
  extract_lets +onlyGivenNames -underBinder v
  have hv : Touches 0x78376ce0dd s v := by
    unfold v
    with_reducible refine Touches.modMdc ?_ ?_
    extract_lets +onlyGivenNames -underBinder w
    with_reducible refine Touches.step ?_ (Foot.planTract ..) ?_
    with_reducible assumption
    rfl
    rfl
  clear_value v
  split
  with_reducible refine Touches.step ?_ (Foot.retireTract ..) ?_
  with_reducible assumption
  rfl
  with_reducible assumption

theorem Foot.decodeFail : ∀ s x1, Touches 0x580068a0c4 s (State.decodeFail s x1) := by
  intro s x1
  unfold State.decodeFail
  extract_lets +onlyGivenNames -underBinder v
  have hv : Touches 0x580068a0c4 s v := by
    unfold v
    with_reducible refine Touches.pmc ?_ ?_
    extract_lets +onlyGivenNames -underBinder w
    with_reducible refine Touches.pmc ?_ ?_
    extract_lets +onlyGivenNames -underBinder w
    with_reducible refine Touches.incReg ?_ ?_
    with_reducible exact Touches.refl _ _
    rfl
    rfl
    rfl
  clear_value v
  split
  with_reducible refine Touches.flag ?_ ?_ ?_
  with_reducible assumption
  rfl
  rfl
  with_reducible refine Touches.flag ?_ ?_ ?_
  with_reducible assumption
  rfl
  rfl

theorem Foot.unrecoverable : ∀ s x1, Touches 0x5800e8a0c4 s (State.unrecoverable s x1) := by
  intro s x1
  unfold State.unrecoverable
  extract_lets +onlyGivenNames -underBinder v
  have hv : Touches 0x5800e8a0c4 s v := by
    unfold v
    with_reducible refine Touches.setPair ?_ ?_ ?_
    extract_lets +onlyGivenNames -underBinder w
    with_reducible refine Touches.incReg ?_ ?_
    extract_lets +onlyGivenNames -underBinder w
    with_reducible refine Touches.step ?_ (Foot.addPoison ..) ?_
    with_reducible exact Touches.refl _ _
    rfl
    rfl
    rfl
    rfl
  clear_value v
  with_reducible refine Touches.raise ?_ ?_
  extract_lets +onlyGivenNames -underBinder v
  with_reducible refine Touches.flag ?_ ?_ ?_
  with_reducible assumption
  rfl
  rfl
  rfl

theorem Foot.account : ∀ s x1 x2 x3, Touches 0x7837ece0dd s (State.account s x1 x2 x3) := by
  intro s x1 x2 x3
  unfold State.account
  extract_lets +onlyGivenNames -underBinder v
  have hv : Touches 0x7837ece0dd s v := by
    unfold v
    with_reducible refine Touches.step ?_ (Foot.countRead ..) ?_
    with_reducible exact Touches.refl _ _
    rfl
  clear_value v
  split
  with_reducible refine Touches.step ?_ (Foot.decodeOk ..) ?_
  with_reducible assumption
  rfl
  with_reducible refine Touches.step ?_ (Foot.recovered ..) ?_
  extract_lets +onlyGivenNames -underBinder v
  with_reducible refine Touches.step ?_ (Foot.decodeFail ..) ?_
  with_reducible assumption
  rfl
  rfl
  with_reducible refine Touches.step ?_ (Foot.unrecoverable ..) ?_
  extract_lets +onlyGivenNames -underBinder v
  with_reducible refine Touches.step ?_ (Foot.decodeFail ..) ?_
  with_reducible assumption
  rfl
  rfl

theorem Foot.planByAge : ∀ s, Touches 0x2000040 s (State.planByAge s) := by
  intro s
  unfold State.planByAge
  extract_lets +onlyGivenNames -underBinder v
  extract_lets +onlyGivenNames -underBinder v
  with_reducible refine Touches.foldl (fun _ _ _ => ?_) ?_
  extract_lets +onlyGivenNames -underBinder v
  split
  with_reducible refine Touches.step ?_ (Foot.planAnneal ..) ?_
  with_reducible assumption
  rfl
  split
  with_reducible refine Touches.step ?_ (Foot.planAnneal ..) ?_
  with_reducible assumption
  rfl
  with_reducible assumption
  with_reducible exact Touches.refl _ _

theorem Foot.ageGap : ∀ s x1, Touches 0x22000040 s (State.ageGap s x1) := by
  intro s x1
  unfold State.ageGap
  extract_lets +onlyGivenNames -underBinder v
  with_reducible refine Touches.step ?_ (Foot.planByAge ..) ?_
  extract_lets +onlyGivenNames -underBinder v
  with_reducible refine Touches.modMdc ?_ ?_
  with_reducible exact Touches.refl _ _
  rfl
  rfl

theorem Foot.tractProgFail : ∀ s x1, Touches 0x78376ce0dd s (State.tractProgFail s x1) := by
  intro s x1
  unfold State.tractProgFail
  extract_lets +onlyGivenNames -underBinder v
  have hv : Touches 0x78376ce0dd s v := by
    unfold v
    with_reducible refine Touches.modCds ?_ ?_
    with_reducible exact Touches.refl _ _
    rfl
  clear_value v
  split
  with_reducible refine Touches.step ?_ (Foot.retireTract ..) ?_
  with_reducible assumption
  rfl
  with_reducible assumption

theorem Foot.moveLines : ∀ s x1 x2, Touches 0x8000000 s (State.moveLines s x1 x2) := by
  intro s x1 x2
  unfold State.moveLines
  extract_lets +onlyGivenNames -underBinder v
  extract_lets +onlyGivenNames -underBinder v
  with_reducible refine Touches.modMed ?_ ?_
  with_reducible exact Touches.refl _ _
  rfl

theorem Foot.startPatrol : ∀ s, Touches 0x22000000 s (State.startPatrol s) := by
  intro s
  unfold State.startPatrol
  extract_lets +onlyGivenNames -underBinder v
  split
  with_reducible exact Touches.refl _ _
  with_reducible refine Touches.modCds ?_ ?_
  extract_lets +onlyGivenNames -underBinder v
  with_reducible refine Touches.modMdc ?_ ?_
  with_reducible exact Touches.refl _ _
  rfl
  rfl

theorem Foot.cmdPatrolNow : ∀ x1 s, ResT 0x8022000040 s (execPatrolNow x1 s) := by
  intro x1 s
  unfold execPatrolNow
  split
  with_reducible refine ResT.next ?_
  with_reducible exact Touches.refl _ _
  with_reducible refine ResT.next ?_
  extract_lets +onlyGivenNames -underBinder v
  with_reducible refine Touches.step ?_ (Foot.startPatrol ..) ?_
  extract_lets +onlyGivenNames -underBinder v
  with_reducible refine Touches.setBits ?_ ?_
  extract_lets +onlyGivenNames -underBinder v
  with_reducible refine Touches.emit ?_ ?_
  with_reducible exact Touches.refl _ _
  rfl
  rfl
  rfl

theorem Foot.cmdMdcParamWrite : ∀ x1 x2 x3 s, ResT 0x8000000040 s (execMdcParamWrite x1 x2 x3 s) := by
  intro x1 x2 x3 s
  unfold execMdcParamWrite
  have ho : x2.row.1 / 0x10000 = 6 := by cases x2 <;> rfl
  have h0 : Touches 0x8000000040 s s := Touches.refl _ _
  split
  · exact ResT.next h0
  extract_lets s1
  have h1 : Touches 0x8000000040 s s1 := Touches.emit h0 rfl
  clear_value s1
  refine ResT.next ?_
  split
  · refine Touches.setReg h1 ?_
    rw [ho]; rfl
  · exact h1

theorem Foot.cmdWeightedClockTick : ∀ x1 s, ResT 0x582268a0c4 s (execWeightedClockTick x1 s) := by
  intro x1 s
  unfold execWeightedClockTick
  extract_lets +onlyGivenNames -underBinder v
  have hv : Touches 0x582268a0c4 s v := by
    unfold v
    with_reducible refine Touches.clockTo ?_ ?_
    with_reducible exact Touches.refl _ _
    rfl
  clear_value v
  extract_lets +onlyGivenNames -underBinder v
  split
  with_reducible refine ResT.next ?_
  with_reducible exact Touches.refl _ _
  with_reducible refine ResT.next ?_
  extract_lets +onlyGivenNames -underBinder v
  with_reducible refine Touches.step ?_ (Foot.planByAge ..) ?_
  extract_lets +onlyGivenNames -underBinder v
  with_reducible refine Touches.modMdc ?_ ?_
  with_reducible assumption
  rfl
  rfl

theorem Foot.cmdLevelAdjust : ∀ x1 x2 s, ResT 0x30000000 s (execLevelAdjust x1 x2 s) := by
  intro x1 x2 s
  unfold execLevelAdjust
  extract_lets +onlyGivenNames -underBinder v
  extract_lets +onlyGivenNames -underBinder v
  extract_lets +onlyGivenNames -underBinder v
  extract_lets +onlyGivenNames -underBinder v
  extract_lets +onlyGivenNames -underBinder v
  have hv : Touches 0x30000000 s v := by
    unfold v
    with_reducible refine Touches.modMdc ?_ ?_
    with_reducible exact Touches.refl _ _
    rfl
  clear_value v
  split
  with_reducible refine ResT.next ?_
  with_reducible exact Touches.refl _ _
  split
  with_reducible refine ResT.next ?_
  extract_lets +onlyGivenNames -underBinder v
  with_reducible refine Touches.modTrv ?_ ?_
  with_reducible assumption
  rfl
  with_reducible refine ResT.next ?_
  with_reducible assumption

theorem Foot.cmdReadCountAnneal : ∀ x1 x2 s, ResT 0x2000040 s (execReadCountAnneal x1 x2 s) := by
  intro x1 x2 s
  unfold execReadCountAnneal
  extract_lets +onlyGivenNames -underBinder v
  split
  with_reducible refine ResT.next ?_
  extract_lets +onlyGivenNames -underBinder v
  with_reducible refine Touches.step ?_ (Foot.planTract ..) ?_
  extract_lets +onlyGivenNames -underBinder v
  with_reducible refine Touches.incReg ?_ ?_
  with_reducible exact Touches.refl _ _
  rfl
  rfl
  with_reducible refine ResT.next ?_
  with_reducible exact Touches.refl _ _

theorem Foot.cmdPatrolPassStart : ∀ x1 s, ResT 0x582268a084 s (execPatrolPassStart x1 s) := by
  intro x1 s
  unfold execPatrolPassStart
  extract_lets +onlyGivenNames -underBinder v
  have hv : Touches 0x582268a084 s v := by
    unfold v
    with_reducible refine Touches.clockTo ?_ ?_
    with_reducible exact Touches.refl _ _
    rfl
  clear_value v
  split
  with_reducible refine ResT.next ?_
  with_reducible exact Touches.refl _ _
  split
  with_reducible refine ResT.next ?_
  extract_lets +onlyGivenNames -underBinder v
  with_reducible refine Touches.step ?_ (Foot.startPatrol ..) ?_
  with_reducible assumption
  rfl
  with_reducible refine ResT.next ?_
  with_reducible assumption

theorem Foot.cmdRebuildCommit : ∀ x1 x2 s, ResT 0x783fece0fd s (execRebuildCommit x1 x2 s) := by
  intro x1 x2 s
  unfold execRebuildCommit
  have h0 : Touches 0x783fece0fd s s := Touches.refl _ _
  split
  · exact ResT.next h0
  split
  · exact ResT.next h0
  split
  · exact ResT.next (Touches.modCds h0 rfl)
  extract_lets old new p stamp b2 s1 s2 s3 s4 s5 s6
  have h1 : Touches 0x783fece0fd s s1 := Touches.modCds h0 rfl
  have h2 : Touches 0x783fece0fd s s2 := Touches.step h1 (Foot.mapCommit ..) rfl
  have h3 : Touches 0x783fece0fd s s3 := Touches.step h2 (Foot.moveLines ..) rfl
  have h4 : Touches 0x783fece0fd s s4 := Touches.foldl (fun _ _ h => Touches.step h (Foot.unrecoverable ..) rfl) h3
  have h5 : Touches 0x783fece0fd s s5 := by
    unfold s5; clear_value s4
    split
    · exact Touches.raise h4 rfl
    · exact Touches.raise (Touches.flag h4 rfl rfl) rfl
  have h6 : Touches 0x783fece0fd s s6 := Touches.modMdc h5 rfl
  exact ResT.next (Touches.step (Touches.setBits h6 rfl) (Foot.checkReadonly ..) rfl)

end Sys2Proof.Machine
end

