-- ==== Sys2Proof/Laws/FootPstBoot.lean ====
section
/-! SUPPORT. The footprint of each operation of Machine/PstBoot.lean: the parts of the state it may change. -/

namespace Sys2Proof.Machine

theorem Foot.bootLog : ∀ s, Touches 0x580068a084 s (State.bootLog s) := by
  intro s
  unfold State.bootLog
  extract_lets +onlyGivenNames -underBinder v
  extract_lets +onlyGivenNames -underBinder v
  extract_lets +onlyGivenNames -underBinder v
  extract_lets +onlyGivenNames -underBinder v
  extract_lets +onlyGivenNames -underBinder v
  extract_lets +onlyGivenNames -underBinder v
  extract_lets +onlyGivenNames -underBinder v
  extract_lets +onlyGivenNames -underBinder v
  extract_lets +onlyGivenNames -underBinder v
  have hv : Touches 0x580068a084 s v := by
    unfold v
    with_reducible refine Touches.modEvr ?_ ?_
    with_reducible exact Touches.refl _ _
    rfl
  clear_value v
  extract_lets +onlyGivenNames -underBinder v
  split
  with_reducible assumption
  with_reducible refine Touches.evrFlag ?_ ?_
  extract_lets +onlyGivenNames -underBinder v
  with_reducible refine Touches.raise ?_ ?_
  with_reducible assumption
  rfl
  rfl

theorem Foot.bootPair : ∀ s x1 x2, Touches 0x580068b084 s (State.bootPair s x1 x2) := by
  intro s x1 x2
  unfold State.bootPair
  extract_lets +onlyGivenNames -underBinder v
  extract_lets +onlyGivenNames -underBinder v
  with_reducible refine Touches.foldl (fun _ _ _ => ?_) ?_
  extract_lets +onlyGivenNames -underBinder v
  with_reducible refine Touches.addReg ?_ ?_
  extract_lets +onlyGivenNames -underBinder v
  with_reducible refine Touches.addReg ?_ ?_
  extract_lets +onlyGivenNames -underBinder v
  with_reducible refine Touches.modPst ?_ ?_
  extract_lets +onlyGivenNames -underBinder v
  split
  with_reducible refine Touches.flag ?_ ?_ ?_
  extract_lets +onlyGivenNames -underBinder v
  with_reducible refine Touches.raise ?_ ?_
  extract_lets +onlyGivenNames -underBinder v
  with_reducible refine Touches.modPst ?_ ?_
  with_reducible assumption
  rfl
  rfl
  rfl
  rfl
  with_reducible refine Touches.modPst ?_ ?_
  with_reducible assumption
  rfl
  rfl
  rfl
  rfl
  with_reducible exact Touches.refl _ _

theorem Foot.dropWriting : ∀ s, Touches 0x800000 s (State.dropWriting s) := by
  intro s
  unfold State.dropWriting
  split
  with_reducible exact Touches.refl _ _
  extract_lets +onlyGivenNames -underBinder v
  have hv : Touches 0x800000 s v := by
    unfold v
    with_reducible refine Touches.modSvc ?_ ?_
    with_reducible exact Touches.refl _ _
    rfl
  clear_value v
  split
  with_reducible refine Touches.step ?_ (Foot.endBackground ..) ?_
  with_reducible assumption
  rfl
  with_reducible assumption

theorem Foot.finishRun : ∀ s x1, Touches 0xdb56f8b1a6 s (State.finishRun s x1) := by
  intro s x1
  induction x1 generalizing s with
  | zero =>
    unfold State.finishRun
    with_reducible exact Touches.refl _ _
  | succ n ih =>
    unfold State.finishRun
    split
    with_reducible exact Touches.refl _ _
    extract_lets +onlyGivenNames -underBinder v
    have hv : Touches 0xdb56f8b1a6 s v := by
      unfold v
      with_reducible refine Touches.step ?_ (Foot.programOk ..) ?_
      with_reducible exact Touches.refl _ _
      rfl
    clear_value v
    split
    split
    with_reducible refine Touches.step ?_ (Foot.pstEnd ..) ?_
    extract_lets +onlyGivenNames -underBinder v
    with_reducible refine Touches.step ?_ (Foot.eraseVerified ..) ?_
    with_reducible exact Touches.refl _ _
    rfl
    rfl
    with_reducible refine Touches.step ?_ (Foot.pstEnd ..) ?_
    extract_lets +onlyGivenNames -underBinder v
    with_reducible refine Touches.step ?_ (Foot.eraseVerified ..) ?_
    with_reducible exact Touches.refl _ _
    rfl
    rfl
    with_reducible exact Touches.refl _ _
    split
    with_reducible refine Touches.step ?_ (ih ..) ?_
    extract_lets +onlyGivenNames -underBinder v
    with_reducible refine Touches.modPst ?_ ?_
    with_reducible assumption
    rfl
    rfl
    with_reducible refine Touches.step ?_ (Foot.pstEnd ..) ?_
    with_reducible assumption
    rfl

theorem Foot.pstDrain : ∀ s x1, Touches 0xdb57f8b1a6 s (State.pstDrain s x1) := by
  intro s x1
  induction x1 generalizing s with
  | zero =>
    unfold State.pstDrain
    with_reducible exact Touches.refl _ _
  | succ n ih =>
    unfold State.pstDrain
    extract_lets +onlyGivenNames -underBinder v
    have hv : Touches 0xdb57f8b1a6 s v := by
      unfold v
      with_reducible refine Touches.step ?_ (Foot.finishRun ..) ?_
      with_reducible exact Touches.refl _ _
      rfl
    clear_value v
    split
    with_reducible refine Touches.modPst ?_ ?_
    with_reducible assumption
    rfl
    split
    with_reducible refine Touches.step ?_ (ih ..) ?_
    extract_lets +onlyGivenNames -underBinder v
    with_reducible refine Touches.modPst ?_ ?_
    with_reducible assumption
    rfl
    rfl
    split
    with_reducible assumption
    with_reducible refine Touches.step ?_ (ih ..) ?_
    extract_lets +onlyGivenNames -underBinder v
    with_reducible refine Touches.step ?_ (Foot.pstLaunch ..) ?_
    extract_lets +onlyGivenNames -underBinder v
    with_reducible refine Touches.modPst ?_ ?_
    with_reducible assumption
    rfl
    rfl
    rfl

theorem Foot.pstQuiesce : ∀ s, Touches 0xdb57f8b1a6 s (State.pstQuiesce s) := by
  intro s
  unfold State.pstQuiesce
  extract_lets +onlyGivenNames -underBinder v
  have hv : Touches 0xdb57f8b1a6 s v := by
    unfold v
    with_reducible refine Touches.step ?_ (Foot.dropWriting ..) ?_
    extract_lets +onlyGivenNames -underBinder w
    with_reducible refine Touches.step ?_ (Foot.pstDrain ..) ?_
    with_reducible exact Touches.refl _ _
    rfl
    rfl
  clear_value v
  with_reducible refine Touches.modPst ?_ ?_
  with_reducible assumption
  rfl

theorem Foot.pstBoot : ∀ s, Touches 0x5a0068b084 s (State.pstBoot s) := by
  intro s
  unfold State.pstBoot
  extract_lets +onlyGivenNames -underBinder seqs decided s1 s2 n s3 s4
  have h1 : Touches 0x5a0068b084 s s1 := Touches.modPst (Touches.refl _ _) rfl
  have h2 : Touches 0x5a0068b084 s s2 := by
    refine Touches.foldl (fun u a hu => ?_) h1
    split
    · exact Touches.flag (Touches.raise hu rfl) rfl rfl
    · exact Touches.raise hu rfl
    · exact hu
  have h3 : Touches 0x5a0068b084 s s3 := Touches.addReg (Touches.addReg (Touches.modPst h2 rfl) rfl) rfl
  have h4 : Touches 0x5a0068b084 s s4 := Touches.step (Touches.step h3 (Foot.bootPair ..) rfl) (Foot.bootPair ..) rfl
  exact Touches.step (Touches.modCke h4 rfl) (Foot.bootLog ..) rfl

theorem Foot.cutErase : ∀ s x1 x2, Touches 0x1800000000 s (State.cutErase s x1 x2) := by
  intro s x1 x2
  unfold State.cutErase
  extract_lets +onlyGivenNames -underBinder v
  extract_lets +onlyGivenNames -underBinder v
  have hv : Touches 0x1800000000 s v := by
    unfold v
    with_reducible refine Touches.modPst ?_ ?_
    with_reducible exact Touches.refl _ _
    rfl
  clear_value v
  with_reducible refine Touches.modEvr ?_ ?_
  with_reducible assumption
  rfl

theorem Foot.pstCut : ∀ s, Touches 0x11800000000 s (State.pstCut s) := by
  intro s
  unfold State.pstCut
  extract_lets +onlyGivenNames -underBinder v
  extract_lets +onlyGivenNames -underBinder v
  have hv : Touches 0x11800000000 s v := by
    unfold v
    split
    with_reducible exact Touches.refl _ _
    split
    split
    with_reducible refine Touches.modPst ?_ ?_
    with_reducible exact Touches.refl _ _
    rfl
    with_reducible refine Touches.modPst ?_ ?_
    with_reducible exact Touches.refl _ _
    rfl
    with_reducible refine Touches.modPst ?_ ?_
    with_reducible exact Touches.refl _ _
    rfl
    extract_lets +onlyGivenNames -underBinder w
    have hw : Touches 0x11800000000 s w := by
      unfold w
      with_reducible refine Touches.step ?_ (Foot.tallyProgram ..) ?_
      with_reducible exact Touches.refl _ _
      rfl
    clear_value w
    with_reducible refine Touches.modPst ?_ ?_
    with_reducible assumption
    rfl
    with_reducible refine Touches.step ?_ (Foot.hintWritten ..) ?_
    with_reducible exact Touches.refl _ _
    rfl
    extract_lets +onlyGivenNames -underBinder w
    have hw : Touches 0x11800000000 s w := by
      unfold w
      with_reducible refine Touches.modEvr ?_ ?_
      with_reducible exact Touches.refl _ _
      rfl
    clear_value w
    with_reducible refine Touches.modEvr ?_ ?_
    with_reducible assumption
    rfl
    with_reducible refine Touches.modEvr ?_ ?_
    with_reducible exact Touches.refl _ _
    rfl
    with_reducible refine Touches.modPst ?_ ?_
    with_reducible exact Touches.refl _ _
    rfl
    with_reducible refine Touches.step ?_ (Foot.spoilSlots ..) ?_
    extract_lets +onlyGivenNames -underBinder w
    with_reducible refine Touches.modPst ?_ ?_
    with_reducible exact Touches.refl _ _
    rfl
    rfl
    with_reducible refine Touches.step ?_ (Foot.cutErase ..) ?_
    with_reducible exact Touches.refl _ _
    rfl
    with_reducible refine Touches.step ?_ (Foot.cutErase ..) ?_
    with_reducible exact Touches.refl _ _
    rfl
    with_reducible exact Touches.refl _ _
  clear_value v
  with_reducible refine Touches.useFree ?_ ?_
  extract_lets +onlyGivenNames -underBinder v
  with_reducible refine Touches.modPst ?_ ?_
  with_reducible assumption
  rfl
  rfl

end Sys2Proof.Machine
end

