-- ==== Sys2Proof/Laws/FootTransit.lean ====
section
/-! SUPPORT. The footprint of each operation of Machine/Transit.lean: the parts of the state it may change. -/

namespace Sys2Proof.Machine

theorem Foot.endAssayCmd : ∀ s, Touches 0x800000 s (State.endAssayCmd s) := by
  intro s
  unfold State.endAssayCmd
  split
  split
  with_reducible refine Touches.step ?_ (Foot.endBackground ..) ?_
  with_reducible exact Touches.refl _ _
  rfl
  with_reducible exact Touches.refl _ _
  with_reducible exact Touches.refl _ _

theorem Foot.closeAssay : ∀ s x1 x2, Touches 0x5840e8a184 s (State.closeAssay s x1 x2) := by
  intro s x1 x2
  unfold State.closeAssay
  extract_lets +onlyGivenNames -underBinder v
  have hv : Touches 0x5840e8a184 s v := by
    unfold v
    with_reducible refine Touches.modPwr ?_ ?_
    with_reducible exact Touches.refl _ _
    rfl
  clear_value v
  with_reducible refine Touches.step ?_ (Foot.endAssayCmd ..) ?_
  extract_lets +onlyGivenNames -underBinder v
  with_reducible refine Touches.raise ?_ ?_
  extract_lets +onlyGivenNames -underBinder v
  with_reducible refine Touches.clearBits ?_ ?_
  extract_lets +onlyGivenNames -underBinder v
  with_reducible refine Touches.setBits ?_ ?_
  with_reducible assumption
  rfl
  rfl
  rfl
  rfl

theorem Foot.abortAssay : ∀ s x1, Touches 0x5840e8a184 s (State.abortAssay s x1) := by
  intro s x1
  unfold State.abortAssay
  split
  with_reducible exact Touches.refl _ _
  with_reducible refine Touches.step ?_ (Foot.closeAssay ..) ?_
  with_reducible exact Touches.refl _ _
  rfl

theorem Foot.stgLevels : ∀ s, Touches 0x8 s (State.stgLevels s) := by
  intro s
  unfold State.stgLevels
  with_reducible refine Touches.setNat ?_ ?_
  extract_lets +onlyGivenNames -underBinder v
  with_reducible refine Touches.setNat ?_ ?_
  extract_lets +onlyGivenNames -underBinder v
  with_reducible refine Touches.setNat ?_ ?_
  with_reducible exact Touches.refl _ _
  rfl
  rfl
  rfl

theorem Foot.afterResetState : ∀ s x1 x2, Touches 0x78006ce085 s (State.afterResetState s x1 x2) := by
  intro s x1 x2
  unfold State.afterResetState
  extract_lets +onlyGivenNames -underBinder v
  extract_lets +onlyGivenNames -underBinder v
  extract_lets +onlyGivenNames -underBinder v
  have hv : Touches 0x78006ce085 s v := by
    unfold v
    with_reducible refine Touches.setNat ?_ ?_
    with_reducible exact Touches.refl _ _
    rfl
  clear_value v
  extract_lets +onlyGivenNames -underBinder v
  have hv : Touches 0x78006ce085 s v := by
    unfold v
    with_reducible refine Touches.raise ?_ ?_
    with_reducible assumption
    rfl
  clear_value v
  extract_lets +onlyGivenNames -underBinder v
  have hv : Touches 0x78006ce085 s v := by
    unfold v
    with_reducible refine Touches.goState ?_ ?_ ?_ ?_ ?_ ?_
    with_reducible assumption
    rfl
    rfl
    rfl
    rfl
    rfl
  clear_value v
  extract_lets +onlyGivenNames -underBinder v
  have hv : Touches 0x78006ce085 s v := by
    unfold v
    with_reducible refine Touches.modSys ?_ ?_
    with_reducible assumption
    rfl
  clear_value v
  with_reducible refine Touches.setNat ?_ ?_
  with_reducible assumption
  rfl

theorem Foot.forceWb : ∀ s, Touches 0x593f68a2bc s (State.forceWb s) := by
  intro s
  unfold State.forceWb
  extract_lets +onlyGivenNames -underBinder v
  extract_lets +onlyGivenNames -underBinder v
  split
  with_reducible exact Touches.refl _ _
  with_reducible refine Touches.foldl (fun _ _ _ => ?_) ?_
  extract_lets +onlyGivenNames -underBinder v
  with_reducible refine Touches.step ?_ (Foot.tryWb ..) ?_
  with_reducible assumption
  rfl
  with_reducible exact Touches.refl _ _

theorem Foot.noteTrip : ∀ s, Touches 0x80000000 s (State.noteTrip s) := by
  intro s
  unfold State.noteTrip
  extract_lets +onlyGivenNames -underBinder v
  extract_lets +onlyGivenNames -underBinder v
  extract_lets +onlyGivenNames -underBinder v
  extract_lets +onlyGivenNames -underBinder v
  extract_lets +onlyGivenNames -underBinder v
  with_reducible refine Touches.modPfl ?_ ?_
  with_reducible exact Touches.refl _ _
  rfl

theorem Foot.startSeal : ∀ s x1, Touches 0x80000000 s (State.startSeal s x1) := by
  intro s x1
  unfold State.startSeal
  extract_lets +onlyGivenNames -underBinder v
  extract_lets +onlyGivenNames -underBinder v
  with_reducible refine Touches.modPfl ?_ ?_
  extract_lets +onlyGivenNames -underBinder v
  with_reducible refine Touches.step ?_ (Foot.noteTrip ..) ?_
  with_reducible exact Touches.refl _ _
  rfl
  rfl

theorem Foot.resetBlocks : ∀ s x1, Touches 0x6793eb0000 s (State.resetBlocks s x1) := by
  intro s x1
  unfold State.resetBlocks
  extract_lets +onlyGivenNames -underBinder v
  extract_lets +onlyGivenNames -underBinder v
  extract_lets +onlyGivenNames -underBinder v
  have hv : Touches 0x6793eb0000 s v := by
    unfold v
    with_reducible refine Touches.modCke ?_ ?_
    extract_lets +onlyGivenNames -underBinder w
    with_reducible refine Touches.modStg ?_ ?_
    with_reducible exact Touches.refl _ _
    rfl
    rfl
  clear_value v
  extract_lets +onlyGivenNames -underBinder v
  have hv : Touches 0x6793eb0000 s v := by
    unfold v
    with_reducible refine Touches.modEng ?_ ?_
    extract_lets +onlyGivenNames -underBinder w
    with_reducible refine Touches.modTrv ?_ ?_
    with_reducible assumption
    rfl
    rfl
  clear_value v
  extract_lets +onlyGivenNames -underBinder v
  have hv : Touches 0x6793eb0000 s v := by
    unfold v
    with_reducible refine Touches.modShadow ?_ ?_ ?_
    extract_lets +onlyGivenNames -underBinder w
    with_reducible refine Touches.modShadow ?_ ?_ ?_
    with_reducible assumption
    rfl
    rfl
    rfl
    rfl
  clear_value v
  extract_lets +onlyGivenNames -underBinder v
  have hv : Touches 0x6793eb0000 s v := by
    unfold v
    with_reducible refine Touches.modPort ?_ ?_ ?_
    extract_lets +onlyGivenNames -underBinder w
    with_reducible refine Touches.modPort ?_ ?_ ?_
    with_reducible assumption
    rfl
    rfl
    rfl
    rfl
  clear_value v
  extract_lets +onlyGivenNames -underBinder v
  have hv : Touches 0x6793eb0000 s v := by
    unfold v
    with_reducible refine Touches.modIme ?_ ?_
    extract_lets +onlyGivenNames -underBinder w
    with_reducible refine Touches.modCds ?_ ?_
    with_reducible assumption
    rfl
    rfl
  clear_value v
  extract_lets +onlyGivenNames -underBinder v
  have hv : Touches 0x6793eb0000 s v := by
    unfold v
    split
    with_reducible assumption
    with_reducible refine Touches.modSvc ?_ ?_
    extract_lets +onlyGivenNames -underBinder w
    with_reducible refine Touches.modPfl ?_ ?_
    with_reducible assumption
    rfl
    rfl
  clear_value v
  extract_lets +onlyGivenNames -underBinder v
  have hv : Touches 0x6793eb0000 s v := by
    unfold v
    with_reducible refine Touches.modSvc ?_ ?_
    extract_lets +onlyGivenNames -underBinder w
    with_reducible refine Touches.modSvy ?_ ?_
    with_reducible assumption
    rfl
    rfl
  clear_value v
  extract_lets +onlyGivenNames -underBinder v
  have hv : Touches 0x6793eb0000 s v := by
    unfold v
    with_reducible refine Touches.modThm ?_ ?_
    with_reducible assumption
    rfl
  clear_value v
  split
  with_reducible refine Touches.modDtm ?_ ?_
  with_reducible assumption
  rfl
  with_reducible assumption

theorem Foot.countReset : ∀ s x1, Touches 0x1 s (State.countReset s x1) := by
  intro s x1
  unfold State.countReset
  split
  with_reducible exact Touches.refl _ _
  with_reducible refine Touches.satField ?_ ?_
  with_reducible exact Touches.refl _ _
  rfl
  with_reducible refine Touches.satField ?_ ?_
  with_reducible exact Touches.refl _ _
  rfl
  with_reducible refine Touches.satField ?_ ?_
  with_reducible exact Touches.refl _ _
  rfl
  with_reducible refine Touches.satField ?_ ?_
  with_reducible exact Touches.refl _ _
  rfl
  with_reducible refine Touches.satField ?_ ?_
  with_reducible exact Touches.refl _ _
  rfl

theorem Foot.performReset : ∀ s x1, Touches 0xffd7ffffff s (State.performReset s x1) := by
  intro s k
  unfold State.performReset
  extract_lets +onlyGivenNames -underBinder f s1 s2 s3 s4 s5
  have h1 : Touches 0xffd7ffffff s s1 := Touches.step (Touches.refl _ _) (Foot.pstQuiesce ..) rfl
  have h2 : Touches 0xffd7ffffff s s2 := Touches.resetRegs h1 (by decide)
  have h3 : Touches 0xffd7ffffff s s3 := Touches.step (Touches.step h2 (Foot.resetBlocks ..) rfl) (Foot.stgLevels ..) rfl
  have h4 : Touches 0xffd7ffffff s s4 := by
    unfold s4; split
    · exact Touches.modPwr h3 rfl
    · exact h3
  have h5 : Touches 0xffd7ffffff s s5 := Touches.step (Touches.step h4 (Foot.countReset ..) rfl) (Foot.afterResetState ..) rfl
  split
  · exact h5
  · refine Touches.step ?_ (Foot.pstBoot ..) rfl
    split
    · split
      · exact h5
      · exact Touches.modSys h5 rfl
    · exact h5

theorem Foot.requestReset : ∀ s x1, Touches 0xffd7ffffff s (State.requestReset s x1) := by
  intro s x1
  unfold State.requestReset
  split
  with_reducible refine Touches.setBits ?_ ?_
  extract_lets +onlyGivenNames -underBinder v
  with_reducible refine Touches.modSys ?_ ?_
  with_reducible exact Touches.refl _ _
  rfl
  rfl
  with_reducible exact Touches.refl _ _
  with_reducible exact Touches.refl _ _
  with_reducible exact Touches.refl _ _
  split
  with_reducible refine Touches.modSys ?_ ?_
  with_reducible exact Touches.refl _ _
  rfl
  extract_lets +onlyGivenNames -underBinder v
  have hv : Touches 0xffd7ffffff s v := by
    unfold v
    with_reducible refine Touches.modSys ?_ ?_
    extract_lets +onlyGivenNames -underBinder w
    with_reducible refine Touches.step ?_ (Foot.startSeal ..) ?_
    with_reducible exact Touches.refl _ _
    rfl
    rfl
  clear_value v
  split
  with_reducible refine Touches.setBits ?_ ?_
  with_reducible assumption
  rfl
  with_reducible refine Touches.step ?_ (Foot.performReset ..) ?_
  with_reducible exact Touches.refl _ _
  rfl

theorem Foot.countQuench : ∀ s x1, Touches 0x780068e084 s (State.countQuench s x1) := by
  intro s x1
  unfold State.countQuench
  extract_lets +onlyGivenNames -underBinder v
  have hv : Touches 0x780068e084 s v := by
    unfold v
    with_reducible refine Touches.satField ?_ ?_
    with_reducible exact Touches.refl _ _
    rfl
  clear_value v
  extract_lets +onlyGivenNames -underBinder v
  have hv : Touches 0x780068e084 s v := by
    unfold v
    with_reducible refine Touches.flag ?_ ?_ ?_
    extract_lets +onlyGivenNames -underBinder w
    with_reducible refine Touches.satField ?_ ?_
    with_reducible assumption
    rfl
    rfl
    rfl
  clear_value v
  extract_lets +onlyGivenNames -underBinder v
  have hv : Touches 0x780068e084 s v := by
    unfold v
    with_reducible refine Touches.modThm ?_ ?_
    with_reducible assumption
    rfl
  clear_value v
  split
  split
  with_reducible refine Touches.flag ?_ ?_ ?_
  extract_lets +onlyGivenNames -underBinder v
  with_reducible refine Touches.modThm ?_ ?_
  with_reducible assumption
  rfl
  rfl
  rfl
  with_reducible assumption
  with_reducible refine Touches.modThm ?_ ?_
  with_reducible assumption
  rfl

theorem Foot.enterBrace : ∀ s, Touches 0x79ffece3bd s (State.enterBrace s) := by
  intro s
  unfold State.enterBrace
  extract_lets +onlyGivenNames -underBinder v
  extract_lets +onlyGivenNames -underBinder v
  extract_lets +onlyGivenNames -underBinder v
  have hv : Touches 0x79ffece3bd s v := by
    unfold v
    with_reducible refine Touches.goState ?_ ?_ ?_ ?_ ?_ ?_
    with_reducible exact Touches.refl _ _
    rfl
    rfl
    rfl
    rfl
    rfl
  clear_value v
  extract_lets +onlyGivenNames -underBinder v
  have hv : Touches 0x79ffece3bd s v := by
    unfold v
    with_reducible refine Touches.modSys ?_ ?_
    with_reducible assumption
    rfl
  clear_value v
  extract_lets +onlyGivenNames -underBinder v
  have hv : Touches 0x79ffece3bd s v := by
    unfold v
    with_reducible refine Touches.modPfl ?_ ?_
    extract_lets +onlyGivenNames -underBinder w
    with_reducible refine Touches.modPwr ?_ ?_
    with_reducible assumption
    rfl
    rfl
  clear_value v
  extract_lets +onlyGivenNames -underBinder v
  have hv : Touches 0x79ffece3bd s v := by
    unfold v
    with_reducible refine Touches.step ?_ (Foot.abortAssay ..) ?_
    extract_lets +onlyGivenNames -underBinder w
    with_reducible refine Touches.raise ?_ ?_
    extract_lets +onlyGivenNames -underBinder w
    with_reducible refine Touches.setBits ?_ ?_
    with_reducible assumption
    rfl
    rfl
    rfl
  clear_value v
  extract_lets +onlyGivenNames -underBinder v
  have hv : Touches 0x79ffece3bd s v := by
    unfold v
    split
    with_reducible refine Touches.strobe ?_ ?_
    with_reducible assumption
    rfl
    with_reducible assumption
  clear_value v
  with_reducible refine Touches.step ?_ (Foot.forceWb ..) ?_
  extract_lets +onlyGivenNames -underBinder v
  with_reducible refine Touches.step ?_ (Foot.setBudget ..) ?_
  with_reducible assumption
  rfl
  rfl

theorem Foot.releaseHeld : ∀ s, Touches 0xffd7ffffff s (State.releaseHeld s) := by
  intro s
  unfold State.releaseHeld
  split
  with_reducible refine Touches.step ?_ (Foot.requestReset ..) ?_
  extract_lets +onlyGivenNames -underBinder v
  with_reducible refine Touches.modSys ?_ ?_
  with_reducible exact Touches.refl _ _
  rfl
  rfl
  with_reducible exact Touches.refl _ _

theorem Foot.exitBrace : ∀ s, Touches 0xffd7ffffff s (State.exitBrace s) := by
  intro s
  unfold State.exitBrace
  extract_lets +onlyGivenNames -underBinder v
  have hv : Touches 0xffd7ffffff s v := by
    unfold v
    with_reducible refine Touches.goState ?_ ?_ ?_ ?_ ?_ ?_
    with_reducible exact Touches.refl _ _
    rfl
    rfl
    rfl
    rfl
    rfl
  clear_value v
  extract_lets +onlyGivenNames -underBinder v
  have hv : Touches 0xffd7ffffff s v := by
    unfold v
    split
    with_reducible refine Touches.step ?_ (Foot.checkReadonly ..) ?_
    extract_lets +onlyGivenNames -underBinder w
    with_reducible refine Touches.step ?_ (Foot.goReady ..) ?_
    with_reducible assumption
    rfl
    rfl
    with_reducible assumption
  clear_value v
  extract_lets +onlyGivenNames -underBinder v
  have hv : Touches 0xffd7ffffff s v := by
    unfold v
    with_reducible refine Touches.modPfl ?_ ?_
    extract_lets +onlyGivenNames -underBinder w
    with_reducible refine Touches.modPwr ?_ ?_
    with_reducible assumption
    rfl
    rfl
  clear_value v
  extract_lets +onlyGivenNames -underBinder v
  have hv : Touches 0xffd7ffffff s v := by
    unfold v
    with_reducible refine Touches.step ?_ (Foot.setBudget ..) ?_
    extract_lets +onlyGivenNames -underBinder w
    with_reducible refine Touches.raise ?_ ?_
    extract_lets +onlyGivenNames -underBinder w
    with_reducible refine Touches.setBits ?_ ?_
    with_reducible assumption
    rfl
    rfl
    rfl
  clear_value v
  with_reducible refine Touches.step ?_ (Foot.releaseHeld ..) ?_
  with_reducible assumption
  rfl

theorem Foot.powerDown : ∀ s, Touches 0x506c0000 s (State.powerDown s) := by
  intro s
  unfold State.powerDown
  extract_lets +onlyGivenNames -underBinder v
  have hv : Touches 0x506c0000 s v := by
    unfold v
    with_reducible refine Touches.modSys ?_ ?_
    with_reducible exact Touches.refl _ _
    rfl
  clear_value v
  extract_lets +onlyGivenNames -underBinder v
  have hv : Touches 0x506c0000 s v := by
    unfold v
    with_reducible refine Touches.modDtm ?_ ?_
    with_reducible assumption
    rfl
  clear_value v
  extract_lets +onlyGivenNames -underBinder v
  have hv : Touches 0x506c0000 s v := by
    unfold v
    with_reducible refine Touches.modTrv ?_ ?_
    with_reducible assumption
    rfl
  clear_value v
  extract_lets +onlyGivenNames -underBinder v
  have hv : Touches 0x506c0000 s v := by
    unfold v
    with_reducible refine Touches.modPwr ?_ ?_
    with_reducible assumption
    rfl
  clear_value v
  extract_lets +onlyGivenNames -underBinder v
  with_reducible refine Touches.modPort ?_ ?_ ?_
  extract_lets +onlyGivenNames -underBinder v
  with_reducible refine Touches.modPort ?_ ?_ ?_
  with_reducible assumption
  rfl
  rfl
  rfl
  rfl

theorem Foot.quench : ∀ s x1, Touches 0x78d06ce085 s (State.quench s x1) := by
  intro s failed
  unfold State.quench
  split
  · exact Touches.refl _ _
  · split
    · exact Touches.refl _ _
    · exact Touches.modSys (Touches.step (Touches.refl _ _) (Foot.countQuench ..) rfl) rfl
  · extract_lets +onlyGivenNames -underBinder s1 r s2 d s3 s4
    have h1 : Touches 0x78d06ce085 s s1 := Touches.step (Touches.refl _ _) (Foot.countQuench ..) rfl
    have h2 : Touches 0x78d06ce085 s s2 := Touches.modSys h1 rfl
    have h3 : Touches 0x78d06ce085 s s3 := by
      unfold s3; split
      · exact h2
      · exact Touches.step h2 (Foot.startSeal ..) rfl
    have h4 : Touches 0x78d06ce085 s s4 := Touches.goState h3 rfl rfl rfl rfl rfl
    clear_value s4
    split
    · exact Touches.modPfl h4 rfl
    · split
      · exact Touches.step h4 (Foot.powerDown ..) rfl
      · exact h4

theorem Foot.recordTrip : ∀ s, Touches 0x40000100 s (State.recordTrip s) := by
  intro s
  unfold State.recordTrip
  with_reducible refine Touches.modPwr ?_ ?_
  extract_lets +onlyGivenNames -underBinder v
  with_reducible refine Touches.setPair ?_ ?_ ?_
  with_reducible exact Touches.refl _ _
  rfl
  rfl
  rfl

theorem Foot.trip : ∀ s, Touches 0x78c0ece185 s (State.trip s) := by
  intro s
  have hc : Touches 0x78c0ece185 s ((s.recordTrip).abortAssay 3) :=
    Touches.step (Touches.step (Touches.refl _ _) (Foot.recordTrip ..) rfl) (Foot.abortAssay ..) rfl
  have hb : Touches 0x78c0ece185 s (((((s.recordTrip).abortAssay 3).startSeal .flush).goState .safe).modPfl fun p =>
      { p with phase := .rest, phaseAt := (((s.recordTrip).abortAssay 3).startSeal .flush).nowNs, restOnly := true }) :=
    Touches.modPfl (Touches.goState (Touches.step hc (Foot.startSeal ..) rfl) rfl rfl rfl rfl rfl) rfl
  have hr (b : Bool) : Touches 0x78c0ece185 s
      (let s := (s.recordTrip).abortAssay 3
      let s := s.modSys fun x => { x with held := none }
      match s.sys.flushFor with
      | some _ =>
        let s := s.modSys fun x => { x with flushFor := none }
        (s.noteTrip.goState .flush).modPfl fun p => { p with kind := .flush }
      | none =>
        let s := s.startSeal .flush
        let s := s.goState .flush
        if b then s.modPfl fun p => { p with restOnly := true } else s) := by
    extract_lets +onlyGivenNames -underBinder s1 s2
    have h2 : Touches 0x78c0ece185 s s2 := Touches.modSys hc rfl
    clear_value s2
    split
    · exact Touches.modPfl (Touches.goState (Touches.step (Touches.modSys h2 rfl) (Foot.noteTrip ..) rfl) rfl rfl rfl rfl rfl) rfl
    · have h3 : Touches 0x78c0ece185 s ((s2.startSeal .flush).goState .flush) :=
        Touches.goState (Touches.step h2 (Foot.startSeal ..) rfl) rfl rfl rfl rfl rfl
      split
      · exact Touches.modPfl h3 rfl
      · exact h3
  unfold State.trip
  split
  · exact Touches.refl _ _
  · exact Touches.refl _ _
  · split
    · exact Touches.refl _ _
    · exact Touches.step (Touches.step (Touches.refl _ _) (Foot.recordTrip ..) rfl) (Foot.noteTrip ..) rfl
  · exact hb
  · exact hb
  · exact hb
  · exact hr _

theorem Foot.whenRunning {m : Nat} {s u t : State} (a : Touches m s u) (b : Touches m s t) : ResT m s (u.whenRunning t) := by
  unfold State.whenRunning
  refine .next ?_
  split <;> assumption

end Sys2Proof.Machine
end

