-- ==== Sys2Proof/Laws/FootSupply.lean ====
section
/-! SUPPORT. The footprint of each operation of Machine/Supply.lean: the parts of the state it may change. -/

namespace Sys2Proof.Machine

theorem Foot.convFollow : ∀ s, Touches 0x40000000 s (State.convFollow s) := by
  intro s
  unfold State.convFollow
  extract_lets +onlyGivenNames -underBinder v
  extract_lets +onlyGivenNames -underBinder v
  with_reducible refine Touches.modPwr ?_ ?_
  with_reducible exact Touches.refl _ _
  rfl

theorem Foot.askAssay : ∀ s, Touches 0x40000000 s (State.askAssay s) := by
  intro s
  unfold State.askAssay
  split
  with_reducible refine Touches.modPwr ?_ ?_
  with_reducible exact Touches.refl _ _
  rfl
  with_reducible exact Touches.refl _ _

theorem Foot.assayGate : ∀ s, Touches 0x40000000 s (State.assayGate s) := by
  intro s
  unfold State.assayGate
  extract_lets +onlyGivenNames -underBinder v
  have hv : Touches 0x40000000 s v := by
    unfold v
    split
    with_reducible refine Touches.step ?_ (Foot.askAssay ..) ?_
    with_reducible exact Touches.refl _ _
    rfl
    with_reducible exact Touches.refl _ _
  clear_value v
  split
  with_reducible refine Touches.modPwr ?_ ?_
  with_reducible assumption
  rfl
  with_reducible assumption

theorem Foot.assayPass : ∀ s x1, Touches 0x840000100 s (State.assayPass s x1) := by
  intro s x1
  unfold State.assayPass
  extract_lets +onlyGivenNames -underBinder v
  extract_lets +onlyGivenNames -underBinder v
  extract_lets +onlyGivenNames -underBinder v
  have hv : Touches 0x840000100 s v := by
    unfold v
    split
    with_reducible refine Touches.step ?_ (Foot.queueDeed ..) ?_
    with_reducible exact Touches.refl _ _
    rfl
    with_reducible exact Touches.refl _ _
  clear_value v
  extract_lets +onlyGivenNames -underBinder v
  extract_lets +onlyGivenNames -underBinder v
  have hv : Touches 0x840000100 s v := by
    unfold v
    with_reducible refine Touches.modPwr ?_ ?_
    with_reducible assumption
    rfl
  clear_value v
  split
  with_reducible refine Touches.step ?_ (Foot.setBank ..) ?_
  with_reducible assumption
  rfl
  with_reducible assumption

theorem Foot.cellFault : ∀ s x1 x2, Touches 0x5841e8a184 s (State.cellFault s x1 x2) := by
  intro s x1 x2
  unfold State.cellFault
  extract_lets +onlyGivenNames -underBinder v
  have hv : Touches 0x5841e8a184 s v := by
    unfold v
    with_reducible refine Touches.modPwr ?_ ?_
    with_reducible exact Touches.refl _ _
    rfl
  clear_value v
  extract_lets +onlyGivenNames -underBinder v
  have hv : Touches 0x5841e8a184 s v := by
    unfold v
    split
    with_reducible assumption
    with_reducible refine Touches.step ?_ (Foot.closeAssay ..) ?_
    with_reducible assumption
    rfl
  clear_value v
  with_reducible refine Touches.step ?_ (Foot.degrade ..) ?_
  extract_lets +onlyGivenNames -underBinder v
  with_reducible refine Touches.raise ?_ ?_
  extract_lets +onlyGivenNames -underBinder v
  with_reducible refine Touches.flag ?_ ?_ ?_
  with_reducible assumption
  rfl
  rfl
  rfl
  rfl

theorem Foot.meterEffects : ∀ s, Touches 0x597f68a3bc s (State.meterEffects s) := by
  intro s
  unfold State.meterEffects
  extract_lets s1
  have h1 : Touches 0x597f68a3bc s s1 := Touches.step (Touches.step (Touches.step (Touches.refl _ _) (Foot.meter ..) rfl) (Foot.bankArm ..) rfl) (Foot.setBudget ..) rfl
  clear_value s1
  exact Touches.step (Touches.step (Touches.step (Touches.step h1 (Foot.convFollow ..) rfl) (Foot.forceWb ..) rfl) (Foot.checkReserve ..) rfl) (Foot.assayGate ..) rfl

theorem Foot.noteVin : ∀ s x1, Touches 0x58c068a084 s (State.noteVin s x1) := by
  intro s x1
  unfold State.noteVin
  extract_lets +onlyGivenNames -underBinder v
  extract_lets +onlyGivenNames -underBinder v
  extract_lets +onlyGivenNames -underBinder v
  extract_lets +onlyGivenNames -underBinder v
  extract_lets +onlyGivenNames -underBinder v
  extract_lets +onlyGivenNames -underBinder v
  have hv : Touches 0x58c068a084 s v := by
    unfold v
    with_reducible refine Touches.modPwr ?_ ?_
    with_reducible exact Touches.refl _ _
    rfl
  clear_value v
  extract_lets +onlyGivenNames -underBinder v
  have hv : Touches 0x58c068a084 s v := by
    unfold v
    with_reducible refine Touches.modPfl ?_ ?_
    with_reducible assumption
    rfl
  clear_value v
  extract_lets +onlyGivenNames -underBinder v
  have hv : Touches 0x58c068a084 s v := by
    unfold v
    split
    with_reducible refine Touches.nearMiss ?_ ?_
    with_reducible assumption
    rfl
    with_reducible assumption
  clear_value v
  split
  with_reducible refine Touches.nearMiss ?_ ?_
  with_reducible assumption
  rfl
  with_reducible assumption

theorem Foot.cmdAssayNow : ∀ x1 s, ResT 0x8040000100 s (execAssayNow x1 s) := by
  intro x1 s
  unfold execAssayNow
  extract_lets +onlyGivenNames -underBinder v
  have hv : Touches 0x8040000100 s v := by
    unfold v
    with_reducible refine Touches.emit ?_ ?_
    with_reducible exact Touches.refl _ _
    rfl
  clear_value v
  split
  with_reducible refine ResT.next ?_
  with_reducible exact Touches.refl _ _
  split
  with_reducible refine ResT.next ?_
  with_reducible assumption
  with_reducible refine ResT.next ?_
  extract_lets +onlyGivenNames -underBinder v
  with_reducible refine Touches.step ?_ (Foot.assayGate ..) ?_
  extract_lets +onlyGivenNames -underBinder v
  with_reducible refine Touches.step ?_ (Foot.askAssay ..) ?_
  extract_lets +onlyGivenNames -underBinder v
  with_reducible refine Touches.setBits ?_ ?_
  with_reducible assumption
  rfl
  rfl
  rfl

theorem Foot.cmdBaseReset : ∀ x1 s, ResT 0x8040000000 s (execBaseReset x1 s) := by
  intro x1 s
  unfold execBaseReset
  split
  with_reducible refine ResT.next ?_
  with_reducible exact Touches.refl _ _
  with_reducible refine ResT.next ?_
  extract_lets +onlyGivenNames -underBinder v
  with_reducible refine Touches.modPwr ?_ ?_
  extract_lets +onlyGivenNames -underBinder v
  with_reducible refine Touches.emit ?_ ?_
  with_reducible exact Touches.refl _ _
  rfl
  rfl

theorem Foot.cmdPwrParamWrite : ∀ x1 x2 x3 s, ResT 0xd97f68a3bc s (execPwrParamWrite x1 x2 x3 s) := by
  intro x1 x2 x3 s
  unfold execPwrParamWrite
  have h0 : Touches 0xd97f68a3bc s s := Touches.refl _ _
  have ho : (if x2.val = 0 then Reg.PWR_C_MARGIN else if x2.val = 1 then Reg.PWR_ESR_FACTOR else Reg.PWR_HB_EXTRA_MW) / 0x10000 = 8 := by
    split
    · rfl
    · split <;> rfl
  split
  · exact ResT.next h0
  revert ho
  generalize (if x2.val = 0 then Reg.PWR_C_MARGIN else if x2.val = 1 then Reg.PWR_ESR_FACTOR else Reg.PWR_HB_EXTRA_MW) = off
  intro ho
  extract_lets o n ok s1
  have h1 : Touches 0xd97f68a3bc s s1 := Touches.emit h0 rfl
  clear_value s1
  split
  · exact ResT.next h1
  · split
    extract_lets d s2
    have h2 : Touches 0xd97f68a3bc s s2 := Touches.step h1 (Foot.queueDeed ..) rfl
    clear_value s2
    refine ResT.next ?_
    split
    · refine Touches.step (Touches.setNat h2 ?_) (Foot.meterEffects ..) rfl
      rw [ho]; rfl
    · exact h2

theorem Foot.cmdRailWarn : ∀ x1 s, ResT 0x584068a184 s (execRailWarn x1 s) := by
  intro x1 s
  unfold execRailWarn
  extract_lets +onlyGivenNames -underBinder v
  have hv : Touches 0x584068a184 s v := by
    unfold v
    with_reducible refine Touches.modPwr ?_ ?_
    with_reducible exact Touches.refl _ _
    rfl
  clear_value v
  split
  with_reducible refine ResT.next ?_
  with_reducible exact Touches.refl _ _
  with_reducible refine ResT.next ?_
  extract_lets +onlyGivenNames -underBinder v
  with_reducible refine Touches.raise ?_ ?_
  extract_lets +onlyGivenNames -underBinder v
  with_reducible refine Touches.flag ?_ ?_ ?_
  with_reducible assumption
  rfl
  rfl
  rfl

theorem Foot.cmdVinDrop : ∀ x1 x2 s, ResT 0x58c168a184 s (execVinDrop x1 x2 s) := by
  intro x1 x2 s
  unfold execVinDrop
  extract_lets +onlyGivenNames -underBinder v
  have hv : Touches 0x58c168a184 s v := by
    unfold v
    with_reducible refine Touches.step ?_ (Foot.noteVin ..) ?_
    extract_lets +onlyGivenNames -underBinder w
    with_reducible refine Touches.clockTo ?_ ?_
    with_reducible exact Touches.refl _ _
    rfl
    rfl
  clear_value v
  extract_lets +onlyGivenNames -underBinder v
  have hv : Touches 0x58c168a184 s v := by
    unfold v
    with_reducible refine Touches.modPwr ?_ ?_
    with_reducible assumption
    rfl
  clear_value v
  extract_lets +onlyGivenNames -underBinder v
  have hv : Touches 0x58c168a184 s v := by
    unfold v
    with_reducible refine Touches.modPwr ?_ ?_
    with_reducible assumption
    rfl
  clear_value v
  split
  with_reducible refine ResT.next ?_
  with_reducible exact Touches.refl _ _
  split
  split
  with_reducible refine ResT.next ?_
  extract_lets +onlyGivenNames -underBinder v
  with_reducible refine Touches.step ?_ (Foot.setBudget ..) ?_
  extract_lets +onlyGivenNames -underBinder v
  with_reducible refine Touches.step ?_ (Foot.setBank ..) ?_
  with_reducible assumption
  rfl
  rfl
  with_reducible refine ResT.next ?_
  with_reducible assumption
  with_reducible refine ResT.next ?_
  with_reducible assumption

theorem Foot.cmdVinRecover : ∀ x1 x2 s, ResT 0x58c168a184 s (execVinRecover x1 x2 s) := by
  intro x1 x2 s
  unfold execVinRecover
  extract_lets +onlyGivenNames -underBinder v
  have hv : Touches 0x58c168a184 s v := by
    unfold v
    with_reducible refine Touches.step ?_ (Foot.noteVin ..) ?_
    extract_lets +onlyGivenNames -underBinder w
    with_reducible refine Touches.clockTo ?_ ?_
    with_reducible exact Touches.refl _ _
    rfl
    rfl
  clear_value v
  extract_lets +onlyGivenNames -underBinder v
  have hv : Touches 0x58c168a184 s v := by
    unfold v
    with_reducible refine Touches.modPwr ?_ ?_
    with_reducible assumption
    rfl
  clear_value v
  split
  with_reducible refine ResT.next ?_
  with_reducible exact Touches.refl _ _
  split
  with_reducible refine ResT.next ?_
  extract_lets +onlyGivenNames -underBinder v
  with_reducible refine Touches.step ?_ (Foot.setBudget ..) ?_
  extract_lets +onlyGivenNames -underBinder v
  with_reducible refine Touches.step ?_ (Foot.setBank ..) ?_
  with_reducible assumption
  rfl
  rfl
  with_reducible refine ResT.next ?_
  with_reducible assumption

theorem Foot.cmdIdealDiodeSwitch : ∀ x1 x2 x3 s, ResT 0x58c068a084 s (execIdealDiodeSwitch x1 x2 x3 s) := by
  intro x1 x2 x3 s
  unfold execIdealDiodeSwitch
  extract_lets +onlyGivenNames -underBinder v
  have hv : Touches 0x58c068a084 s v := by
    unfold v
    with_reducible refine Touches.step ?_ (Foot.noteVin ..) ?_
    extract_lets +onlyGivenNames -underBinder w
    with_reducible refine Touches.clockTo ?_ ?_
    with_reducible exact Touches.refl _ _
    rfl
    rfl
  clear_value v
  extract_lets +onlyGivenNames -underBinder v
  split
  with_reducible refine ResT.next ?_
  with_reducible exact Touches.refl _ _
  with_reducible refine ResT.next ?_
  extract_lets +onlyGivenNames -underBinder v
  with_reducible refine Touches.modPwr ?_ ?_
  with_reducible assumption
  rfl

theorem Foot.cmdHvRefreshTimeout : ∀ s, ResT 0x584068a184 s (execHvRefreshTimeout s) := by
  intro s
  unfold execHvRefreshTimeout
  extract_lets +onlyGivenNames -underBinder v
  have hv : Touches 0x584068a184 s v := by
    unfold v
    with_reducible refine Touches.modPwr ?_ ?_
    with_reducible exact Touches.refl _ _
    rfl
  clear_value v
  split
  with_reducible refine ResT.next ?_
  with_reducible exact Touches.refl _ _
  with_reducible refine ResT.next ?_
  extract_lets +onlyGivenNames -underBinder v
  with_reducible refine Touches.flag ?_ ?_ ?_
  with_reducible assumption
  rfl
  rfl

theorem Foot.cmdOvercurrent : ∀ s, ResT 0x5841e8a184 s (execOvercurrent s) := by
  intro s
  unfold execOvercurrent
  split
  with_reducible refine ResT.next ?_
  extract_lets +onlyGivenNames -underBinder v
  with_reducible refine Touches.step ?_ (Foot.degrade ..) ?_
  extract_lets +onlyGivenNames -underBinder v
  split
  with_reducible refine Touches.flag ?_ ?_ ?_
  extract_lets +onlyGivenNames -underBinder v
  with_reducible refine Touches.modPwr ?_ ?_
  with_reducible exact Touches.refl _ _
  rfl
  rfl
  rfl
  with_reducible refine Touches.step ?_ (Foot.closeAssay ..) ?_
  extract_lets +onlyGivenNames -underBinder v
  with_reducible refine Touches.flag ?_ ?_ ?_
  extract_lets +onlyGivenNames -underBinder v
  with_reducible refine Touches.modPwr ?_ ?_
  with_reducible exact Touches.refl _ _
  rfl
  rfl
  rfl
  rfl
  rfl
  with_reducible refine ResT.next ?_
  extract_lets +onlyGivenNames -underBinder v
  with_reducible refine Touches.step ?_ (Foot.degrade ..) ?_
  extract_lets +onlyGivenNames -underBinder v
  split
  with_reducible refine Touches.flag ?_ ?_ ?_
  extract_lets +onlyGivenNames -underBinder v
  with_reducible refine Touches.modPwr ?_ ?_
  with_reducible exact Touches.refl _ _
  rfl
  rfl
  rfl
  with_reducible refine Touches.step ?_ (Foot.closeAssay ..) ?_
  extract_lets +onlyGivenNames -underBinder v
  with_reducible refine Touches.flag ?_ ?_ ?_
  extract_lets +onlyGivenNames -underBinder v
  with_reducible refine Touches.modPwr ?_ ?_
  with_reducible exact Touches.refl _ _
  rfl
  rfl
  rfl
  rfl
  rfl
  with_reducible refine ResT.next ?_
  extract_lets +onlyGivenNames -underBinder v
  with_reducible refine Touches.step ?_ (Foot.degrade ..) ?_
  extract_lets +onlyGivenNames -underBinder v
  split
  with_reducible refine Touches.flag ?_ ?_ ?_
  extract_lets +onlyGivenNames -underBinder v
  with_reducible refine Touches.modPwr ?_ ?_
  with_reducible exact Touches.refl _ _
  rfl
  rfl
  rfl
  with_reducible refine Touches.step ?_ (Foot.closeAssay ..) ?_
  extract_lets +onlyGivenNames -underBinder v
  with_reducible refine Touches.flag ?_ ?_ ?_
  extract_lets +onlyGivenNames -underBinder v
  with_reducible refine Touches.modPwr ?_ ?_
  with_reducible exact Touches.refl _ _
  rfl
  rfl
  rfl
  rfl
  rfl
  with_reducible refine ResT.next ?_
  with_reducible exact Touches.refl _ _

theorem Foot.cmdChargeOvervoltStop : ∀ x1 x2 s, ResT 0x5841e8a184 s (execChargeOvervoltStop x1 x2 s) := by
  intro x1 x2 s
  unfold execChargeOvervoltStop
  extract_lets +onlyGivenNames -underBinder v
  extract_lets +onlyGivenNames -underBinder v
  extract_lets +onlyGivenNames -underBinder v
  extract_lets +onlyGivenNames -underBinder v
  have hv : Touches 0x5841e8a184 s v := by
    unfold v
    with_reducible refine Touches.modPwr ?_ ?_
    with_reducible exact Touches.refl _ _
    rfl
  clear_value v
  extract_lets +onlyGivenNames -underBinder v
  have hv : Touches 0x5841e8a184 s v := by
    unfold v
    split
    with_reducible refine Touches.modPwr ?_ ?_
    with_reducible assumption
    rfl
    with_reducible assumption
  clear_value v
  split
  with_reducible refine ResT.next ?_
  with_reducible exact Touches.refl _ _
  with_reducible refine ResT.next ?_
  extract_lets +onlyGivenNames -underBinder v
  with_reducible refine Touches.foldl (fun _ _ _ => ?_) ?_
  extract_lets +onlyGivenNames -underBinder v
  with_reducible refine Touches.step ?_ (Foot.cellFault ..) ?_
  with_reducible assumption
  rfl
  with_reducible assumption

theorem Foot.cmdFloatReached : ∀ x1 s, ResT 0x40000000 s (execFloatReached x1 s) := by
  intro x1 s
  unfold execFloatReached
  split
  with_reducible refine ResT.next ?_
  extract_lets +onlyGivenNames -underBinder v
  with_reducible refine Touches.modPwr ?_ ?_
  with_reducible exact Touches.refl _ _
  rfl
  with_reducible refine ResT.next ?_
  with_reducible exact Touches.refl _ _

theorem Foot.cmdCellMeasure : ∀ x1 x2 x3 x4 x5 s, ResT 0x5841e8a184 s (execCellMeasure x1 x2 x3 x4 x5 s) := by
  intro x1 x2 x3 x4 x5 s
  unfold execCellMeasure
  extract_lets +onlyGivenNames -underBinder v
  extract_lets +onlyGivenNames -underBinder v
  have hv : Touches 0x5841e8a184 s v := by
    unfold v
    with_reducible refine Touches.clockTo ?_ ?_
    with_reducible exact Touches.refl _ _
    rfl
  clear_value v
  extract_lets +onlyGivenNames -underBinder v
  extract_lets +onlyGivenNames -underBinder v
  extract_lets +onlyGivenNames -underBinder v
  extract_lets +onlyGivenNames -underBinder v
  have hv : Touches 0x5841e8a184 s v := by
    unfold v
    with_reducible refine Touches.modPwr ?_ ?_
    with_reducible assumption
    rfl
  clear_value v
  extract_lets +onlyGivenNames -underBinder v
  extract_lets +onlyGivenNames -underBinder v
  extract_lets +onlyGivenNames -underBinder v
  extract_lets +onlyGivenNames -underBinder v
  have hv : Touches 0x5841e8a184 s v := by
    unfold v
    with_reducible refine Touches.foldl (fun _ _ _ => ?_) ?_
    extract_lets +onlyGivenNames -underBinder w
    with_reducible refine Touches.step ?_ (Foot.cellFault ..) ?_
    with_reducible assumption
    rfl
    with_reducible assumption
  clear_value v
  extract_lets +onlyGivenNames -underBinder v
  have hv : Touches 0x5841e8a184 s v := by
    unfold v
    with_reducible refine Touches.foldl (fun _ _ _ => ?_) ?_
    extract_lets +onlyGivenNames -underBinder w
    with_reducible refine Touches.step ?_ (Foot.cellFault ..) ?_
    with_reducible assumption
    rfl
    with_reducible assumption
  clear_value v
  split
  with_reducible refine ResT.next ?_
  with_reducible exact Touches.refl _ _
  with_reducible refine ResT.next ?_
  extract_lets +onlyGivenNames -underBinder v
  split
  with_reducible refine Touches.step ?_ (Foot.cellFault ..) ?_
  with_reducible assumption
  rfl
  with_reducible assumption

theorem Foot.cmdEnergyMeterUpdate : ∀ x1 x2 x3 x4 x5 x6 s, ResT 0x59ff68a3bc s (execEnergyMeterUpdate x1 x2 x3 x4 x5 x6 s) := by
  intro x1 x2 x3 x4 x5 x6 s
  unfold execEnergyMeterUpdate
  have h0 : Touches 0x59ff68a3bc s s := Touches.refl _ _
  split
  · exact ResT.next h0
  extract_lets s1 s2
  have h1 : Touches 0x59ff68a3bc s s1 := Touches.step (Touches.clockTo h0 rfl) (Foot.noteVin ..) rfl
  clear_value s1
  exact ResT.next (Touches.step (Touches.modPwr h1 rfl) (Foot.meterEffects ..) rfl)

theorem Foot.cmdLiveEstimate : ∀ x1 x2 x3 s, ResT 0x584168a184 s (execLiveEstimate x1 x2 x3 s) := by
  intro x1 x2 x3 s
  unfold execLiveEstimate
  extract_lets +onlyGivenNames -underBinder v
  have hv : Touches 0x584168a184 s v := by
    unfold v
    with_reducible refine Touches.clockTo ?_ ?_
    with_reducible exact Touches.refl _ _
    rfl
  clear_value v
  split
  with_reducible refine ResT.next ?_
  extract_lets +onlyGivenNames -underBinder v
  with_reducible refine Touches.step ?_ (Foot.meter ..) ?_
  extract_lets +onlyGivenNames -underBinder v
  with_reducible refine Touches.modPwr ?_ ?_
  with_reducible assumption
  rfl
  rfl
  with_reducible refine ResT.next ?_
  with_reducible exact Touches.refl _ _

theorem Foot.cmdNoBankCheck : ∀ x1 x2 s, ResT 0x584168a184 s (execNoBankCheck x1 x2 s) := by
  intro x1 x2 s
  unfold execNoBankCheck
  extract_lets +onlyGivenNames -underBinder v
  have hv : Touches 0x584168a184 s v := by
    unfold v
    with_reducible refine Touches.clockTo ?_ ?_
    with_reducible exact Touches.refl _ _
    rfl
  clear_value v
  extract_lets +onlyGivenNames -underBinder v
  have hv : Touches 0x584168a184 s v := by
    unfold v
    with_reducible refine Touches.modPwr ?_ ?_
    with_reducible assumption
    rfl
  clear_value v
  split
  with_reducible refine ResT.next ?_
  extract_lets +onlyGivenNames -underBinder v
  with_reducible refine Touches.step ?_ (Foot.degrade ..) ?_
  with_reducible assumption
  rfl
  with_reducible refine ResT.next ?_
  with_reducible assumption

theorem Foot.cmdChargeTimeout : ∀ x1 s, ResT 0x584168a184 s (execChargeTimeout x1 s) := by
  intro x1 s
  unfold execChargeTimeout
  extract_lets +onlyGivenNames -underBinder v
  have hv : Touches 0x584168a184 s v := by
    unfold v
    with_reducible refine Touches.clockTo ?_ ?_
    with_reducible exact Touches.refl _ _
    rfl
  clear_value v
  extract_lets +onlyGivenNames -underBinder v
  have hv : Touches 0x584168a184 s v := by
    unfold v
    with_reducible refine Touches.flag ?_ ?_ ?_
    extract_lets +onlyGivenNames -underBinder w
    with_reducible refine Touches.modPwr ?_ ?_
    with_reducible assumption
    rfl
    rfl
    rfl
  clear_value v
  split
  with_reducible refine ResT.next ?_
  extract_lets +onlyGivenNames -underBinder v
  with_reducible refine Touches.step ?_ (Foot.degrade ..) ?_
  with_reducible assumption
  rfl
  with_reducible refine ResT.next ?_
  with_reducible assumption

theorem Foot.cmdAssayDue : ∀ x1 s, ResT 0x584068a084 s (execAssayDue x1 s) := by
  intro x1 s
  unfold execAssayDue
  extract_lets +onlyGivenNames -underBinder v
  have hv : Touches 0x584068a084 s v := by
    unfold v
    with_reducible refine Touches.clockTo ?_ ?_
    with_reducible exact Touches.refl _ _
    rfl
  clear_value v
  split
  with_reducible refine ResT.next ?_
  extract_lets +onlyGivenNames -underBinder v
  with_reducible refine Touches.modPwr ?_ ?_
  with_reducible assumption
  rfl
  with_reducible refine ResT.next ?_
  with_reducible assumption

theorem Foot.cmdAssaySlackExpiry : ∀ x1 s, ResT 0x597f68a3bc s (execAssaySlackExpiry x1 s) := by
  intro x1 s
  unfold execAssaySlackExpiry
  extract_lets +onlyGivenNames -underBinder v
  have hv : Touches 0x597f68a3bc s v := by
    unfold v
    with_reducible refine Touches.clockTo ?_ ?_
    with_reducible exact Touches.refl _ _
    rfl
  clear_value v
  extract_lets +onlyGivenNames -underBinder v
  extract_lets +onlyGivenNames -underBinder v
  extract_lets +onlyGivenNames -underBinder v
  have hv : Touches 0x597f68a3bc s v := by
    unfold v
    with_reducible refine Touches.step ?_ (Foot.setBudget ..) ?_
    extract_lets +onlyGivenNames -underBinder w
    with_reducible refine Touches.modPwr ?_ ?_
    with_reducible assumption
    rfl
    rfl
  clear_value v
  split
  split
  with_reducible refine ResT.next ?_
  extract_lets +onlyGivenNames -underBinder v
  with_reducible refine Touches.step ?_ (Foot.degrade ..) ?_
  extract_lets +onlyGivenNames -underBinder v
  with_reducible refine Touches.modPwr ?_ ?_
  with_reducible assumption
  rfl
  rfl
  with_reducible refine ResT.next ?_
  extract_lets +onlyGivenNames -underBinder v
  with_reducible refine Touches.step ?_ (Foot.assayGate ..) ?_
  extract_lets +onlyGivenNames -underBinder v
  with_reducible refine Touches.step ?_ (Foot.forceWb ..) ?_
  with_reducible assumption
  rfl
  rfl
  with_reducible refine ResT.next ?_
  with_reducible assumption

theorem Foot.cmdAssayRelaxDone : ∀ x1 s, ResT 0x40000000 s (execAssayRelaxDone x1 s) := by
  intro x1 s
  unfold execAssayRelaxDone
  split
  with_reducible refine ResT.next ?_
  extract_lets +onlyGivenNames -underBinder v
  with_reducible refine Touches.modPwr ?_ ?_
  with_reducible exact Touches.refl _ _
  rfl
  with_reducible refine ResT.next ?_
  with_reducible exact Touches.refl _ _

theorem Foot.cmdAssayEsrSample : ∀ x1 x2 s, ResT 0x40000000 s (execAssayEsrSample x1 x2 s) := by
  intro x1 x2 s
  unfold execAssayEsrSample
  split
  with_reducible refine ResT.next ?_
  extract_lets +onlyGivenNames -underBinder v
  with_reducible refine Touches.modPwr ?_ ?_
  with_reducible exact Touches.refl _ _
  rfl
  with_reducible refine ResT.next ?_
  with_reducible exact Touches.refl _ _

theorem Foot.cmdAssayIntegrationEnd : ∀ x1 x2 s, ResT 0x40000000 s (execAssayIntegrationEnd x1 x2 s) := by
  intro x1 x2 s
  unfold execAssayIntegrationEnd
  split
  with_reducible refine ResT.next ?_
  extract_lets +onlyGivenNames -underBinder v
  with_reducible refine Touches.modPwr ?_ ?_
  with_reducible exact Touches.refl _ _
  rfl
  with_reducible refine ResT.next ?_
  with_reducible exact Touches.refl _ _

theorem Foot.cmdAssayDone : ∀ x1 s, ResT 0x5841e8a184 s (execAssayDone x1 s) := by
  intro x1 s
  unfold execAssayDone
  extract_lets +onlyGivenNames -underBinder v
  extract_lets +onlyGivenNames -underBinder v
  have hv : Touches 0x5841e8a184 s v := by
    unfold v
    with_reducible refine Touches.modPwr ?_ ?_
    with_reducible exact Touches.refl _ _
    rfl
  clear_value v
  extract_lets +onlyGivenNames -underBinder v
  extract_lets +onlyGivenNames -underBinder v
  extract_lets +onlyGivenNames -underBinder v
  extract_lets +onlyGivenNames -underBinder v
  extract_lets +onlyGivenNames -underBinder v
  have hv : Touches 0x5841e8a184 s v := by
    unfold v
    with_reducible refine Touches.modPwr ?_ ?_
    with_reducible assumption
    rfl
  clear_value v
  extract_lets +onlyGivenNames -underBinder v
  have hv : Touches 0x5841e8a184 s v := by
    unfold v
    with_reducible refine Touches.step ?_ (Foot.closeAssay ..) ?_
    with_reducible assumption
    rfl
  clear_value v
  extract_lets +onlyGivenNames -underBinder v
  have hv : Touches 0x5841e8a184 s v := by
    unfold v
    split
    with_reducible refine Touches.step ?_ (Foot.assayPass ..) ?_
    with_reducible assumption
    rfl
    with_reducible refine Touches.step ?_ (Foot.degrade ..) ?_
    extract_lets +onlyGivenNames -underBinder w
    with_reducible refine Touches.flag ?_ ?_ ?_
    with_reducible assumption
    rfl
    rfl
    rfl
  clear_value v
  split
  split
  with_reducible refine ResT.next ?_
  extract_lets +onlyGivenNames -underBinder v
  with_reducible refine Touches.step ?_ (Foot.closeAssay ..) ?_
  with_reducible assumption
  rfl
  with_reducible refine ResT.next ?_
  extract_lets +onlyGivenNames -underBinder v
  with_reducible refine Touches.step ?_ (Foot.setBudget ..) ?_
  extract_lets +onlyGivenNames -underBinder v
  with_reducible refine Touches.step ?_ (Foot.bankArm ..) ?_
  extract_lets +onlyGivenNames -underBinder v
  with_reducible refine Touches.step ?_ (Foot.setBudget ..) ?_
  extract_lets +onlyGivenNames -underBinder v
  with_reducible refine Touches.modPwr ?_ ?_
  extract_lets +onlyGivenNames -underBinder v
  with_reducible refine Touches.step ?_ (Foot.convFollow ..) ?_
  with_reducible assumption
  rfl
  rfl
  rfl
  rfl
  rfl
  with_reducible refine ResT.next ?_
  with_reducible exact Touches.refl _ _

end Sys2Proof.Machine
end

