-- ==== Sys2Proof/Laws/FootFlush.lean ====
section
/-! SUPPORT. The footprint of each operation of Machine/Flush.lean: the parts of the state it may change. -/

namespace Sys2Proof.Machine

theorem Foot.saveMap : ∀ s, Touches 0x4000000 s (State.saveMap s) := by
  intro s
  unfold State.saveMap
  with_reducible refine Touches.modSaved ?_ ?_
  with_reducible exact Touches.refl _ _
  rfl

theorem Foot.takeDump : ∀ s, Touches 0x2000000 s (State.takeDump s) := by
  intro s
  unfold State.takeDump
  with_reducible refine Touches.modCds ?_ ?_
  with_reducible exact Touches.refl _ _
  rfl

theorem Foot.drainFrame : ∀ s x1 x2, Touches 0x15b8f68a284 s (State.drainFrame s x1 x2) := by
  intro s x1 x2
  unfold State.drainFrame
  have h0 : Touches 0x15b8f68a284 s s := Touches.refl _ _
  extract_lets +onlyGivenNames -underBinder before f wrapped s1 f2
  have h1 : Touches 0x15b8f68a284 s s1 := by
    unfold s1; split
    · exact Touches.step h0 (Foot.fillAll ..) rfl
    · exact h0
  clear_value s1
  split
  rename_i s2 seals e2
  have h2 : Touches 0x15b8f68a284 s s2 := FstT.get (Foot.sealMask ..) e2 h1 rfl
  extract_lets +onlyGivenNames -underBinder s3 s4 s5 e s6
  have h3 : Touches 0x15b8f68a284 s s3 := by
    unfold s3; split
    · exact Touches.step h2 (Foot.wrapGroup ..) rfl
    · exact h2
  clear_value s3
  have h4 : Touches 0x15b8f68a284 s s4 := by
    unfold s4; split
    · refine Touches.foldl (fun _ _ h => ?_) h3
      split
      · exact Touches.step h (Foot.programLine ..) rfl
      · exact h
    · exact h3
  clear_value s4
  have h5 : Touches 0x15b8f68a284 s s5 := Touches.step h4 (Foot.commitSeals ..) rfl
  have h6 : Touches 0x15b8f68a284 s s6 := Touches.modPfl (Touches.step h5 (Foot.takeDump ..) rfl) rfl
  exact Touches.modIme (Touches.modStg h6 rfl) rfl

theorem Foot.drainMeta : ∀ s x1 x2, Touches 0x1aa000000 s (State.drainMeta s x1 x2) := by
  intro s x1 x2
  unfold State.drainMeta
  extract_lets +onlyGivenNames -underBinder v
  extract_lets +onlyGivenNames -underBinder v
  have hv : Touches 0x1aa000000 s v := by
    unfold v
    with_reducible refine Touches.modPfl ?_ ?_
    with_reducible exact Touches.refl _ _
    rfl
  clear_value v
  split
  with_reducible refine Touches.modMdc ?_ ?_
  with_reducible assumption
  rfl
  extract_lets +onlyGivenNames -underBinder v
  extract_lets +onlyGivenNames -underBinder v
  have hv : Touches 0x1aa000000 s v := by
    unfold v
    split
    with_reducible refine Touches.foldl (fun _ _ _ => ?_) ?_
    extract_lets +onlyGivenNames -underBinder w
    split
    extract_lets +onlyGivenNames -underBinder w
    with_reducible refine Touches.step ?_ (Foot.programLine ..) ?_
    with_reducible assumption
    rfl
    with_reducible assumption
    with_reducible assumption
    with_reducible assumption
  clear_value v
  extract_lets +onlyGivenNames -underBinder v
  with_reducible refine Touches.modPfl ?_ ?_
  extract_lets +onlyGivenNames -underBinder v
  with_reducible refine Touches.modIme ?_ ?_
  extract_lets +onlyGivenNames -underBinder v
  with_reducible refine Touches.step ?_ (Foot.takeDump ..) ?_
  with_reducible assumption
  rfl
  rfl
  rfl
  extract_lets +onlyGivenNames -underBinder v
  extract_lets +onlyGivenNames -underBinder v
  have hv : Touches 0x1aa000000 s v := by
    unfold v
    split
    with_reducible refine Touches.foldl (fun _ _ _ => ?_) ?_
    extract_lets +onlyGivenNames -underBinder w
    split
    extract_lets +onlyGivenNames -underBinder w
    with_reducible refine Touches.step ?_ (Foot.programLine ..) ?_
    with_reducible assumption
    rfl
    with_reducible assumption
    with_reducible assumption
    with_reducible assumption
  clear_value v
  extract_lets +onlyGivenNames -underBinder v
  with_reducible refine Touches.modPfl ?_ ?_
  extract_lets +onlyGivenNames -underBinder v
  with_reducible refine Touches.modIme ?_ ?_
  extract_lets +onlyGivenNames -underBinder v
  with_reducible refine Touches.step ?_ (Foot.takeDump ..) ?_
  with_reducible assumption
  rfl
  rfl
  rfl
  extract_lets +onlyGivenNames -underBinder v
  with_reducible refine Touches.modPfl ?_ ?_
  extract_lets +onlyGivenNames -underBinder v
  with_reducible refine Touches.modCds ?_ ?_
  extract_lets +onlyGivenNames -underBinder v
  with_reducible refine Touches.step ?_ (Foot.takeDump ..) ?_
  with_reducible assumption
  rfl
  rfl
  rfl

theorem Foot.unflush : ∀ s, Touches 0x80000000 s (State.unflush s) := by
  intro s
  unfold State.unflush
  extract_lets +onlyGivenNames -underBinder v
  extract_lets +onlyGivenNames -underBinder v
  with_reducible refine Touches.modPfl ?_ ?_
  with_reducible exact Touches.refl _ _
  rfl

theorem Foot.drainShort : ∀ s, Touches 0x588068a184 s (State.drainShort s) := by
  intro s
  unfold State.drainShort
  extract_lets +onlyGivenNames -underBinder v
  extract_lets +onlyGivenNames -underBinder v
  have hv : Touches 0x588068a184 s v := by
    unfold v
    with_reducible refine Touches.step ?_ (Foot.unflush ..) ?_
    extract_lets +onlyGivenNames -underBinder w
    with_reducible refine Touches.modPfl ?_ ?_
    with_reducible exact Touches.refl _ _
    rfl
    rfl
  clear_value v
  extract_lets +onlyGivenNames -underBinder v
  have hv : Touches 0x588068a184 s v := by
    unfold v
    with_reducible refine Touches.flag ?_ ?_ ?_
    with_reducible assumption
    rfl
    rfl
  clear_value v
  extract_lets +onlyGivenNames -underBinder v
  have hv : Touches 0x588068a184 s v := by
    unfold v
    split
    with_reducible refine Touches.flag ?_ ?_ ?_
    with_reducible assumption
    rfl
    rfl
    with_reducible assumption
  clear_value v
  split
  with_reducible refine Touches.flag ?_ ?_ ?_
  with_reducible assumption
  rfl
  rfl
  with_reducible assumption

theorem Foot.dropStuck : ∀ s x1 x2, Touches 0x598168a284 s (State.dropStuck s x1 x2) := by
  intro s x1 x2
  unfold State.dropStuck
  extract_lets +onlyGivenNames -underBinder v
  split
  extract_lets +onlyGivenNames -underBinder v
  have hv : Touches 0x598168a284 s v := by
    unfold v
    with_reducible refine Touches.step ?_ (Foot.stick ..) ?_
    with_reducible exact Touches.refl _ _
    rfl
  clear_value v
  extract_lets +onlyGivenNames -underBinder v
  have hv : Touches 0x598168a284 s v := by
    unfold v
    with_reducible refine Touches.modStg ?_ ?_
    with_reducible assumption
    rfl
  clear_value v
  split
  with_reducible refine Touches.modPfl ?_ ?_
  with_reducible assumption
  rfl
  with_reducible exact Touches.refl _ _
  with_reducible exact Touches.refl _ _

theorem Foot.edgeLate : ∀ s, Touches 0x79ffece3bd s (State.edgeLate s) := by
  intro s
  unfold State.edgeLate
  extract_lets +onlyGivenNames -underBinder v
  have hv : Touches 0x79ffece3bd s v := by
    unfold v
    with_reducible refine Touches.incReg ?_ ?_
    extract_lets +onlyGivenNames -underBinder w
    with_reducible refine Touches.modPfl ?_ ?_
    with_reducible exact Touches.refl _ _
    rfl
    rfl
  clear_value v
  split
  with_reducible refine Touches.step ?_ (Foot.enterBrace ..) ?_
  with_reducible assumption
  rfl
  with_reducible assumption

theorem Foot.edgeOnTime : ∀ s x1, Touches 0xffd7ffffff s (State.edgeOnTime s x1) := by
  intro s x1
  unfold State.edgeOnTime
  extract_lets +onlyGivenNames -underBinder v
  extract_lets +onlyGivenNames -underBinder v
  have hv : Touches 0xffd7ffffff s v := by
    unfold v
    with_reducible refine Touches.modPfl ?_ ?_
    with_reducible exact Touches.refl _ _
    rfl
  clear_value v
  split
  with_reducible refine Touches.step ?_ (Foot.exitBrace ..) ?_
  with_reducible assumption
  rfl
  with_reducible assumption

theorem Foot.edgeUnlocked : ∀ s x1, Touches 0x80000100 s (State.edgeUnlocked s x1) := by
  intro s x1
  unfold State.edgeUnlocked
  extract_lets +onlyGivenNames -underBinder v
  extract_lets +onlyGivenNames -underBinder v
  extract_lets +onlyGivenNames -underBinder v
  have hv : Touches 0x80000100 s v := by
    unfold v
    with_reducible refine Touches.modPfl ?_ ?_
    with_reducible exact Touches.refl _ _
    rfl
  clear_value v
  extract_lets +onlyGivenNames -underBinder v
  have hv : Touches 0x80000100 s v := by
    unfold v
    with_reducible refine Touches.modPfl ?_ ?_
    with_reducible assumption
    rfl
  clear_value v
  split
  with_reducible refine Touches.clearBits ?_ ?_
  extract_lets +onlyGivenNames -underBinder v
  with_reducible refine Touches.setBits ?_ ?_
  with_reducible assumption
  rfl
  rfl
  with_reducible assumption

theorem Foot.setPhase : ∀ s x1, Touches 0x80000000 s (State.setPhase s x1) := by
  intro s x1
  unfold State.setPhase
  extract_lets +onlyGivenNames -underBinder v
  extract_lets +onlyGivenNames -underBinder v
  with_reducible refine Touches.modPfl ?_ ?_
  with_reducible exact Touches.refl _ _
  rfl

theorem Foot.enterMonument : ∀ s x1, Touches 0x588068a184 s (State.enterMonument s x1) := by
  intro s x1
  unfold State.enterMonument
  extract_lets +onlyGivenNames -underBinder v
  extract_lets +onlyGivenNames -underBinder v
  split
  with_reducible refine Touches.modPfl ?_ ?_
  extract_lets +onlyGivenNames -underBinder v
  with_reducible refine Touches.step ?_ (Foot.setPhase ..) ?_
  with_reducible exact Touches.refl _ _
  rfl
  rfl
  with_reducible refine Touches.flag ?_ ?_ ?_
  extract_lets +onlyGivenNames -underBinder v
  with_reducible refine Touches.modPfl ?_ ?_
  extract_lets +onlyGivenNames -underBinder v
  with_reducible refine Touches.step ?_ (Foot.setPhase ..) ?_
  with_reducible exact Touches.refl _ _
  rfl
  rfl
  rfl
  rfl

theorem Foot.endDrain : ∀ s, Touches 0x588068a184 s (State.endDrain s) := by
  intro s
  unfold State.endDrain
  extract_lets +onlyGivenNames -underBinder v
  extract_lets +onlyGivenNames -underBinder v
  with_reducible refine Touches.step ?_ (Foot.enterMonument ..) ?_
  extract_lets +onlyGivenNames -underBinder v
  with_reducible refine Touches.modPfl ?_ ?_
  with_reducible exact Touches.refl _ _
  rfl
  rfl

theorem Foot.placeMonument : ∀ s x1, Touches 0x880000000 s (State.placeMonument s x1) := by
  intro s x1
  unfold State.placeMonument
  extract_lets +onlyGivenNames -underBinder v
  extract_lets +onlyGivenNames -underBinder v
  extract_lets +onlyGivenNames -underBinder v
  have hv : Touches 0x880000000 s v := by
    unfold v
    with_reducible refine Touches.modPfl ?_ ?_
    with_reducible exact Touches.refl _ _
    rfl
  clear_value v
  split
  with_reducible assumption
  with_reducible refine Touches.step ?_ (Foot.pstQueue ..) ?_
  with_reducible assumption
  rfl

theorem Foot.resetMonSet : ∀ s x1, Touches 0x82000000 s (State.resetMonSet s x1) := by
  intro s x1
  unfold State.resetMonSet
  extract_lets +onlyGivenNames -underBinder v
  extract_lets +onlyGivenNames -underBinder v
  have hv : Touches 0x82000000 s v := by
    unfold v
    with_reducible refine Touches.modPfl ?_ ?_
    with_reducible exact Touches.refl _ _
    rfl
  clear_value v
  split
  with_reducible exact Touches.refl _ _
  split
  with_reducible refine Touches.modPfl ?_ ?_
  with_reducible assumption
  rfl
  with_reducible refine Touches.modCds ?_ ?_
  with_reducible assumption
  rfl

theorem Foot.writeRun : ∀ s, Touches 0x882000000 s (State.writeRun s) := by
  intro s
  unfold State.writeRun
  extract_lets +onlyGivenNames -underBinder v
  extract_lets +onlyGivenNames -underBinder v
  have hv : Touches 0x882000000 s v := by
    unfold v
    with_reducible refine Touches.step ?_ (Foot.placeMonument ..) ?_
    with_reducible exact Touches.refl _ _
    rfl
  clear_value v
  with_reducible refine Touches.step ?_ (Foot.resetMonSet ..) ?_
  with_reducible assumption
  rfl

theorem Foot.restLine : ∀ s, Touches 0x80000000 s (State.restLine s) := by
  intro s
  unfold State.restLine
  extract_lets +onlyGivenNames -underBinder v
  extract_lets +onlyGivenNames -underBinder v
  split
  with_reducible exact Touches.refl _ _
  with_reducible refine Touches.modPfl ?_ ?_
  with_reducible exact Touches.refl _ _
  rfl

theorem Foot.cmdRelock : ∀ x1 s, ResT 0x8080000100 s (execRelock x1 s) := by
  intro x1 s
  unfold execRelock
  extract_lets +onlyGivenNames -underBinder v
  have hv : Touches 0x8080000100 s v := by
    unfold v
    with_reducible refine Touches.emit ?_ ?_
    with_reducible exact Touches.refl _ _
    rfl
  clear_value v
  split
  with_reducible refine ResT.next ?_
  with_reducible exact Touches.refl _ _
  split
  with_reducible refine ResT.next ?_
  with_reducible assumption
  with_reducible refine ResT.next ?_
  extract_lets +onlyGivenNames -underBinder v
  with_reducible refine Touches.setBits ?_ ?_
  with_reducible assumption
  rfl
  with_reducible refine ResT.next ?_
  extract_lets +onlyGivenNames -underBinder v
  with_reducible refine Touches.setBits ?_ ?_
  extract_lets +onlyGivenNames -underBinder v
  with_reducible refine Touches.modPfl ?_ ?_
  with_reducible assumption
  rfl
  rfl

theorem Foot.cmdSimTrip : ∀ x1 s, ResT 0xf8c0ece185 s (execSimTrip x1 s) := by
  intro x1 s
  unfold execSimTrip
  extract_lets +onlyGivenNames -underBinder v
  have hv : Touches 0xf8c0ece185 s v := by
    unfold v
    with_reducible refine Touches.emit ?_ ?_
    with_reducible exact Touches.refl _ _
    rfl
  clear_value v
  extract_lets +onlyGivenNames -underBinder v
  have hv : Touches 0xf8c0ece185 s v := by
    unfold v
    with_reducible refine Touches.modPfl ?_ ?_
    extract_lets +onlyGivenNames -underBinder w
    with_reducible refine Touches.setBits ?_ ?_
    with_reducible assumption
    rfl
    rfl
  clear_value v
  split
  with_reducible refine ResT.next ?_
  with_reducible exact Touches.refl _ _
  split
  with_reducible refine ResT.next ?_
  extract_lets +onlyGivenNames -underBinder v
  with_reducible refine Touches.step ?_ (Foot.trip ..) ?_
  with_reducible assumption
  rfl
  with_reducible refine ResT.next ?_
  with_reducible assumption

theorem Foot.cmdPflParamWrite : ∀ x1 x2 s, ResT 0x8000000100 s (execPflParamWrite x1 x2 s) := by
  intro x1 x2 s
  unfold execPflParamWrite
  extract_lets +onlyGivenNames -underBinder v
  have hv : Touches 0x8000000100 s v := by
    unfold v
    with_reducible refine Touches.emit ?_ ?_
    with_reducible exact Touches.refl _ _
    rfl
  clear_value v
  split
  with_reducible refine ResT.next ?_
  with_reducible exact Touches.refl _ _
  with_reducible refine ResT.next ?_
  extract_lets +onlyGivenNames -underBinder v
  split
  with_reducible refine Touches.setReg ?_ ?_
  with_reducible assumption
  rfl
  with_reducible assumption

theorem Foot.cmdRunMonumentWrite : ∀ s, ResT 0x883000100 s (execRunMonumentWrite s) := by
  intro s
  unfold execRunMonumentWrite
  split
  split
  with_reducible refine ResT.next ?_
  extract_lets +onlyGivenNames -underBinder v
  with_reducible refine Touches.step ?_ (Foot.setBudget ..) ?_
  extract_lets +onlyGivenNames -underBinder v
  with_reducible refine Touches.step ?_ (Foot.writeRun ..) ?_
  with_reducible exact Touches.refl _ _
  rfl
  rfl
  with_reducible refine ResT.next ?_
  with_reducible exact Touches.refl _ _
  with_reducible refine ResT.next ?_
  with_reducible exact Touches.refl _ _

theorem Foot.cmdLineSenseEdge : ∀ x1 s, ResT 0xffffffffff s (execLineSenseEdge x1 s) := by
  intro x1 s
  unfold execLineSenseEdge
  extract_lets +onlyGivenNames -underBinder v
  have hv : Touches 0xffffffffff s v := by
    unfold v
    with_reducible refine Touches.clockTo ?_ ?_
    with_reducible exact Touches.refl _ _
    rfl
  clear_value v
  extract_lets +onlyGivenNames -underBinder v
  split
  with_reducible refine ResT.next ?_
  with_reducible exact Touches.refl _ _
  split
  with_reducible refine ResT.next ?_
  extract_lets +onlyGivenNames -underBinder v
  with_reducible refine Touches.modPfl ?_ ?_
  with_reducible assumption
  rfl
  with_reducible refine ResT.next ?_
  extract_lets +onlyGivenNames -underBinder v
  with_reducible refine Touches.step ?_ (Foot.edgeUnlocked ..) ?_
  with_reducible assumption
  rfl
  split
  with_reducible refine ResT.next ?_
  extract_lets +onlyGivenNames -underBinder v
  with_reducible refine Touches.modPfl ?_ ?_
  with_reducible assumption
  rfl
  extract_lets +onlyGivenNames -underBinder v
  extract_lets +onlyGivenNames -underBinder v
  have hv : Touches 0xffffffffff s v := by
    unfold v
    split
    with_reducible refine Touches.nearMiss ?_ ?_
    with_reducible assumption
    rfl
    with_reducible assumption
  clear_value v
  extract_lets +onlyGivenNames -underBinder v
  have hv : Touches 0xffffffffff s v := by
    unfold v
    split
    with_reducible refine Touches.step ?_ (Foot.edgeLate ..) ?_
    with_reducible assumption
    rfl
    with_reducible assumption
  clear_value v
  split
  with_reducible refine ResT.next ?_
  extract_lets +onlyGivenNames -underBinder v
  with_reducible refine Touches.incReg ?_ ?_
  with_reducible assumption
  rfl
  split
  with_reducible refine ResT.next ?_
  extract_lets +onlyGivenNames -underBinder v
  with_reducible refine Touches.modPfl ?_ ?_
  with_reducible assumption
  rfl
  with_reducible refine ResT.next ?_
  extract_lets +onlyGivenNames -underBinder v
  with_reducible refine Touches.step ?_ (Foot.edgeOnTime ..) ?_
  with_reducible assumption
  rfl

theorem Foot.cmdLineEdgeLate : ∀ x1 s, ResT 0x79ffece3bd s (execLineEdgeLate x1 s) := by
  intro x1 s
  unfold execLineEdgeLate
  extract_lets +onlyGivenNames -underBinder v
  have hv : Touches 0x79ffece3bd s v := by
    unfold v
    with_reducible refine Touches.clockTo ?_ ?_
    with_reducible exact Touches.refl _ _
    rfl
  clear_value v
  split
  with_reducible refine ResT.next ?_
  with_reducible exact Touches.refl _ _
  split
  with_reducible refine ResT.next ?_
  extract_lets +onlyGivenNames -underBinder v
  with_reducible refine Touches.step ?_ (Foot.edgeLate ..) ?_
  with_reducible assumption
  rfl
  with_reducible refine ResT.next ?_
  with_reducible assumption

theorem Foot.cmdBraceTimeout : ∀ x1 s, ResT 0xffd7ffffff s (execBraceTimeout x1 s) := by
  intro x1 s
  unfold execBraceTimeout
  extract_lets +onlyGivenNames -underBinder v
  have hv : Touches 0xffd7ffffff s v := by
    unfold v
    with_reducible refine Touches.clockTo ?_ ?_
    with_reducible exact Touches.refl _ _
    rfl
  clear_value v
  extract_lets +onlyGivenNames -underBinder v
  have hv : Touches 0xffd7ffffff s v := by
    unfold v
    with_reducible refine Touches.modPfl ?_ ?_
    with_reducible assumption
    rfl
  clear_value v
  extract_lets +onlyGivenNames -underBinder v
  have hv : Touches 0xffd7ffffff s v := by
    unfold v
    with_reducible refine Touches.raise ?_ ?_
    extract_lets +onlyGivenNames -underBinder w
    with_reducible refine Touches.flag ?_ ?_ ?_
    with_reducible assumption
    rfl
    rfl
    rfl
  clear_value v
  split
  with_reducible refine ResT.next ?_
  with_reducible exact Touches.refl _ _
  split
  with_reducible refine ResT.next ?_
  extract_lets +onlyGivenNames -underBinder v
  with_reducible refine Touches.step ?_ (Foot.exitBrace ..) ?_
  with_reducible assumption
  rfl
  with_reducible refine ResT.next ?_
  with_reducible assumption

theorem Foot.cmdVinTrip : ∀ x1 s, ResT 0x78c0ece185 s (execVinTrip x1 s) := by
  intro x1 s
  unfold execVinTrip
  extract_lets +onlyGivenNames -underBinder v
  have hv : Touches 0x78c0ece185 s v := by
    unfold v
    with_reducible refine Touches.clockTo ?_ ?_
    with_reducible exact Touches.refl _ _
    rfl
  clear_value v
  split
  with_reducible refine ResT.next ?_
  with_reducible exact Touches.refl _ _
  split
  with_reducible refine ResT.next ?_
  extract_lets +onlyGivenNames -underBinder v
  with_reducible refine Touches.step ?_ (Foot.trip ..) ?_
  with_reducible assumption
  rfl
  with_reducible refine ResT.next ?_
  with_reducible assumption

theorem Foot.cmdSealDone : ∀ x1 s, ResT 0x589068a184 s (execSealDone x1 s) := by
  intro x1 s
  unfold execSealDone
  extract_lets +onlyGivenNames -underBinder v
  have hv : Touches 0x589068a184 s v := by
    unfold v
    with_reducible refine Touches.clockTo ?_ ?_
    with_reducible exact Touches.refl _ _
    rfl
  clear_value v
  extract_lets +onlyGivenNames -underBinder v
  extract_lets +onlyGivenNames -underBinder v
  extract_lets +onlyGivenNames -underBinder v
  extract_lets +onlyGivenNames -underBinder v
  have hv : Touches 0x589068a184 s v := by
    unfold v
    with_reducible refine Touches.modTrv ?_ ?_
    with_reducible assumption
    rfl
  clear_value v
  extract_lets +onlyGivenNames -underBinder v
  extract_lets +onlyGivenNames -underBinder v
  extract_lets +onlyGivenNames -underBinder v
  extract_lets +onlyGivenNames -underBinder v
  have hv : Touches 0x589068a184 s v := by
    unfold v
    with_reducible refine Touches.modPfl ?_ ?_
    with_reducible assumption
    rfl
  clear_value v
  split
  split
  with_reducible refine ResT.next ?_
  extract_lets +onlyGivenNames -underBinder v
  with_reducible refine Touches.step ?_ (Foot.setPhase ..) ?_
  with_reducible assumption
  rfl
  split
  with_reducible refine ResT.next ?_
  extract_lets +onlyGivenNames -underBinder v
  with_reducible refine Touches.step ?_ (Foot.enterMonument ..) ?_
  with_reducible assumption
  rfl
  with_reducible refine ResT.next ?_
  extract_lets +onlyGivenNames -underBinder v
  with_reducible refine Touches.step ?_ (Foot.setPhase ..) ?_
  with_reducible assumption
  rfl
  with_reducible refine ResT.next ?_
  with_reducible exact Touches.refl _ _

theorem Foot.cmdDrainParcel : ∀ x1 x2 x3 s, ResT 0x15baf68a384 s (execDrainParcel x1 x2 x3 s) := by
  intro x1 x2 x3 s
  unfold execDrainParcel
  extract_lets +onlyGivenNames -underBinder v
  have hv : Touches 0x15baf68a384 s v := by
    unfold v
    with_reducible refine Touches.clockTo ?_ ?_
    with_reducible exact Touches.refl _ _
    rfl
  clear_value v
  split
  split
  with_reducible refine ResT.next ?_
  extract_lets +onlyGivenNames -underBinder v
  with_reducible refine Touches.step ?_ (Foot.endDrain ..) ?_
  extract_lets +onlyGivenNames -underBinder v
  with_reducible refine Touches.step ?_ (Foot.drainShort ..) ?_
  with_reducible assumption
  rfl
  rfl
  extract_lets +onlyGivenNames -underBinder v
  have hv : Touches 0x15baf68a384 s v := by
    unfold v
    split
    with_reducible refine Touches.modPfl ?_ ?_
    extract_lets +onlyGivenNames -underBinder w
    with_reducible refine Touches.step ?_ (Foot.drainMeta ..) ?_
    with_reducible assumption
    rfl
    rfl
    extract_lets +onlyGivenNames -underBinder w
    have hw : Touches 0x15baf68a384 s w := by
      unfold w
      with_reducible refine Touches.step ?_ (Foot.dropStuck ..) ?_
      with_reducible refine Touches.step ?_ (Foot.inverseMisses ..) ?_
      with_reducible assumption
      rfl
      rfl
    clear_value w
    with_reducible refine Touches.modPfl ?_ ?_
    extract_lets +onlyGivenNames -underBinder w
    with_reducible refine Touches.step ?_ (Foot.drainFrame ..) ?_
    with_reducible assumption
    rfl
    rfl
    with_reducible assumption
  clear_value v
  split
  with_reducible refine ResT.next ?_
  extract_lets +onlyGivenNames -underBinder v
  with_reducible refine Touches.step ?_ (Foot.endDrain ..) ?_
  extract_lets +onlyGivenNames -underBinder v
  with_reducible refine Touches.step ?_ (Foot.drainShort ..) ?_
  with_reducible assumption
  rfl
  rfl
  split
  with_reducible refine ResT.next ?_
  extract_lets +onlyGivenNames -underBinder v
  with_reducible refine Touches.step ?_ (Foot.endDrain ..) ?_
  with_reducible assumption
  rfl
  with_reducible refine ResT.next ?_
  with_reducible assumption
  with_reducible refine ResT.next ?_
  with_reducible exact Touches.refl _ _

theorem Foot.cmdMonumentDone : ∀ x1 s, ResT 0x588468a084 s (execMonumentDone x1 s) := by
  intro x1 s
  unfold execMonumentDone
  extract_lets +onlyGivenNames -underBinder v
  have hv : Touches 0x588468a084 s v := by
    unfold v
    with_reducible refine Touches.clockTo ?_ ?_
    with_reducible exact Touches.refl _ _
    rfl
  clear_value v
  extract_lets +onlyGivenNames -underBinder v
  extract_lets +onlyGivenNames -underBinder v
  extract_lets +onlyGivenNames -underBinder v
  have hv : Touches 0x588468a084 s v := by
    unfold v
    with_reducible refine Touches.step ?_ (Foot.placeMonument ..) ?_
    extract_lets +onlyGivenNames -underBinder w
    with_reducible refine Touches.step ?_ (Foot.saveMap ..) ?_
    with_reducible assumption
    rfl
    rfl
  clear_value v
  split
  with_reducible refine ResT.next ?_
  extract_lets +onlyGivenNames -underBinder v
  with_reducible refine Touches.step ?_ (Foot.setPhase ..) ?_
  extract_lets +onlyGivenNames -underBinder v
  with_reducible refine Touches.modPfl ?_ ?_
  with_reducible assumption
  rfl
  rfl
  with_reducible refine ResT.next ?_
  with_reducible exact Touches.refl _ _

theorem Foot.cmdRestDone : ∀ x1 s, ResT 0x78d06ce185 s (execRestDone x1 s) := by
  intro x1 s
  unfold execRestDone
  have h0 : Touches 0x78d06ce185 s s := Touches.refl _ _
  split
  · extract_lets s1 s2 s3 s4
    have h1 : Touches 0x78d06ce185 s s1 := Touches.step (Touches.clockTo h0 rfl) (Foot.restLine ..) rfl
    have h2 : Touches 0x78d06ce185 s s2 := Touches.modTrv (Touches.step h1 (Foot.setPhase ..) rfl) rfl
    have h3 : Touches 0x78d06ce185 s s3 := Touches.clearBits (Touches.modPwr h2 rfl) rfl
    have h4 : Touches 0x78d06ce185 s s4 := Touches.modPfl h3 rfl
    clear_value s4
    split
    · split
      · exact ResT.next (Touches.step (Touches.goState h4 rfl rfl rfl rfl rfl) (Foot.powerDown ..) rfl)
      · exact ResT.next (Touches.goState h4 rfl rfl rfl rfl rfl)
    · exact ResT.next (Touches.step h4 (Foot.powerDown ..) rfl)
    · exact ResT.next h4
  · exact ResT.next h0

theorem Foot.cmdSafeResume : ∀ x1 x2 s, ResT 0xffd7ffffff s (execSafeResume x1 x2 s) := by
  intro x1 x2 s
  unfold execSafeResume
  have h0 : Touches 0xffd7ffffff s s := Touches.refl _ _
  split
  · exact ResT.next h0
  extract_lets s1 s2 s3
  have h1 : Touches 0xffd7ffffff s s1 := Touches.step (Touches.clockTo h0 rfl) (Foot.noteVin ..) rfl
  clear_value s1
  split
  · have h2 : Touches 0xffd7ffffff s s2 := by
      unfold s2; split
      · exact Touches.step h1 (Foot.setBank ..) rfl
      · exact h1
    have h3 : Touches 0xffd7ffffff s s3 := Touches.modPwr h2 rfl
    exact ResT.next (Touches.step (Touches.step h3 (Foot.performReset ..) rfl) (Foot.convFollow ..) rfl)
  · exact ResT.next h1

end Sys2Proof.Machine
end

