-- ==== Sys2Proof/Laws/FootCadastre.lean ====
section
/-! SUPPORT. The footprint of each operation of Machine/Cadastre.lean: the parts of the state it may change. -/

namespace Sys2Proof.Machine

theorem Foot.reserveDump : ∀ s, Touches 0x581668a0a4 s (State.reserveDump s) := by
  intro s
  unfold State.reserveDump
  split
  with_reducible exact Touches.refl _ _
  split
  with_reducible exact Touches.refl _ _
  split
  with_reducible exact Touches.refl _ _
  with_reducible refine Touches.step ?_ (Foot.mapCommit ..) ?_
  with_reducible exact Touches.refl _ _
  rfl

theorem Foot.refill : ∀ s, Touches 0x2000000 s (State.refill s) := by
  intro s
  unfold State.refill
  extract_lets +onlyGivenNames -underBinder v
  split
  with_reducible refine Touches.modCds ?_ ?_
  with_reducible exact Touches.refl _ _
  rfl
  with_reducible exact Touches.refl _ _

theorem Foot.endMergeAll : ∀ s x1, Touches 0x2000010 s (State.endMergeAll s x1) := by
  intro s x1
  unfold State.endMergeAll
  extract_lets +onlyGivenNames -underBinder v
  have hv : Touches 0x2000010 s v := by
    unfold v
    with_reducible refine Touches.modCds ?_ ?_
    with_reducible exact Touches.refl _ _
    rfl
  clear_value v
  split
  split
  with_reducible refine Touches.setBits ?_ ?_
  extract_lets +onlyGivenNames -underBinder v
  with_reducible refine Touches.clearBits ?_ ?_
  with_reducible assumption
  rfl
  rfl
  with_reducible assumption
  with_reducible exact Touches.refl _ _

theorem Foot.settleBands : ∀ s x1, Touches 0x22000040 s (State.settleBands s x1) := by
  intro s x1
  unfold State.settleBands
  extract_lets +onlyGivenNames -underBinder v
  extract_lets +onlyGivenNames -underBinder v
  extract_lets +onlyGivenNames -underBinder v
  have hv : Touches 0x22000040 s v := by
    unfold v
    split
    with_reducible exact Touches.refl _ _
    with_reducible refine Touches.addReg ?_ ?_
    with_reducible exact Touches.refl _ _
    rfl
  clear_value v
  extract_lets +onlyGivenNames -underBinder v
  have hv : Touches 0x22000040 s v := by
    unfold v
    with_reducible refine Touches.modCds ?_ ?_
    with_reducible assumption
    rfl
  clear_value v
  with_reducible refine Touches.modMdc ?_ ?_
  with_reducible assumption
  rfl

theorem Foot.forceMeta : ∀ x1 s, Touches 0x593668a0b4 s (State.forceMeta x1 s) := by
  intro x1 s
  induction x1 generalizing s with
  | zero =>
    unfold State.forceMeta
    with_reducible exact Touches.refl _ _
  | succ n ih =>
    unfold State.forceMeta
    split
    with_reducible exact Touches.refl _ _
    split
    with_reducible exact Touches.refl _ _
    split
    with_reducible exact Touches.refl _ _
    extract_lets +onlyGivenNames -underBinder v
    extract_lets +onlyGivenNames -underBinder v
    have hv : Touches 0x593668a0b4 s v := by
      unfold v
      with_reducible refine Touches.step ?_ (Foot.mapCommit ..) ?_
      extract_lets +onlyGivenNames -underBinder w
      with_reducible refine OptT3.get (Foot.takeSlot ..) (by assumption) ?_ ?_
      with_reducible exact Touches.refl _ _
      rfl
      rfl
    clear_value v
    with_reducible refine Touches.step ?_ (ih ..) ?_
    extract_lets +onlyGivenNames -underBinder v
    with_reducible refine Touches.modIme ?_ ?_
    with_reducible assumption
    rfl
    rfl

theorem Foot.pushWb : ∀ s, Touches 0x593f68a2bc s (State.pushWb s) := by
  intro s
  unfold State.pushWb
  have h0 : Touches 0x593f68a2bc s s := Touches.refl _ _
  split
  · exact h0
  extract_lets s1 s2 l
  have h2 : Touches 0x593f68a2bc s s2 := Touches.step (Touches.step h0 (Foot.forceWb ..) rfl) (Foot.forceMeta ..) rfl
  exact Touches.foldl (fun _ _ h => Touches.step h (Foot.tryWb ..) rfl) h2

theorem Foot.leaveFloor : ∀ s, Touches 0x593f68a2bc s (State.leaveFloor s) := by
  intro s
  unfold State.leaveFloor
  with_reducible refine Touches.step ?_ (Foot.pushWb ..) ?_
  extract_lets +onlyGivenNames -underBinder v
  split
  with_reducible refine Touches.modCds ?_ ?_
  with_reducible exact Touches.refl _ _
  rfl
  with_reducible exact Touches.refl _ _
  rfl

theorem Foot.afterRetire : ∀ s x1 x2, Touches 0x793f6ce2fd s (State.afterRetire s x1 x2) := by
  intro s x1 x2
  unfold State.afterRetire
  extract_lets +onlyGivenNames -underBinder v
  extract_lets +onlyGivenNames -underBinder v
  extract_lets +onlyGivenNames -underBinder v
  have hv : Touches 0x793f6ce2fd s v := by
    unfold v
    with_reducible refine Touches.step ?_ (Foot.endMergeAll ..) ?_
    extract_lets +onlyGivenNames -underBinder w
    with_reducible refine Touches.step ?_ (Foot.settleBands ..) ?_
    extract_lets +onlyGivenNames -underBinder w
    with_reducible refine Touches.step ?_ (Foot.modMap ..) ?_
    with_reducible exact Touches.refl _ _
    rfl
    rfl
    rfl
  clear_value v
  with_reducible refine Touches.step ?_ (Foot.checkReadonly ..) ?_
  extract_lets +onlyGivenNames -underBinder v
  with_reducible refine Touches.step ?_ (Foot.leaveFloor ..) ?_
  extract_lets +onlyGivenNames -underBinder v
  with_reducible refine Touches.step ?_ (Foot.ckptTrigger ..) ?_
  extract_lets +onlyGivenNames -underBinder v
  with_reducible refine Touches.step ?_ (Foot.logTriggers ..) ?_
  extract_lets +onlyGivenNames -underBinder v
  with_reducible refine Touches.step ?_ (Foot.reserveDump ..) ?_
  with_reducible assumption
  rfl
  rfl
  rfl
  rfl
  rfl

theorem Foot.startMerge : ∀ s x1 x2, OptT 0x581668a0a4 s (State.startMerge s x1 x2) := by
  intro s x1 x2
  unfold State.startMerge
  extract_lets +onlyGivenNames -underBinder v
  extract_lets +onlyGivenNames -underBinder v
  extract_lets +onlyGivenNames -underBinder v
  split
  exact OptT.none
  with_reducible refine OptT.map (fun _ => ?_)
  extract_lets +onlyGivenNames -underBinder v
  with_reducible refine Touches.step ?_ (Foot.mapCommit ..) ?_
  with_reducible exact Touches.refl _ _
  rfl

theorem Foot.clearFrames : ∀ s x1 x2, Touches 0x1800000 s (State.clearFrames s x1 x2) := by
  intro s x1 x2
  unfold State.clearFrames
  extract_lets +onlyGivenNames -underBinder v
  extract_lets +onlyGivenNames -underBinder v
  extract_lets +onlyGivenNames -underBinder v
  have hv : Touches 0x1800000 s v := by
    unfold v
    with_reducible refine Touches.foldl (fun _ _ _ => ?_) ?_
    extract_lets +onlyGivenNames -underBinder w
    with_reducible refine Touches.modStg ?_ ?_
    with_reducible assumption
    rfl
    with_reducible exact Touches.refl _ _
  clear_value v
  extract_lets +onlyGivenNames -underBinder v
  have hv : Touches 0x1800000 s v := by
    unfold v
    with_reducible refine Touches.modStg ?_ ?_
    with_reducible assumption
    rfl
  clear_value v
  with_reducible refine Touches.modSvc ?_ ?_
  with_reducible assumption
  rfl

theorem Foot.copyPlot : ∀ s x1 x2 x3, Touches 0x8000000 s (State.copyPlot s x1 x2 x3) := by
  intro s x1 x2 x3
  unfold State.copyPlot
  with_reducible refine Touches.foldl (fun _ _ _ => ?_) ?_
  extract_lets +onlyGivenNames -underBinder v
  split
  split
  with_reducible refine Touches.step ?_ (Foot.programLine ..) ?_
  with_reducible assumption
  rfl
  with_reducible assumption
  with_reducible assumption
  with_reducible exact Touches.refl _ _

theorem Foot.countMerge : ∀ s x1, Touches 0x2000010 s (State.countMerge s x1) := by
  intro s x1
  unfold State.countMerge
  with_reducible refine Touches.modCds ?_ ?_
  extract_lets +onlyGivenNames -underBinder v
  with_reducible refine Touches.addPair ?_ ?_ ?_
  extract_lets +onlyGivenNames -underBinder v
  with_reducible refine Touches.addPair ?_ ?_ ?_
  with_reducible exact Touches.refl _ _
  rfl
  rfl
  rfl
  rfl
  rfl

theorem Foot.countRelease : ∀ s x1, Touches 0x6000000 s (State.countRelease s x1) := by
  intro s x1
  unfold State.countRelease
  with_reducible refine Touches.step ?_ (Foot.modMap ..) ?_
  with_reducible exact Touches.refl _ _
  rfl

theorem Foot.finishRelease : ∀ s, Touches 0x6800010 s (State.finishRelease s) := by
  intro s
  unfold State.finishRelease
  extract_lets +onlyGivenNames -underBinder v
  extract_lets +onlyGivenNames -underBinder v
  have hv : Touches 0x6800010 s v := by
    unfold v
    with_reducible refine Touches.modSvc ?_ ?_
    with_reducible exact Touches.refl _ _
    rfl
  clear_value v
  split
  with_reducible refine Touches.step ?_ (Foot.modMap ..) ?_
  with_reducible assumption
  rfl
  extract_lets +onlyGivenNames -underBinder v
  have hv : Touches 0x6800010 s v := by
    unfold v
    with_reducible refine Touches.step ?_ (Foot.modMap ..) ?_
    with_reducible assumption
    rfl
  clear_value v
  split
  with_reducible refine Touches.step ?_ (Foot.endBackground ..) ?_
  extract_lets +onlyGivenNames -underBinder v
  with_reducible refine Touches.setBits ?_ ?_
  with_reducible assumption
  rfl
  rfl
  with_reducible assumption

theorem Foot.markSecure : ∀ s x1 x2, Touches 0x6000000 s (State.markSecure s x1 x2) := by
  intro s x1 x2
  unfold State.markSecure
  extract_lets +onlyGivenNames -underBinder v
  extract_lets +onlyGivenNames -underBinder v
  extract_lets +onlyGivenNames -underBinder v
  extract_lets +onlyGivenNames -underBinder v
  with_reducible refine Touches.step ?_ (Foot.modMap ..) ?_
  with_reducible exact Touches.refl _ _
  rfl

theorem Foot.mergeMarked : ∀ s, Touches 0x26000000 s (State.mergeMarked s) := by
  intro s
  unfold State.mergeMarked
  extract_lets +onlyGivenNames -underBinder v
  with_reducible refine Touches.foldl (fun _ _ _ => ?_) ?_
  extract_lets +onlyGivenNames -underBinder v
  have hv : Touches 0x26000000 s v := by
    unfold v
    split
    with_reducible refine Touches.step ?_ (Foot.closeLog ..) ?_
    with_reducible assumption
    rfl
    with_reducible assumption
  clear_value v
  split
  with_reducible refine Touches.modCds ?_ ?_
  with_reducible assumption
  rfl
  with_reducible refine Touches.foldl (fun _ _ _ => ?_) ?_
  extract_lets +onlyGivenNames -underBinder v
  with_reducible refine Touches.modCds ?_ ?_
  with_reducible assumption
  rfl
  with_reducible assumption
  with_reducible exact Touches.refl _ _

theorem Foot.monTractReset : ∀ s x1, Touches 0x81000100 s (State.monTractReset s x1) := by
  intro s x1
  unfold State.monTractReset
  split
  with_reducible exact Touches.refl _ _
  extract_lets +onlyGivenNames -underBinder v
  have hv : Touches 0x81000100 s v := by
    unfold v
    with_reducible refine Touches.modPfl ?_ ?_
    with_reducible exact Touches.refl _ _
    rfl
  clear_value v
  split
  with_reducible refine Touches.step ?_ (Foot.setBudget ..) ?_
  extract_lets +onlyGivenNames -underBinder v
  with_reducible refine Touches.modPfl ?_ ?_
  with_reducible assumption
  rfl
  rfl
  with_reducible assumption

theorem Foot.tombstones : ∀ x1 s, SndT 0x5837e8a0b4 s (State.tombstones x1 s) := by
  intro x1 s
  induction x1 generalizing s with
  | nil =>
    unfold State.tombstones
    with_reducible refine SndT.pair ?_
    with_reducible exact Touches.refl _ _
  | cons b l ih =>
    unfold State.tombstones
    with_reducible refine SndT.pair ?_
    extract_lets +onlyGivenNames -underBinder v
    split
    with_reducible exact Touches.refl _ _
    extract_lets +onlyGivenNames -underBinder v
    extract_lets +onlyGivenNames -underBinder v
    have hv : Touches 0x5837e8a0b4 s v := by
      unfold v
      with_reducible refine Touches.step ?_ (Foot.mapCommit ..) ?_
      extract_lets +onlyGivenNames -underBinder w
      with_reducible refine Touches.step ?_ (Foot.clearFrames ..) ?_
      extract_lets +onlyGivenNames -underBinder w
      with_reducible refine OptT3.get (Foot.takeSlot ..) (by assumption) ?_ ?_
      with_reducible exact Touches.refl _ _
      rfl
      rfl
      rfl
    clear_value v
    split
    with_reducible refine SndT.get (ih ..) (by assumption) ?_ ?_
    with_reducible assumption
    rfl

theorem Foot.releasePlot : ∀ s x1, OptT 0x793fece2fd s (State.releasePlot s x1) := by
  intro s x1
  unfold State.releasePlot
  have h0 : Touches 0x793fece2fd s s := Touches.refl _ _
  split
  rename_i q n e
  extract_lets +onlyGivenNames -underBinder plot waits
  split
  · exact OptT.none
  split
  · extract_lets p gone s1 before pages
    have h1 : Touches 0x793fece2fd s s1 := Touches.step h0 (Foot.clearFrames ..) rfl
    clear_value s1
    split
    · exact OptT.some (Touches.step h1 (Foot.countRelease ..) rfl)
    · exact OptT.some (Touches.step (Touches.step (Touches.step h1 (Foot.mapCommit ..) rfl) (Foot.afterRetire ..) rfl) (Foot.countRelease ..) rfl)
  · split
    · exact OptT.none
    · rename_i e2
      exact OptT.some (Touches.step (SndT.get (Foot.tombstones ..) e2 h0 rfl) (Foot.countRelease ..) rfl)

theorem Foot.pushRelease : ∀ x1 s, Touches 0x79bfece2fd s (State.pushRelease x1 s) := by
  intro x1
  induction x1 with
  | zero => intro s; exact Touches.refl _ _
  | succ k ih =>
    intro s
    unfold State.pushRelease
    have h0 : Touches 0x79bfece2fd s s := Touches.refl _ _
    split
    · exact h0
    split
    · exact h0
    split
    · exact h0
    rename_i s1 e1
    have h1 : Touches 0x79bfece2fd s s1 := OptT.get (Foot.releasePlot ..) e1 h0 rfl
    split
    · split
      · exact Touches.step h1 (ih _) rfl
      · extract_lets s2 s3
        have h2 : Touches 0x79bfece2fd s s2 := Touches.step (Touches.step h1 (Foot.endDrains ..) rfl) (Foot.closeMark ..) rfl
        clear_value s2
        split
        · exact Touches.step (Touches.step h2 (Foot.finishRelease ..) rfl) (ih _) rfl
        · have h3 : Touches 0x79bfece2fd s s3 := Touches.step h2 (Foot.mergeMarked ..) rfl
          clear_value s3
          split
          · exact Touches.step h3 (Foot.finishRelease ..) rfl
          · exact h3
    · exact h1

theorem Foot.retryRelease : ∀ s, Touches 0x79bfece2fd s (State.retryRelease s) := by
  intro s
  unfold State.retryRelease
  split
  with_reducible refine Touches.step ?_ (Foot.pushRelease ..) ?_
  with_reducible exact Touches.refl _ _
  rfl
  with_reducible exact Touches.refl _ _

theorem Foot.startRelease : ∀ s x1 x2 x3, Touches 0x79bfece2fd s (State.startRelease s x1 x2 x3) := by
  intro s x1 x2 x3
  unfold State.startRelease
  extract_lets +onlyGivenNames -underBinder v
  have hv : Touches 0x79bfece2fd s v := by
    unfold v
    split
    with_reducible refine Touches.foldl (fun _ _ _ => ?_) ?_
    extract_lets +onlyGivenNames -underBinder w
    with_reducible refine Touches.step ?_ (Foot.markSecure ..) ?_
    with_reducible assumption
    rfl
    with_reducible exact Touches.refl _ _
    with_reducible exact Touches.refl _ _
  clear_value v
  split
  with_reducible assumption
  with_reducible refine Touches.step ?_ (Foot.retryRelease ..) ?_
  extract_lets +onlyGivenNames -underBinder v
  with_reducible refine Touches.step ?_ (Foot.modMap ..) ?_
  with_reducible assumption
  rfl
  rfl

theorem Foot.streamSwitch : ∀ s x1 x2, Touches 0x793f6ce2fd s (State.streamSwitch s x1 x2) := by
  intro s x1 x2
  unfold State.streamSwitch
  extract_lets +onlyGivenNames -underBinder v
  extract_lets +onlyGivenNames -underBinder v
  extract_lets +onlyGivenNames -underBinder v
  extract_lets +onlyGivenNames -underBinder v
  extract_lets +onlyGivenNames -underBinder v
  have hv : Touches 0x793f6ce2fd s v := by
    unfold v
    with_reducible refine Touches.step ?_ (Foot.mapCommit ..) ?_
    with_reducible exact Touches.refl _ _
    rfl
  clear_value v
  with_reducible refine Touches.step ?_ (Foot.afterRetire ..) ?_
  extract_lets +onlyGivenNames -underBinder v
  with_reducible refine Touches.step ?_ (Foot.countMerge ..) ?_
  with_reducible assumption
  rfl
  rfl

theorem Foot.unmark : ∀ s x1, Touches 0x6800010 s (State.unmark s x1) := by
  intro s x1
  unfold State.unmark
  split
  extract_lets +onlyGivenNames -underBinder v
  have hv : Touches 0x6800010 s v := by
    unfold v
    with_reducible refine Touches.step ?_ (Foot.modMap ..) ?_
    with_reducible exact Touches.refl _ _
    rfl
  clear_value v
  split
  with_reducible exact Touches.refl _ _
  split
  with_reducible refine Touches.step ?_ (Foot.finishRelease ..) ?_
  with_reducible assumption
  rfl
  with_reducible assumption
  with_reducible exact Touches.refl _ _

theorem Foot.wearCheck : ∀ s, Touches 0x2000010 s (State.wearCheck s) := by
  intro s
  unfold State.wearCheck
  extract_lets +onlyGivenNames -underBinder v
  extract_lets +onlyGivenNames -underBinder v
  extract_lets +onlyGivenNames -underBinder v
  extract_lets +onlyGivenNames -underBinder v
  have hv : Touches 0x2000010 s v := by
    unfold v
    split
    with_reducible refine Touches.setBits ?_ ?_
    extract_lets +onlyGivenNames -underBinder w
    with_reducible refine Touches.modCds ?_ ?_
    with_reducible exact Touches.refl _ _
    rfl
    rfl
    split
    with_reducible refine Touches.modCds ?_ ?_
    with_reducible exact Touches.refl _ _
    rfl
    with_reducible exact Touches.refl _ _
  clear_value v
  split
  split
  with_reducible assumption
  with_reducible refine Touches.modCds ?_ ?_
  with_reducible assumption
  rfl
  with_reducible assumption

theorem Foot.cmdStreamEnClear : ∀ x1 s, ResT 0x8026000010 s (execStreamEnClear x1 s) := by
  intro x1 s
  unfold execStreamEnClear
  extract_lets +onlyGivenNames -underBinder v
  have hv : Touches 0x8026000010 s v := by
    unfold v
    with_reducible refine Touches.clearBits ?_ ?_
    extract_lets +onlyGivenNames -underBinder w
    with_reducible refine Touches.emit ?_ ?_
    with_reducible exact Touches.refl _ _
    rfl
    rfl
  clear_value v
  split
  with_reducible refine ResT.next ?_
  with_reducible exact Touches.refl _ _
  with_reducible refine ResT.next ?_
  extract_lets +onlyGivenNames -underBinder v
  with_reducible refine Touches.foldl (fun _ _ _ => ?_) ?_
  extract_lets +onlyGivenNames -underBinder v
  with_reducible refine Touches.step ?_ (Foot.closeLog ..) ?_
  with_reducible assumption
  rfl
  with_reducible assumption

theorem Foot.cmdMergeAll : ∀ x1 s, ResT 0x8002000010 s (execMergeAll x1 s) := by
  intro x1 s
  unfold execMergeAll
  extract_lets +onlyGivenNames -underBinder v
  have hv : Touches 0x8002000010 s v := by
    unfold v
    with_reducible refine Touches.emit ?_ ?_
    with_reducible exact Touches.refl _ _
    rfl
  clear_value v
  extract_lets +onlyGivenNames -underBinder v
  split
  with_reducible refine ResT.next ?_
  with_reducible exact Touches.refl _ _
  split
  with_reducible refine ResT.next ?_
  extract_lets +onlyGivenNames -underBinder v
  with_reducible refine Touches.setBits ?_ ?_
  with_reducible assumption
  rfl
  with_reducible refine ResT.next ?_
  extract_lets +onlyGivenNames -underBinder v
  with_reducible refine Touches.modCds ?_ ?_
  extract_lets +onlyGivenNames -underBinder v
  with_reducible refine Touches.setBits ?_ ?_
  with_reducible assumption
  rfl
  rfl

theorem Foot.cmdCkptNow : ∀ x1 s, ResT 0x8002000010 s (execCkptNow x1 s) := by
  intro x1 s
  unfold execCkptNow
  extract_lets +onlyGivenNames -underBinder v
  have hv : Touches 0x8002000010 s v := by
    unfold v
    with_reducible refine Touches.emit ?_ ?_
    with_reducible exact Touches.refl _ _
    rfl
  clear_value v
  split
  with_reducible refine ResT.next ?_
  with_reducible exact Touches.refl _ _
  with_reducible refine ResT.next ?_
  extract_lets +onlyGivenNames -underBinder v
  with_reducible refine Touches.modCds ?_ ?_
  extract_lets +onlyGivenNames -underBinder v
  with_reducible refine Touches.setBits ?_ ?_
  with_reducible assumption
  rfl
  rfl

theorem Foot.cmdCdsParamWrite : ∀ x1 x2 x3 s, ResT 0x8002000010 s (execCdsParamWrite x1 x2 x3 s) := by
  intro x1 x2 x3 s
  unfold execCdsParamWrite
  have ho : x2.off / 0x10000 = 4 := by cases x2 <;> rfl
  have h0 : Touches 0x8002000010 s s := Touches.refl _ _
  split
  · exact ResT.next h0
  extract_lets s1 v
  have h1 : Touches 0x8002000010 s s1 := Touches.emit h0 rfl
  clear_value s1
  split
  · refine ResT.next (Touches.step (Touches.setReg h1 ?_) (Foot.ckptTrigger ..) rfl)
    rw [ho]; rfl
  · exact ResT.next h1

theorem Foot.cmdStreamBandIdle : ∀ x1 x2 s, ResT 0x582668a084 s (execStreamBandIdle x1 x2 s) := by
  intro x1 x2 s
  unfold execStreamBandIdle
  extract_lets +onlyGivenNames -underBinder v
  have hv : Touches 0x582668a084 s v := by
    unfold v
    with_reducible refine Touches.clockTo ?_ ?_
    with_reducible exact Touches.refl _ _
    rfl
  clear_value v
  split
  split
  with_reducible refine ResT.next ?_
  extract_lets +onlyGivenNames -underBinder v
  with_reducible refine Touches.step ?_ (Foot.closeLog ..) ?_
  with_reducible assumption
  rfl
  with_reducible refine ResT.next ?_
  with_reducible assumption
  with_reducible refine ResT.next ?_
  with_reducible assumption

theorem Foot.cmdWtSlotIdle : ∀ x1 x2 s, ResT 0x582268a084 s (execWtSlotIdle x1 x2 s) := by
  intro x1 x2 s
  unfold execWtSlotIdle
  extract_lets +onlyGivenNames -underBinder v
  have hv : Touches 0x582268a084 s v := by
    unfold v
    with_reducible refine Touches.clockTo ?_ ?_
    with_reducible exact Touches.refl _ _
    rfl
  clear_value v
  extract_lets +onlyGivenNames -underBinder v
  extract_lets +onlyGivenNames -underBinder v
  split
  with_reducible refine ResT.next ?_
  extract_lets +onlyGivenNames -underBinder v
  with_reducible refine Touches.step ?_ (Foot.closeStripes ..) ?_
  extract_lets +onlyGivenNames -underBinder v
  with_reducible refine Touches.modCds ?_ ?_
  with_reducible assumption
  rfl
  rfl
  with_reducible refine ResT.next ?_
  with_reducible assumption

theorem Foot.cmdMergeCommit : ∀ x1 x2 s, ResT 0x79bfece2fd s (execMergeCommit x1 x2 s) := by
  intro x1 x2 s
  unfold execMergeCommit
  have h0 : Touches 0x79bfece2fd s s := Touches.refl _ _
  split
  · exact ResT.next h0
  split
  · exact ResT.next h0
  split
  · exact ResT.next h0
  extract_lets lost before p gone s1 pages s2 s3
  have h1 : Touches 0x79bfece2fd s s1 := Touches.foldl (fun _ _ h => Touches.step h (Foot.unrecoverable ..) rfl) (Touches.step h0 (Foot.copyPlot ..) rfl)
  have h2 : Touches 0x79bfece2fd s s2 := Touches.step h1 (Foot.mapCommit ..) rfl
  clear_value s2
  have h3 : Touches 0x79bfece2fd s s3 := by
    unfold s3; split
    · exact Touches.incReg h2 rfl
    · exact h2
  clear_value s3
  exact ResT.next (Touches.step (Touches.step (Touches.step h3 (Foot.countMerge ..) rfl) (Foot.afterRetire ..) rfl) (Foot.retryRelease ..) rfl)

theorem Foot.cmdCheckpointSeal : ∀ s, ResT 0xd6000030 s (execCheckpointSeal s) := by
  intro s
  unfold execCheckpointSeal
  extract_lets +onlyGivenNames -underBinder v
  extract_lets +onlyGivenNames -underBinder v
  have hv : Touches 0xd6000030 s v := by
    unfold v
    with_reducible refine Touches.step ?_ (Foot.gateFree ..) ?_
    with_reducible exact Touches.refl _ _
    rfl
  clear_value v
  extract_lets +onlyGivenNames -underBinder v
  have hv : Touches 0xd6000030 s v := by
    unfold v
    with_reducible refine Touches.modCds ?_ ?_
    with_reducible assumption
    rfl
  clear_value v
  extract_lets +onlyGivenNames -underBinder v
  have hv : Touches 0xd6000030 s v := by
    unfold v
    with_reducible refine Touches.step ?_ (Foot.saveMap ..) ?_
    with_reducible assumption
    rfl
  clear_value v
  extract_lets +onlyGivenNames -underBinder v
  extract_lets +onlyGivenNames -underBinder v
  have hv : Touches 0xd6000030 s v := by
    unfold v
    with_reducible refine Touches.modPfl ?_ ?_
    with_reducible assumption
    rfl
  clear_value v
  split
  with_reducible refine ResT.next ?_
  with_reducible exact Touches.refl _ _
  with_reducible refine ResT.next ?_
  extract_lets +onlyGivenNames -underBinder v
  with_reducible refine Touches.step ?_ (Foot.collect ..) ?_
  extract_lets +onlyGivenNames -underBinder v
  with_reducible refine Touches.step ?_ (Foot.closeMark ..) ?_
  extract_lets +onlyGivenNames -underBinder v
  with_reducible refine Touches.clearBits ?_ ?_
  extract_lets +onlyGivenNames -underBinder v
  with_reducible refine Touches.setBits ?_ ?_
  with_reducible assumption
  rfl
  rfl
  rfl
  rfl

theorem Foot.cmdTractResetDone : ∀ x1 x2 s, ResT 0x79bfece3fd s (execTractResetDone x1 x2 s) := by
  intro x1 x2 s
  unfold execTractResetDone
  have h0 : Touches 0x79bfece3fd s s := Touches.refl _ _
  extract_lets +onlyGivenNames -underBinder k
  split
  · exact ResT.next h0
  extract_lets mon n worn st p s1 s2 s3 s4
  have h1 : Touches 0x79bfece3fd s s1 := Touches.step h0 (Foot.eraseTract ..) rfl
  have h2 : Touches 0x79bfece3fd s s2 := Touches.step h1 (Foot.mapCommit ..) rfl
  clear_value s2
  have h3 : Touches 0x79bfece3fd s s3 := by
    unfold s3; split
    · exact Touches.raise (Touches.flag h2 rfl rfl) rfl
    · exact h2
  clear_value s3
  have h4 : Touches 0x79bfece3fd s s4 := by
    unfold s4; split
    · exact Touches.step h3 (Foot.monTractReset ..) rfl
    · exact h3
  clear_value s4
  exact ResT.next (Touches.step (Touches.step (Touches.step (Touches.step (Touches.step (Touches.step (Touches.step (Touches.step h4 (Foot.unmark ..) rfl) (Foot.refill ..) rfl) (Foot.reserveDump ..) rfl) (Foot.wearCheck ..) rfl) (Foot.leaveFloor ..) rfl) (Foot.checkReadonly ..) rfl) (Foot.collect ..) rfl) (Foot.retryRelease ..) rfl)

theorem Foot.cmdHeatHalving : ∀ x1 s, ResT 0x580268a084 s (execHeatHalving x1 s) := by
  intro x1 s
  unfold execHeatHalving
  extract_lets +onlyGivenNames -underBinder v
  have hv : Touches 0x580268a084 s v := by
    unfold v
    with_reducible refine Touches.clockTo ?_ ?_
    with_reducible exact Touches.refl _ _
    rfl
  clear_value v
  extract_lets +onlyGivenNames -underBinder v
  split
  with_reducible refine ResT.next ?_
  extract_lets +onlyGivenNames -underBinder v
  with_reducible refine Touches.modCds ?_ ?_
  with_reducible assumption
  rfl
  with_reducible refine ResT.next ?_
  with_reducible assumption

theorem Foot.cmdChainRebuildDone : ∀ x1 s, ResT 0x580268a094 s (execChainRebuildDone x1 s) := by
  intro x1 s
  unfold execChainRebuildDone
  extract_lets +onlyGivenNames -underBinder v
  extract_lets +onlyGivenNames -underBinder v
  extract_lets +onlyGivenNames -underBinder v
  extract_lets +onlyGivenNames -underBinder v
  extract_lets +onlyGivenNames -underBinder v
  have hv : Touches 0x580268a094 s v := by
    unfold v
    with_reducible refine Touches.modCds ?_ ?_
    with_reducible exact Touches.refl _ _
    rfl
  clear_value v
  split
  with_reducible refine ResT.next ?_
  with_reducible exact Touches.refl _ _
  with_reducible refine ResT.next ?_
  extract_lets +onlyGivenNames -underBinder v
  with_reducible refine Touches.raise ?_ ?_
  extract_lets +onlyGivenNames -underBinder v
  with_reducible refine Touches.flag ?_ ?_ ?_
  with_reducible assumption
  rfl
  rfl
  rfl

end Sys2Proof.Machine
end

