-- ==== Sys2Proof/Laws/FootCipher.lean ====
section
/-! SUPPORT. The footprint of each operation of Machine/Cipher.lean: the parts of the state it may change. -/

namespace Sys2Proof.Machine

theorem Foot.setSlot : ∀ s x1 x2, Touches 0x10200000000 s (State.setSlot s x1 x2) := by
  intro s x1 x2
  unfold State.setSlot
  extract_lets +onlyGivenNames -underBinder v
  extract_lets +onlyGivenNames -underBinder v
  have hv : Touches 0x10200000000 s v := by
    unfold v
    with_reducible refine Touches.modCke ?_ ?_
    with_reducible exact Touches.refl _ _
    rfl
  clear_value v
  split
  with_reducible refine Touches.useFree ?_ ?_
  with_reducible assumption
  rfl
  with_reducible assumption

theorem Foot.ckeDenied : ∀ s, Touches 0x580068a484 s (State.ckeDenied s) := by
  intro s
  unfold State.ckeDenied
  with_reducible refine Touches.flag ?_ ?_ ?_
  with_reducible exact Touches.refl _ _
  rfl
  rfl

theorem Foot.runWaiting : ∀ s, Touches 0x10200000000 s (State.runWaiting s) := by
  intro s
  unfold State.runWaiting
  extract_lets +onlyGivenNames -underBinder v
  with_reducible refine Touches.foldl (fun _ _ _ => ?_) ?_
  extract_lets +onlyGivenNames -underBinder v
  split
  with_reducible refine Touches.step ?_ (Foot.setSlot ..) ?_
  with_reducible assumption
  rfl
  with_reducible refine Touches.step ?_ (Foot.setSlot ..) ?_
  with_reducible assumption
  rfl
  extract_lets +onlyGivenNames -underBinder v
  with_reducible refine Touches.modCke ?_ ?_
  with_reducible exact Touches.refl _ _
  rfl

theorem Foot.ckeFinish : ∀ s x1 x2 x3, Touches 0x10210000420 s (State.ckeFinish s x1 x2 x3) := by
  intro s x1 x2 x3
  unfold State.ckeFinish
  have h0 : Touches 0x10210000420 s s := Touches.refl _ _
  extract_lets +onlyGivenNames -underBinder s1 s2
  have h1 : Touches 0x10210000420 s s1 := Touches.modCke h0 rfl
  clear_value s1
  have h2 : Touches 0x10210000420 s s2 := by
    unfold s2; split
    · extract_lets +onlyGivenNames -underBinder s3
      have h3 : Touches 0x10210000420 s s3 := Touches.modCke h1 rfl
      clear_value s3
      refine Touches.setBits ?_ rfl
      split
      · have go (l : List Nat) (hl : ∀ i ∈ l, i < 4) (t : BitVec 128) (a : State) (h : Touches 0x10210000420 s a) :
            Touches 0x10210000420 s (l.foldl (fun (s : State) i => s.setNat (ckeTagReg i) (bitsAt t.toNat (32 * i) 32)) a) := by
          induction l generalizing a with
          | nil => exact h
          | cons i l ih =>
            refine ih (fun j hj => hl j (List.mem_cons_of_mem _ hj)) _ (Touches.setNat h ?_)
            have hi := hl i List.mem_cons_self
            match i, hi with
            | 0, _ => rfl
            | 1, _ => rfl
            | 2, _ => rfl
            | 3, _ => rfl
        exact go _ (fun i hi => List.mem_range.mp hi) _ _ h3
      · exact h3
    · exact Touches.modCke h1 rfl
  clear_value s2
  exact Touches.step (Touches.step (Touches.incReg h2 rfl) (Foot.collect ..) rfl) (Foot.runWaiting ..) rfl

theorem Foot.draw : ∀ s, FstT 0x10200000000 s (State.draw s) := by
  intro s
  unfold State.draw
  with_reducible refine FstT.pair ?_
  extract_lets +onlyGivenNames -underBinder v
  with_reducible refine Touches.useFree ?_ ?_
  extract_lets +onlyGivenNames -underBinder v
  with_reducible refine Touches.modCke ?_ ?_
  with_reducible exact Touches.refl _ _
  rfl
  rfl

theorem Foot.ideStore : ∀ s x1 x2 x3, Touches 0x600000 s (State.ideStore s x1 x2 x3) := by
  intro s x1 x2 x3
  unfold State.ideStore
  with_reducible refine Touches.modPort ?_ ?_ ?_
  with_reducible exact Touches.refl _ _
  rfl
  rfl

theorem Foot.nextTransit : ∀ s x1, Touches 0x10200000000 s (State.nextTransit s x1) := by
  intro s x1
  unfold State.nextTransit
  split
  with_reducible exact Touches.refl _ _
  with_reducible refine Touches.step ?_ (Foot.setSlot ..) ?_
  extract_lets +onlyGivenNames -underBinder v
  with_reducible refine Touches.modCke ?_ ?_
  with_reducible exact Touches.refl _ _
  rfl
  rfl

theorem Foot.nonceExh : ∀ s x1, Touches 0x580068a484 s (State.nonceExh s x1) := by
  intro s x1
  unfold State.nonceExh
  with_reducible refine Touches.raise ?_ ?_
  extract_lets +onlyGivenNames -underBinder v
  with_reducible refine Touches.flag ?_ ?_ ?_
  with_reducible exact Touches.refl _ _
  rfl
  rfl
  rfl

theorem Foot.passFail : ∀ s, Touches 0x800000 s (State.passFail s) := by
  intro s
  unfold State.passFail
  with_reducible refine Touches.modSvc ?_ ?_
  with_reducible exact Touches.refl _ _
  rfl

theorem Foot.rngFails : ∀ s, Touches 0x5a0068a484 s (State.rngFails s) := by
  intro s
  unfold State.rngFails
  extract_lets +onlyGivenNames -underBinder v
  with_reducible refine Touches.raise ?_ ?_
  extract_lets +onlyGivenNames -underBinder v
  with_reducible refine Touches.flag ?_ ?_ ?_
  extract_lets +onlyGivenNames -underBinder v
  with_reducible refine Touches.modCke ?_ ?_
  with_reducible exact Touches.refl _ _
  rfl
  rfl
  rfl
  rfl

theorem Foot.submit : ∀ s x1 x2, Touches 0xda0068a484 s (State.submit s x1 x2) := by
  intro s x1 x2
  unfold State.submit
  split
  split
  with_reducible exact Touches.refl _ _
  with_reducible refine Touches.modCke ?_ ?_
  with_reducible exact Touches.refl _ _
  rfl
  extract_lets +onlyGivenNames -underBinder v
  have hv : Touches 0xda0068a484 s v := by
    unfold v
    with_reducible refine Touches.emit ?_ ?_
    with_reducible exact Touches.refl _ _
    rfl
  clear_value v
  extract_lets +onlyGivenNames -underBinder v
  extract_lets +onlyGivenNames -underBinder v
  have hv : Touches 0xda0068a484 s v := by
    unfold v
    with_reducible refine Touches.setNat ?_ ?_
    with_reducible assumption
    rfl
  clear_value v
  split
  with_reducible exact Touches.refl _ _
  split
  with_reducible refine Touches.step ?_ (Foot.ckeDenied ..) ?_
  with_reducible assumption
  rfl
  split
  with_reducible assumption
  with_reducible refine Touches.modCke ?_ ?_
  with_reducible assumption
  rfl

theorem Foot.tagFail : ∀ s, Touches 0x580068a484 s (State.tagFail s) := by
  intro s
  unfold State.tagFail
  with_reducible refine Touches.flag ?_ ?_ ?_
  extract_lets +onlyGivenNames -underBinder v
  with_reducible refine Touches.incReg ?_ ?_
  with_reducible exact Touches.refl _ _
  rfl
  rfl
  rfl

theorem Foot.takeIv : ∀ s x1, OptT2 0xa00000000 s (State.takeIv s x1) := by
  intro s x1
  unfold State.takeIv
  extract_lets +onlyGivenNames -underBinder v
  split
  exact OptT2.none
  split
  with_reducible refine OptT2.some ?_
  extract_lets +onlyGivenNames -underBinder v
  with_reducible refine Touches.step ?_ (Foot.useKek ..) ?_
  with_reducible exact Touches.refl _ _
  rfl
  with_reducible refine OptT2.some ?_
  extract_lets +onlyGivenNames -underBinder v
  with_reducible refine Touches.modCke ?_ ?_
  with_reducible exact Touches.refl _ _
  rfl

theorem Foot.cmdKeyDataWrite : ∀ x1 x2 s, ResT 0xda0068a484 s (execKeyDataWrite x1 x2 s) := by
  intro x1 x2 s
  unfold execKeyDataWrite
  extract_lets +onlyGivenNames -underBinder v
  have hv : Touches 0xda0068a484 s v := by
    unfold v
    with_reducible refine Touches.emit ?_ ?_
    with_reducible exact Touches.refl _ _
    rfl
  clear_value v
  split
  with_reducible refine ResT.next ?_
  with_reducible exact Touches.refl _ _
  split
  with_reducible refine ResT.next ?_
  extract_lets +onlyGivenNames -underBinder v
  with_reducible refine Touches.step ?_ (Foot.ckeDenied ..) ?_
  with_reducible assumption
  rfl
  with_reducible refine ResT.next ?_
  extract_lets +onlyGivenNames -underBinder v
  with_reducible refine Touches.modCke ?_ ?_
  with_reducible assumption
  rfl

theorem Foot.writeSlot : ∀ s x1 x2, Touches 0x10200000000 s (State.writeSlot s x1 x2) := by
  intro s x1 x2
  unfold State.writeSlot
  extract_lets +onlyGivenNames -underBinder v
  have hv : Touches 0x10200000000 s v := by
    unfold v
    with_reducible refine Touches.modCke ?_ ?_
    with_reducible exact Touches.refl _ _
    rfl
  clear_value v
  extract_lets +onlyGivenNames -underBinder v
  split
  with_reducible refine Touches.modCke ?_ ?_
  with_reducible assumption
  rfl
  with_reducible refine Touches.step ?_ (Foot.setSlot ..) ?_
  with_reducible assumption
  rfl

theorem Foot.cmdKeyLoad : ∀ x1 x2 s, ResT 0x1da0068a484 s (execKeyLoad x1 x2 s) := by
  intro x1 x2 s
  unfold execKeyLoad
  extract_lets +onlyGivenNames -underBinder v
  have hv : Touches 0x1da0068a484 s v := by
    unfold v
    with_reducible refine Touches.emit ?_ ?_
    with_reducible exact Touches.refl _ _
    rfl
  clear_value v
  extract_lets +onlyGivenNames -underBinder v
  extract_lets +onlyGivenNames -underBinder v
  have hv : Touches 0x1da0068a484 s v := by
    unfold v
    with_reducible refine Touches.modCke ?_ ?_
    with_reducible assumption
    rfl
  clear_value v
  split
  with_reducible refine ResT.next ?_
  with_reducible exact Touches.refl _ _
  split
  with_reducible refine ResT.next ?_
  extract_lets +onlyGivenNames -underBinder v
  with_reducible refine Touches.step ?_ (Foot.ckeDenied ..) ?_
  with_reducible assumption
  rfl
  split
  with_reducible refine ResT.next ?_
  extract_lets +onlyGivenNames -underBinder v
  with_reducible refine Touches.modCke ?_ ?_
  with_reducible assumption
  rfl
  with_reducible refine ResT.next ?_
  extract_lets +onlyGivenNames -underBinder v
  with_reducible refine Touches.step ?_ (Foot.writeSlot ..) ?_
  extract_lets +onlyGivenNames -underBinder v
  with_reducible refine Touches.modCke ?_ ?_
  with_reducible assumption
  rfl
  rfl

theorem Foot.cmdKeyZero : ∀ x1 x2 s, ResT 0x1da0068a484 s (execKeyZero x1 x2 s) := by
  intro x1 x2 s
  unfold execKeyZero
  extract_lets +onlyGivenNames -underBinder v
  have hv : Touches 0x1da0068a484 s v := by
    unfold v
    with_reducible refine Touches.emit ?_ ?_
    with_reducible exact Touches.refl _ _
    rfl
  clear_value v
  split
  with_reducible refine ResT.next ?_
  with_reducible exact Touches.refl _ _
  split
  with_reducible refine ResT.next ?_
  extract_lets +onlyGivenNames -underBinder v
  with_reducible refine Touches.step ?_ (Foot.ckeDenied ..) ?_
  with_reducible assumption
  rfl
  split
  with_reducible refine ResT.next ?_
  with_reducible assumption
  with_reducible refine ResT.next ?_
  extract_lets +onlyGivenNames -underBinder v
  with_reducible refine Touches.step ?_ (Foot.writeSlot ..) ?_
  with_reducible assumption
  rfl

theorem Foot.cmdGcmEncrypt : ∀ x1 s, ResT 0xda0068a484 s (execGcmEncrypt x1 s) := by
  intro x1 s
  unfold execGcmEncrypt
  with_reducible refine ResT.next ?_
  extract_lets +onlyGivenNames -underBinder v
  with_reducible refine Touches.step ?_ (Foot.submit ..) ?_
  with_reducible exact Touches.refl _ _
  rfl

theorem Foot.cmdGcmDecrypt : ∀ x1 s, ResT 0xda0068a484 s (execGcmDecrypt x1 s) := by
  intro x1 s
  unfold execGcmDecrypt
  with_reducible refine ResT.next ?_
  extract_lets +onlyGivenNames -underBinder v
  with_reducible refine Touches.step ?_ (Foot.submit ..) ?_
  with_reducible exact Touches.refl _ _
  rfl

theorem Foot.cmdGmac : ∀ x1 s, ResT 0xda0068a484 s (execGmac x1 s) := by
  intro x1 s
  unfold execGmac
  with_reducible refine ResT.next ?_
  extract_lets +onlyGivenNames -underBinder v
  with_reducible refine Touches.step ?_ (Foot.submit ..) ?_
  with_reducible exact Touches.refl _ _
  rfl

theorem Foot.cmdGmacVerify : ∀ x1 s, ResT 0xda0068a484 s (execGmacVerify x1 s) := by
  intro x1 s
  unfold execGmacVerify
  with_reducible refine ResT.next ?_
  extract_lets +onlyGivenNames -underBinder v
  with_reducible refine Touches.step ?_ (Foot.submit ..) ?_
  with_reducible exact Touches.refl _ _
  rfl

theorem Foot.cmdWrap : ∀ x1 s, ResT 0xda0068a484 s (execWrap x1 s) := by
  intro x1 s
  unfold execWrap
  with_reducible refine ResT.next ?_
  extract_lets +onlyGivenNames -underBinder v
  with_reducible refine Touches.step ?_ (Foot.submit ..) ?_
  with_reducible exact Touches.refl _ _
  rfl

theorem Foot.cmdUnwrap : ∀ x1 s, ResT 0xda0068a484 s (execUnwrap x1 s) := by
  intro x1 s
  unfold execUnwrap
  with_reducible refine ResT.next ?_
  extract_lets +onlyGivenNames -underBinder v
  with_reducible refine Touches.step ?_ (Foot.submit ..) ?_
  with_reducible exact Touches.refl _ _
  rfl

theorem Foot.cmdDerive : ∀ x1 s, ResT 0xda0068a484 s (execDerive x1 s) := by
  intro x1 s
  unfold execDerive
  with_reducible refine ResT.next ?_
  extract_lets +onlyGivenNames -underBinder v
  with_reducible refine Touches.step ?_ (Foot.submit ..) ?_
  with_reducible exact Touches.refl _ _
  rfl

theorem Foot.cmdSha384 : ∀ x1 s, ResT 0xda0068a484 s (execSha384 x1 s) := by
  intro x1 s
  unfold execSha384
  with_reducible refine ResT.next ?_
  extract_lets +onlyGivenNames -underBinder v
  with_reducible refine Touches.step ?_ (Foot.submit ..) ?_
  with_reducible exact Touches.refl _ _
  rfl

theorem Foot.cmdGenKey : ∀ x1 s, ResT 0xda0068a484 s (execGenKey x1 s) := by
  intro x1 s
  unfold execGenKey
  with_reducible refine ResT.next ?_
  extract_lets +onlyGivenNames -underBinder v
  with_reducible refine Touches.step ?_ (Foot.submit ..) ?_
  with_reducible exact Touches.refl _ _
  rfl

theorem Foot.cmdZeroSlot : ∀ x1 s, ResT 0x1da0068a484 s (execZeroSlot x1 s) := by
  intro x1 s
  unfold execZeroSlot
  extract_lets +onlyGivenNames -underBinder v
  extract_lets +onlyGivenNames -underBinder v
  have hv : Touches 0x1da0068a484 s v := by
    unfold v
    with_reducible refine Touches.step ?_ (Foot.submit ..) ?_
    with_reducible exact Touches.refl _ _
    rfl
  clear_value v
  split
  with_reducible refine ResT.next ?_
  with_reducible assumption
  split
  with_reducible refine ResT.next ?_
  extract_lets +onlyGivenNames -underBinder v
  split
  with_reducible assumption
  with_reducible refine Touches.step ?_ (Foot.writeSlot ..) ?_
  with_reducible assumption
  rfl
  with_reducible refine ResT.next ?_
  with_reducible assumption

theorem Foot.cmdIdeMove : ∀ x1 s, ResT 0xda0068a484 s (execIdeMove x1 s) := by
  intro x1 s
  unfold execIdeMove
  with_reducible refine ResT.next ?_
  extract_lets +onlyGivenNames -underBinder v
  with_reducible refine Touches.step ?_ (Foot.submit ..) ?_
  with_reducible exact Touches.refl _ _
  rfl

theorem Foot.cmdCkeOpComplete : ∀ x1 s, ResT 0x15b10e8a4a4 s (execCkeOpComplete x1 s) := by
  intro x1 s
  have h0 : Touches 0x15b10e8a4a4 s s := Touches.refl _ _
  have hiv : ∀ {i iv u}, s.takeIv i = some (iv, u) → Touches 0x15b10e8a4a4 s u := by
    intro i iv u e
    unfold State.takeIv at e
    dsimp only at e
    split at e
    · cases e
    · split at e
      · cases e; exact Touches.step h0 (Foot.useKek ..) rfl
      · cases e; exact Touches.modCke h0 rfl
  have he (o k p) : Touches 0x15b10e8a4a4 s (s.endEncrypt o k p).next := by
    unfold State.endEncrypt
    split
    · exact h0
    split
    · dsimp only [ckeEnd]; exact Touches.step h0 (Foot.nonceExh ..) rfl
    · rename_i e
      dsimp only [ckeEnd]; exact Touches.modCke (hiv e) rfl
  have hd (o k) : Touches 0x15b10e8a4a4 s (s.endDecrypt o k).next := by
    unfold State.endDecrypt
    split
    · exact h0
    extract_lets +onlyGivenNames -underBinder aad ct
    split
    · dsimp only [ckeEnd]; exact Touches.modCke h0 rfl
    · dsimp only [ckeEnd]; exact Touches.step (Touches.modCke h0 rfl) (Foot.tagFail ..) rfl
  have hw (o k) : Touches 0x15b10e8a4a4 s (s.endWrap o k).next := by
    unfold State.endWrap
    split
    · exact h0
    split
    · exact h0
    split
    · dsimp only [ckeEnd]; exact Touches.step h0 (Foot.nonceExh ..) rfl
    · rename_i e
      dsimp only [ckeEnd]; exact Touches.modCke (hiv e) rfl
  have hu (o k) : Touches 0x15b10e8a4a4 s (s.endUnwrap o k).next := by
    unfold State.endUnwrap
    extract_lets +onlyGivenNames -underBinder r iv ct tag
    split
    · dsimp only [ckeEnd]; exact Touches.step h0 (Foot.setSlot ..) rfl
    · extract_lets +onlyGivenNames -underBinder s1 underPk s2
      have h1 : Touches 0x15b10e8a4a4 s s1 := Touches.flag h0 rfl rfl
      clear_value s1
      have h2 : Touches 0x15b10e8a4a4 s s2 := by
        unfold s2; split
        · exact Touches.step h1 (Foot.passFail ..) rfl
        · exact Touches.raise h1 rfl
      clear_value s2
      dsimp only [ckeEnd]; exact Touches.incReg h2 rfl
  have hk (o) : Touches 0x15b10e8a4a4 s (s.endDerive o).next := by
    unfold State.endDerive
    extract_lets +onlyGivenNames -underBinder label h ctx parent
    clear_value parent
    split
    · exact h0
    extract_lets +onlyGivenNames -underBinder context
    split
    · dsimp only [ckeEnd]; exact Touches.modIme h0 rfl
    split
    · exact h0
    · dsimp only [ckeEnd]; exact Touches.step h0 (Foot.setSlot ..) rfl
  have hm (o k) : Touches 0x15b10e8a4a4 s (s.endMove o k).next := by
    unfold State.endMove
    split
    · exact h0
    extract_lets +onlyGivenNames -underBinder s1 s2
    have h1 : Touches 0x15b10e8a4a4 s s1 := Touches.step (Touches.step h0 (Foot.ideStore ..) rfl) (Foot.setSlot ..) rfl
    have h2 : Touches 0x15b10e8a4a4 s s2 := Touches.modCke h1 rfl
    dsimp only [ckeEnd]; exact Touches.step h2 (Foot.nextTransit ..) rfl
  have hr (o) : Touches 0x15b10e8a4a4 s (s.ckeRun o).next := by
    unfold State.ckeRun
    extract_lets +onlyGivenNames -underBinder keyed locked
    have hkey (f : BitVec 256 → CkeEnd) (hf : ∀ k, Touches 0x15b10e8a4a4 s (f k).next) : Touches 0x15b10e8a4a4 s (keyed f).next := by
      unfold keyed
      split
      · split
        · exact hf _
        · exact h0
      · exact h0
    clear_value keyed locked
    split
    · exact h0
    split
    · exact hkey _ fun k => he o k true
    · exact hkey _ fun k => he o k false
    · exact hkey _ fun k => hd o k
    · refine hkey _ fun k => ?_
      split
      · exact h0
      · dsimp only [ckeEnd]; exact Touches.step h0 (Foot.tagFail ..) rfl
    · exact hkey _ fun k => hw o k
    · split
      · exact h0
      · exact hkey _ fun k => hu o k
    · exact hk o
    · split
      · exact h0
      split
      · exact h0
      · dsimp only [ckeEnd]; exact Touches.modCke h0 rfl
    · split
      · dsimp only [ckeEnd]; exact Touches.step h0 (Foot.rngFails ..) rfl
      split
      · exact h0
      · split
        rename_i e
        dsimp only [ckeEnd]; exact Touches.step (FstT.get (Foot.draw ..) e h0 rfl) (Foot.setSlot ..) rfl
    · exact h0
    · exact hkey _ fun k => hm o k
  unfold execCkeOpComplete
  split
  · exact ResT.next h0
  split
  · extract_lets +onlyGivenNames -underBinder s1 s2
    have h1 : Touches 0x15b10e8a4a4 s s1 := Touches.flag (Touches.incReg h0 rfl) rfl rfl
    clear_value s1
    split
    · have h2 : Touches 0x15b10e8a4a4 s s2 := Touches.raise (Touches.flag h1 rfl rfl) rfl
      exact ResT.next (Touches.step h2 (Foot.ckeFinish ..) rfl)
    · exact ResT.next (Touches.modCke h1 rfl)
  · exact ResT.next (Touches.step (hr _) (Foot.ckeFinish ..) rfl)

theorem Foot.cmdRngRetest : ∀ x1 x2 s, ResT 0x5a0068a084 s (execRngRetest x1 x2 s) := by
  intro x1 x2 s
  unfold execRngRetest
  extract_lets +onlyGivenNames -underBinder v
  have hv : Touches 0x5a0068a084 s v := by
    unfold v
    with_reducible refine Touches.clockTo ?_ ?_
    with_reducible exact Touches.refl _ _
    rfl
  clear_value v
  extract_lets +onlyGivenNames -underBinder v
  split
  with_reducible refine ResT.next ?_
  extract_lets +onlyGivenNames -underBinder v
  with_reducible refine Touches.modCke ?_ ?_
  with_reducible assumption
  rfl
  with_reducible refine ResT.next ?_
  with_reducible assumption

theorem Foot.cmdDrbgReseed : ∀ x1 s, ResT 0x5a0068a484 s (execDrbgReseed x1 s) := by
  intro x1 s
  unfold execDrbgReseed
  extract_lets +onlyGivenNames -underBinder v
  have hv : Touches 0x5a0068a484 s v := by
    unfold v
    with_reducible refine Touches.modCke ?_ ?_
    with_reducible exact Touches.refl _ _
    rfl
  clear_value v
  split
  with_reducible refine ResT.next ?_
  extract_lets +onlyGivenNames -underBinder v
  split
  with_reducible assumption
  with_reducible refine Touches.step ?_ (Foot.rngFails ..) ?_
  with_reducible assumption
  rfl
  with_reducible refine ResT.next ?_
  with_reducible exact Touches.refl _ _

end Sys2Proof.Machine
end

