-- ==== Sys2Proof/Laws/FootDatum.lean ====
section
/-! SUPPORT. The footprint of each operation of Machine/Datum.lean: the parts of the state it may change. -/

namespace Sys2Proof.Machine

theorem Foot.datumDeed : ∀ s, Touches 0x800000000 s (State.datumDeed s) := by
  intro s
  unfold State.datumDeed
  with_reducible refine Touches.step ?_ (Foot.queueDeed ..) ?_
  with_reducible exact Touches.refl _ _
  rfl

theorem Foot.discipline : ∀ s x1 x2, FstT 0x584068a084 s (State.discipline s x1 x2) := by
  intro s x1 x2
  unfold State.discipline
  with_reducible refine FstT.pair ?_
  extract_lets +onlyGivenNames -underBinder v
  split
  with_reducible refine Touches.raise ?_ ?_
  extract_lets +onlyGivenNames -underBinder v
  with_reducible refine Touches.flag ?_ ?_ ?_
  extract_lets +onlyGivenNames -underBinder v
  with_reducible refine Touches.incReg ?_ ?_
  with_reducible exact Touches.refl _ _
  rfl
  rfl
  rfl
  rfl
  extract_lets +onlyGivenNames -underBinder v
  have hv : Touches 0x584068a084 s v := by
    unfold v
    with_reducible refine Touches.modDtm ?_ ?_
    with_reducible exact Touches.refl _ _
    rfl
  clear_value v
  extract_lets +onlyGivenNames -underBinder v
  have hv : Touches 0x584068a084 s v := by
    unfold v
    with_reducible refine Touches.modPwr ?_ ?_
    with_reducible assumption
    rfl
  clear_value v
  with_reducible refine Touches.incReg ?_ ?_
  extract_lets +onlyGivenNames -underBinder v
  with_reducible refine Touches.setPair ?_ ?_ ?_
  with_reducible assumption
  rfl
  rfl
  rfl
  extract_lets +onlyGivenNames -underBinder v
  have hv : Touches 0x584068a084 s v := by
    unfold v
    with_reducible refine Touches.modDtm ?_ ?_
    with_reducible exact Touches.refl _ _
    rfl
  clear_value v
  extract_lets +onlyGivenNames -underBinder v
  have hv : Touches 0x584068a084 s v := by
    unfold v
    with_reducible refine Touches.incReg ?_ ?_
    extract_lets +onlyGivenNames -underBinder w
    with_reducible refine Touches.setPair ?_ ?_ ?_
    extract_lets +onlyGivenNames -underBinder w
    with_reducible refine Touches.setPair ?_ ?_ ?_
    with_reducible assumption
    rfl
    rfl
    rfl
    rfl
    rfl
  clear_value v
  with_reducible refine Touches.step ?_ (Foot.datumDeed ..) ?_
  extract_lets +onlyGivenNames -underBinder v
  with_reducible refine Touches.raise ?_ ?_
  extract_lets +onlyGivenNames -underBinder v
  with_reducible refine Touches.setBits ?_ ?_
  with_reducible assumption
  rfl
  rfl
  rfl
  extract_lets +onlyGivenNames -underBinder v
  have hv : Touches 0x584068a084 s v := by
    unfold v
    with_reducible refine Touches.modDtm ?_ ?_
    with_reducible exact Touches.refl _ _
    rfl
  clear_value v
  with_reducible refine Touches.incReg ?_ ?_
  extract_lets +onlyGivenNames -underBinder v
  with_reducible refine Touches.setPair ?_ ?_ ?_
  with_reducible assumption
  rfl
  rfl
  rfl

theorem Foot.pmcRead : ∀ s x1 x2, SndT 0x30000 s (State.pmcRead s x1 x2) := by
  intro s x1 x2
  unfold State.pmcRead
  with_reducible refine SndT.pair ?_
  extract_lets +onlyGivenNames -underBinder v
  with_reducible refine Touches.modShadow ?_ ?_ ?_
  with_reducible exact Touches.refl _ _
  rfl
  rfl

theorem Foot.cmdXoReturn : ∀ x1 x2 s, ResT 0x8000080000 s (execXoReturn x1 x2 s) := by
  intro x1 x2 s
  unfold execXoReturn
  extract_lets +onlyGivenNames -underBinder v
  have hv : Touches 0x8000080000 s v := by
    unfold v
    with_reducible refine Touches.emit ?_ ?_
    with_reducible exact Touches.refl _ _
    rfl
  clear_value v
  split
  with_reducible refine ResT.next ?_
  with_reducible exact Touches.refl _ _
  with_reducible refine ResT.next ?_
  extract_lets +onlyGivenNames -underBinder v
  split
  with_reducible refine Touches.modDtm ?_ ?_
  with_reducible assumption
  rfl
  with_reducible assumption

theorem Foot.cmdDtmParamWrite : ∀ x1 x2 x3 s, ResT 0x8000000080 s (execDtmParamWrite x1 x2 x3 s) := by
  intro x1 x2 x3 s
  unfold execDtmParamWrite
  have h0 : Touches 0x8000000080 s s := Touches.refl _ _
  split
  · exact ResT.next h0
  extract_lets off hi s1
  have ho : off / 0x10000 = 7 := by unfold off; split <;> rfl
  have h1 : Touches 0x8000000080 s s1 := Touches.emit h0 rfl
  clear_value s1 off
  refine ResT.next ?_
  split
  · refine Touches.setReg h1 ?_
    rw [ho]; rfl
  · exact h1

theorem Foot.cmdSurveyStrobeWrite : ∀ x1 s, ResT 0xd80068a084 s (execSurveyStrobeWrite x1 s) := by
  intro x1 s
  unfold execSurveyStrobeWrite
  split
  with_reducible refine ResT.next ?_
  with_reducible exact Touches.refl _ _
  with_reducible refine ResT.next ?_
  extract_lets +onlyGivenNames -underBinder v
  with_reducible refine Touches.strobe ?_ ?_
  extract_lets +onlyGivenNames -underBinder v
  with_reducible refine Touches.emit ?_ ?_
  with_reducible exact Touches.refl _ _
  rfl
  rfl

theorem Foot.cmdPmcCfgWrite : ∀ x1 x2 x3 s, ResT 0xd80068a084 s (execPmcCfgWrite x1 x2 x3 s) := by
  intro x1 x2 x3 s
  unfold execPmcCfgWrite
  extract_lets +onlyGivenNames -underBinder v
  have hv : Touches 0xd80068a084 s v := by
    unfold v
    with_reducible refine Touches.emit ?_ ?_
    with_reducible exact Touches.refl _ _
    rfl
  clear_value v
  split
  with_reducible refine ResT.next ?_
  with_reducible exact Touches.refl _ _
  split
  with_reducible refine ResT.next ?_
  extract_lets +onlyGivenNames -underBinder v
  with_reducible refine Touches.setNat ?_ ?_
  with_reducible assumption
  extract_lets +onlyGivenNames -underBinder v
  (simp <;> rfl)
  with_reducible refine ResT.next ?_
  extract_lets +onlyGivenNames -underBinder v
  with_reducible refine Touches.flag ?_ ?_ ?_
  with_reducible assumption
  rfl
  rfl

theorem Foot.cmdPmcCntWrite : ∀ x1 x2 x3 x4 s, ResT 0xd80068a084 s (execPmcCntWrite x1 x2 x3 x4 s) := by
  intro x1 x2 x3 x4 s
  unfold execPmcCntWrite
  extract_lets +onlyGivenNames -underBinder v
  have hv : Touches 0xd80068a084 s v := by
    unfold v
    with_reducible refine Touches.setReg ?_ ?_
    extract_lets +onlyGivenNames -underBinder w
    with_reducible refine Touches.emit ?_ ?_
    with_reducible exact Touches.refl _ _
    rfl
    extract_lets +onlyGivenNames -underBinder w
    (simp <;> rfl)
  clear_value v
  split
  with_reducible refine ResT.next ?_
  with_reducible exact Touches.refl _ _
  with_reducible refine ResT.next ?_
  extract_lets +onlyGivenNames -underBinder v
  split
  with_reducible assumption
  with_reducible refine Touches.pmcAdd ?_ ?_ ?_
  with_reducible assumption
  rfl
  extract_lets +onlyGivenNames -underBinder v
  (simp <;> rfl)

theorem Foot.cmdXoLoss : ∀ x1 s, ResT 0x580068a084 s (execXoLoss x1 s) := by
  intro x1 s
  unfold execXoLoss
  extract_lets +onlyGivenNames -underBinder v
  have hv : Touches 0x580068a084 s v := by
    unfold v
    with_reducible refine Touches.setReg ?_ ?_
    with_reducible exact Touches.refl _ _
    rfl
  clear_value v
  extract_lets +onlyGivenNames -underBinder v
  have hv : Touches 0x580068a084 s v := by
    unfold v
    with_reducible refine Touches.incReg ?_ ?_
    extract_lets +onlyGivenNames -underBinder w
    with_reducible refine Touches.modDtm ?_ ?_
    with_reducible assumption
    rfl
    rfl
  clear_value v
  split
  with_reducible refine ResT.next ?_
  with_reducible assumption
  with_reducible refine ResT.next ?_
  extract_lets +onlyGivenNames -underBinder v
  with_reducible refine Touches.raise ?_ ?_
  extract_lets +onlyGivenNames -underBinder v
  with_reducible refine Touches.flag ?_ ?_ ?_
  with_reducible assumption
  rfl
  rfl
  rfl

theorem Foot.cmdDatumDeedTimer : ∀ x1 s, ResT 0x580068a084 s (execDatumDeedTimer x1 s) := by
  intro x1 s
  unfold execDatumDeedTimer
  extract_lets +onlyGivenNames -underBinder v
  have hv : Touches 0x580068a084 s v := by
    unfold v
    with_reducible refine Touches.clockTo ?_ ?_
    with_reducible exact Touches.refl _ _
    rfl
  clear_value v
  split
  split
  with_reducible refine ResT.next ?_
  extract_lets +onlyGivenNames -underBinder v
  with_reducible refine Touches.step ?_ (Foot.datumDeed ..) ?_
  extract_lets +onlyGivenNames -underBinder v
  with_reducible refine Touches.modDtm ?_ ?_
  with_reducible assumption
  rfl
  rfl
  with_reducible refine ResT.next ?_
  with_reducible assumption
  with_reducible refine ResT.next ?_
  with_reducible assumption

theorem Foot.cmdSlewComplete : ∀ x1 s, ResT 0x580068a084 s (execSlewComplete x1 s) := by
  intro x1 s
  unfold execSlewComplete
  extract_lets +onlyGivenNames -underBinder v
  have hv : Touches 0x580068a084 s v := by
    unfold v
    with_reducible refine Touches.clockTo ?_ ?_
    with_reducible exact Touches.refl _ _
    rfl
  clear_value v
  split
  with_reducible refine ResT.next ?_
  extract_lets +onlyGivenNames -underBinder v
  with_reducible refine Touches.step ?_ (Foot.datumDeed ..) ?_
  extract_lets +onlyGivenNames -underBinder v
  with_reducible refine Touches.setBits ?_ ?_
  extract_lets +onlyGivenNames -underBinder v
  with_reducible refine Touches.modDtm ?_ ?_
  with_reducible assumption
  rfl
  rfl
  rfl
  with_reducible refine ResT.next ?_
  with_reducible assumption

theorem Foot.cmdSurveyInEdge : ∀ s, ResT 0x580068a084 s (execSurveyInEdge s) := by
  intro s
  unfold execSurveyInEdge
  with_reducible refine ResT.next ?_
  extract_lets +onlyGivenNames -underBinder v
  split
  with_reducible refine Touches.strobeAt ?_ ?_
  with_reducible exact Touches.refl _ _
  rfl
  with_reducible exact Touches.refl _ _

theorem Foot.cmdSurveyOutEnd : ∀ s, ResT 0x580068a084 s (execSurveyOutEnd s) := by
  intro s
  unfold execSurveyOutEnd
  split
  with_reducible refine ResT.next ?_
  extract_lets +onlyGivenNames -underBinder v
  with_reducible refine Touches.modDtm ?_ ?_
  extract_lets +onlyGivenNames -underBinder v
  split
  with_reducible refine Touches.elapse ?_ ?_
  with_reducible exact Touches.refl _ _
  rfl
  with_reducible exact Touches.refl _ _
  rfl
  with_reducible refine ResT.next ?_
  with_reducible exact Touches.refl _ _

theorem Foot.cmdPmcOverflow : ∀ x1 x2 x3 s, ResT 0x580068a084 s (execPmcOverflow x1 x2 x3 s) := by
  intro x1 x2 x3 s
  unfold execPmcOverflow
  split
  with_reducible refine ResT.next ?_
  extract_lets +onlyGivenNames -underBinder v
  with_reducible refine Touches.pmcAdd ?_ ?_ ?_
  with_reducible exact Touches.refl _ _
  rfl
  extract_lets +onlyGivenNames -underBinder v
  (simp <;> rfl)
  with_reducible refine ResT.next ?_
  with_reducible exact Touches.refl _ _

theorem Foot.cmdPmcCntRead : ∀ x1 x2 s, ResT 0x8000030000 s (execPmcCntRead x1 x2 s) := by
  intro x1 x2 s
  unfold execPmcCntRead
  extract_lets +onlyGivenNames -underBinder v
  split
  with_reducible refine ResT.next ?_
  with_reducible exact Touches.refl _ _
  with_reducible refine ResT.next ?_
  extract_lets +onlyGivenNames -underBinder v
  with_reducible refine Touches.emit ?_ ?_
  extract_lets +onlyGivenNames -underBinder v
  with_reducible refine SndT.snd (Foot.pmcRead ..) ?_ ?_
  with_reducible exact Touches.refl _ _
  rfl
  rfl

theorem Foot.cmdPllUnlock : ∀ x1 s, ResT 0x580068a084 s (execPllUnlock x1 s) := by
  intro x1 s
  unfold execPllUnlock
  with_reducible refine ResT.next ?_
  extract_lets +onlyGivenNames -underBinder v
  with_reducible refine Touches.flag ?_ ?_ ?_
  extract_lets +onlyGivenNames -underBinder v
  with_reducible refine Touches.modDtm ?_ ?_
  with_reducible exact Touches.refl _ _
  rfl
  rfl
  rfl

end Sys2Proof.Machine
end

