-- ==== Sys2Proof/Laws/FootEngines.lean ====
section
/-! SUPPORT. The footprint of each operation of Machine/Engines.lean: the parts of the state it may change. -/

namespace Sys2Proof.Machine

theorem Foot.startFailover : ∀ s x1 x2 x3 x4, Touches 0x400000000 s (State.startFailover s x1 x2 x3 x4) := by
  intro s x1 x2 x3 x4
  unfold State.startFailover
  with_reducible refine Touches.modEng ?_ ?_
  with_reducible exact Touches.refl _ _
  rfl

theorem Foot.double : ∀ s x1 x2 x3, Touches 0x400000800 s (State.double s x1 x2 x3) := by
  intro s x1 x2 x3
  unfold State.double
  split
  extract_lets +onlyGivenNames -underBinder v
  have hv : Touches 0x400000800 s v := by
    unfold v
    with_reducible refine Touches.step ?_ (Foot.startFailover ..) ?_
    with_reducible exact Touches.refl _ _
    rfl
  clear_value v
  with_reducible refine Touches.setBits ?_ ?_
  extract_lets +onlyGivenNames -underBinder v
  with_reducible refine Touches.modEng ?_ ?_
  with_reducible assumption
  rfl
  rfl
  with_reducible refine Touches.modEng ?_ ?_
  with_reducible exact Touches.refl _ _
  rfl

theorem Foot.place : ∀ s x1 x2 x3, Touches 0x400000800 s (State.place s x1 x2 x3) := by
  intro s x1 x2 x3
  unfold State.place
  split
  with_reducible exact Touches.refl _ _
  split
  with_reducible refine Touches.modEng ?_ ?_
  with_reducible exact Touches.refl _ _
  rfl
  split
  with_reducible refine Touches.step ?_ (Foot.startFailover ..) ?_
  with_reducible exact Touches.refl _ _
  rfl
  with_reducible refine Touches.foldl (fun _ _ _ => ?_) ?_
  extract_lets +onlyGivenNames -underBinder v
  with_reducible refine Touches.step ?_ (Foot.double ..) ?_
  with_reducible assumption
  rfl
  with_reducible exact Touches.refl _ _

theorem Foot.placeRoles : ∀ s x1, Touches 0x400000800 s (State.placeRoles s x1) := by
  intro s x1
  unfold State.placeRoles
  have h0 : Touches 0x400000800 s s := Touches.refl _ _
  split
  · exact h0
  extract_lets +onlyGivenNames -underBinder now s1
  have h1 : Touches 0x400000800 s s1 := Touches.modEng h0 rfl
  clear_value s1
  refine Touches.foldl (fun n t h => ?_) h1
  extract_lets +onlyGivenNames -underBinder r
  clear_value r
  split
  · exact Touches.step h (Foot.place ..) rfl
  · exact h

theorem Foot.onEngine : ∀ s x1 x2, Touches 0x400000000 s (State.onEngine s x1 x2) := by
  intro s x1 x2
  unfold State.onEngine
  with_reducible refine Touches.modEng ?_ ?_
  with_reducible exact Touches.refl _ _
  rfl

theorem Foot.settleRoles : ∀ s, Touches 0x400000000 s (State.settleRoles s) := by
  intro s
  unfold State.settleRoles
  extract_lets +onlyGivenNames -underBinder v
  with_reducible refine Touches.modEng ?_ ?_
  with_reducible exact Touches.refl _ _
  rfl

theorem Foot.retireEngine : ∀ s x1, Touches 0x5c0068a884 s (State.retireEngine s x1) := by
  intro s x1
  unfold State.retireEngine
  with_reducible refine Touches.step ?_ (Foot.settleRoles ..) ?_
  extract_lets +onlyGivenNames -underBinder v
  with_reducible refine Touches.flag ?_ ?_ ?_
  extract_lets +onlyGivenNames -underBinder v
  with_reducible refine Touches.step ?_ (Foot.onEngine ..) ?_
  with_reducible exact Touches.refl _ _
  rfl
  rfl
  rfl
  rfl

theorem Foot.afterFailover : ∀ s x1, Touches 0x5c0068a884 s (State.afterFailover s x1) := by
  intro s x1
  unfold State.afterFailover
  split
  with_reducible exact Touches.refl _ _
  split
  with_reducible refine Touches.step ?_ (Foot.onEngine ..) ?_
  with_reducible exact Touches.refl _ _
  rfl
  split
  with_reducible refine Touches.step ?_ (Foot.retireEngine ..) ?_
  with_reducible exact Touches.refl _ _
  rfl
  with_reducible refine Touches.step ?_ (Foot.onEngine ..) ?_
  with_reducible exact Touches.refl _ _
  rfl

theorem Foot.pairAssay : ∀ s, Touches 0x5840e8a184 s (State.pairAssay s) := by
  intro s
  unfold State.pairAssay
  split
  with_reducible exact Touches.refl _ _
  with_reducible refine Touches.step ?_ (Foot.closeAssay ..) ?_
  with_reducible exact Touches.refl _ _
  rfl

theorem Foot.pairFail : ∀ s x1, Touches 0x5c41e8a184 s (State.pairFail s x1) := by
  intro s x1
  unfold State.pairFail
  extract_lets +onlyGivenNames -underBinder v
  extract_lets +onlyGivenNames -underBinder v
  extract_lets +onlyGivenNames -underBinder v
  have hv : Touches 0x5c41e8a184 s v := by
    unfold v
    with_reducible refine Touches.modEng ?_ ?_
    with_reducible exact Touches.refl _ _
    rfl
  clear_value v
  extract_lets +onlyGivenNames -underBinder v
  have hv : Touches 0x5c41e8a184 s v := by
    unfold v
    with_reducible refine Touches.step ?_ (Foot.pairAssay ..) ?_
    with_reducible assumption
    rfl
  clear_value v
  extract_lets +onlyGivenNames -underBinder v
  have hv : Touches 0x5c41e8a184 s v := by
    unfold v
    with_reducible refine Touches.modEng ?_ ?_
    with_reducible assumption
    rfl
  clear_value v
  split
  with_reducible exact Touches.refl _ _
  split
  with_reducible refine Touches.step ?_ (Foot.setBudget ..) ?_
  extract_lets +onlyGivenNames -underBinder v
  with_reducible refine Touches.raise ?_ ?_
  with_reducible assumption
  rfl
  rfl
  with_reducible refine Touches.modEng ?_ ?_
  with_reducible assumption
  rfl

theorem Foot.retarget : ∀ s x1 x2, Touches 0x400000800 s (State.retarget s x1 x2) := by
  intro s x1 x2
  unfold State.retarget
  extract_lets +onlyGivenNames -underBinder v
  extract_lets +onlyGivenNames -underBinder v
  have hv : Touches 0x400000800 s v := by
    unfold v
    with_reducible refine Touches.modEng ?_ ?_
    with_reducible exact Touches.refl _ _
    rfl
  clear_value v
  with_reducible refine Touches.foldl (fun _ _ _ => ?_) ?_
  extract_lets +onlyGivenNames -underBinder v
  with_reducible refine Touches.step ?_ (Foot.place ..) ?_
  with_reducible assumption
  rfl
  with_reducible assumption

theorem Foot.engineFail : ∀ s x1 x2, Touches 0x5c41e8a984 s (State.engineFail s x1 x2) := by
  intro s x1 x2
  unfold State.engineFail
  extract_lets +onlyGivenNames -underBinder v
  extract_lets +onlyGivenNames -underBinder v
  extract_lets +onlyGivenNames -underBinder v
  extract_lets +onlyGivenNames -underBinder v
  have hv : Touches 0x5c41e8a984 s v := by
    unfold v
    with_reducible refine Touches.step ?_ (Foot.onEngine ..) ?_
    with_reducible exact Touches.refl _ _
    rfl
  clear_value v
  extract_lets +onlyGivenNames -underBinder v
  have hv : Touches 0x5c41e8a984 s v := by
    unfold v
    with_reducible refine Touches.modEng ?_ ?_
    with_reducible assumption
    rfl
  clear_value v
  extract_lets +onlyGivenNames -underBinder v
  have hv : Touches 0x5c41e8a984 s v := by
    unfold v
    with_reducible refine Touches.step ?_ (Foot.place ..) ?_
    extract_lets +onlyGivenNames -underBinder w
    with_reducible refine Touches.step ?_ (Foot.retarget ..) ?_
    with_reducible assumption
    rfl
    rfl
  clear_value v
  extract_lets +onlyGivenNames -underBinder v
  have hv : Touches 0x5c41e8a984 s v := by
    unfold v
    split
    with_reducible assumption
    with_reducible refine Touches.step ?_ (Foot.afterFailover ..) ?_
    with_reducible assumption
    rfl
  clear_value v
  split
  with_reducible refine Touches.step ?_ (Foot.pairFail ..) ?_
  with_reducible exact Touches.refl _ _
  rfl
  split
  with_reducible exact Touches.refl _ _
  with_reducible refine Touches.step ?_ (Foot.settleRoles ..) ?_
  with_reducible assumption
  rfl

theorem Foot.spareJoined : ∀ s x1, Touches 0x400000800 s (State.spareJoined s x1) := by
  intro s x1
  unfold State.spareJoined
  extract_lets +onlyGivenNames -underBinder v
  have hv : Touches 0x400000800 s v := by
    unfold v
    with_reducible refine Touches.setBits ?_ ?_
    with_reducible exact Touches.refl _ _
    rfl
  clear_value v
  split
  with_reducible assumption
  extract_lets +onlyGivenNames -underBinder v
  have hv : Touches 0x400000800 s v := by
    unfold v
    with_reducible refine Touches.modEng ?_ ?_
    with_reducible assumption
    rfl
  clear_value v
  with_reducible refine Touches.step ?_ (Foot.startFailover ..) ?_
  with_reducible assumption
  rfl
  with_reducible refine Touches.step ?_ (Foot.startFailover ..) ?_
  extract_lets +onlyGivenNames -underBinder v
  with_reducible refine Touches.modEng ?_ ?_
  with_reducible assumption
  rfl
  rfl

theorem Foot.cmdEngineHold : ∀ x1 x2 x3 s, ResT 0xdc0068a884 s (execEngineHold x1 x2 x3 s) := by
  intro x1 x2 x3 s
  unfold execEngineHold
  extract_lets +onlyGivenNames -underBinder v
  have hv : Touches 0xdc0068a884 s v := by
    unfold v
    with_reducible refine Touches.emit ?_ ?_
    with_reducible exact Touches.refl _ _
    rfl
  clear_value v
  extract_lets +onlyGivenNames -underBinder v
  extract_lets +onlyGivenNames -underBinder v
  extract_lets +onlyGivenNames -underBinder v
  have hv : Touches 0xdc0068a884 s v := by
    unfold v
    with_reducible refine Touches.step ?_ (Foot.onEngine ..) ?_
    with_reducible assumption
    rfl
  clear_value v
  extract_lets +onlyGivenNames -underBinder v
  extract_lets +onlyGivenNames -underBinder v
  have hv : Touches 0xdc0068a884 s v := by
    unfold v
    with_reducible refine Touches.step ?_ (Foot.onEngine ..) ?_
    with_reducible assumption
    rfl
  clear_value v
  extract_lets +onlyGivenNames -underBinder v
  have hv : Touches 0xdc0068a884 s v := by
    unfold v
    with_reducible refine Touches.step ?_ (Foot.place ..) ?_
    extract_lets +onlyGivenNames -underBinder w
    with_reducible refine Touches.step ?_ (Foot.retarget ..) ?_
    with_reducible assumption
    rfl
    rfl
  clear_value v
  split
  with_reducible refine ResT.next ?_
  with_reducible exact Touches.refl _ _
  split
  with_reducible refine ResT.next ?_
  with_reducible assumption
  split
  split
  with_reducible refine ResT.next ?_
  extract_lets +onlyGivenNames -underBinder v
  with_reducible refine Touches.modEng ?_ ?_
  with_reducible assumption
  rfl
  with_reducible refine ResT.next ?_
  with_reducible assumption
  split
  with_reducible refine ResT.next ?_
  extract_lets +onlyGivenNames -underBinder v
  split
  with_reducible refine Touches.step ?_ (Foot.settleRoles ..) ?_
  with_reducible assumption
  rfl
  with_reducible refine Touches.step ?_ (Foot.settleRoles ..) ?_
  extract_lets +onlyGivenNames -underBinder v
  with_reducible refine Touches.step ?_ (Foot.afterFailover ..) ?_
  with_reducible assumption
  rfl
  rfl
  split
  with_reducible refine ResT.next ?_
  extract_lets +onlyGivenNames -underBinder v
  with_reducible refine Touches.step ?_ (Foot.spareJoined ..) ?_
  extract_lets +onlyGivenNames -underBinder v
  with_reducible refine Touches.step ?_ (Foot.settleRoles ..) ?_
  extract_lets +onlyGivenNames -underBinder v
  with_reducible refine Touches.step ?_ (Foot.onEngine ..) ?_
  with_reducible assumption
  rfl
  rfl
  rfl
  with_reducible refine ResT.next ?_
  with_reducible assumption

theorem Foot.cmdEngineSelftestWrite : ∀ x1 x2 s, ResT 0x8400000000 s (execEngineSelftestWrite x1 x2 s) := by
  intro x1 x2 s
  unfold execEngineSelftestWrite
  extract_lets +onlyGivenNames -underBinder v
  have hv : Touches 0x8400000000 s v := by
    unfold v
    with_reducible refine Touches.emit ?_ ?_
    with_reducible exact Touches.refl _ _
    rfl
  clear_value v
  extract_lets +onlyGivenNames -underBinder v
  extract_lets +onlyGivenNames -underBinder v
  split
  with_reducible refine ResT.next ?_
  with_reducible exact Touches.refl _ _
  split
  with_reducible refine ResT.next ?_
  extract_lets +onlyGivenNames -underBinder v
  with_reducible refine Touches.step ?_ (Foot.settleRoles ..) ?_
  extract_lets +onlyGivenNames -underBinder v
  with_reducible refine Touches.step ?_ (Foot.onEngine ..) ?_
  with_reducible assumption
  rfl
  rfl
  with_reducible refine ResT.next ?_
  with_reducible assumption

theorem Foot.cmdRingEntryPost : ∀ x1 x2 x3 x4 s, ResT 0x400000000 s (execRingEntryPost x1 x2 x3 x4 s) := by
  intro x1 x2 x3 x4 s
  unfold execRingEntryPost
  with_reducible refine ResT.next ?_
  extract_lets +onlyGivenNames -underBinder v
  with_reducible refine Touches.modEng ?_ ?_
  with_reducible exact Touches.refl _ _
  rfl

theorem Foot.cmdEngineWatchdogExpiry : ∀ x1 x2 x3 x4 s, ResT 0x5c41e8a984 s (execEngineWatchdogExpiry x1 x2 x3 x4 s) := by
  intro x1 x2 x3 x4 s
  unfold execEngineWatchdogExpiry
  have h0 : Touches 0x5c41e8a984 s s := Touches.refl _ _
  extract_lets +onlyGivenNames -underBinder s1 now
  have h1 : Touches 0x5c41e8a984 s s1 := Touches.clockTo h0 rfl
  clear_value s1
  split
  · exact ResT.next h1
  have ho : Nat.testBit 0x5c41e8a984 (Reg.En_WDOG x1.val / 0x10000) = true := by
    rw [Reg.En_WDOG_block]; rfl
  extract_lets +onlyGivenNames -underBinder off s2 s3
  have h2 : Touches 0x5c41e8a984 s s2 := Touches.setField h1 ho
  clear_value s2
  split
  · exact ResT.next (Touches.step (Touches.satField h2 ho) (Foot.onEngine ..) rfl)
  · have h3 : Touches 0x5c41e8a984 s s3 := Touches.flag (Touches.satField h2 ho) rfl rfl
    exact ResT.next (Touches.step h3 (Foot.engineFail ..) rfl)

theorem Foot.cmdEngineTrap : ∀ x1 x2 s, ResT 0x5c41e8a984 s (execEngineTrap x1 x2 s) := by
  intro x1 x2 s
  unfold execEngineTrap
  extract_lets +onlyGivenNames -underBinder v
  have hv : Touches 0x5c41e8a984 s v := by
    unfold v
    with_reducible refine Touches.clockTo ?_ ?_
    with_reducible exact Touches.refl _ _
    rfl
  clear_value v
  split
  with_reducible refine ResT.next ?_
  with_reducible assumption
  with_reducible refine ResT.next ?_
  extract_lets +onlyGivenNames -underBinder v
  with_reducible refine Touches.step ?_ (Foot.engineFail ..) ?_
  extract_lets +onlyGivenNames -underBinder v
  with_reducible refine Touches.flag ?_ ?_ ?_
  with_reducible assumption
  rfl
  rfl
  rfl

theorem Foot.cmdEngineSramUe : ∀ x1 x2 s, ResT 0x5c41e8a984 s (execEngineSramUe x1 x2 s) := by
  intro x1 x2 s
  unfold execEngineSramUe
  extract_lets +onlyGivenNames -underBinder v
  have hv : Touches 0x5c41e8a984 s v := by
    unfold v
    with_reducible refine Touches.clockTo ?_ ?_
    with_reducible exact Touches.refl _ _
    rfl
  clear_value v
  split
  with_reducible refine ResT.next ?_
  with_reducible assumption
  with_reducible refine ResT.next ?_
  extract_lets +onlyGivenNames -underBinder v
  with_reducible refine Touches.step ?_ (Foot.engineFail ..) ?_
  extract_lets +onlyGivenNames -underBinder v
  with_reducible refine Touches.flag ?_ ?_ ?_
  with_reducible assumption
  rfl
  rfl
  rfl

theorem Foot.cmdLockstepMismatch : ∀ x1 s, ResT 0x5c41e8a984 s (execLockstepMismatch x1 s) := by
  intro x1 s
  unfold execLockstepMismatch
  with_reducible refine ResT.next ?_
  extract_lets +onlyGivenNames -underBinder v
  with_reducible refine Touches.step ?_ (Foot.pairFail ..) ?_
  extract_lets +onlyGivenNames -underBinder v
  with_reducible refine Touches.flag ?_ ?_ ?_
  extract_lets +onlyGivenNames -underBinder v
  with_reducible refine Touches.clockTo ?_ ?_
  with_reducible exact Touches.refl _ _
  rfl
  rfl
  rfl
  rfl

theorem Foot.cmdFailoverLoadDone : ∀ x1 x2 s, ResT 0x5c0068a884 s (execFailoverLoadDone x1 x2 s) := by
  intro x1 x2 s
  unfold execFailoverLoadDone
  extract_lets +onlyGivenNames -underBinder v
  have hv : Touches 0x5c0068a884 s v := by
    unfold v
    with_reducible refine Touches.clockTo ?_ ?_
    with_reducible exact Touches.refl _ _
    rfl
  clear_value v
  split
  with_reducible refine ResT.next ?_
  with_reducible assumption
  with_reducible refine ResT.next ?_
  extract_lets +onlyGivenNames -underBinder v
  with_reducible refine Touches.step ?_ (Foot.settleRoles ..) ?_
  extract_lets +onlyGivenNames -underBinder v
  split
  split
  with_reducible refine Touches.raise ?_ ?_
  extract_lets +onlyGivenNames -underBinder v
  with_reducible refine Touches.setBits ?_ ?_
  extract_lets +onlyGivenNames -underBinder v
  with_reducible refine Touches.maxReg ?_ ?_
  extract_lets +onlyGivenNames -underBinder v
  with_reducible refine Touches.incReg ?_ ?_
  extract_lets +onlyGivenNames -underBinder v
  with_reducible refine Touches.pmc ?_ ?_
  extract_lets +onlyGivenNames -underBinder v
  with_reducible refine Touches.modEng ?_ ?_
  extract_lets +onlyGivenNames -underBinder v
  with_reducible refine Touches.nearMiss ?_ ?_
  with_reducible assumption
  rfl
  rfl
  rfl
  rfl
  rfl
  rfl
  rfl
  with_reducible refine Touches.step ?_ (Foot.afterFailover ..) ?_
  extract_lets +onlyGivenNames -underBinder v
  with_reducible refine Touches.raise ?_ ?_
  extract_lets +onlyGivenNames -underBinder v
  with_reducible refine Touches.setBits ?_ ?_
  extract_lets +onlyGivenNames -underBinder v
  with_reducible refine Touches.maxReg ?_ ?_
  extract_lets +onlyGivenNames -underBinder v
  with_reducible refine Touches.incReg ?_ ?_
  extract_lets +onlyGivenNames -underBinder v
  with_reducible refine Touches.pmc ?_ ?_
  extract_lets +onlyGivenNames -underBinder v
  with_reducible refine Touches.modEng ?_ ?_
  extract_lets +onlyGivenNames -underBinder v
  with_reducible refine Touches.nearMiss ?_ ?_
  with_reducible assumption
  rfl
  rfl
  rfl
  rfl
  rfl
  rfl
  rfl
  rfl
  split
  with_reducible refine Touches.raise ?_ ?_
  extract_lets +onlyGivenNames -underBinder v
  with_reducible refine Touches.setBits ?_ ?_
  extract_lets +onlyGivenNames -underBinder v
  with_reducible refine Touches.maxReg ?_ ?_
  extract_lets +onlyGivenNames -underBinder v
  with_reducible refine Touches.incReg ?_ ?_
  extract_lets +onlyGivenNames -underBinder v
  with_reducible refine Touches.pmc ?_ ?_
  extract_lets +onlyGivenNames -underBinder v
  with_reducible refine Touches.modEng ?_ ?_
  with_reducible assumption
  rfl
  rfl
  rfl
  rfl
  rfl
  rfl
  with_reducible refine Touches.step ?_ (Foot.afterFailover ..) ?_
  extract_lets +onlyGivenNames -underBinder v
  with_reducible refine Touches.raise ?_ ?_
  extract_lets +onlyGivenNames -underBinder v
  with_reducible refine Touches.setBits ?_ ?_
  extract_lets +onlyGivenNames -underBinder v
  with_reducible refine Touches.maxReg ?_ ?_
  extract_lets +onlyGivenNames -underBinder v
  with_reducible refine Touches.incReg ?_ ?_
  extract_lets +onlyGivenNames -underBinder v
  with_reducible refine Touches.pmc ?_ ?_
  extract_lets +onlyGivenNames -underBinder v
  with_reducible refine Touches.modEng ?_ ?_
  with_reducible assumption
  rfl
  rfl
  rfl
  rfl
  rfl
  rfl
  rfl
  rfl

theorem Foot.cmdFailoverTimeout : ∀ x1 x2 s, ResT 0x5c0068a884 s (execFailoverTimeout x1 x2 s) := by
  intro x1 x2 s
  unfold execFailoverTimeout
  extract_lets +onlyGivenNames -underBinder v
  have hv : Touches 0x5c0068a884 s v := by
    unfold v
    with_reducible refine Touches.clockTo ?_ ?_
    with_reducible exact Touches.refl _ _
    rfl
  clear_value v
  split
  with_reducible refine ResT.next ?_
  with_reducible assumption
  extract_lets +onlyGivenNames -underBinder v
  have hv : Touches 0x5c0068a884 s v := by
    unfold v
    with_reducible refine Touches.modEng ?_ ?_
    with_reducible assumption
    rfl
  clear_value v
  split
  with_reducible refine ResT.next ?_
  extract_lets +onlyGivenNames -underBinder v
  with_reducible refine Touches.raise ?_ ?_
  extract_lets +onlyGivenNames -underBinder v
  with_reducible refine Touches.flag ?_ ?_ ?_
  with_reducible assumption
  rfl
  rfl
  rfl
  with_reducible refine ResT.next ?_
  with_reducible assumption

theorem Foot.cmdEngineSelftestDone : ∀ x1 x2 s, ResT 0x5c0068a884 s (execEngineSelftestDone x1 x2 s) := by
  intro x1 x2 s
  unfold execEngineSelftestDone
  have h0 : Touches 0x5c0068a884 s s := Touches.refl _ _
  extract_lets +onlyGivenNames -underBinder x
  split
  · exact ResT.next h0
  extract_lets +onlyGivenNames -underBinder s1
  have h1 : Touches 0x5c0068a884 s s1 := Touches.step h0 (Foot.onEngine ..) rfl
  clear_value s1
  split
  · exact ResT.next (Touches.step (Touches.step (Touches.step h1 (Foot.onEngine ..) rfl) (Foot.settleRoles ..) rfl) (Foot.spareJoined ..) rfl)
  · exact ResT.next (Touches.step h1 (Foot.retireEngine ..) rfl)

theorem Foot.cmdEnergyPairRestartDone : ∀ x1 s, ResT 0x5c0168a984 s (execEnergyPairRestartDone x1 s) := by
  intro x1 s
  unfold execEnergyPairRestartDone
  extract_lets +onlyGivenNames -underBinder v
  have hv : Touches 0x5c0168a984 s v := by
    unfold v
    with_reducible refine Touches.clockTo ?_ ?_
    with_reducible exact Touches.refl _ _
    rfl
  clear_value v
  extract_lets +onlyGivenNames -underBinder v
  extract_lets +onlyGivenNames -underBinder v
  have hv : Touches 0x5c0168a984 s v := by
    unfold v
    with_reducible refine Touches.modEng ?_ ?_
    with_reducible assumption
    rfl
  clear_value v
  extract_lets +onlyGivenNames -underBinder v
  have hv : Touches 0x5c0168a984 s v := by
    unfold v
    with_reducible refine Touches.setBits ?_ ?_
    extract_lets +onlyGivenNames -underBinder w
    with_reducible refine Touches.maxReg ?_ ?_
    extract_lets +onlyGivenNames -underBinder w
    with_reducible refine Touches.incReg ?_ ?_
    with_reducible assumption
    rfl
    rfl
    rfl
  clear_value v
  split
  with_reducible refine ResT.next ?_
  extract_lets +onlyGivenNames -underBinder v
  with_reducible refine Touches.step ?_ (Foot.setBudget ..) ?_
  with_reducible assumption
  rfl
  with_reducible refine ResT.next ?_
  with_reducible assumption

end Sys2Proof.Machine
end

