-- ==== Sys2Proof/Laws/FootEvr.lean ====
section
/-! SUPPORT. The footprint of each operation of Machine/Evr.lean: the parts of the state it may change. -/

namespace Sys2Proof.Machine

theorem Foot.cursorStay : ∀ s x1 x2, Touches 0x1000000000 s (State.cursorStay s x1 x2) := by
  intro s x1 x2
  unfold State.cursorStay
  with_reducible refine Touches.modEvr ?_ ?_
  exact Touches.refl _ _
  rfl

theorem Foot.cursorTo : ∀ s x1 x2 x3, Touches 0x1000000000 s (State.cursorTo s x1 x2 x3) := by
  intro s x1 x2 x3
  unfold State.cursorTo
  with_reducible refine Touches.modEvr ?_ ?_
  exact Touches.refl _ _
  rfl

theorem Foot.cmdEvrCursorOldest : ∀ x1 s, ResT 0x9000000000 s (execEvrCursorOldest x1 s) := by
  intro x1 s
  unfold execEvrCursorOldest
  extract_lets +onlyGivenNames -underBinder v
  have hv : Touches 0x9000000000 s v := by
    unfold v
    with_reducible refine Touches.emit ?_ ?_
    exact Touches.refl _ _
    rfl
  clear_value v
  split
  with_reducible refine ResT.next ?_
  exact Touches.refl _ _
  with_reducible refine ResT.next ?_
  extract_lets +onlyGivenNames -underBinder v
  with_reducible refine Touches.step ?_ (Foot.cursorTo ..) ?_
  assumption
  rfl

theorem Foot.cmdEvrCursorNewest : ∀ x1 s, ResT 0x9000000000 s (execEvrCursorNewest x1 s) := by
  intro x1 s
  unfold execEvrCursorNewest
  extract_lets +onlyGivenNames -underBinder v
  have hv : Touches 0x9000000000 s v := by
    unfold v
    with_reducible refine Touches.emit ?_ ?_
    exact Touches.refl _ _
    rfl
  clear_value v
  split
  with_reducible refine ResT.next ?_
  exact Touches.refl _ _
  with_reducible refine ResT.next ?_
  extract_lets +onlyGivenNames -underBinder v
  with_reducible refine Touches.step ?_ (Foot.cursorTo ..) ?_
  assumption
  rfl

theorem Foot.cmdEvrCursorNext : ∀ x1 s, ResT 0x9000000000 s (execEvrCursorNext x1 s) := by
  intro x1 s
  unfold execEvrCursorNext
  extract_lets +onlyGivenNames -underBinder v
  have hv : Touches 0x9000000000 s v := by
    unfold v
    with_reducible refine Touches.emit ?_ ?_
    exact Touches.refl _ _
    rfl
  clear_value v
  extract_lets +onlyGivenNames -underBinder v
  extract_lets +onlyGivenNames -underBinder v
  extract_lets +onlyGivenNames -underBinder v
  split
  with_reducible refine ResT.next ?_
  exact Touches.refl _ _
  split
  with_reducible refine ResT.next ?_
  extract_lets +onlyGivenNames -underBinder v
  with_reducible refine Touches.step ?_ (Foot.cursorTo ..) ?_
  assumption
  rfl
  split
  with_reducible refine ResT.next ?_
  extract_lets +onlyGivenNames -underBinder v
  with_reducible refine Touches.step ?_ (Foot.cursorTo ..) ?_
  assumption
  rfl
  with_reducible refine ResT.next ?_
  extract_lets +onlyGivenNames -underBinder v
  with_reducible refine Touches.step ?_ (Foot.cursorStay ..) ?_
  assumption
  rfl

theorem Foot.cmdEvrCursorPrev : ∀ x1 s, ResT 0x9000000000 s (execEvrCursorPrev x1 s) := by
  intro x1 s
  unfold execEvrCursorPrev
  extract_lets +onlyGivenNames -underBinder v
  have hv : Touches 0x9000000000 s v := by
    unfold v
    with_reducible refine Touches.emit ?_ ?_
    exact Touches.refl _ _
    rfl
  clear_value v
  extract_lets +onlyGivenNames -underBinder v
  extract_lets +onlyGivenNames -underBinder v
  extract_lets +onlyGivenNames -underBinder v
  split
  with_reducible refine ResT.next ?_
  exact Touches.refl _ _
  split
  with_reducible refine ResT.next ?_
  extract_lets +onlyGivenNames -underBinder v
  with_reducible refine Touches.step ?_ (Foot.cursorTo ..) ?_
  assumption
  rfl
  with_reducible refine ResT.next ?_
  extract_lets +onlyGivenNames -underBinder v
  with_reducible refine Touches.step ?_ (Foot.cursorTo ..) ?_
  assumption
  rfl

theorem Foot.cmdEvrCursorWrite : ∀ x1 x2 s, ResT 0x9000000000 s (execEvrCursorWrite x1 x2 s) := by
  intro x1 x2 s
  unfold execEvrCursorWrite
  extract_lets +onlyGivenNames -underBinder v
  have hv : Touches 0x9000000000 s v := by
    unfold v
    with_reducible refine Touches.emit ?_ ?_
    exact Touches.refl _ _
    rfl
  clear_value v
  extract_lets +onlyGivenNames -underBinder v
  extract_lets +onlyGivenNames -underBinder v
  extract_lets +onlyGivenNames -underBinder v
  split
  with_reducible refine ResT.next ?_
  exact Touches.refl _ _
  split
  with_reducible refine ResT.next ?_
  extract_lets +onlyGivenNames -underBinder v
  with_reducible refine Touches.step ?_ (Foot.cursorTo ..) ?_
  assumption
  rfl
  with_reducible refine ResT.next ?_
  extract_lets +onlyGivenNames -underBinder v
  with_reducible refine Touches.step ?_ (Foot.cursorTo ..) ?_
  assumption
  rfl
  with_reducible refine ResT.next ?_
  extract_lets +onlyGivenNames -underBinder v
  with_reducible refine Touches.step ?_ (Foot.cursorTo ..) ?_
  assumption
  rfl

theorem Foot.cmdTokenRefill : ∀ x1 x2 s, ResT 0x580068a084 s (execTokenRefill x1 x2 s) := by
  intro x1 x2 s
  unfold execTokenRefill
  with_reducible refine ResT.next ?_
  extract_lets +onlyGivenNames -underBinder v
  with_reducible refine Touches.modEvr ?_ ?_
  extract_lets +onlyGivenNames -underBinder v
  with_reducible refine Touches.clockTo ?_ ?_
  exact Touches.refl _ _
  rfl
  rfl

theorem Foot.cmdSuppressedSummary : ∀ x1 x2 s, ResT 0x580068a084 s (execSuppressedSummary x1 x2 s) := by
  intro x1 x2 s
  unfold execSuppressedSummary
  extract_lets +onlyGivenNames -underBinder v
  have hv : Touches 0x580068a084 s v := by
    unfold v
    with_reducible refine Touches.clockTo ?_ ?_
    exact Touches.refl _ _
    rfl
  clear_value v
  split
  with_reducible refine ResT.next ?_
  assumption
  extract_lets +onlyGivenNames -underBinder v
  extract_lets +onlyGivenNames -underBinder v
  extract_lets +onlyGivenNames -underBinder v
  have hv : Touches 0x580068a084 s v := by
    unfold v
    with_reducible refine Touches.modEvr ?_ ?_
    assumption
    rfl
  clear_value v
  split
  split
  with_reducible refine ResT.next ?_
  extract_lets +onlyGivenNames -underBinder v
  with_reducible refine Touches.enqueueRec ?_ ?_
  assumption
  rfl
  with_reducible refine ResT.next ?_
  extract_lets +onlyGivenNames -underBinder v
  with_reducible refine Touches.modEvr ?_ ?_
  assumption
  rfl
  with_reducible refine ResT.next ?_
  assumption

theorem Foot.cmdSuppTableFull : ∀ x1 s, ResT 0x580068a084 s (execSuppTableFull x1 s) := by
  intro x1 s
  unfold execSuppTableFull
  extract_lets +onlyGivenNames -underBinder v
  have hv : Touches 0x580068a084 s v := by
    unfold v
    with_reducible refine Touches.clockTo ?_ ?_
    exact Touches.refl _ _
    rfl
  clear_value v
  extract_lets +onlyGivenNames -underBinder v
  split
  with_reducible refine ResT.next ?_
  assumption
  with_reducible refine ResT.next ?_
  extract_lets +onlyGivenNames -underBinder v
  with_reducible refine Touches.raise ?_ ?_
  extract_lets +onlyGivenNames -underBinder v
  with_reducible refine Touches.modEvr ?_ ?_
  assumption
  rfl
  rfl

end Sys2Proof.Machine
end

