-- ==== Sys2Proof/Laws/FootLayout.lean ====
section
/-! SUPPORT. The footprint of each operation of Machine/Layout.lean: the parts of the state it may change. -/

namespace Sys2Proof.Machine

theorem Foot.layOut : ∀ s, Touches 0x4000000 s (State.layOut s) := by
  intro s
  unfold State.layOut
  extract_lets +onlyGivenNames -underBinder v
  extract_lets +onlyGivenNames -underBinder v
  extract_lets +onlyGivenNames -underBinder v
  with_reducible refine Touches.modSaved ?_ ?_
  with_reducible exact Touches.refl _ _
  rfl

end Sys2Proof.Machine
end

