-- ==== Sys2Proof/Laws/FootMaint.lean ====
section
/-! SUPPORT. The footprint of each operation of Machine/Maint.lean: the parts of the state it may change. -/

namespace Sys2Proof.Machine

theorem Foot.pushUnit : ∀ s x1 x2 x3 x4, OptT 0x600000 s (State.pushUnit s x1 x2 x3 x4) := by
  intro s x1 x2 x3 x4
  unfold State.pushUnit
  extract_lets +onlyGivenNames -underBinder v
  split
  exact OptT.none
  with_reducible refine OptT.some ?_
  extract_lets +onlyGivenNames -underBinder v
  with_reducible refine Touches.modPort ?_ ?_ ?_
  with_reducible exact Touches.refl _ _
  rfl
  rfl

theorem Foot.pushUnits : ∀ x1 x2 s, OptT 0x600000 s (State.pushUnits x1 x2 s) := by
  intro x1 x2
  induction x2 with
  | nil => intro s; exact OptT.some (Touches.refl _ _)
  | cons e l ih =>
    intro s
    obtain ⟨a, b⟩ := e
    unfold State.pushUnits
    refine ⟨fun u h => ?_⟩
    obtain ⟨t, h1, h2⟩ := Option.bind_eq_some_iff.mp h
    exact OptT.get (ih t) h2 (OptT.get (Foot.pushUnit ..) h1 (Touches.refl _ _) rfl) rfl

theorem Foot.maintUnit : ∀ s x1, FstT 0x593f68a2bc s (State.maintUnit s x1) := by
  intro s x1
  unfold State.maintUnit
  have h0 : Touches 0x593f68a2bc s s := Touches.refl _ _
  extract_lets +onlyGivenNames -underBinder lines mine
  split
  · split
    · exact FstT.pair h0
    · split
      · rename_i e1
        exact FstT.pair (Touches.modStg (OptT.get (Foot.pushUnits ..) e1 h0 rfl) rfl)
      · exact FstT.pair h0
  · extract_lets +onlyGivenNames -underBinder line n staged dirty
    clear_value dirty staged
    split
    · exact FstT.pair h0
    split
    · exact FstT.pair h0
    split
    · split
      · exact FstT.pair h0
      · exact FstT.pair (Touches.modStg (Touches.incReg h0 rfl) rfl)
    · split
      · exact FstT.pair h0
      · split
        · refine FstT.pair ?_
          split
          · exact h0
          · exact Touches.step h0 (Foot.tryWb ..) rfl
        · split
          · exact FstT.pair h0
          · exact FstT.pair (Touches.step (Touches.modStg h0 rfl) (Foot.settleFrame ..) rfl)

theorem Foot.pushMaintAt : ∀ x1 x2 s, Touches 0xd93f68a2bc s (State.pushMaintAt x1 x2 s) := by
  intro x1 x2 s
  induction x2 generalizing s with
  | zero =>
    unfold State.pushMaintAt
    with_reducible exact Touches.refl _ _
  | succ n ih =>
    unfold State.pushMaintAt
    split
    with_reducible exact Touches.refl _ _
    extract_lets +onlyGivenNames -underBinder v
    have hv : Touches 0xd93f68a2bc s v := by
      unfold v
      with_reducible refine Touches.modStg ?_ ?_
      with_reducible exact Touches.refl _ _
      rfl
    clear_value v
    split
    with_reducible exact Touches.refl _ _
    split
    with_reducible refine Touches.step ?_ (Foot.mboxReply ..) ?_
    with_reducible assumption
    rfl
    split
    with_reducible refine FstT.get (Foot.maintUnit ..) (by assumption) ?_ ?_
    with_reducible exact Touches.refl _ _
    rfl
    extract_lets +onlyGivenNames -underBinder v
    have hv : Touches 0xd93f68a2bc s v := by
      unfold v
      split
      with_reducible refine Touches.incReg ?_ ?_
      extract_lets +onlyGivenNames -underBinder w
      with_reducible refine FstT.get (Foot.maintUnit ..) (by assumption) ?_ ?_
      with_reducible exact Touches.refl _ _
      rfl
      rfl
      with_reducible refine Touches.incReg ?_ ?_
      extract_lets +onlyGivenNames -underBinder w
      with_reducible refine FstT.get (Foot.maintUnit ..) (by assumption) ?_ ?_
      with_reducible exact Touches.refl _ _
      rfl
      rfl
      with_reducible refine Touches.incReg ?_ ?_
      extract_lets +onlyGivenNames -underBinder w
      with_reducible refine FstT.get (Foot.maintUnit ..) (by assumption) ?_ ?_
      with_reducible exact Touches.refl _ _
      rfl
      rfl
      with_reducible refine Touches.addReg ?_ ?_
      extract_lets +onlyGivenNames -underBinder w
      with_reducible refine FstT.get (Foot.maintUnit ..) (by assumption) ?_ ?_
      with_reducible exact Touches.refl _ _
      rfl
      rfl
    clear_value v
    with_reducible refine Touches.step ?_ (ih ..) ?_
    extract_lets +onlyGivenNames -underBinder v
    with_reducible refine Touches.modStg ?_ ?_
    with_reducible assumption
    rfl
    rfl

theorem Foot.pushMaint : ∀ s, Touches 0xd93f68a2bc s (State.pushMaint s) := by
  intro s
  unfold State.pushMaint
  with_reducible refine Touches.step ?_ (Foot.pushMaintAt ..) ?_
  extract_lets +onlyGivenNames -underBinder v
  with_reducible refine Touches.step ?_ (Foot.pushMaintAt ..) ?_
  with_reducible exact Touches.refl _ _
  rfl
  rfl

theorem Foot.failUnit : ∀ s x1 x2, Touches 0x1000000 s (State.failUnit s x1 x2) := by
  intro s x1 x2
  unfold State.failUnit
  with_reducible refine Touches.modStg ?_ ?_
  with_reducible exact Touches.refl _ _
  rfl

end Sys2Proof.Machine
end

