-- ==== Sys2Proof/Laws/FootMailbox.lean ====
section
/-! SUPPORT. The footprint of each operation of Machine/Mailbox.lean: the parts of the state it may change. -/

namespace Sys2Proof.Machine

theorem Foot.background : ∀ s x1 x2, Touches 0x8800e00004 s (State.background s x1 x2) := by
  intro s x1 x2
  unfold State.background
  with_reducible refine Touches.step ?_ (Foot.mboxReply ..) ?_
  extract_lets +onlyGivenNames -underBinder v
  with_reducible refine Touches.modSvc ?_ ?_
  with_reducible exact Touches.refl _ _
  rfl
  rfl

theorem Foot.done : ∀ s x1 x2 x3, Touches 0x8800600004 s (State.done s x1 x2 x3) := by
  intro s x1 x2 x3
  unfold State.done
  with_reducible refine Touches.step ?_ (Foot.mboxReply ..) ?_
  with_reducible exact Touches.refl _ _
  rfl

theorem Foot.fails : ∀ s x1 x2 x3, Touches 0x8800600004 s (State.fails s x1 x2 x3) := by
  intro s x1 x2 x3
  unfold State.fails
  with_reducible refine Touches.step ?_ (Foot.mboxReply ..) ?_
  with_reducible exact Touches.refl _ _
  rfl

theorem Foot.ringMbox : ∀ s x1, Touches 0x600004 s (State.ringMbox s x1) := by
  intro s x1
  unfold State.ringMbox
  split
  with_reducible refine Touches.setBits ?_ ?_
  extract_lets +onlyGivenNames -underBinder v
  with_reducible refine Touches.modPort ?_ ?_ ?_
  with_reducible exact Touches.refl _ _
  rfl
  rfl
  extract_lets +onlyGivenNames -underBinder v
  (simp <;> rfl)
  with_reducible exact Touches.refl _ _

theorem Foot.holdMbox : ∀ s x1, Touches 0x600004 s (State.holdMbox s x1) := by
  intro s x1
  unfold State.holdMbox
  split
  split
  with_reducible refine Touches.setBits ?_ ?_
  extract_lets +onlyGivenNames -underBinder v
  with_reducible refine Touches.step ?_ (Foot.ringMbox ..) ?_
  with_reducible exact Touches.refl _ _
  rfl
  extract_lets +onlyGivenNames -underBinder v
  (simp <;> rfl)
  with_reducible refine Touches.step ?_ (Foot.ringMbox ..) ?_
  with_reducible exact Touches.refl _ _
  rfl
  with_reducible exact Touches.refl _ _

theorem Foot.mbox {m : Nat} {s t : State} {run : State → State} {x1} {x2} {x3} {x4} (a : Touches m s t) (hm : 0x8800600004 ||| m = m)
    (hr : ∀ u, Touches m s u → Touches m s (run u)) : ResT m s (State.mbox t x1 x2 x3 x4 run) := by
  unfold State.mbox
  split
  with_reducible refine ResT.next ?_
  with_reducible assumption
  split
  with_reducible refine ResT.next ?_
  extract_lets +onlyGivenNames -underBinder v
  with_reducible refine Touches.step ?_ (Foot.holdMbox ..) ?_
  with_reducible assumption
  exact sub_of rfl hm
  split
  with_reducible refine ResT.next ?_
  extract_lets +onlyGivenNames -underBinder v
  with_reducible refine Touches.step ?_ (Foot.mboxReply ..) ?_
  with_reducible assumption
  with_reducible assumption
  split
  with_reducible refine ResT.next ?_
  extract_lets +onlyGivenNames -underBinder v
  with_reducible refine Touches.step ?_ (Foot.mboxReply ..) ?_
  with_reducible assumption
  with_reducible assumption
  with_reducible refine ResT.next ?_
  extract_lets +onlyGivenNames -underBinder v
  split
  with_reducible refine Touches.step ?_ (Foot.mboxReply ..) ?_
  with_reducible assumption
  with_reducible assumption
  with_reducible refine hr _ ?_
  with_reducible assumption

theorem Foot.query {m : Nat} {s t : State} {run : State → State} {x1} {x2} (a : Touches m s t) (hm : 0x8800600004 ||| m = m)
    (hr : ∀ u, Touches m s u → Touches m s (run u)) : ResT m s (State.query t x1 x2 run) := by
  unfold State.query
  with_reducible refine Foot.mbox ?_ ?_ (fun _ _ => ?_)
  with_reducible assumption
  with_reducible assumption
  with_reducible refine hr _ ?_
  with_reducible assumption

theorem Foot.vendorFails : ∀ s x1 x2 x3, Touches 0x8800600004 s (State.vendorFails s x1 x2 x3) := by
  intro s x1 x2 x3
  unfold State.vendorFails
  with_reducible refine Touches.step ?_ (Foot.mboxReply ..) ?_
  with_reducible exact Touches.refl _ _
  rfl

theorem Foot.markStaged : ∀ s x1, Touches 0x1000000 s (State.markStaged s x1) := by
  intro s x1
  unfold State.markStaged
  split
  split
  with_reducible refine Touches.modStg ?_ ?_
  with_reducible exact Touches.refl _ _
  rfl
  with_reducible exact Touches.refl _ _
  with_reducible exact Touches.refl _ _

theorem Foot.setFwSlot : ∀ s x1 x2, Touches 0x800000 s (State.setFwSlot s x1 x2) := by
  intro s x1 x2
  unfold State.setFwSlot
  with_reducible refine Touches.modSvc ?_ ?_
  with_reducible exact Touches.refl _ _
  rfl

theorem Foot.cmdIdentify : ∀ x1 s, ResT 0x8800600004 s (execIdentify x1 s) := by
  intro x1 s
  unfold execIdentify
  with_reducible refine Foot.query ?_ ?_ (fun _ _ => ?_)
  with_reducible exact Touches.refl _ _
  rfl
  extract_lets +onlyGivenNames -underBinder v
  with_reducible refine Touches.step ?_ (Foot.done ..) ?_
  with_reducible assumption
  rfl

theorem Foot.cmdBackgroundOperationStatus : ∀ x1 s, ResT 0x18800600004 s (execBackgroundOperationStatus x1 s) := by
  intro x1 s
  unfold execBackgroundOperationStatus
  with_reducible refine Foot.query ?_ ?_ (fun _ _ => ?_)
  with_reducible exact Touches.refl _ _
  rfl
  extract_lets +onlyGivenNames -underBinder v
  split
  with_reducible refine Touches.useFree ?_ ?_
  extract_lets +onlyGivenNames -underBinder v
  with_reducible refine Touches.step ?_ (Foot.done ..) ?_
  with_reducible assumption
  rfl
  rfl
  with_reducible refine Touches.step ?_ (Foot.done ..) ?_
  with_reducible assumption
  rfl
  with_reducible refine Touches.step ?_ (Foot.done ..) ?_
  with_reducible assumption
  rfl

theorem Foot.cmdGetEventRecords : ∀ x1 x2 s, ResT 0x8800600004 s (execGetEventRecords x1 x2 s) := by
  intro x1 x2 s
  unfold execGetEventRecords
  with_reducible refine Foot.query ?_ ?_ (fun _ _ => ?_)
  with_reducible exact Touches.refl _ _
  rfl
  extract_lets +onlyGivenNames -underBinder v
  extract_lets +onlyGivenNames -underBinder v
  with_reducible refine Touches.step ?_ (Foot.done ..) ?_
  with_reducible assumption
  rfl

theorem Foot.cmdClearEventRecords : ∀ x1 x2 x3 x4 s, ResT 0x8800600004 s (execClearEventRecords x1 x2 x3 x4 s) := by
  intro x1 x2 x3 x4 s
  refine Foot.query (Touches.refl _ _) rfl fun u h => ?_
  extract_lets +onlyGivenNames -underBinder p l
  split
  · exact Touches.step (Touches.modPort h rfl rfl) (Foot.done ..) rfl
  split
  · exact Touches.step (Touches.modPort h rfl rfl) (Foot.done ..) rfl
  · exact Touches.step h (Foot.fails ..) rfl

theorem Foot.cmdGetEventInterruptPolicy : ∀ x1 s, ResT 0x8800600004 s (execGetEventInterruptPolicy x1 s) := by
  intro x1 s
  unfold execGetEventInterruptPolicy
  with_reducible refine Foot.query ?_ ?_ (fun _ _ => ?_)
  with_reducible exact Touches.refl _ _
  rfl
  extract_lets +onlyGivenNames -underBinder v
  with_reducible refine Touches.step ?_ (Foot.done ..) ?_
  with_reducible assumption
  rfl

theorem Foot.cmdSetEventInterruptPolicy : ∀ x1 x2 s, ResT 0x8800600004 s (execSetEventInterruptPolicy x1 x2 s) := by
  intro x1 x2 s
  unfold execSetEventInterruptPolicy
  with_reducible refine Foot.query ?_ ?_ (fun _ _ => ?_)
  with_reducible exact Touches.refl _ _
  rfl
  extract_lets +onlyGivenNames -underBinder v
  with_reducible refine Touches.step ?_ (Foot.done ..) ?_
  extract_lets +onlyGivenNames -underBinder v
  with_reducible refine Touches.modPort ?_ ?_ ?_
  with_reducible assumption
  rfl
  rfl
  rfl

theorem Foot.cmdGetFwInfo : ∀ x1 s, ResT 0x8800600004 s (execGetFwInfo x1 s) := by
  intro x1 s
  unfold execGetFwInfo
  with_reducible refine Foot.query ?_ ?_ (fun _ _ => ?_)
  with_reducible exact Touches.refl _ _
  rfl
  extract_lets +onlyGivenNames -underBinder v
  extract_lets +onlyGivenNames -underBinder v
  with_reducible refine Touches.step ?_ (Foot.done ..) ?_
  with_reducible assumption
  rfl

theorem Foot.cmdTransferFw : ∀ x1 x2 x3 x4 x5 s, ResT 0x8800e00004 s (execTransferFw x1 x2 x3 x4 x5 s) := by
  intro x1 x2 x3 x4 x5 s
  unfold execTransferFw
  with_reducible refine Foot.mbox ?_ ?_ (fun _ _ => ?_)
  with_reducible exact Touches.refl _ _
  rfl
  extract_lets +onlyGivenNames -underBinder v
  extract_lets +onlyGivenNames -underBinder v
  extract_lets +onlyGivenNames -underBinder v
  extract_lets +onlyGivenNames -underBinder v
  extract_lets +onlyGivenNames -underBinder v
  extract_lets +onlyGivenNames -underBinder v
  have hv : Touches 0x8800e00004 s v := by
    unfold v
    with_reducible refine Touches.step ?_ (Foot.setFwSlot ..) ?_
    with_reducible assumption
    rfl
  clear_value v
  extract_lets +onlyGivenNames -underBinder v
  have hv : Touches 0x8800e00004 s v := by
    unfold v
    with_reducible refine Touches.modSvc ?_ ?_
    with_reducible assumption
    rfl
  clear_value v
  split
  with_reducible refine Touches.step ?_ (Foot.fails ..) ?_
  with_reducible assumption
  rfl
  split
  with_reducible refine Touches.step ?_ (Foot.fails ..) ?_
  with_reducible assumption
  rfl
  with_reducible refine Touches.step ?_ (Foot.fails ..) ?_
  extract_lets +onlyGivenNames -underBinder v
  with_reducible refine Touches.modSvc ?_ ?_
  extract_lets +onlyGivenNames -underBinder v
  with_reducible refine Touches.modPst ?_ ?_
  with_reducible assumption
  rfl
  rfl
  rfl

theorem Foot.cmdActivateFw : ∀ x1 x2 s, ResT 0x8800600004 s (execActivateFw x1 x2 s) := by
  intro x1 x2 s
  refine Foot.mbox (Touches.refl _ _) rfl fun u h => ?_
  split
  · exact Touches.step (Touches.step h (Foot.queueConfig ..) rfl) (Foot.done ..) rfl
  · exact Touches.step h (Foot.fails ..) rfl

theorem Foot.cmdGetTimestamp : ∀ x1 x2 s, ResT 0x8800600004 s (execGetTimestamp x1 x2 s) := by
  intro x1 x2 s
  unfold execGetTimestamp
  with_reducible refine Foot.query ?_ ?_ (fun _ _ => ?_)
  with_reducible exact Touches.refl _ _
  rfl
  extract_lets +onlyGivenNames -underBinder v
  with_reducible refine Touches.step ?_ (Foot.done ..) ?_
  with_reducible assumption
  rfl

theorem Foot.cmdSetTimestamp : ∀ x1 x2 x3 s, ResT 0xd86268a0c4 s (execSetTimestamp x1 x2 x3 s) := by
  intro x1 x2 x3 s
  refine Foot.query (Touches.refl _ _) rfl fun u h => ?_
  extract_lets +onlyGivenNames -underBinder a b
  split
  rename_i v ok e
  have hv : Touches 0xd86268a0c4 s v := FstT.get (Foot.discipline ..) e h rfl
  split
  · refine Touches.step ?_ (Foot.done ..) rfl
    split
    · exact Touches.step hv (Foot.ageGap ..) rfl
    · exact hv
  · exact Touches.step hv (Foot.fails ..) rfl

theorem Foot.cmdGetSupportedLogs : ∀ x1 s, ResT 0x8800600004 s (execGetSupportedLogs x1 s) := by
  intro x1 s
  unfold execGetSupportedLogs
  with_reducible refine Foot.query ?_ ?_ (fun _ _ => ?_)
  with_reducible exact Touches.refl _ _
  rfl
  extract_lets +onlyGivenNames -underBinder v
  with_reducible refine Touches.step ?_ (Foot.done ..) ?_
  with_reducible assumption
  rfl

theorem Foot.cmdGetLog : ∀ x1 x2 x3 x4 s, ResT 0x18800600004 s (execGetLog x1 x2 x3 x4 s) := by
  intro x1 x2 x3 x4 s
  refine Foot.query (Touches.refl _ _) rfl fun u h => ?_
  extract_lets +onlyGivenNames -underBinder cut
  clear_value cut
  split
  · exact Touches.step (Touches.useFrees h rfl) (Foot.done ..) rfl
  · split
    · exact Touches.step h (Foot.fails ..) rfl
    · exact Touches.step h (Foot.done ..) rfl
  · exact Touches.step h (Foot.done ..) rfl

theorem Foot.cmdIdentifyMemoryDevice : ∀ x1 s, ResT 0x8800600004 s (execIdentifyMemoryDevice x1 s) := by
  intro x1 s
  unfold execIdentifyMemoryDevice
  with_reducible refine Foot.query ?_ ?_ (fun _ _ => ?_)
  with_reducible exact Touches.refl _ _
  rfl
  extract_lets +onlyGivenNames -underBinder v
  with_reducible refine Touches.step ?_ (Foot.done ..) ?_
  with_reducible assumption
  rfl

theorem Foot.cmdGetLsa : ∀ x1 x2 x3 s, ResT 0x8800600004 s (execGetLsa x1 x2 x3 s) := by
  intro x1 x2 x3 s
  unfold execGetLsa
  with_reducible refine Foot.query ?_ ?_ (fun _ _ => ?_)
  with_reducible exact Touches.refl _ _
  rfl
  extract_lets +onlyGivenNames -underBinder v
  split
  with_reducible refine Touches.step ?_ (Foot.fails ..) ?_
  with_reducible assumption
  rfl
  split
  with_reducible refine Touches.step ?_ (Foot.fails ..) ?_
  with_reducible assumption
  rfl
  with_reducible refine Touches.step ?_ (Foot.done ..) ?_
  with_reducible assumption
  rfl

theorem Foot.cmdSetLsa : ∀ x1 x2 x3 s, ResT 0x8800600004 s (execSetLsa x1 x2 x3 s) := by
  intro x1 x2 x3 s
  unfold execSetLsa
  with_reducible refine Foot.query ?_ ?_ (fun _ _ => ?_)
  with_reducible exact Touches.refl _ _
  rfl
  extract_lets +onlyGivenNames -underBinder v
  split
  with_reducible refine Touches.step ?_ (Foot.fails ..) ?_
  with_reducible assumption
  rfl
  split
  with_reducible refine Touches.step ?_ (Foot.fails ..) ?_
  with_reducible assumption
  rfl
  with_reducible refine Touches.step ?_ (Foot.fails ..) ?_
  extract_lets +onlyGivenNames -underBinder v
  with_reducible refine Touches.modPort ?_ ?_ ?_
  with_reducible assumption
  rfl
  rfl
  rfl

theorem Foot.cmdGetHealthInfo : ∀ x1 s, ResT 0x8800600004 s (execGetHealthInfo x1 s) := by
  intro x1 s
  unfold execGetHealthInfo
  with_reducible refine Foot.query ?_ ?_ (fun _ _ => ?_)
  with_reducible exact Touches.refl _ _
  rfl
  extract_lets +onlyGivenNames -underBinder v
  with_reducible refine Touches.step ?_ (Foot.done ..) ?_
  with_reducible assumption
  rfl

theorem Foot.cmdGetShutdownState : ∀ x1 s, ResT 0x8800600004 s (execGetShutdownState x1 s) := by
  intro x1 s
  unfold execGetShutdownState
  with_reducible refine Foot.query ?_ ?_ (fun _ _ => ?_)
  with_reducible exact Touches.refl _ _
  rfl
  extract_lets +onlyGivenNames -underBinder v
  with_reducible refine Touches.step ?_ (Foot.done ..) ?_
  with_reducible assumption
  rfl

theorem Foot.cmdSetShutdownState : ∀ x1 x2 s, ResT 0x8800600004 s (execSetShutdownState x1 x2 s) := by
  intro x1 x2 s
  unfold execSetShutdownState
  with_reducible refine Foot.mbox ?_ ?_ (fun _ _ => ?_)
  with_reducible exact Touches.refl _ _
  rfl
  extract_lets +onlyGivenNames -underBinder v
  with_reducible refine Touches.step ?_ (Foot.done ..) ?_
  extract_lets +onlyGivenNames -underBinder v
  with_reducible refine Touches.step ?_ (Foot.queueDeed ..) ?_
  with_reducible assumption
  rfl
  rfl

theorem Foot.cmdGetPoison : ∀ x1 x2 x3 s, ResT 0x8800600004 s (execGetPoison x1 x2 x3 s) := by
  intro x1 x2 x3 s
  unfold execGetPoison
  with_reducible refine Foot.query ?_ ?_ (fun _ _ => ?_)
  with_reducible exact Touches.refl _ _
  rfl
  extract_lets +onlyGivenNames -underBinder v
  split
  with_reducible refine Touches.step ?_ (Foot.fails ..) ?_
  with_reducible assumption
  rfl
  with_reducible refine Touches.step ?_ (Foot.done ..) ?_
  with_reducible assumption
  rfl

theorem Foot.cmdInjectPoison : ∀ x1 x2 s, ResT 0x8801e00004 s (execInjectPoison x1 x2 s) := by
  intro x1 x2 s
  unfold execInjectPoison
  with_reducible refine Foot.query ?_ ?_ (fun _ _ => ?_)
  with_reducible exact Touches.refl _ _
  rfl
  extract_lets +onlyGivenNames -underBinder v
  split
  with_reducible refine Touches.step ?_ (Foot.fails ..) ?_
  with_reducible assumption
  rfl
  split
  with_reducible refine Touches.step ?_ (Foot.fails ..) ?_
  with_reducible assumption
  rfl
  split
  with_reducible refine Touches.step ?_ (Foot.fails ..) ?_
  with_reducible assumption
  rfl
  split
  with_reducible refine Touches.step ?_ (Foot.fails ..) ?_
  with_reducible assumption
  rfl
  with_reducible refine Touches.step ?_ (Foot.fails ..) ?_
  extract_lets +onlyGivenNames -underBinder v
  with_reducible refine Touches.step ?_ (Foot.markStaged ..) ?_
  extract_lets +onlyGivenNames -underBinder v
  with_reducible refine Touches.modSvc ?_ ?_
  extract_lets +onlyGivenNames -underBinder v
  with_reducible refine Touches.step ?_ (Foot.addPoison ..) ?_
  with_reducible assumption
  rfl
  rfl
  rfl
  rfl

theorem Foot.cmdClearPoison : ∀ x1 x2 x3 s, ResT 0x8800e00004 s (execClearPoison x1 x2 x3 s) := by
  intro x1 x2 x3 s
  unfold execClearPoison
  with_reducible refine Foot.query ?_ ?_ (fun _ _ => ?_)
  with_reducible exact Touches.refl _ _
  rfl
  extract_lets +onlyGivenNames -underBinder v
  split
  with_reducible refine Touches.step ?_ (Foot.fails ..) ?_
  with_reducible assumption
  rfl
  split
  with_reducible refine Touches.step ?_ (Foot.fails ..) ?_
  with_reducible assumption
  rfl
  split
  with_reducible refine Touches.step ?_ (Foot.fails ..) ?_
  extract_lets +onlyGivenNames -underBinder v
  with_reducible refine Touches.step ?_ (Foot.dropPoison ..) ?_
  extract_lets +onlyGivenNames -underBinder v
  with_reducible refine OptT.get (Foot.pushUnit ..) (by assumption) ?_ ?_
  with_reducible assumption
  rfl
  rfl
  rfl
  with_reducible refine Touches.step ?_ (Foot.fails ..) ?_
  with_reducible assumption
  rfl

theorem Foot.cmdGetScanMediaCapabilities : ∀ x1 x2 x3 s, ResT 0x18800600004 s (execGetScanMediaCapabilities x1 x2 x3 s) := by
  intro x1 x2 x3 s
  refine Foot.query (Touches.refl _ _) rfl fun u h => ?_
  split
  · exact Touches.useFree (Touches.step h (Foot.done ..) rfl) rfl
  · exact Touches.step h (Foot.fails ..) rfl

theorem Foot.cmdScanMedia : ∀ x1 x2 x3 s, ResT 0x8800e00004 s (execScanMedia x1 x2 x3 s) := by
  intro x1 x2 x3 s
  unfold execScanMedia
  with_reducible refine Foot.mbox ?_ ?_ (fun _ _ => ?_)
  with_reducible exact Touches.refl _ _
  rfl
  extract_lets +onlyGivenNames -underBinder v
  split
  with_reducible refine Touches.step ?_ (Foot.fails ..) ?_
  with_reducible assumption
  rfl
  split
  with_reducible refine Touches.step ?_ (Foot.fails ..) ?_
  with_reducible assumption
  rfl
  with_reducible refine Touches.step ?_ (Foot.fails ..) ?_
  extract_lets +onlyGivenNames -underBinder v
  with_reducible refine Touches.modSvc ?_ ?_
  extract_lets +onlyGivenNames -underBinder v
  with_reducible refine Touches.modSvc ?_ ?_
  with_reducible assumption
  rfl
  rfl
  rfl

theorem Foot.cmdScanMediaComplete : ∀ x1 s, ResT 0x800000 s (execScanMediaComplete x1 s) := by
  intro x1 s
  unfold execScanMediaComplete
  split
  with_reducible refine ResT.next ?_
  with_reducible exact Touches.refl _ _
  extract_lets +onlyGivenNames -underBinder v
  extract_lets +onlyGivenNames -underBinder v
  extract_lets +onlyGivenNames -underBinder v
  extract_lets +onlyGivenNames -underBinder v
  split
  with_reducible refine ResT.next ?_
  with_reducible exact Touches.refl _ _
  with_reducible refine ResT.next ?_
  extract_lets +onlyGivenNames -underBinder v
  with_reducible refine Touches.step ?_ (Foot.endBackground ..) ?_
  extract_lets +onlyGivenNames -underBinder v
  with_reducible refine Touches.modSvc ?_ ?_
  with_reducible exact Touches.refl _ _
  rfl
  rfl

theorem Foot.cmdGetScanMediaResults : ∀ x1 s, ResT 0x8800600004 s (execGetScanMediaResults x1 s) := by
  intro x1 s
  unfold execGetScanMediaResults
  with_reducible refine Foot.query ?_ ?_ (fun _ _ => ?_)
  with_reducible exact Touches.refl _ _
  rfl
  extract_lets +onlyGivenNames -underBinder v
  with_reducible refine Touches.step ?_ (Foot.done ..) ?_
  with_reducible assumption
  rfl

theorem Foot.cmdUnsupportedOpcode : ∀ x1 x2 s, ResT 0x8800600004 s (execUnsupportedOpcode x1 x2 s) := by
  intro x1 x2 s
  unfold execUnsupportedOpcode
  split
  with_reducible refine ResT.next ?_
  with_reducible exact Touches.refl _ _
  with_reducible refine Foot.query ?_ ?_ (fun _ _ => ?_)
  with_reducible exact Touches.refl _ _
  rfl
  extract_lets +onlyGivenNames -underBinder v
  with_reducible refine Touches.step ?_ (Foot.fails ..) ?_
  with_reducible assumption
  rfl

end Sys2Proof.Machine
end

