-- ==== Sys2Proof/Laws/FootSecurity.lean ====
section
/-! SUPPORT. The footprint of each operation of Machine/Security.lean: the parts of the state it may change. -/

namespace Sys2Proof.Machine

theorem Foot.eraseKeys : ∀ s x1, Touches 0x10a00000000 s (State.eraseKeys s x1) := by
  intro s x1
  unfold State.eraseKeys
  extract_lets +onlyGivenNames -underBinder v
  split
  extract_lets +onlyGivenNames -underBinder v
  have hv : Touches 0x10a00000000 s v := by
    unfold v
    with_reducible refine Touches.step ?_ (Foot.queueWrap ..) ?_
    extract_lets +onlyGivenNames -underBinder w
    with_reducible refine FstT.get (Foot.freshKey ..) (by assumption) ?_ ?_
    with_reducible exact Touches.refl _ _
    rfl
    rfl
  clear_value v
  split
  extract_lets +onlyGivenNames -underBinder v
  have hv : Touches 0x10a00000000 s v := by
    unfold v
    with_reducible refine Touches.step ?_ (Foot.queueWrap ..) ?_
    extract_lets +onlyGivenNames -underBinder w
    with_reducible refine FstT.get (Foot.wrapKey ..) (by assumption) ?_ ?_
    with_reducible assumption
    rfl
    rfl
  clear_value v
  split
  with_reducible refine Touches.step ?_ (Foot.queueWrap ..) ?_
  extract_lets +onlyGivenNames -underBinder v
  with_reducible refine FstT.fst (Foot.wrapKey ..) ?_ ?_
  with_reducible assumption
  rfl
  rfl
  with_reducible assumption

theorem Foot.drawn {m : Nat} {s t : State} {run : State → State} {x1} {x2} (a : Touches m s t) (hm : 0x8800600004 ||| m = m)
    (hr : ∀ u, Touches m s u → Touches m s (run u)) : Touches m s (State.drawn t x1 x2 run) := by
  unfold State.drawn
  split
  with_reducible refine Touches.step ?_ (Foot.fails ..) ?_
  with_reducible assumption
  with_reducible assumption
  with_reducible refine hr _ ?_
  with_reducible assumption

theorem Foot.forgetData : ∀ s, Touches 0x101800000 s (State.forgetData s) := by
  intro s
  unfold State.forgetData
  extract_lets +onlyGivenNames -underBinder v
  have hv : Touches 0x101800000 s v := by
    unfold v
    with_reducible refine Touches.modStg ?_ ?_
    with_reducible exact Touches.refl _ _
    rfl
  clear_value v
  extract_lets +onlyGivenNames -underBinder v
  have hv : Touches 0x101800000 s v := by
    unfold v
    with_reducible refine Touches.modSvc ?_ ?_
    with_reducible assumption
    rfl
  clear_value v
  with_reducible refine Touches.modIme ?_ ?_
  with_reducible assumption
  rfl

theorem Foot.passRight : ∀ s, Touches 0x800000 s (State.passRight s) := by
  intro s
  unfold State.passRight
  with_reducible refine Touches.modSvc ?_ ?_
  with_reducible exact Touches.refl _ _
  rfl

theorem Foot.passWrong : ∀ s x1 x2, Touches 0xd800e8a484 s (State.passWrong s x1 x2) := by
  intro s x1 x2
  unfold State.passWrong
  with_reducible refine Touches.step ?_ (Foot.fails ..) ?_
  extract_lets +onlyGivenNames -underBinder v
  with_reducible refine Touches.flag ?_ ?_ ?_
  extract_lets +onlyGivenNames -underBinder v
  with_reducible refine Touches.incReg ?_ ?_
  extract_lets +onlyGivenNames -underBinder v
  with_reducible refine Touches.step ?_ (Foot.passFail ..) ?_
  with_reducible exact Touches.refl _ _
  rfl
  rfl
  rfl
  rfl
  rfl

theorem Foot.rewrap : ∀ s x1 x2, Touches 0x15a0068a084 s (State.rewrap s x1 x2) := by
  intro s x1 x2
  unfold State.rewrap
  extract_lets +onlyGivenNames -underBinder v
  with_reducible refine Touches.foldl (fun _ _ _ => ?_) ?_
  extract_lets +onlyGivenNames -underBinder v
  split
  with_reducible refine Touches.step ?_ (Foot.queueWrap ..) ?_
  extract_lets +onlyGivenNames -underBinder v
  with_reducible refine FstT.fst (Foot.wrapKey ..) ?_ ?_
  with_reducible assumption
  rfl
  rfl
  with_reducible refine Touches.raise ?_ ?_
  with_reducible assumption
  rfl
  with_reducible exact Touches.refl _ _

theorem Foot.sanitizeLost : ∀ s, Touches 0xffdfffffff s (State.sanitizeLost s) := by
  intro s
  unfold State.sanitizeLost
  have h0 : Touches 0xffdfffffff s s := Touches.refl _ _
  extract_lets +onlyGivenNames -underBinder tracts s1 s2 s3 s4
  have h1 : Touches 0xffdfffffff s s1 := Touches.modCds (Touches.step h0 (Foot.forgetData ..) rfl) rfl
  have h2 : Touches 0xffdfffffff s s2 := Touches.modPfl h1 rfl
  have h3 : Touches 0xffdfffffff s s3 := Touches.modTrv (Touches.modMed h2 rfl) rfl
  have h4 : Touches 0xffdfffffff s s4 := Touches.step (Touches.step h3 (Foot.saveMap ..) rfl) (Foot.queueConfig ..) rfl
  exact Touches.step (Touches.step h4 (Foot.endBackground ..) rfl) (Foot.performReset ..) rfl

theorem Foot.sanitizeMap : ∀ s, Touches 0x13f800000 s (State.sanitizeMap s) := by
  intro s
  unfold State.sanitizeMap
  have h0 : Touches 0x13f800000 s s := Touches.refl _ _
  extract_lets +onlyGivenNames -underBinder p keep held s1 s2 s3 s4 s5
  have h1 : Touches 0x13f800000 s s1 := Touches.modCds (Touches.step h0 (Foot.forgetData ..) rfl) rfl
  have h2 : Touches 0x13f800000 s s2 := Touches.modMed h1 rfl
  have h3 : Touches 0x13f800000 s s3 := Touches.modTrv h2 rfl
  have h4 : Touches 0x13f800000 s s4 := Touches.modMdc h3 rfl
  have h5 : Touches 0x13f800000 s s5 := Touches.modIme h4 rfl
  exact Touches.step h5 (Foot.saveMap ..) rfl

theorem Foot.secured {m : Nat} {s t : State} {run : State → State} {x1} {x2} {x3} (a : Touches m s t) (hm : 0x8800600004 ||| m = m)
    (hr : ∀ u, Touches m s u → Touches m s (run u)) : Touches m s (State.secured t x1 x2 x3 run) := by
  unfold State.secured
  extract_lets +onlyGivenNames -underBinder v
  split
  with_reducible refine Touches.step ?_ (Foot.fails ..) ?_
  with_reducible assumption
  with_reducible assumption
  split
  with_reducible refine Touches.step ?_ (Foot.holdMbox ..) ?_
  with_reducible assumption
  exact sub_of rfl hm
  with_reducible refine hr _ ?_
  with_reducible assumption

theorem Foot.setPass : ∀ s x1, Touches 0x800000 s (State.setPass s x1) := by
  intro s x1
  unfold State.setPass
  with_reducible refine Touches.step ?_ (Foot.settlePass ..) ?_
  extract_lets +onlyGivenNames -underBinder v
  with_reducible refine Touches.modSvc ?_ ?_
  with_reducible exact Touches.refl _ _
  rfl
  rfl

theorem Foot.unlockKeys : ∀ s, Touches 0x100800000 s (State.unlockKeys s) := by
  intro s
  unfold State.unlockKeys
  extract_lets +onlyGivenNames -underBinder v
  extract_lets +onlyGivenNames -underBinder v
  have hv : Touches 0x100800000 s v := by
    unfold v
    with_reducible refine Touches.modIme ?_ ?_
    with_reducible exact Touches.refl _ _
    rfl
  clear_value v
  with_reducible refine Touches.modSvc ?_ ?_
  with_reducible assumption
  rfl

theorem Foot.cmdSanitize : ∀ x1 s, ResT 0x18a00e00004 s (execSanitize x1 s) := by
  intro x1 s
  unfold execSanitize
  with_reducible refine Foot.mbox ?_ ?_ (fun _ _ => ?_)
  with_reducible exact Touches.refl _ _
  rfl
  extract_lets +onlyGivenNames -underBinder v
  split
  with_reducible refine Touches.step ?_ (Foot.fails ..) ?_
  with_reducible assumption
  rfl
  with_reducible refine Foot.drawn ?_ ?_ (fun _ _ => ?_)
  with_reducible assumption
  rfl
  extract_lets +onlyGivenNames -underBinder v
  have hv : Touches 0x18a00e00004 s v := by
    unfold v
    with_reducible refine Touches.modSvc ?_ ?_
    with_reducible assumption
    rfl
  clear_value v
  extract_lets +onlyGivenNames -underBinder v
  have hv : Touches 0x18a00e00004 s v := by
    unfold v
    with_reducible refine Touches.foldl (fun _ _ _ => ?_) ?_
    extract_lets +onlyGivenNames -underBinder w
    with_reducible refine Touches.step ?_ (Foot.eraseKeys ..) ?_
    with_reducible assumption
    rfl
    with_reducible assumption
  clear_value v
  with_reducible refine Touches.step ?_ (Foot.fails ..) ?_
  extract_lets +onlyGivenNames -underBinder v
  with_reducible refine Touches.modSvc ?_ ?_
  extract_lets +onlyGivenNames -underBinder v
  with_reducible refine Touches.step ?_ (Foot.pstQueue ..) ?_
  with_reducible assumption
  rfl
  rfl
  rfl

theorem Foot.cmdSecureErase : ∀ x1 s, ResT 0x18a00e00004 s (execSecureErase x1 s) := by
  intro x1 s
  unfold execSecureErase
  with_reducible refine Foot.mbox ?_ ?_ (fun _ _ => ?_)
  with_reducible exact Touches.refl _ _
  rfl
  extract_lets +onlyGivenNames -underBinder v
  split
  with_reducible refine Touches.step ?_ (Foot.fails ..) ?_
  with_reducible assumption
  rfl
  with_reducible refine Foot.drawn ?_ ?_ (fun _ _ => ?_)
  with_reducible assumption
  rfl
  extract_lets +onlyGivenNames -underBinder v
  have hv : Touches 0x18a00e00004 s v := by
    unfold v
    with_reducible refine Touches.modSvc ?_ ?_
    with_reducible assumption
    rfl
  clear_value v
  with_reducible refine Touches.step ?_ (Foot.fails ..) ?_
  extract_lets +onlyGivenNames -underBinder v
  with_reducible refine Touches.modSvc ?_ ?_
  extract_lets +onlyGivenNames -underBinder v
  with_reducible refine Touches.foldl (fun _ _ _ => ?_) ?_
  extract_lets +onlyGivenNames -underBinder v
  with_reducible refine Touches.step ?_ (Foot.eraseKeys ..) ?_
  with_reducible assumption
  rfl
  with_reducible assumption
  rfl
  rfl

theorem Foot.cmdSecureEraseComplete : ∀ x1 s, ResT 0x793fece2fd s (execSecureEraseComplete x1 s) := by
  intro x1 s
  unfold execSecureEraseComplete
  have h0 : Touches 0x793fece2fd s s := Touches.refl _ _
  extract_lets +onlyGivenNames -underBinder s1
  have h1 : Touches 0x793fece2fd s s1 := Touches.clockTo h0 rfl
  clear_value s1
  split
  · exact ResT.next h1
  extract_lets +onlyGivenNames -underBinder p gone before s2 s3
  have h2 : Touches 0x793fece2fd s s2 := Touches.step (Touches.step h1 (Foot.forgetData ..) rfl) (Foot.mapCommit ..) rfl
  have h3 : Touches 0x793fece2fd s s3 := Touches.modSaved h2 rfl
  exact ResT.next (Touches.step (Touches.step h3 (Foot.afterRetire ..) rfl) (Foot.endBackground ..) rfl)

theorem Foot.cmdGetSecurityState : ∀ x1 s, ResT 0x8800600004 s (execGetSecurityState x1 s) := by
  intro x1 s
  unfold execGetSecurityState
  with_reducible refine Foot.query ?_ ?_ (fun _ _ => ?_)
  with_reducible exact Touches.refl _ _
  rfl
  extract_lets +onlyGivenNames -underBinder v
  extract_lets +onlyGivenNames -underBinder v
  with_reducible refine Touches.step ?_ (Foot.done ..) ?_
  with_reducible assumption
  rfl

theorem Foot.cmdSetPassphrase : ∀ x1 x2 x3 x4 s, ResT 0x1da00e8a484 s (execSetPassphrase x1 x2 x3 x4 s) := by
  intro x1 x2 x3 x4 s
  refine Foot.mbox (Touches.refl _ _) rfl fun u h => ?_
  refine Foot.secured h rfl fun u h => ?_
  split
  · exact Touches.step h (Foot.fails ..) rfl
  split
  · exact Touches.step h (Foot.passWrong ..) rfl
  · exact Touches.step (Touches.step (Touches.step (Touches.step h (Foot.passRight ..) rfl) (Foot.rewrap ..) rfl) (Foot.setPass ..) rfl) (Foot.done ..) rfl

theorem Foot.cmdDisablePassphrase : ∀ x1 x2 s, ResT 0x1da00e8a484 s (execDisablePassphrase x1 x2 s) := by
  intro x1 x2 s
  refine Foot.mbox (Touches.refl _ _) rfl fun u h => ?_
  refine Foot.secured h rfl fun u h => ?_
  split
  · exact Touches.step h (Foot.fails ..) rfl
  split
  · exact Touches.step h (Foot.passWrong ..) rfl
  · exact Touches.step (Touches.step (Touches.step (Touches.step h (Foot.passRight ..) rfl) (Foot.rewrap ..) rfl) (Foot.setPass ..) rfl) (Foot.done ..) rfl

theorem Foot.cmdUnlock : ∀ x1 x2 s, ResT 0xf903ece49d s (execUnlock x1 x2 s) := by
  intro x1 x2 s
  refine Foot.mbox (Touches.refl _ _) rfl fun u h => ?_
  refine Foot.secured h rfl fun u h => ?_
  split
  · exact Touches.step h (Foot.fails ..) rfl
  split
  · exact Touches.step h (Foot.passWrong ..) rfl
  extract_lets +onlyGivenNames -underBinder v
  have hv : Touches 0xf903ece49d s v := Touches.modSvc (Touches.step (Touches.step h (Foot.passRight ..) rfl) (Foot.unlockKeys ..) rfl) rfl
  clear_value v
  refine Touches.step ?_ (Foot.done ..) rfl
  split
  · exact Touches.step (Touches.step hv (Foot.goReady ..) rfl) (Foot.checkReadonly ..) rfl
  · exact hv

theorem Foot.cmdFreezeSecurityState : ∀ x1 s, ResT 0x8800e00004 s (execFreezeSecurityState x1 s) := by
  intro x1 s
  unfold execFreezeSecurityState
  with_reducible refine Foot.query ?_ ?_ (fun _ _ => ?_)
  with_reducible exact Touches.refl _ _
  rfl
  extract_lets +onlyGivenNames -underBinder v
  with_reducible refine Foot.secured ?_ ?_ (fun _ _ => ?_)
  with_reducible assumption
  rfl
  extract_lets +onlyGivenNames -underBinder v
  with_reducible refine Touches.step ?_ (Foot.done ..) ?_
  extract_lets +onlyGivenNames -underBinder v
  with_reducible refine Touches.modSvc ?_ ?_
  with_reducible assumption
  rfl
  rfl

theorem Foot.cmdPassphraseSecureErase : ∀ x1 x2 s, ResT 0x18a00e00004 s (execPassphraseSecureErase x1 x2 s) := by
  intro x1 x2 s
  unfold execPassphraseSecureErase
  with_reducible refine Foot.mbox ?_ ?_ (fun _ _ => ?_)
  with_reducible exact Touches.refl _ _
  rfl
  extract_lets +onlyGivenNames -underBinder v
  with_reducible refine Foot.secured ?_ ?_ (fun _ _ => ?_)
  with_reducible assumption
  rfl
  extract_lets +onlyGivenNames -underBinder v
  split
  with_reducible refine Touches.step ?_ (Foot.fails ..) ?_
  with_reducible assumption
  rfl
  split
  with_reducible refine Touches.step ?_ (Foot.fails ..) ?_
  with_reducible assumption
  rfl
  with_reducible refine Foot.drawn ?_ ?_ (fun _ _ => ?_)
  with_reducible assumption
  rfl
  extract_lets +onlyGivenNames -underBinder v
  extract_lets +onlyGivenNames -underBinder v
  have hv : Touches 0x18a00e00004 s v := by
    unfold v
    with_reducible refine Touches.modSvc ?_ ?_
    with_reducible assumption
    rfl
  clear_value v
  extract_lets +onlyGivenNames -underBinder v
  have hv : Touches 0x18a00e00004 s v := by
    unfold v
    with_reducible refine Touches.step ?_ (Foot.fails ..) ?_
    extract_lets +onlyGivenNames -underBinder w
    with_reducible refine Touches.modSvc ?_ ?_
    extract_lets +onlyGivenNames -underBinder w
    with_reducible refine Touches.foldl (fun _ _ _ => ?_) ?_
    extract_lets +onlyGivenNames -underBinder w
    with_reducible refine Touches.step ?_ (Foot.eraseKeys ..) ?_
    with_reducible assumption
    rfl
    with_reducible assumption
    rfl
    rfl
  clear_value v
  split
  with_reducible refine Touches.step ?_ (Foot.endBackground ..) ?_
  extract_lets +onlyGivenNames -underBinder v
  with_reducible refine Touches.step ?_ (Foot.settlePass ..) ?_
  with_reducible assumption
  rfl
  rfl
  with_reducible assumption

theorem Foot.cmdHoldingCryptoErase : ∀ x1 x2 x3 s, ResT 0x18a00e00004 s (execHoldingCryptoErase x1 x2 x3 s) := by
  intro x1 x2 x3 s
  unfold execHoldingCryptoErase
  with_reducible refine Foot.mbox ?_ ?_ (fun _ _ => ?_)
  with_reducible exact Touches.refl _ _
  rfl
  extract_lets +onlyGivenNames -underBinder v
  split
  with_reducible refine Touches.step ?_ (Foot.vendorFails ..) ?_
  with_reducible assumption
  rfl
  extract_lets +onlyGivenNames -underBinder v
  split
  with_reducible refine Touches.step ?_ (Foot.vendorFails ..) ?_
  with_reducible assumption
  rfl
  split
  with_reducible refine Touches.step ?_ (Foot.vendorFails ..) ?_
  with_reducible assumption
  rfl
  split
  with_reducible refine Touches.step ?_ (Foot.vendorFails ..) ?_
  with_reducible assumption
  rfl
  with_reducible refine Foot.drawn ?_ ?_ (fun _ _ => ?_)
  with_reducible assumption
  rfl
  extract_lets +onlyGivenNames -underBinder v
  have hv : Touches 0x18a00e00004 s v := by
    unfold v
    with_reducible refine Touches.modSvc ?_ ?_
    with_reducible assumption
    rfl
  clear_value v
  with_reducible refine Touches.step ?_ (Foot.background ..) ?_
  extract_lets +onlyGivenNames -underBinder v
  with_reducible refine Touches.step ?_ (Foot.eraseKeys ..) ?_
  with_reducible assumption
  rfl
  rfl

end Sys2Proof.Machine
end

