-- ==== Sys2Proof/Laws/FootReplat.lean ====
section
/-! SUPPORT. The footprint of each operation of Machine/Replat.lean: the parts of the state it may change. -/

namespace Sys2Proof.Machine

theorem Foot.setPlatPhase : ∀ s x1, Touches 0x2 s (State.setPlatPhase s x1) := by
  intro s x1
  unfold State.setPlatPhase
  with_reducible refine Touches.setField ?_ ?_
  with_reducible exact Touches.refl _ _
  rfl

theorem Foot.abortReplat : ∀ s, Touches 0x2900002 s (State.abortReplat s) := by
  intro s
  unfold State.abortReplat
  extract_lets +onlyGivenNames -underBinder v
  have hv : Touches 0x2900002 s v := by
    unfold v
    with_reducible refine Touches.modPlat ?_ ?_
    with_reducible exact Touches.refl _ _
    rfl
  clear_value v
  extract_lets +onlyGivenNames -underBinder v
  have hv : Touches 0x2900002 s v := by
    unfold v
    with_reducible refine Touches.clearBits ?_ ?_
    extract_lets +onlyGivenNames -underBinder w
    with_reducible refine Touches.setField ?_ ?_
    extract_lets +onlyGivenNames -underBinder w
    with_reducible refine Touches.step ?_ (Foot.setPlatPhase ..) ?_
    with_reducible assumption
    rfl
    rfl
    rfl
  clear_value v
  split
  with_reducible refine Touches.step ?_ (Foot.endBackground ..) ?_
  extract_lets +onlyGivenNames -underBinder v
  with_reducible refine Touches.modCds ?_ ?_
  with_reducible assumption
  rfl
  rfl
  with_reducible exact Touches.refl _ _

theorem Foot.applyLight : ∀ s x1 x2, Touches 0x1800100002 s (State.applyLight s x1 x2) := by
  intro s x1 x2
  unfold State.applyLight
  extract_lets +onlyGivenNames -underBinder v
  extract_lets +onlyGivenNames -underBinder v
  have hv : Touches 0x1800100002 s v := by
    unfold v
    with_reducible refine Touches.modPlat ?_ ?_
    with_reducible exact Touches.refl _ _
    rfl
  clear_value v
  extract_lets +onlyGivenNames -underBinder v
  have hv : Touches 0x1800100002 s v := by
    unfold v
    with_reducible refine Touches.modEvr ?_ ?_
    with_reducible assumption
    rfl
  clear_value v
  extract_lets +onlyGivenNames -underBinder v
  have hv : Touches 0x1800100002 s v := by
    unfold v
    with_reducible refine Touches.step ?_ (Foot.setPlatPhase ..) ?_
    extract_lets +onlyGivenNames -underBinder w
    with_reducible refine Touches.step ?_ (Foot.queueConfig ..) ?_
    with_reducible assumption
    rfl
    rfl
  clear_value v
  with_reducible refine Touches.setBits ?_ ?_
  with_reducible assumption
  rfl

theorem Foot.beginMigration : ∀ s x1 x2, Touches 0x10a06900002 s (State.beginMigration s x1 x2) := by
  intro s x1 x2
  unfold State.beginMigration
  extract_lets +onlyGivenNames -underBinder v
  extract_lets +onlyGivenNames -underBinder v
  extract_lets +onlyGivenNames -underBinder v
  extract_lets +onlyGivenNames -underBinder v
  extract_lets +onlyGivenNames -underBinder v
  have hv : Touches 0x10a06900002 s v := by
    unfold v
    with_reducible refine Touches.step ?_ (Foot.modBoth ..) ?_
    with_reducible exact Touches.refl _ _
    rfl
  clear_value v
  extract_lets +onlyGivenNames -underBinder v
  have hv : Touches 0x10a06900002 s v := by
    unfold v
    with_reducible refine Touches.modPlat ?_ ?_
    with_reducible assumption
    rfl
  clear_value v
  extract_lets +onlyGivenNames -underBinder v
  have hv : Touches 0x10a06900002 s v := by
    unfold v
    with_reducible refine Touches.setNat ?_ ?_
    extract_lets +onlyGivenNames -underBinder w
    with_reducible refine Touches.step ?_ (Foot.setPlatPhase ..) ?_
    with_reducible assumption
    rfl
    rfl
  clear_value v
  extract_lets +onlyGivenNames -underBinder v
  have hv : Touches 0x10a06900002 s v := by
    unfold v
    with_reducible refine Touches.step ?_ (Foot.queueConfig ..) ?_
    with_reducible assumption
    rfl
  clear_value v
  split
  with_reducible refine Touches.foldl (fun _ _ _ => ?_) ?_
  extract_lets +onlyGivenNames -underBinder v
  with_reducible refine Touches.step ?_ (Foot.eraseKeys ..) ?_
  with_reducible assumption
  rfl
  extract_lets +onlyGivenNames -underBinder v
  with_reducible refine Touches.modSvc ?_ ?_
  with_reducible assumption
  rfl
  with_reducible refine Touches.foldl (fun _ _ _ => ?_) ?_
  extract_lets +onlyGivenNames -underBinder v
  split
  with_reducible refine Touches.step ?_ (Foot.queueWrap ..) ?_
  extract_lets +onlyGivenNames -underBinder v
  with_reducible refine FstT.fst (Foot.freshKey ..) ?_ ?_
  with_reducible assumption
  rfl
  rfl
  with_reducible assumption
  with_reducible assumption

theorem Foot.commitMigration : ∀ s x1, Touches 0x10a00800002 s (State.commitMigration s x1) := by
  intro s x1
  unfold State.commitMigration
  extract_lets +onlyGivenNames -underBinder v
  have hv : Touches 0x10a00800002 s v := by
    unfold v
    with_reducible refine Touches.foldl (fun _ _ _ => ?_) ?_
    extract_lets +onlyGivenNames -underBinder w
    split
    with_reducible refine Touches.step ?_ (Foot.queueWrap ..) ?_
    extract_lets +onlyGivenNames -underBinder w
    with_reducible refine FstT.fst (Foot.wrapKey ..) ?_ ?_
    with_reducible assumption
    rfl
    rfl
    with_reducible assumption
    with_reducible exact Touches.refl _ _
  clear_value v
  extract_lets +onlyGivenNames -underBinder v
  have hv : Touches 0x10a00800002 s v := by
    unfold v
    with_reducible refine Touches.step ?_ (Foot.queueConfig ..) ?_
    with_reducible assumption
    rfl
  clear_value v
  with_reducible refine Touches.step ?_ (Foot.endBackground ..) ?_
  extract_lets +onlyGivenNames -underBinder v
  with_reducible refine Touches.step ?_ (Foot.setPlatPhase ..) ?_
  with_reducible assumption
  rfl
  rfl

theorem Foot.dropMoved : ∀ s x1 x2, Touches 0x793f6ce2fd s (State.dropMoved s x1 x2) := by
  intro s x1 x2
  unfold State.dropMoved
  extract_lets +onlyGivenNames -underBinder v
  extract_lets +onlyGivenNames -underBinder v
  split
  with_reducible exact Touches.refl _ _
  with_reducible refine Touches.step ?_ (Foot.afterRetire ..) ?_
  extract_lets +onlyGivenNames -underBinder v
  with_reducible refine Touches.step ?_ (Foot.mapCommit ..) ?_
  with_reducible exact Touches.refl _ _
  rfl
  rfl

theorem Foot.rebase : ∀ s, Touches 0x4800000 s (State.rebase s) := by
  intro s
  unfold State.rebase
  split
  with_reducible exact Touches.refl _ _
  extract_lets +onlyGivenNames -underBinder v
  extract_lets +onlyGivenNames -underBinder v
  extract_lets +onlyGivenNames -underBinder v
  extract_lets +onlyGivenNames -underBinder v
  extract_lets +onlyGivenNames -underBinder v
  extract_lets +onlyGivenNames -underBinder v
  extract_lets +onlyGivenNames -underBinder v
  have hv : Touches 0x4800000 s v := by
    unfold v
    with_reducible refine Touches.modSaved ?_ ?_
    with_reducible exact Touches.refl _ _
    rfl
  clear_value v
  with_reducible refine Touches.modSvc ?_ ?_
  with_reducible assumption
  rfl

theorem Foot.modMig : ∀ s x1, Touches 0x6000000 s (State.modMig s x1) := by
  intro s x1
  unfold State.modMig
  with_reducible refine Touches.step ?_ (Foot.modBoth ..) ?_
  with_reducible exact Touches.refl _ _
  rfl

theorem Foot.nextPlot : ∀ s, Touches 0x6000000 s (State.nextPlot s) := by
  intro s
  unfold State.nextPlot
  with_reducible refine Touches.step ?_ (Foot.modMig ..) ?_
  with_reducible exact Touches.refl _ _
  rfl

theorem Foot.moveLines_ : ∀ s x1 x2 x3 x4, Touches 0x8000000 s (State.moveLines_ s x1 x2 x3 x4) := by
  intro s x1 x2 x3 x4
  unfold State.moveLines_
  with_reducible refine Touches.foldl (fun _ _ _ => ?_) ?_
  extract_lets +onlyGivenNames -underBinder v
  split
  split
  extract_lets +onlyGivenNames -underBinder v
  with_reducible refine Touches.step ?_ (Foot.programLine ..) ?_
  with_reducible assumption
  rfl
  with_reducible assumption
  with_reducible assumption
  with_reducible exact Touches.refl _ _

theorem Foot.movePlot : ∀ s x1 x2, OptT 0x793fece2fd s (State.movePlot s x1 x2) := by
  intro s x1 x2
  unfold State.movePlot
  have h0 : Touches 0x793fece2fd s s := Touches.refl _ _
  extract_lets +onlyGivenNames -underBinder mine dirty p
  split
  · exact OptT.none
  split
  · exact OptT.some (Touches.foldl (fun _ _ h => Touches.step h (Foot.tryWb ..) rfl) h0)
  extract_lets +onlyGivenNames -underBinder lines s1 before
  have h1 : Touches 0x793fece2fd s s1 := Touches.step h0 (Foot.clearFrames ..) rfl
  clear_value s1
  split
  · exact OptT.some (Touches.step (Touches.step h1 (Foot.dropMoved ..) rfl) (Foot.nextPlot ..) rfl)
  extract_lets +onlyGivenNames -underBinder new dest mirror
  refine OptT.map fun e => ?_
  obtain ⟨id, b⟩ := e
  dsimp only
  exact Touches.step (Touches.step (Touches.step (Touches.step (Touches.step h1 (Foot.moveLines_ ..) rfl) (Foot.mapCommit ..) rfl) (Foot.dropMoved ..) rfl) (Foot.modMig ..) rfl) (Foot.nextPlot ..) rfl

theorem Foot.remapPlot : ∀ s x1 x2, OptT 0x581668a0a4 s (State.remapPlot s x1 x2) := by
  intro s x1 x2
  unfold State.remapPlot
  extract_lets +onlyGivenNames -underBinder v
  split
  split
  exact OptT.none
  with_reducible refine OptT.step ?_ (Foot.startMerge ..) ?_
  with_reducible exact Touches.refl _ _
  rfl
  with_reducible refine OptT.some ?_
  extract_lets +onlyGivenNames -underBinder v
  with_reducible refine Touches.step ?_ (Foot.nextPlot ..) ?_
  with_reducible exact Touches.refl _ _
  rfl

theorem Foot.migStep : ∀ s, OptT 0x17b3ffce2ff s (State.migStep s) := by
  intro s
  unfold State.migStep
  have h0 : Touches 0x17b3ffce2ff s s := Touches.refl _ _
  split
  · exact OptT.map fun e => Touches.step h0 (Foot.beginMigration ..) rfl
  split
  · exact OptT.none
  split
  · exact OptT.none
  split
  · exact OptT.some (Touches.step h0 (Foot.commitMigration ..) rfl)
  split
  · exact OptT.step h0 (Foot.movePlot ..) rfl
  · exact OptT.step h0 (Foot.remapPlot ..) rfl

theorem Foot.pendReplat : ∀ s x1 x2 x3, Touches 0x2100002 s (State.pendReplat s x1 x2 x3) := by
  intro s x1 x2 x3
  unfold State.pendReplat
  extract_lets +onlyGivenNames -underBinder v
  have hv : Touches 0x2100002 s v := by
    unfold v
    with_reducible refine Touches.modPlat ?_ ?_
    with_reducible exact Touches.refl _ _
    rfl
  clear_value v
  extract_lets +onlyGivenNames -underBinder v
  have hv : Touches 0x2100002 s v := by
    unfold v
    with_reducible refine Touches.setBits ?_ ?_
    extract_lets +onlyGivenNames -underBinder w
    with_reducible refine Touches.setField ?_ ?_
    extract_lets +onlyGivenNames -underBinder w
    with_reducible refine Touches.step ?_ (Foot.setPlatPhase ..) ?_
    with_reducible assumption
    rfl
    rfl
    rfl
  clear_value v
  with_reducible refine Touches.modCds ?_ ?_
  with_reducible assumption
  rfl

theorem Foot.setPlatErr : ∀ s x1, Touches 0x2 s (State.setPlatErr s x1) := by
  intro s x1
  unfold State.setPlatErr
  with_reducible refine Touches.setNat ?_ ?_
  extract_lets +onlyGivenNames -underBinder v
  with_reducible refine Touches.setNat ?_ ?_
  with_reducible exact Touches.refl _ _
  rfl
  rfl

theorem Foot.replatFails : ∀ s x1 x2 x3, Touches 0xd80068a086 s (State.replatFails s x1 x2 x3) := by
  intro s x1 x2 x3
  unfold State.replatFails
  extract_lets +onlyGivenNames -underBinder v
  extract_lets +onlyGivenNames -underBinder v
  have hv : Touches 0xd80068a086 s v := by
    unfold v
    with_reducible refine Touches.step ?_ (Foot.setPlatErr ..) ?_
    with_reducible exact Touches.refl _ _
    rfl
  clear_value v
  extract_lets +onlyGivenNames -underBinder v
  have hv : Touches 0xd80068a086 s v := by
    unfold v
    split
    with_reducible assumption
    with_reducible refine Touches.step ?_ (Foot.setPlatPhase ..) ?_
    with_reducible assumption
    rfl
  clear_value v
  extract_lets +onlyGivenNames -underBinder v
  have hv : Touches 0xd80068a086 s v := by
    unfold v
    with_reducible refine Touches.raise ?_ ?_
    extract_lets +onlyGivenNames -underBinder w
    with_reducible refine Touches.setBits ?_ ?_
    with_reducible assumption
    rfl
    rfl
  clear_value v
  with_reducible refine Touches.step ?_ (Foot.mboxReply ..) ?_
  with_reducible assumption
  rfl

theorem Foot.sanitizeReplat : ∀ s x1, Touches 0x10b3f800002 s (State.sanitizeReplat s x1) := by
  intro s x1
  unfold State.sanitizeReplat
  have h0 : Touches 0x10b3f800002 s s := Touches.refl _ _
  extract_lets +onlyGivenNames -underBinder p tracts v c0 c s1 s2 s3
  have h1 : Touches 0x10b3f800002 s s1 := Touches.modCds (Touches.step h0 (Foot.forgetData ..) rfl) rfl
  have h2 : Touches 0x10b3f800002 s s2 := Touches.modTrv (Touches.modMed h1 rfl) rfl
  have h3 : Touches 0x10b3f800002 s s3 := Touches.modMdc h2 rfl
  exact Touches.step (Touches.step h3 (Foot.saveMap ..) rfl) (Foot.commitMigration ..) rfl

theorem Foot.cmdReplatLock : ∀ x1 s, ResT 0x8000000002 s (execReplatLock x1 s) := by
  intro x1 s
  unfold execReplatLock
  split
  with_reducible refine ResT.next ?_
  with_reducible exact Touches.refl _ _
  with_reducible refine ResT.next ?_
  extract_lets +onlyGivenNames -underBinder v
  with_reducible refine Touches.emit ?_ ?_
  extract_lets +onlyGivenNames -underBinder v
  with_reducible refine Touches.setBits ?_ ?_
  with_reducible exact Touches.refl _ _
  rfl
  rfl

theorem Foot.cmdPltAbort : ∀ x1 s, ResT 0x8002900002 s (execPltAbort x1 s) := by
  intro x1 s
  unfold execPltAbort
  split
  with_reducible refine ResT.next ?_
  with_reducible exact Touches.refl _ _
  with_reducible refine ResT.next ?_
  extract_lets +onlyGivenNames -underBinder v
  with_reducible refine Touches.emit ?_ ?_
  extract_lets +onlyGivenNames -underBinder v
  with_reducible refine Touches.step ?_ (Foot.abortReplat ..) ?_
  with_reducible exact Touches.refl _ _
  rfl
  rfl

theorem Foot.writeFails : ∀ s x1 x2, Touches 0x8800600006 s (State.writeFails s x1 x2) := by
  intro s x1 x2
  unfold State.writeFails
  have h0 : Touches 0x8800600006 s s := Touches.refl _ _
  extract_lets +onlyGivenNames -underBinder s1
  have h1 : Touches 0x8800600006 s s1 := Touches.step h0 (Foot.setPlatErr ..) rfl
  exact Touches.step h1 (Foot.mboxReply ..) rfl

theorem Foot.cmdSanitizeComplete : ∀ x1 s, ResT 0x1ffffffffff s (execSanitizeComplete x1 s) := by
  intro x1 s
  unfold execSanitizeComplete
  have h0 : Touches 0x1ffffffffff s s := Touches.refl _ _
  extract_lets +onlyGivenNames -underBinder s1
  have h1 : Touches 0x1ffffffffff s s1 := Touches.clockTo h0 rfl
  clear_value s1
  split
  · split
    · exact ResT.next (Touches.step h1 (Foot.sanitizeReplat ..) rfl)
    · exact ResT.next h1
  · split
    · exact ResT.next h1
    split
    · exact ResT.next (Touches.step h1 (Foot.sanitizeLost ..) rfl)
    · exact ResT.next (Touches.step (Touches.step (Touches.step h1 (Foot.sanitizeMap ..) rfl) (Foot.endBackground ..) rfl) (Foot.checkReadonly ..) rfl)

theorem Foot.cmdReplatWrite : ∀ x1 x2 x3 x4 x5 x6 s, ResT 0x8800f00006 s (execReplatWrite x1 x2 x3 x4 x5 x6 s) := by
  intro x1 x2 x3 x4 x5 x6 s
  refine Foot.mbox (Touches.refl _ _) rfl fun u h => ?_
  extract_lets +onlyGivenNames -underBinder n
  split
  · exact Touches.step h (Foot.writeFails ..) rfl
  split
  · exact Touches.step h (Foot.writeFails ..) rfl
  split
  · exact Touches.step h (Foot.vendorFails ..) rfl
  split
  · exact Touches.step h (Foot.vendorFails ..) rfl
  extract_lets +onlyGivenNames -underBinder inB ops s1 s2 s3
  have h1 : Touches 0x8800f00006 s s1 := Touches.modPlat h rfl
  have h2 : Touches 0x8800f00006 s s2 := Touches.clearBits h1 rfl
  have h3 : Touches 0x8800f00006 s s3 := Touches.modSvc h2 rfl
  exact Touches.step (Touches.modPst h3 rfl) (Foot.ringMbox ..) rfl

theorem Foot.cmdReplatApply : ∀ x1 x2 x3 x4 s, ResT 0xd802f8a086 s (execReplatApply x1 x2 x3 x4 s) := by
  intro x1 x2 x3 x4 s
  refine Foot.mbox (Touches.refl _ _) rfl fun u h => ?_
  split
  · exact Touches.step h (Foot.vendorFails ..) rfl
  split
  · exact Touches.step h (Foot.replatFails ..) rfl
  split
  · exact Touches.step h (Foot.replatFails ..) rfl
  extract_lets +onlyGivenNames -underBinder blank
  split
  · exact Touches.step h (Foot.replatFails ..) rfl
  split
  · exact Touches.step h (Foot.replatFails ..) rfl
  extract_lets +onlyGivenNames -underBinder new cls svn
  split
  · exact Touches.step (Touches.step h (Foot.applyLight ..) rfl) (Foot.done ..) rfl
  split
  · exact Touches.step h (Foot.replatFails ..) rfl
  split
  · exact Touches.step h (Foot.replatFails ..) rfl
  extract_lets +onlyGivenNames -underBinder cls2
  split
  · exact Touches.step h (Foot.replatFails ..) rfl
  · exact Touches.step (Touches.modSvc (Touches.step h (Foot.pendReplat ..) rfl) rfl) (Foot.mboxReply ..) rfl

theorem Foot.cmdReplatAbort : ∀ x1 x2 s, ResT 0x8802f00006 s (execReplatAbort x1 x2 s) := by
  intro x1 x2 s
  refine Foot.query (Touches.refl _ _) rfl fun u h => ?_
  split
  · exact Touches.step (Touches.step h (Foot.abortReplat ..) rfl) (Foot.done ..) rfl
  · exact Touches.step h (Foot.vendorFails ..) rfl

end Sys2Proof.Machine
end

