-- ==== Sys2Proof/Laws/FootSurvey.lean ====
section
/-! SUPPORT. The footprint of each operation of Machine/Survey.lean: the parts of the state it may change. -/

namespace Sys2Proof.Machine

theorem Foot.answerStrobes : ∀ s x1, Touches 0x8800e00004 s (State.answerStrobes s x1) := by
  intro s x1
  unfold State.answerStrobes
  extract_lets +onlyGivenNames -underBinder v
  extract_lets +onlyGivenNames -underBinder v
  have hv : Touches 0x8800e00004 s v := by
    unfold v
    with_reducible refine Touches.modSvc ?_ ?_
    exact Touches.refl _ _
    rfl
  clear_value v
  with_reducible refine Touches.foldl (fun _ _ _ => ?_) ?_
  extract_lets +onlyGivenNames -underBinder v
  with_reducible refine Touches.step ?_ (Foot.mboxReply ..) ?_
  assumption
  rfl
  assumption

theorem Foot.modBuf : ∀ s x1 x2, Touches 0x4000000000 s (State.modBuf s x1 x2) := by
  intro s x1 x2
  unfold State.modBuf
  with_reducible refine Touches.modSvy ?_ ?_
  exact Touches.refl _ _
  rfl

theorem Foot.copyArea : ∀ s x1 x2, Touches 0x4000000000 s (State.copyArea s x1 x2) := by
  intro s x1 x2
  unfold State.copyArea
  extract_lets +onlyGivenNames -underBinder v
  extract_lets +onlyGivenNames -underBinder v
  with_reducible refine Touches.step ?_ (Foot.modBuf ..) ?_
  exact Touches.refl _ _
  rfl

theorem Foot.latchAll : ∀ s, Touches 0x4000000000 s (State.latchAll s) := by
  intro s
  unfold State.latchAll
  extract_lets +onlyGivenNames -underBinder v
  extract_lets +onlyGivenNames -underBinder v
  with_reducible refine Touches.modSvy ?_ ?_
  exact Touches.refl _ _
  rfl

theorem Foot.win7Read : ∀ s x1, SndT 0x4000000000 s (State.win7Read s x1) := by
  intro s x1
  unfold State.win7Read
  with_reducible refine SndT.pair ?_
  extract_lets +onlyGivenNames -underBinder v
  with_reducible refine Touches.step ?_ (Foot.modBuf ..) ?_
  exact Touches.refl _ _
  rfl

theorem Foot.surveyOut : ∀ s x1, Touches 0x580068a084 s (State.surveyOut s x1) := by
  intro s x1
  unfold State.surveyOut
  extract_lets +onlyGivenNames -underBinder v
  extract_lets +onlyGivenNames -underBinder v
  extract_lets +onlyGivenNames -underBinder v
  have hv : Touches 0x580068a084 s v := by
    unfold v
    with_reducible refine Touches.modDtm ?_ ?_
    exact Touches.refl _ _
    rfl
  clear_value v
  split
  exact Touches.refl _ _
  split
  with_reducible refine Touches.flag ?_ ?_ ?_
  assumption
  rfl
  rfl
  assumption

theorem Foot.cmdSvyWinSelWrite : ∀ x1 x2 s, ResT 0xc000000000 s (execSvyWinSelWrite x1 x2 s) := by
  intro x1 x2 s
  unfold execSvyWinSelWrite
  extract_lets +onlyGivenNames -underBinder v
  extract_lets +onlyGivenNames -underBinder v
  have hv : Touches 0xc000000000 s v := by
    unfold v
    with_reducible refine Touches.step ?_ (Foot.copyArea ..) ?_
    extract_lets +onlyGivenNames -underBinder w
    with_reducible refine Touches.emit ?_ ?_
    exact Touches.refl _ _
    rfl
    rfl
  clear_value v
  split
  with_reducible refine ResT.next ?_
  exact Touches.refl _ _
  with_reducible refine ResT.next ?_
  extract_lets +onlyGivenNames -underBinder v
  with_reducible refine Touches.step ?_ (Foot.modBuf ..) ?_
  assumption
  rfl

theorem Foot.cmdSurveyStrobe : ∀ x1 s, ResT 0xd800e8a084 s (execSurveyStrobe x1 s) := by
  intro x1 s
  unfold execSurveyStrobe
  with_reducible refine Foot.query ?_ ?_ (fun _ _ => ?_)
  exact Touches.refl _ _
  rfl
  extract_lets +onlyGivenNames -underBinder v
  with_reducible refine Touches.strobe ?_ ?_
  extract_lets +onlyGivenNames -underBinder v
  with_reducible refine Touches.modSvc ?_ ?_
  extract_lets +onlyGivenNames -underBinder v
  with_reducible refine Touches.step ?_ (Foot.ringMbox ..) ?_
  assumption
  rfl
  rfl
  rfl

theorem Foot.cmdSurveyRead : ∀ x1 x2 x3 x4 x5 s, ResT 0xc800600004 s (execSurveyRead x1 x2 x3 x4 x5 s) := by
  intro x1 x2 x3 x4 x5 s
  unfold execSurveyRead
  with_reducible refine Foot.query ?_ ?_ (fun _ _ => ?_)
  exact Touches.refl _ _
  rfl
  extract_lets +onlyGivenNames -underBinder v
  split
  with_reducible refine Touches.step ?_ (Foot.vendorFails ..) ?_
  assumption
  rfl
  with_reducible refine Touches.step ?_ (Foot.done ..) ?_
  extract_lets +onlyGivenNames -underBinder v
  with_reducible refine Touches.step ?_ (Foot.copyArea ..) ?_
  assumption
  rfl
  rfl

theorem Foot.cmdSurveyLatch : ∀ s, ResT 0xd800e8a084 s (execSurveyLatch s) := by
  intro s
  unfold execSurveyLatch
  split
  with_reducible refine ResT.next ?_
  exact Touches.refl _ _
  with_reducible refine ResT.next ?_
  extract_lets +onlyGivenNames -underBinder v
  with_reducible refine Touches.step ?_ (Foot.answerStrobes ..) ?_
  extract_lets +onlyGivenNames -underBinder v
  with_reducible refine Touches.raise ?_ ?_
  extract_lets +onlyGivenNames -underBinder v
  with_reducible refine Touches.step ?_ (Foot.surveyOut ..) ?_
  extract_lets +onlyGivenNames -underBinder v
  with_reducible refine Touches.setBits ?_ ?_
  extract_lets +onlyGivenNames -underBinder v
  with_reducible refine Touches.incReg ?_ ?_
  extract_lets +onlyGivenNames -underBinder v
  with_reducible refine Touches.setPair ?_ ?_ ?_
  extract_lets +onlyGivenNames -underBinder v
  with_reducible refine Touches.setNat ?_ ?_
  extract_lets +onlyGivenNames -underBinder v
  with_reducible refine Touches.modDtm ?_ ?_
  extract_lets +onlyGivenNames -underBinder v
  split
  split
  with_reducible refine Touches.modSvy ?_ ?_
  extract_lets +onlyGivenNames -underBinder v
  with_reducible refine Touches.elapse ?_ ?_
  exact Touches.refl _ _
  rfl
  rfl
  with_reducible refine Touches.step ?_ (Foot.latchAll ..) ?_
  extract_lets +onlyGivenNames -underBinder v
  with_reducible refine Touches.elapse ?_ ?_
  exact Touches.refl _ _
  rfl
  rfl
  split
  with_reducible refine Touches.modSvy ?_ ?_
  exact Touches.refl _ _
  rfl
  with_reducible refine Touches.step ?_ (Foot.latchAll ..) ?_
  exact Touches.refl _ _
  rfl
  rfl
  rfl
  rfl
  rfl
  rfl
  rfl
  rfl
  rfl
  rfl

theorem Foot.cmdSvyWin7Read : ∀ x1 s, ResT 0xc000000000 s (execSvyWin7Read x1 s) := by
  intro x1 s
  unfold execSvyWin7Read
  extract_lets +onlyGivenNames -underBinder v
  split
  with_reducible refine ResT.next ?_
  exact Touches.refl _ _
  with_reducible refine ResT.next ?_
  extract_lets +onlyGivenNames -underBinder v
  with_reducible refine Touches.emit ?_ ?_
  extract_lets +onlyGivenNames -underBinder v
  with_reducible refine SndT.snd (Foot.win7Read ..) ?_ ?_
  exact Touches.refl _ _
  rfl
  rfl

end Sys2Proof.Machine
end

