-- ==== Sys2Proof/Laws/FootThermal.lean ====
section
/-! SUPPORT. The footprint of each operation of Machine/Thermal.lean: the parts of the state it may change. -/

namespace Sys2Proof.Machine

theorem Foot.sensorFails : ∀ s x1, Touches 0x580068e084 s (State.sensorFails s x1) := by
  intro s x1
  unfold State.sensorFails
  with_reducible refine Touches.raise ?_ ?_
  extract_lets +onlyGivenNames -underBinder v
  with_reducible refine Touches.flag ?_ ?_ ?_
  with_reducible exact Touches.refl _ _
  rfl
  rfl
  rfl

theorem Foot.compensate : ∀ s, Touches 0x2000004000 s (State.compensate s) := by
  intro s
  unfold State.compensate
  extract_lets +onlyGivenNames -underBinder v
  extract_lets +onlyGivenNames -underBinder v
  extract_lets +onlyGivenNames -underBinder v
  extract_lets +onlyGivenNames -underBinder v
  have hv : Touches 0x2000004000 s v := by
    unfold v
    with_reducible refine Touches.modThm ?_ ?_
    with_reducible exact Touches.refl _ _
    rfl
  clear_value v
  extract_lets +onlyGivenNames -underBinder v
  have hv : Touches 0x2000004000 s v := by
    unfold v
    split
    with_reducible refine Touches.setField ?_ ?_
    extract_lets +onlyGivenNames -underBinder w
    with_reducible refine Touches.setField ?_ ?_
    with_reducible assumption
    rfl
    rfl
    with_reducible exact Touches.refl _ _
  clear_value v
  extract_lets +onlyGivenNames -underBinder v
  extract_lets +onlyGivenNames -underBinder v
  have hv : Touches 0x2000004000 s v := by
    unfold v
    with_reducible refine Touches.modThm ?_ ?_
    with_reducible assumption
    rfl
  clear_value v
  split
  with_reducible refine Touches.setField ?_ ?_
  extract_lets +onlyGivenNames -underBinder v
  with_reducible refine Touches.setField ?_ ?_
  with_reducible assumption
  rfl
  rfl
  with_reducible assumption

theorem Foot.thermTimers : ∀ s, Touches 0x780068a084 s (State.thermTimers s) := by
  intro s
  unfold State.thermTimers
  extract_lets +onlyGivenNames -underBinder v
  extract_lets +onlyGivenNames -underBinder v
  extract_lets +onlyGivenNames -underBinder v
  extract_lets +onlyGivenNames -underBinder v
  extract_lets +onlyGivenNames -underBinder v
  extract_lets +onlyGivenNames -underBinder v
  extract_lets +onlyGivenNames -underBinder v
  extract_lets +onlyGivenNames -underBinder v
  extract_lets +onlyGivenNames -underBinder v
  extract_lets +onlyGivenNames -underBinder v
  extract_lets +onlyGivenNames -underBinder v
  extract_lets +onlyGivenNames -underBinder v
  extract_lets +onlyGivenNames -underBinder v
  have hv : Touches 0x780068a084 s v := by
    unfold v
    with_reducible refine Touches.modThm ?_ ?_
    with_reducible exact Touches.refl _ _
    rfl
  clear_value v
  extract_lets +onlyGivenNames -underBinder v
  have hv : Touches 0x780068a084 s v := by
    unfold v
    with_reducible refine Touches.foldl (fun _ _ _ => ?_) ?_
    extract_lets +onlyGivenNames -underBinder w
    with_reducible refine Touches.nearMiss ?_ ?_
    with_reducible assumption
    rfl
    with_reducible assumption
  clear_value v
  split
  with_reducible refine Touches.step ?_ (Foot.thermalTrip ..) ?_
  with_reducible assumption
  rfl
  with_reducible assumption

theorem Foot.cmdThmParamWrite : ∀ x1 x2 s, ResT 0x8000004000 s (execThmParamWrite x1 x2 s) := by
  intro x1 x2 s
  unfold execThmParamWrite
  extract_lets +onlyGivenNames -underBinder v
  have hv : Touches 0x8000004000 s v := by
    unfold v
    with_reducible refine Touches.emit ?_ ?_
    with_reducible exact Touches.refl _ _
    rfl
  clear_value v
  split
  with_reducible refine ResT.next ?_
  with_reducible exact Touches.refl _ _
  with_reducible refine ResT.next ?_
  extract_lets +onlyGivenNames -underBinder v
  split
  with_reducible refine Touches.setNat ?_ ?_
  with_reducible assumption
  rfl
  with_reducible assumption

theorem Foot.cmdWarmupTimeout : ∀ x1 s, ResT 0x78006ce085 s (execWarmupTimeout x1 s) := by
  intro x1 s
  unfold execWarmupTimeout
  extract_lets +onlyGivenNames -underBinder v
  have hv : Touches 0x78006ce085 s v := by
    unfold v
    with_reducible refine Touches.clockTo ?_ ?_
    with_reducible exact Touches.refl _ _
    rfl
  clear_value v
  extract_lets +onlyGivenNames -underBinder v
  have hv : Touches 0x78006ce085 s v := by
    unfold v
    with_reducible refine Touches.flag ?_ ?_ ?_
    extract_lets +onlyGivenNames -underBinder w
    with_reducible refine Touches.modThm ?_ ?_
    with_reducible assumption
    rfl
    rfl
    rfl
  clear_value v
  split
  with_reducible refine ResT.next ?_
  with_reducible exact Touches.refl _ _
  split
  with_reducible refine ResT.next ?_
  extract_lets +onlyGivenNames -underBinder v
  with_reducible refine Touches.goState ?_ ?_ ?_ ?_ ?_ ?_
  with_reducible assumption
  rfl
  rfl
  rfl
  rfl
  rfl
  with_reducible refine ResT.next ?_
  with_reducible assumption

theorem Foot.cmdSensorSample : ∀ x1 x2 s, ResT 0x78d06ce085 s (execSensorSample x1 x2 s) := by
  intro x1 x2 s
  unfold execSensorSample
  extract_lets +onlyGivenNames -underBinder v
  have hv : Touches 0x78d06ce085 s v := by
    unfold v
    with_reducible refine Touches.clockTo ?_ ?_
    with_reducible exact Touches.refl _ _
    rfl
  clear_value v
  extract_lets +onlyGivenNames -underBinder v
  extract_lets +onlyGivenNames -underBinder v
  extract_lets +onlyGivenNames -underBinder v
  have hv : Touches 0x78d06ce085 s v := by
    unfold v
    with_reducible refine Touches.modThm ?_ ?_
    with_reducible assumption
    rfl
  clear_value v
  extract_lets +onlyGivenNames -underBinder v
  have hv : Touches 0x78d06ce085 s v := by
    unfold v
    with_reducible refine Touches.foldl (fun _ _ _ => ?_) ?_
    extract_lets +onlyGivenNames -underBinder w
    with_reducible refine Touches.step ?_ (Foot.sensorFails ..) ?_
    with_reducible assumption
    rfl
    with_reducible assumption
  clear_value v
  extract_lets +onlyGivenNames -underBinder v
  extract_lets +onlyGivenNames -underBinder v
  have hv : Touches 0x78d06ce085 s v := by
    unfold v
    with_reducible refine Touches.modThm ?_ ?_
    with_reducible assumption
    rfl
  clear_value v
  extract_lets +onlyGivenNames -underBinder v
  have hv : Touches 0x78d06ce085 s v := by
    unfold v
    with_reducible refine Touches.step ?_ (Foot.compensate ..) ?_
    extract_lets +onlyGivenNames -underBinder w
    with_reducible refine Touches.settleTemper ?_ ?_ ?_ ?_
    extract_lets +onlyGivenNames -underBinder w
    with_reducible refine Touches.step ?_ (Foot.thermTimers ..) ?_
    with_reducible assumption
    rfl
    rfl
    rfl
    rfl
    rfl
  clear_value v
  extract_lets +onlyGivenNames -underBinder v
  have hv : Touches 0x78d06ce085 s v := by
    unfold v
    split
    with_reducible refine Touches.step ?_ (Foot.quench ..) ?_
    with_reducible assumption
    rfl
    with_reducible assumption
  clear_value v
  split
  with_reducible refine ResT.next ?_
  with_reducible exact Touches.refl _ _
  split
  with_reducible refine ResT.next ?_
  extract_lets +onlyGivenNames -underBinder v
  with_reducible refine Touches.goState ?_ ?_ ?_ ?_ ?_ ?_
  extract_lets +onlyGivenNames -underBinder v
  with_reducible refine Touches.setBits ?_ ?_
  with_reducible assumption
  rfl
  rfl
  rfl
  rfl
  rfl
  rfl
  with_reducible refine ResT.next ?_
  with_reducible assumption

theorem Foot.cmdLevelFall : ∀ x1 s, ResT 0x780068e084 s (execLevelFall x1 s) := by
  intro x1 s
  unfold execLevelFall
  extract_lets +onlyGivenNames -underBinder v
  have hv : Touches 0x780068e084 s v := by
    unfold v
    with_reducible refine Touches.clockTo ?_ ?_
    with_reducible exact Touches.refl _ _
    rfl
  clear_value v
  extract_lets +onlyGivenNames -underBinder v
  extract_lets +onlyGivenNames -underBinder v
  have hv : Touches 0x780068e084 s v := by
    unfold v
    with_reducible refine Touches.modThm ?_ ?_
    with_reducible assumption
    rfl
  clear_value v
  extract_lets +onlyGivenNames -underBinder v
  split
  with_reducible refine ResT.next ?_
  extract_lets +onlyGivenNames -underBinder v
  with_reducible refine Touches.settleTemper ?_ ?_ ?_ ?_
  extract_lets +onlyGivenNames -underBinder v
  with_reducible refine Touches.modThm ?_ ?_
  with_reducible assumption
  rfl
  rfl
  rfl
  rfl
  with_reducible refine ResT.next ?_
  with_reducible assumption

theorem Foot.cmdRiseBoost : ∀ x1 s, ResT 0x780068e084 s (execRiseBoost x1 s) := by
  intro x1 s
  unfold execRiseBoost
  extract_lets +onlyGivenNames -underBinder v
  have hv : Touches 0x780068e084 s v := by
    unfold v
    with_reducible refine Touches.clockTo ?_ ?_
    with_reducible exact Touches.refl _ _
    rfl
  clear_value v
  split
  with_reducible refine ResT.next ?_
  extract_lets +onlyGivenNames -underBinder v
  with_reducible refine Touches.settleTemper ?_ ?_ ?_ ?_
  extract_lets +onlyGivenNames -underBinder v
  with_reducible refine Touches.flag ?_ ?_ ?_
  extract_lets +onlyGivenNames -underBinder v
  with_reducible refine Touches.modThm ?_ ?_
  with_reducible assumption
  rfl
  rfl
  rfl
  rfl
  rfl
  rfl
  with_reducible refine ResT.next ?_
  with_reducible assumption

theorem Foot.cmdRiseBoostEnd : ∀ x1 s, ResT 0x780068e084 s (execRiseBoostEnd x1 s) := by
  intro x1 s
  unfold execRiseBoostEnd
  extract_lets +onlyGivenNames -underBinder v
  have hv : Touches 0x780068e084 s v := by
    unfold v
    with_reducible refine Touches.clockTo ?_ ?_
    with_reducible exact Touches.refl _ _
    rfl
  clear_value v
  split
  with_reducible refine ResT.next ?_
  extract_lets +onlyGivenNames -underBinder v
  with_reducible refine Touches.settleTemper ?_ ?_ ?_ ?_
  extract_lets +onlyGivenNames -underBinder v
  with_reducible refine Touches.modThm ?_ ?_
  with_reducible assumption
  rfl
  rfl
  rfl
  rfl
  with_reducible refine ResT.next ?_
  with_reducible assumption

theorem Foot.cmdQuenchHoldExpiry : ∀ x1 s, ResT 0x78d06ce085 s (execQuenchHoldExpiry x1 s) := by
  intro x1 s
  unfold execQuenchHoldExpiry
  extract_lets +onlyGivenNames -underBinder v
  have hv : Touches 0x78d06ce085 s v := by
    unfold v
    with_reducible refine Touches.clockTo ?_ ?_
    with_reducible exact Touches.refl _ _
    rfl
  clear_value v
  split
  with_reducible refine ResT.next ?_
  with_reducible exact Touches.refl _ _
  split
  with_reducible refine ResT.next ?_
  extract_lets +onlyGivenNames -underBinder v
  with_reducible refine Touches.step ?_ (Foot.quench ..) ?_
  with_reducible assumption
  rfl
  with_reducible refine ResT.next ?_
  with_reducible assumption

theorem Foot.cmdQuenchRestart : ∀ x1 s, ResT 0xffd7ffffff s (execQuenchRestart x1 s) := by
  intro x1 s
  unfold execQuenchRestart
  have h0 : Touches 0xffd7ffffff s s := Touches.refl _ _
  split
  · exact ResT.next h0
  extract_lets +onlyGivenNames -underBinder s1
  have h1 : Touches 0xffd7ffffff s s1 := Touches.clockTo h0 rfl
  clear_value s1
  split
  · exact ResT.next (Touches.step h1 (Foot.performReset ..) rfl)
  · exact ResT.next h1

end Sys2Proof.Machine
end

