-- ==== Sys2Proof/Laws/FootTraverse.lean ====
section
/-! SUPPORT. The footprint of each operation of Machine/Traverse.lean: the parts of the state it may change. -/

namespace Sys2Proof.Machine

theorem Foot.onChannel : ∀ s x1 x2, Touches 0x10000000 s (State.onChannel s x1 x2) := by
  intro s x1 x2
  unfold State.onChannel
  with_reducible refine Touches.modTrv ?_ ?_
  with_reducible exact Touches.refl _ _
  rfl

theorem Foot.mergeMirrored : ∀ s x1, Touches 0x2000000 s (State.mergeMirrored s x1) := by
  intro s x1
  unfold State.mergeMirrored
  extract_lets +onlyGivenNames -underBinder v
  with_reducible refine Touches.foldl (fun _ _ _ => ?_) ?_
  extract_lets +onlyGivenNames -underBinder v
  split
  split
  with_reducible refine Touches.modCds ?_ ?_
  with_reducible assumption
  rfl
  with_reducible assumption
  with_reducible assumption
  with_reducible exact Touches.refl _ _

theorem Foot.mirrorDegrade : ∀ s x1, Touches 0x581268a0a4 s (State.mirrorDegrade s x1) := by
  intro s x1
  unfold State.mirrorDegrade
  extract_lets +onlyGivenNames -underBinder v
  extract_lets +onlyGivenNames -underBinder v
  have hv : Touches 0x581268a0a4 s v := by
    unfold v
    with_reducible refine Touches.step ?_ (Foot.onChannel ..) ?_
    extract_lets +onlyGivenNames -underBinder w
    with_reducible refine Touches.step ?_ (Foot.onChannel ..) ?_
    with_reducible exact Touches.refl _ _
    rfl
    rfl
  clear_value v
  split
  with_reducible exact Touches.refl _ _
  with_reducible refine Touches.step ?_ (Foot.mergeMirrored ..) ?_
  extract_lets +onlyGivenNames -underBinder v
  with_reducible refine Touches.raise ?_ ?_
  extract_lets +onlyGivenNames -underBinder v
  with_reducible refine Touches.setBits ?_ ?_
  with_reducible assumption
  rfl
  rfl
  rfl

theorem Foot.dieGone : ∀ s x1 x2, Touches 0x78376ce0fd s (State.dieGone s x1 x2) := by
  intro s x1 x2
  unfold State.dieGone
  split
  with_reducible refine Touches.step ?_ (Foot.mirrorDegrade ..) ?_
  with_reducible exact Touches.refl _ _
  rfl
  with_reducible refine Touches.step ?_ (Foot.retireDie ..) ?_
  with_reducible exact Touches.refl _ _
  rfl

theorem Foot.replaceWb : ∀ s x1, Touches 0x593f68a2bc s (State.replaceWb s x1) := by
  intro s x1
  unfold State.replaceWb
  extract_lets +onlyGivenNames -underBinder v
  with_reducible refine Touches.foldl (fun _ _ _ => ?_) ?_
  extract_lets +onlyGivenNames -underBinder v
  have hv : Touches 0x593f68a2bc s v := by
    unfold v
    with_reducible refine Touches.modStg ?_ ?_
    with_reducible assumption
    rfl
  clear_value v
  with_reducible refine Touches.step ?_ (Foot.tryWb ..) ?_
  with_reducible assumption
  rfl
  with_reducible exact Touches.refl _ _

theorem Foot.endDie : ∀ s x1 x2, Touches 0x593f68a2bc s (State.endDie s x1 x2) := by
  intro s x1 x2
  unfold State.endDie
  extract_lets +onlyGivenNames -underBinder v
  extract_lets +onlyGivenNames -underBinder v
  have hv : Touches 0x593f68a2bc s v := by
    unfold v
    with_reducible refine Touches.step ?_ (Foot.onChannel ..) ?_
    with_reducible exact Touches.refl _ _
    rfl
  clear_value v
  with_reducible refine Touches.foldl (fun _ _ _ => ?_) ?_
  extract_lets +onlyGivenNames -underBinder v
  with_reducible refine Touches.step ?_ (Foot.replaceWb ..) ?_
  with_reducible assumption
  rfl
  with_reducible assumption

theorem Foot.channelLost : ∀ s x1, Touches 0x793f6ce2fd s (State.channelLost s x1) := by
  intro s x1
  unfold State.channelLost
  extract_lets +onlyGivenNames -underBinder v
  have hv : Touches 0x793f6ce2fd s v := by
    unfold v
    with_reducible refine Touches.step ?_ (Foot.onChannel ..) ?_
    with_reducible exact Touches.refl _ _
    rfl
  clear_value v
  extract_lets +onlyGivenNames -underBinder v
  have hv : Touches 0x793f6ce2fd s v := by
    unfold v
    with_reducible refine Touches.setBits ?_ ?_
    extract_lets +onlyGivenNames -underBinder w
    with_reducible refine Touches.flag ?_ ?_ ?_
    with_reducible assumption
    rfl
    rfl
    rfl
  clear_value v
  extract_lets +onlyGivenNames -underBinder v
  have hv : Touches 0x793f6ce2fd s v := by
    unfold v
    with_reducible refine Touches.raise ?_ ?_
    with_reducible assumption
    rfl
  clear_value v
  split
  with_reducible exact Touches.refl _ _
  with_reducible refine Touches.foldl (fun _ _ _ => ?_) ?_
  extract_lets +onlyGivenNames -underBinder v
  with_reducible refine Touches.step ?_ (Foot.dieGone ..) ?_
  extract_lets +onlyGivenNames -underBinder v
  with_reducible refine Touches.step ?_ (Foot.endDie ..) ?_
  with_reducible assumption
  rfl
  rfl
  with_reducible assumption

theorem Foot.busError : ∀ s x1, Touches 0x793f6ce2fd s (State.busError s x1) := by
  intro s x1
  unfold State.busError
  extract_lets +onlyGivenNames -underBinder v
  extract_lets +onlyGivenNames -underBinder v
  extract_lets +onlyGivenNames -underBinder v
  have hv : Touches 0x793f6ce2fd s v := by
    unfold v
    with_reducible refine Touches.step ?_ (Foot.onChannel ..) ?_
    with_reducible exact Touches.refl _ _
    rfl
  clear_value v
  split
  with_reducible assumption
  split
  with_reducible refine Touches.step ?_ (Foot.channelLost ..) ?_
  with_reducible assumption
  rfl
  with_reducible refine Touches.step ?_ (Foot.onChannel ..) ?_
  with_reducible assumption
  rfl

theorem Foot.burstError : ∀ s x1, Touches 0x793f6ce2fd s (State.burstError s x1) := by
  intro s x1
  unfold State.burstError
  with_reducible refine Touches.step ?_ (Foot.busError ..) ?_
  extract_lets +onlyGivenNames -underBinder v
  with_reducible refine Touches.satField ?_ ?_
  extract_lets +onlyGivenNames -underBinder v
  with_reducible refine Touches.flag ?_ ?_ ?_
  with_reducible exact Touches.refl _ _
  rfl
  rfl
  extract_lets +onlyGivenNames -underBinder v
  (simp <;> rfl)
  rfl

theorem Foot.onDie : ∀ s x1 x2 x3, Touches 0x10000000 s (State.onDie s x1 x2 x3) := by
  intro s x1 x2 x3
  unfold State.onDie
  with_reducible refine Touches.step ?_ (Foot.onChannel ..) ?_
  with_reducible exact Touches.refl _ _
  rfl

theorem Foot.resend {m : Nat} {s t : State} {run : State → State} {x1} {x2} {x3} (a : Touches m s t) (hm : 0x10000000 ||| m = m)
    (hr : ∀ u, Touches m s u → Touches m s (run u)) : Touches m s (State.resend t x1 x2 x3 run) := by
  unfold State.resend
  split
  with_reducible refine Touches.step ?_ (Foot.onChannel ..) ?_
  extract_lets +onlyGivenNames -underBinder v
  with_reducible refine Touches.step ?_ (Foot.onChannel ..) ?_
  with_reducible assumption
  with_reducible assumption
  with_reducible assumption
  with_reducible refine hr _ ?_
  extract_lets +onlyGivenNames -underBinder v
  with_reducible refine Touches.step ?_ (Foot.onChannel ..) ?_
  with_reducible assumption
  with_reducible assumption

theorem Foot.progFailed : ∀ s x1 x2 x3 x4, Touches 0x793f6ce2fd s (State.progFailed s x1 x2 x3 x4) := by
  intro s x1 x2 x3 x4
  unfold State.progFailed
  extract_lets +onlyGivenNames -underBinder v
  have hv : Touches 0x793f6ce2fd s v := by
    unfold v
    with_reducible refine Touches.flag ?_ ?_ ?_
    with_reducible exact Touches.refl _ _
    rfl
    rfl
  clear_value v
  extract_lets +onlyGivenNames -underBinder v
  with_reducible refine Touches.step ?_ (Foot.replaceWb ..) ?_
  extract_lets +onlyGivenNames -underBinder v
  with_reducible refine Touches.step ?_ (Foot.tractProgFail ..) ?_
  with_reducible assumption
  rfl
  rfl

theorem Foot.pktError : ∀ s x1, Touches 0x793f6ce2fd s (State.pktError s x1) := by
  intro s x1
  unfold State.pktError
  with_reducible refine Touches.step ?_ (Foot.busError ..) ?_
  extract_lets +onlyGivenNames -underBinder v
  with_reducible refine Touches.satField ?_ ?_
  extract_lets +onlyGivenNames -underBinder v
  with_reducible refine Touches.flag ?_ ?_ ?_
  with_reducible exact Touches.refl _ _
  rfl
  rfl
  extract_lets +onlyGivenNames -underBinder v
  (simp <;> rfl)
  rfl

theorem Foot.collected : ∀ s x1 x2 x3 x4, Touches 0x793f6ce2fd s (State.collected s x1 x2 x3 x4) := by
  intro s ch d c burstOk
  unfold State.collected
  have h0 : Touches 0x793f6ce2fd s s := Touches.refl _ _
  extract_lets +onlyGivenNames -underBinder prog s1 again
  have h1 : Touches 0x793f6ce2fd s s1 := by
    unfold s1; split
    · exact Touches.step h0 (Foot.onDie ..) rfl
    · exact h0
  clear_value s1
  split
  · split
    · exact Foot.resend (Touches.step h1 (Foot.burstError ..) rfl) rfl fun u h => Touches.step h (Foot.progFailed ..) rfl
    · extract_lets +onlyGivenNames -underBinder s2
      have h2 : Touches 0x793f6ce2fd s s2 := Touches.step h1 (Foot.onDie ..) rfl
      clear_value s2
      split
      · exact Touches.step h2 (Foot.onDie ..) rfl
      · exact h2
  · exact Touches.step h1 (Foot.progFailed ..) rfl
  · exact Touches.step (Touches.flag h1 rfl rfl) (Foot.retireTract ..) rfl
  · extract_lets +onlyGivenNames -underBinder s2
    have h2 : Touches 0x793f6ce2fd s s2 := Touches.step (Touches.step h1 (Foot.pktError ..) rfl) (Foot.onDie ..) rfl
    clear_value s2
    refine Foot.resend h2 rfl fun u h => ?_
    split
    · exact Touches.step h (Foot.progFailed ..) rfl
    · exact h
  · split
    · exact Touches.step h1 (Foot.progFailed ..) rfl
    · exact h1

theorem Foot.dieLost : ∀ s x1 x2, Touches 0x793f6ce2fd s (State.dieLost s x1 x2) := by
  intro s x1 x2
  unfold State.dieLost
  extract_lets +onlyGivenNames -underBinder v
  have hv : Touches 0x793f6ce2fd s v := by
    unfold v
    with_reducible refine Touches.step ?_ (Foot.endDie ..) ?_
    with_reducible exact Touches.refl _ _
    rfl
  clear_value v
  extract_lets +onlyGivenNames -underBinder v
  have hv : Touches 0x793f6ce2fd s v := by
    unfold v
    with_reducible refine Touches.setBits ?_ ?_
    extract_lets +onlyGivenNames -underBinder w
    with_reducible refine Touches.flag ?_ ?_ ?_
    with_reducible assumption
    rfl
    rfl
    rfl
  clear_value v
  extract_lets +onlyGivenNames -underBinder v
  have hv : Touches 0x793f6ce2fd s v := by
    unfold v
    with_reducible refine Touches.step ?_ (Foot.dieGone ..) ?_
    extract_lets +onlyGivenNames -underBinder w
    with_reducible refine Touches.raise ?_ ?_
    with_reducible assumption
    rfl
    rfl
  clear_value v
  split
  with_reducible exact Touches.refl _ _
  split
  with_reducible refine Touches.step ?_ (Foot.channelLost ..) ?_
  with_reducible assumption
  rfl
  with_reducible assumption

theorem Foot.lateDone : ∀ s x1 x2, Touches 0x793f6ce2fd s (State.lateDone s x1 x2) := by
  intro s x1 x2
  unfold State.lateDone
  extract_lets +onlyGivenNames -underBinder v
  extract_lets +onlyGivenNames -underBinder v
  extract_lets +onlyGivenNames -underBinder v
  have hv : Touches 0x793f6ce2fd s v := by
    unfold v
    with_reducible refine Touches.step ?_ (Foot.onDie ..) ?_
    extract_lets +onlyGivenNames -underBinder w
    with_reducible refine Touches.satField ?_ ?_
    with_reducible exact Touches.refl _ _
    extract_lets +onlyGivenNames -underBinder w
    (simp <;> rfl)
    rfl
  clear_value v
  split
  with_reducible refine Touches.step ?_ (Foot.dieLost ..) ?_
  with_reducible assumption
  rfl
  with_reducible assumption

theorem Foot.sendOn {m : Nat} {s t : State} {run : State → State} {x1} {x2} {x3} {x4} {x5} (a : Touches m s t) (hm : 0xd81068a084 ||| m = m)
    (hr : ∀ u, Touches m s u → Touches m s (run u)) : Touches m s (State.sendOn t x1 x2 x3 x4 x5 run) := by
  unfold State.sendOn
  extract_lets +onlyGivenNames -underBinder v
  extract_lets +onlyGivenNames -underBinder v
  extract_lets +onlyGivenNames -underBinder v
  have hv : Touches m s v := by
    unfold v
    with_reducible refine Touches.step ?_ (Foot.onChannel ..) ?_
    with_reducible assumption
    exact sub_of rfl hm
  clear_value v
  extract_lets +onlyGivenNames -underBinder v
  have hv : Touches m s v := by
    unfold v
    with_reducible refine Touches.pmc ?_ ?_
    extract_lets +onlyGivenNames -underBinder w
    with_reducible refine Touches.emit ?_ ?_
    with_reducible assumption
    exact bit_of rfl hm
    exact sub_of rfl hm
  clear_value v
  extract_lets +onlyGivenNames -underBinder v
  have hv : Touches m s v := by
    unfold v
    split
    with_reducible refine Touches.pmc ?_ ?_
    with_reducible assumption
    exact sub_of rfl hm
    with_reducible assumption
  clear_value v
  split
  with_reducible refine hr _ ?_
  extract_lets +onlyGivenNames -underBinder v
  with_reducible refine Touches.step ?_ (Foot.onChannel ..) ?_
  with_reducible assumption
  exact sub_of rfl hm
  with_reducible refine Touches.step ?_ (Foot.onChannel ..) ?_
  with_reducible assumption
  exact sub_of rfl hm

theorem Foot.send {m : Nat} {s t : State} {run : Nat → State → State} {x1} {x2} {x3} {x4} {x5} (a : Touches m s t) (hm : 0xd81068a084 ||| m = m)
    (hr : ∀ i u, Touches m s u → Touches m s (run i u)) : Touches m s (State.send t x1 x2 x3 x4 x5 run) := by
  unfold State.send
  with_reducible refine Touches.foldl (fun _ _ _ => ?_) ?_
  extract_lets +onlyGivenNames -underBinder v
  split
  with_reducible refine Foot.sendOn ?_ ?_ (fun _ _ => ?_)
  with_reducible assumption
  with_reducible assumption
  with_reducible refine hr _ _ ?_
  with_reducible assumption
  with_reducible assumption
  with_reducible assumption

theorem Foot.refuse : ∀ s x1 x2 x3 x4, Touches 0x10000000 s (State.refuse s x1 x2 x3 x4) := by
  intro s x1 x2 x3 x4
  unfold State.refuse
  with_reducible refine Touches.step ?_ (Foot.onChannel ..) ?_
  with_reducible exact Touches.refl _ _
  rfl

theorem Foot.progPkt : ∀ s x1 x2 x3 x4 x5, Touches 0xd81068a084 s (State.progPkt s x1 x2 x3 x4 x5) := by
  intro s x1 x2 x3 x4 x5
  unfold State.progPkt
  extract_lets +onlyGivenNames -underBinder v
  extract_lets +onlyGivenNames -underBinder v
  split
  with_reducible exact Touches.refl _ _
  with_reducible refine Foot.send ?_ ?_ (fun _ _ _ => ?_)
  with_reducible exact Touches.refl _ _
  rfl
  extract_lets +onlyGivenNames -underBinder v
  extract_lets +onlyGivenNames -underBinder v
  split
  extract_lets +onlyGivenNames -underBinder v
  extract_lets +onlyGivenNames -underBinder v
  have hv : Touches 0xd81068a084 s v := by
    unfold v
    with_reducible refine Touches.step ?_ (Foot.onDie ..) ?_
    with_reducible assumption
    rfl
  clear_value v
  with_reducible refine Touches.pmc ?_ ?_
  extract_lets +onlyGivenNames -underBinder v
  with_reducible refine Touches.modTrv ?_ ?_
  with_reducible assumption
  rfl
  rfl
  with_reducible refine Touches.step ?_ (Foot.refuse ..) ?_
  with_reducible assumption
  rfl

theorem Foot.readPkt : ∀ s x1 x2 x3 x4, Touches 0xd81068a084 s (State.readPkt s x1 x2 x3 x4) := by
  intro s x1 x2 x3 x4
  unfold State.readPkt
  with_reducible refine Foot.send ?_ ?_ (fun _ _ _ => ?_)
  with_reducible exact Touches.refl _ _
  rfl
  extract_lets +onlyGivenNames -underBinder v
  split
  with_reducible refine Touches.step ?_ (Foot.onDie ..) ?_
  with_reducible assumption
  rfl
  with_reducible refine Touches.step ?_ (Foot.refuse ..) ?_
  with_reducible assumption
  rfl

theorem Foot.releaseMedium : ∀ s, Touches 0x10080000 s (State.releaseMedium s) := by
  intro s
  unfold State.releaseMedium
  split
  with_reducible exact Touches.refl _ _
  with_reducible refine Touches.modTrv ?_ ?_
  extract_lets +onlyGivenNames -underBinder v
  with_reducible refine Touches.modDtm ?_ ?_
  with_reducible exact Touches.refl _ _
  rfl
  rfl

theorem Foot.cmdTrvParamWrite : ∀ x1 x2 x3 s, ResT 0x8000000020 s (execTrvParamWrite x1 x2 x3 s) := by
  intro x1 x2 x3 s
  unfold execTrvParamWrite
  extract_lets +onlyGivenNames -underBinder v
  have hv : Touches 0x8000000020 s v := by
    unfold v
    with_reducible refine Touches.emit ?_ ?_
    with_reducible exact Touches.refl _ _
    rfl
  clear_value v
  extract_lets +onlyGivenNames -underBinder v
  extract_lets +onlyGivenNames -underBinder v
  have hv : Touches 0x8000000020 s v := by
    unfold v
    with_reducible refine Touches.emit ?_ ?_
    with_reducible exact Touches.refl _ _
    rfl
  clear_value v
  split
  with_reducible refine ResT.next ?_
  with_reducible exact Touches.refl _ _
  split
  with_reducible refine ResT.next ?_
  extract_lets +onlyGivenNames -underBinder v
  split
  with_reducible refine Touches.setField ?_ ?_
  with_reducible assumption
  rfl
  with_reducible assumption
  with_reducible refine ResT.next ?_
  extract_lets +onlyGivenNames -underBinder v
  split
  with_reducible refine Touches.setReg ?_ ?_
  with_reducible assumption
  rfl
  with_reducible assumption

theorem Foot.cmdTrvRetrainWrite : ∀ x1 x2 s, ResT 0x8010000020 s (execTrvRetrainWrite x1 x2 s) := by
  intro x1 x2 s
  unfold execTrvRetrainWrite
  have h0 : Touches 0x8010000020 s s := Touches.refl _ _
  have ho : Nat.testBit 0x8010000020 (Reg.TRVn_CTL x2.val / 0x10000) = true := by revert x2; decide
  split
  · exact ResT.next h0
  extract_lets +onlyGivenNames -underBinder off s1 c
  have h1 : Touches 0x8010000020 s s1 := Touches.emit h0 rfl
  clear_value s1
  split
  · exact ResT.next h1
  · exact ResT.next (Touches.step (Touches.setBits h1 ho) (Foot.onChannel ..) rfl)

theorem Foot.cmdTrvPhyWrite : ∀ x1 x2 x3 s, ResT 0x8010000000 s (execTrvPhyWrite x1 x2 x3 s) := by
  intro x1 x2 x3 s
  unfold execTrvPhyWrite
  extract_lets +onlyGivenNames -underBinder v
  have hv : Touches 0x8010000000 s v := by
    unfold v
    with_reducible refine Touches.emit ?_ ?_
    with_reducible exact Touches.refl _ _
    rfl
  clear_value v
  split
  with_reducible refine ResT.next ?_
  with_reducible exact Touches.refl _ _
  with_reducible refine ResT.next ?_
  extract_lets +onlyGivenNames -underBinder v
  split
  with_reducible refine Touches.step ?_ (Foot.onChannel ..) ?_
  with_reducible assumption
  rfl
  with_reducible assumption

theorem Foot.cmdReadLine : ∀ x1 x2 x3 x4 x5 x6 x7 x8 s, ResT 0xd81068a084 s (execReadLine x1 x2 x3 x4 x5 x6 x7 x8 s) := by
  intro x1 x2 x3 x4 x5 x6 x7 x8 s
  unfold execReadLine
  with_reducible refine ResT.next ?_
  extract_lets +onlyGivenNames -underBinder v
  with_reducible refine Touches.step ?_ (Foot.readPkt ..) ?_
  with_reducible exact Touches.refl _ _
  rfl

theorem Foot.cmdReadParcel : ∀ x1 x2 x3 x4 x5 x6 x7 s, ResT 0xd81068a084 s (execReadParcel x1 x2 x3 x4 x5 x6 x7 s) := by
  intro x1 x2 x3 x4 x5 x6 x7 s
  unfold execReadParcel
  with_reducible refine ResT.next ?_
  extract_lets +onlyGivenNames -underBinder v
  with_reducible refine Touches.step ?_ (Foot.readPkt ..) ?_
  with_reducible exact Touches.refl _ _
  rfl

theorem Foot.cmdProgLine : ∀ x1 x2 x3 x4 x5 x6 s, ResT 0xd81068a084 s (execProgLine x1 x2 x3 x4 x5 x6 s) := by
  intro x1 x2 x3 x4 x5 x6 s
  unfold execProgLine
  with_reducible refine ResT.next ?_
  extract_lets +onlyGivenNames -underBinder v
  with_reducible refine Touches.step ?_ (Foot.progPkt ..) ?_
  with_reducible exact Touches.refl _ _
  rfl

theorem Foot.cmdProgParcel : ∀ x1 x2 x3 x4 x5 x6 s, ResT 0xd81068a084 s (execProgParcel x1 x2 x3 x4 x5 x6 s) := by
  intro x1 x2 x3 x4 x5 x6 s
  unfold execProgParcel
  with_reducible refine ResT.next ?_
  extract_lets +onlyGivenNames -underBinder v
  with_reducible refine Touches.foldl (fun _ _ _ => ?_) ?_
  extract_lets +onlyGivenNames -underBinder v
  extract_lets +onlyGivenNames -underBinder v
  extract_lets +onlyGivenNames -underBinder v
  have hv : Touches 0xd81068a084 s v := by
    unfold v
    with_reducible refine Touches.step ?_ (Foot.onChannel ..) ?_
    with_reducible assumption
    rfl
  clear_value v
  split
  with_reducible assumption
  with_reducible refine Touches.step ?_ (Foot.onChannel ..) ?_
  with_reducible assumption
  rfl
  extract_lets +onlyGivenNames -underBinder v
  with_reducible refine Touches.step ?_ (Foot.progPkt ..) ?_
  with_reducible exact Touches.refl _ _
  rfl

theorem Foot.cmdResetTract : ∀ x1 x2 x3 x4 s, ResT 0xd81068a084 s (execResetTract x1 x2 x3 x4 s) := by
  intro x1 x2 x3 x4 s
  unfold execResetTract
  extract_lets +onlyGivenNames -underBinder v
  extract_lets +onlyGivenNames -underBinder v
  split
  with_reducible refine ResT.next ?_
  with_reducible exact Touches.refl _ _
  with_reducible refine ResT.next ?_
  extract_lets +onlyGivenNames -underBinder v
  with_reducible refine Foot.send ?_ ?_ (fun _ _ _ => ?_)
  with_reducible exact Touches.refl _ _
  rfl
  extract_lets +onlyGivenNames -underBinder v
  extract_lets +onlyGivenNames -underBinder v
  have hv : Touches 0xd81068a084 s v := by
    unfold v
    with_reducible refine Touches.step ?_ (Foot.onDie ..) ?_
    with_reducible assumption
    rfl
  clear_value v
  split
  with_reducible refine Touches.modTrv ?_ ?_
  with_reducible assumption
  rfl
  with_reducible refine Touches.step ?_ (Foot.refuse ..) ?_
  with_reducible assumption
  rfl

theorem Foot.cmdSuspend : ∀ x1 x2 x3 x4 s, ResT 0xd81068a0a4 s (execSuspend x1 x2 x3 x4 s) := by
  intro x1 x2 x3 x4 s
  unfold execSuspend
  with_reducible refine ResT.next ?_
  extract_lets +onlyGivenNames -underBinder v
  with_reducible refine Foot.send ?_ ?_ (fun _ _ _ => ?_)
  with_reducible exact Touches.refl _ _
  rfl
  extract_lets +onlyGivenNames -underBinder v
  have hv : Touches 0xd81068a0a4 s v := by
    unfold v
    with_reducible refine Touches.pmc ?_ ?_
    extract_lets +onlyGivenNames -underBinder w
    with_reducible refine Touches.incReg ?_ ?_
    with_reducible assumption
    rfl
    rfl
  clear_value v
  extract_lets +onlyGivenNames -underBinder v
  split
  with_reducible refine Touches.step ?_ (Foot.onDie ..) ?_
  with_reducible assumption
  rfl
  with_reducible refine Touches.step ?_ (Foot.refuse ..) ?_
  with_reducible assumption
  rfl

theorem Foot.cmdResume : ∀ x1 x2 x3 x4 s, ResT 0xd81068a084 s (execResume x1 x2 x3 x4 s) := by
  intro x1 x2 x3 x4 s
  unfold execResume
  extract_lets +onlyGivenNames -underBinder v
  extract_lets +onlyGivenNames -underBinder v
  split
  with_reducible refine ResT.next ?_
  with_reducible exact Touches.refl _ _
  with_reducible refine ResT.next ?_
  extract_lets +onlyGivenNames -underBinder v
  with_reducible refine Foot.send ?_ ?_ (fun _ _ _ => ?_)
  with_reducible exact Touches.refl _ _
  rfl
  extract_lets +onlyGivenNames -underBinder v
  split
  with_reducible refine Touches.step ?_ (Foot.onDie ..) ?_
  with_reducible assumption
  rfl
  with_reducible refine Touches.step ?_ (Foot.refuse ..) ?_
  with_reducible assumption
  rfl

theorem Foot.cmdReadStatus : ∀ x1 x2 x3 s, ResT 0xf93f6ce2fd s (execReadStatus x1 x2 x3 s) := by
  intro x1 x2 x3 s
  unfold execReadStatus
  have h0 : Touches 0xf93f6ce2fd s s := Touches.refl _ _
  split
  · exact ResT.next h0
  extract_lets +onlyGivenNames -underBinder p s1
  have h1 : Touches 0xf93f6ce2fd s s1 := Foot.sendOn h0 rfl fun u h => h
  clear_value s1
  split
  · exact ResT.next h1
  extract_lets +onlyGivenNames -underBinder s2
  have h2 : Touches 0xf93f6ce2fd s s2 := Touches.step h1 (Foot.onChannel ..) rfl
  exact ResT.next (Touches.step (Touches.step h2 (Foot.collect ..) rfl) (Foot.collected ..) rfl)

theorem Foot.cmdSetLevel : ∀ x1 x2 x3 x4 x5 x6 s, ResT 0xd81068a084 s (execSetLevel x1 x2 x3 x4 x5 x6 s) := by
  intro x1 x2 x3 x4 x5 x6 s
  unfold execSetLevel
  with_reducible refine ResT.next ?_
  extract_lets +onlyGivenNames -underBinder v
  with_reducible refine Foot.send ?_ ?_ (fun _ _ _ => ?_)
  extract_lets +onlyGivenNames -underBinder v
  split
  with_reducible exact Touches.refl _ _
  with_reducible refine Touches.step ?_ (Foot.onChannel ..) ?_
  with_reducible exact Touches.refl _ _
  rfl
  rfl
  extract_lets +onlyGivenNames -underBinder v
  with_reducible refine Touches.step ?_ (Foot.onChannel ..) ?_
  with_reducible assumption
  rfl

theorem Foot.cmdGetTemp : ∀ x1 x2 x3 s, ResT 0xd81068a084 s (execGetTemp x1 x2 x3 s) := by
  intro x1 x2 x3 s
  unfold execGetTemp
  with_reducible refine ResT.next ?_
  extract_lets +onlyGivenNames -underBinder v
  with_reducible refine Foot.send ?_ ?_ (fun _ _ _ => ?_)
  with_reducible exact Touches.refl _ _
  rfl
  extract_lets +onlyGivenNames -underBinder v
  with_reducible refine Touches.step ?_ (Foot.onDie ..) ?_
  with_reducible assumption
  rfl

theorem Foot.cmdReadId : ∀ x1 x2 s, ResT 0xd81068a084 s (execReadId x1 x2 s) := by
  intro x1 x2 s
  unfold execReadId
  extract_lets +onlyGivenNames -underBinder v
  have hv : Touches 0xd81068a084 s v := by
    unfold v
    with_reducible refine Touches.step ?_ (Foot.releaseMedium ..) ?_
    with_reducible exact Touches.refl _ _
    rfl
  clear_value v
  extract_lets +onlyGivenNames -underBinder v
  split
  with_reducible refine ResT.next ?_
  with_reducible exact Touches.refl _ _
  with_reducible refine ResT.next ?_
  extract_lets +onlyGivenNames -underBinder v
  with_reducible refine Foot.sendOn ?_ ?_ (fun _ _ => ?_)
  with_reducible assumption
  rfl
  extract_lets +onlyGivenNames -underBinder v
  with_reducible refine Touches.step ?_ (Foot.onDie ..) ?_
  with_reducible assumption
  rfl

theorem Foot.cmdRdyNAssert : ∀ x1 x2 x3 x4 x5 x6 x7 s, ResT 0x793f6ce2fd s (execRdyNAssert x1 x2 x3 x4 x5 x6 x7 s) := by
  intro x1 x2 x3 x4 x5 x6 x7 s
  unfold execRdyNAssert
  extract_lets +onlyGivenNames -underBinder v
  have hv : Touches 0x793f6ce2fd s v := by
    unfold v
    with_reducible refine Touches.clockTo ?_ ?_
    with_reducible exact Touches.refl _ _
    rfl
  clear_value v
  extract_lets +onlyGivenNames -underBinder v
  extract_lets +onlyGivenNames -underBinder v
  split
  with_reducible refine ResT.next ?_
  with_reducible assumption
  split
  with_reducible refine ResT.next ?_
  with_reducible assumption
  with_reducible refine ResT.next ?_
  extract_lets +onlyGivenNames -underBinder v
  split
  with_reducible refine Touches.step ?_ (Foot.lateDone ..) ?_
  extract_lets +onlyGivenNames -underBinder v
  split
  with_reducible refine Touches.nearMiss ?_ ?_
  extract_lets +onlyGivenNames -underBinder v
  with_reducible refine Touches.incReg ?_ ?_
  extract_lets +onlyGivenNames -underBinder v
  with_reducible refine Touches.step ?_ (Foot.onChannel ..) ?_
  with_reducible assumption
  rfl
  rfl
  rfl
  with_reducible refine Touches.step ?_ (Foot.onChannel ..) ?_
  with_reducible assumption
  rfl
  rfl
  split
  with_reducible refine Touches.nearMiss ?_ ?_
  extract_lets +onlyGivenNames -underBinder v
  with_reducible refine Touches.incReg ?_ ?_
  extract_lets +onlyGivenNames -underBinder v
  with_reducible refine Touches.step ?_ (Foot.onChannel ..) ?_
  with_reducible assumption
  rfl
  rfl
  rfl
  with_reducible refine Touches.step ?_ (Foot.onChannel ..) ?_
  with_reducible assumption
  rfl

theorem Foot.cmdTrvCmdTimeout : ∀ x1 x2 x3 x4 x5 s, ResT 0xd81068a0a4 s (execTrvCmdTimeout x1 x2 x3 x4 x5 s) := by
  intro x1 x2 x3 x4 x5 s
  unfold execTrvCmdTimeout
  extract_lets +onlyGivenNames -underBinder v
  have hv : Touches 0xd81068a0a4 s v := by
    unfold v
    with_reducible refine Touches.clockTo ?_ ?_
    with_reducible exact Touches.refl _ _
    rfl
  clear_value v
  extract_lets +onlyGivenNames -underBinder v
  split
  with_reducible refine ResT.next ?_
  with_reducible assumption
  extract_lets +onlyGivenNames -underBinder v
  have hv : Touches 0xd81068a0a4 s v := by
    unfold v
    with_reducible refine Touches.flag ?_ ?_ ?_
    with_reducible assumption
    rfl
    rfl
  clear_value v
  extract_lets +onlyGivenNames -underBinder v
  have hv : Touches 0xd81068a0a4 s v := by
    unfold v
    with_reducible refine Touches.step ?_ (Foot.onDie ..) ?_
    with_reducible assumption
    rfl
  clear_value v
  split
  with_reducible refine ResT.next ?_
  with_reducible assumption
  with_reducible refine ResT.next ?_
  extract_lets +onlyGivenNames -underBinder v
  with_reducible refine Touches.emit ?_ ?_
  with_reducible assumption
  rfl

theorem Foot.cmdStatusRetry : ∀ x1 x2 x3 x4 x5 s, ResT 0xf93f6ce2fd s (execStatusRetry x1 x2 x3 x4 x5 s) := by
  intro x1 x2 x3 x4 x5 s
  unfold execStatusRetry
  extract_lets +onlyGivenNames -underBinder v
  have hv : Touches 0xf93f6ce2fd s v := by
    unfold v
    with_reducible refine Touches.clockTo ?_ ?_
    with_reducible exact Touches.refl _ _
    rfl
  clear_value v
  split
  with_reducible refine ResT.next ?_
  with_reducible assumption
  extract_lets +onlyGivenNames -underBinder v
  extract_lets +onlyGivenNames -underBinder v
  have hv : Touches 0xf93f6ce2fd s v := by
    unfold v
    with_reducible refine Touches.step ?_ (Foot.onDie ..) ?_
    with_reducible assumption
    rfl
  clear_value v
  split
  with_reducible refine ResT.next ?_
  with_reducible assumption
  split
  split
  with_reducible refine ResT.next ?_
  extract_lets +onlyGivenNames -underBinder v
  with_reducible refine Touches.step ?_ (Foot.dieLost ..) ?_
  with_reducible assumption
  rfl
  with_reducible refine ResT.next ?_
  extract_lets +onlyGivenNames -underBinder v
  with_reducible refine Touches.step ?_ (Foot.onDie ..) ?_
  with_reducible assumption
  rfl
  split
  with_reducible refine ResT.next ?_
  extract_lets +onlyGivenNames -underBinder v
  with_reducible refine Touches.step ?_ (Foot.dieLost ..) ?_
  with_reducible assumption
  rfl
  with_reducible refine ResT.next ?_
  extract_lets +onlyGivenNames -underBinder v
  with_reducible refine Touches.emit ?_ ?_
  with_reducible assumption
  rfl

theorem Foot.cmdTrvRetrainDone : ∀ x1 x2 x3 s, ResT 0x793f6ce2fd s (execTrvRetrainDone x1 x2 x3 s) := by
  intro x1 x2 x3 s
  unfold execTrvRetrainDone
  extract_lets +onlyGivenNames -underBinder v
  have hv : Touches 0x793f6ce2fd s v := by
    unfold v
    with_reducible refine Touches.clockTo ?_ ?_
    with_reducible exact Touches.refl _ _
    rfl
  clear_value v
  extract_lets +onlyGivenNames -underBinder v
  extract_lets +onlyGivenNames -underBinder v
  have hv : Touches 0x793f6ce2fd s v := by
    unfold v
    with_reducible refine Touches.clearBits ?_ ?_
    with_reducible assumption
    extract_lets +onlyGivenNames -underBinder w
    (simp <;> rfl)
  clear_value v
  extract_lets +onlyGivenNames -underBinder v
  have hv : Touches 0x793f6ce2fd s v := by
    unfold v
    with_reducible refine Touches.step ?_ (Foot.onChannel ..) ?_
    with_reducible assumption
    rfl
  clear_value v
  extract_lets +onlyGivenNames -underBinder v
  have hv : Touches 0x793f6ce2fd s v := by
    unfold v
    with_reducible refine Touches.setBits ?_ ?_
    extract_lets +onlyGivenNames -underBinder w
    with_reducible refine Touches.satField ?_ ?_
    with_reducible assumption
    extract_lets +onlyGivenNames -underBinder w
    (simp <;> rfl)
    rfl
  clear_value v
  extract_lets +onlyGivenNames -underBinder v
  have hv : Touches 0x793f6ce2fd s v := by
    unfold v
    with_reducible refine Touches.step ?_ (Foot.onChannel ..) ?_
    with_reducible assumption
    rfl
  clear_value v
  split
  with_reducible refine ResT.next ?_
  with_reducible assumption
  split
  with_reducible refine ResT.next ?_
  extract_lets +onlyGivenNames -underBinder v
  with_reducible refine Touches.raise ?_ ?_
  with_reducible assumption
  rfl
  with_reducible refine ResT.next ?_
  extract_lets +onlyGivenNames -underBinder v
  split
  with_reducible refine Touches.step ?_ (Foot.channelLost ..) ?_
  with_reducible assumption
  rfl
  with_reducible assumption

theorem Foot.cmdTrainingDone : ∀ x1 x2 x3 x4 s, ResT 0x793f6ce2fd s (execTrainingDone x1 x2 x3 x4 s) := by
  intro x1 x2 x3 x4 s
  unfold execTrainingDone
  have h0 : Touches 0x793f6ce2fd s s := Touches.refl _ _
  extract_lets +onlyGivenNames -underBinder s1
  have h1 : Touches 0x793f6ce2fd s s1 := Touches.clockTo h0 rfl
  clear_value s1
  split
  · exact ResT.next h1
  extract_lets +onlyGivenNames -underBinder s2
  have h2 : Touches 0x793f6ce2fd s s2 := Touches.modTrv (Touches.step h1 (Foot.releaseMedium ..) rfl) rfl
  clear_value s2
  refine ResT.next ?_
  have ho (n : Nat) : Nat.testBit 0x793f6ce2fd (Reg.TRVn_PHY n / 0x10000) = true := by
    rw [Reg.TRVn_PHY_block]; rfl
  refine Touches.foldl (fun n t h => ?_) h2
  split
  · exact h
  split
  · exact Touches.step (Touches.setReg h (ho n)) (Foot.onChannel ..) rfl
  · extract_lets +onlyGivenNames -underBinder s3
    have h3 : Touches 0x793f6ce2fd s s3 := Touches.raise (Touches.flag h rfl rfl) rfl
    clear_value s3
    split
    · exact Touches.step h3 (Foot.channelLost ..) rfl
    · exact h3

theorem Foot.cmdRetune : ∀ x1 s, ResT 0x10000020 s (execRetune x1 s) := by
  intro x1 s
  unfold execRetune
  extract_lets +onlyGivenNames -underBinder v
  extract_lets +onlyGivenNames -underBinder v
  extract_lets +onlyGivenNames -underBinder v
  extract_lets +onlyGivenNames -underBinder v
  have hv : Touches 0x10000020 s v := by
    unfold v
    with_reducible refine Touches.step ?_ (Foot.onChannel ..) ?_
    with_reducible exact Touches.refl _ _
    rfl
  clear_value v
  split
  with_reducible refine ResT.next ?_
  with_reducible exact Touches.refl _ _
  with_reducible refine ResT.next ?_
  extract_lets +onlyGivenNames -underBinder v
  split
  with_reducible refine Touches.setReg ?_ ?_
  with_reducible assumption
  extract_lets +onlyGivenNames -underBinder v
  (simp <;> rfl)
  with_reducible assumption

theorem Foot.cmdTempPoll : ∀ x1 s, ResT 0x10000000 s (execTempPoll x1 s) := by
  intro x1 s
  unfold execTempPoll
  extract_lets +onlyGivenNames -underBinder v
  extract_lets +onlyGivenNames -underBinder v
  extract_lets +onlyGivenNames -underBinder v
  extract_lets +onlyGivenNames -underBinder v
  extract_lets +onlyGivenNames -underBinder v
  extract_lets +onlyGivenNames -underBinder v
  have hv : Touches 0x10000000 s v := by
    unfold v
    with_reducible refine Touches.step ?_ (Foot.onChannel ..) ?_
    with_reducible exact Touches.refl _ _
    rfl
  clear_value v
  extract_lets +onlyGivenNames -underBinder v
  extract_lets +onlyGivenNames -underBinder v
  extract_lets +onlyGivenNames -underBinder v
  extract_lets +onlyGivenNames -underBinder v
  split
  with_reducible refine ResT.next ?_
  with_reducible exact Touches.refl _ _
  split
  with_reducible refine ResT.next ?_
  extract_lets +onlyGivenNames -underBinder v
  with_reducible refine Touches.step ?_ (Foot.onChannel ..) ?_
  with_reducible assumption
  rfl
  with_reducible refine ResT.next ?_
  with_reducible assumption

end Sys2Proof.Machine
end

