-- ==== Sys2Proof/Machine/Pins.lean ====
section
/-! DEFINITION. What the device drives on its pins (R201, R203, R289, R459, R487, R488, R491, R508, Tables PKG-8 and PWR-4), as a
function of the state. -/

namespace Sys2Proof.Machine

/-- The level of a pin: `some` where the device drives it, `none` where it is high impedance or an open drain released. -/
structure Pins where
  alertN : Option Bool
  thermtripN : Option Bool
  pwrfailN : Option Bool
  holdupOk : Option Bool
  surveyOut : Option Bool
  trvRstN : Option Bool
  deriving DecidableEq, Repr

/-- An open-drain output. -/
def openDrain (low : Bool) : Option Bool := if low then some false else none

/-- SURVEY_OUT is high: a pulse runs and OUT_EN is 1 (R203). -/
def State.surveyHigh (s : State) : Bool :=
  s.bit Reg.DTM_SVY_CTL 0 && s.dtm.outUntil.any fun u => decide (s.dtm.mono < u)

/-- The pins. A held warm reset drives SURVEY_OUT low and leaves the other pins of this table running (R488). -/
def State.pins (s : State) : Pins :=
  if !s.sys.supplies then ⟨none, none, none, none, none, none⟩
  else
    { alertN := openDrain (s.alertSrc.testBit 31), thermtripN := openDrain s.thermTripLow, pwrfailN := openDrain s.pwr.pwrfail,
      holdupOk := some (s.pwr.bank == .armed), surveyOut := some (!s.sys.inReset && s.surveyHigh), trvRstN := some (!s.trv.rstLow) }

/-- The SMBus target address (R491), at which the MCTP endpoint answers while no reset and no program or erase of the parameter
store keeps it from answering (R427, R501). -/
def State.smbusAddress (s : State) : Option Nat := if s.reaches .mctp then some (0x60 + s.sys.straps.toNat / 4) else none

end Sys2Proof.Machine
end

