-- ==== Sys2Proof/WellFormed.lean ====
section
/-! DEFINITION. Which commands are well formed: operand values within the widths and ranges the spec gives them. A value
that the device itself refuses (a misaligned address, a decoder with a bad granularity) is well formed. -/

namespace Sys2Proof

/-- The operand fits a field of that many values. -/
def inRange (n limit : Nat) : Bool := decide (n < limit)

/-- An address of the register space: a multiple of 4 in the 1 MiB of BAR2 (R6, R501). -/
def regAddress (off : Nat) : Bool := inRange off 0x100000 && off % 4 == 0

/-- The command is well formed. -/
def Instr.wf : Instr → Bool
  | .suppliesGood _ _ _ => true
  | .supplyLoss => true
  | .railWarn _ => true
  | .resetInputLow _ _ => true
  | .resetInputRelease _ _ => true
  | .resetFlushDone _ => true
  | .functionLevelReset _ => true
  | .hostLinkTrain _ _ width _ => [1, 2, 4, 8, 16].contains width
  | .laneFail _ _ _ _ => true
  | .linkDown _ => true
  | .ideRxFlit _ _ => true
  | .m2sRwd _ line _ _ _ => inRange line (2 ^ 46)
  | .m2sReq _ line tag _ => inRange line (2 ^ 46) && inRange tag 65536
  | .pwbInstall _ _ => true
  | .readPerform _ tag _ => inRange tag 65536
  | .lineReadReturn line _ => inRange line (2 ^ 46)
  | .writeThroughVerify _ _ _ _ => true
  | .ideTxMacFailReport _ => true
  | .ideIvThreshold _ => true
  | .ideIvExhaust _ _ => true
  | .ideRefreshTimeout _ _ => true
  | .ideKmQuery _ => true
  | .ideKmKeyProg _ _ _ _ _ _ => true
  | .ideKmKSetGo _ _ _ _ _ => true
  | .ideKmKSetStop _ _ _ => true
  | .ideKmGetKey _ _ _ => true
  | .gpfPhase1 _ => true
  | .gpfPhase2 _ _ => true
  | .gpfPhase2Timeout _ _ => true
  | .hdmDecoderCommit _ _ hpa size skip ways gran _ => inRange hpa (2 ^ 64) && inRange size (2 ^ 64) &&
    inRange skip (2 ^ 64) && inRange ways 256 && inRange gran (2 ^ 32)
  | .linkDisable _ _ _ => true
  | .linkRetrain _ _ => true
  | .portDrain _ _ => true
  | .doeDiscovery _ _ => true
  | .cdatTableAccess _ => true
  | .spdmGetVersion _ => true
  | .spdmGetCapabilities _ => true
  | .spdmNegotiateAlgorithms _ => true
  | .spdmGetDigests _ => true
  | .spdmGetCertificate _ _ offset length => inRange offset 65536 && inRange length 65536
  | .spdmChallenge _ _ => true
  | .spdmGetMeasurements _ index _ => inRange index 256
  | .spdmKeyExchange _ session => inRange session 65536
  | .spdmFinish _ => true
  | .spdmEndSession _ => true
  | .identify _ => true
  | .backgroundOperationStatus _ => true
  | .getEventRecords _ _ => true
  | .clearEventRecords _ _ _ _ => true
  | .getEventInterruptPolicy _ => true
  | .setEventInterruptPolicy _ _ => true
  | .getFwInfo _ => true
  | .transferFw _ offset bytes _ _ => inRange offset (2 ^ 32) && decide (bytes.length ≤ 65536)
  | .activateFw _ _ => true
  | .getTimestamp _ _ => true
  | .setTimestamp _ _ _ => true
  | .getSupportedLogs _ => true
  | .getLog _ _ offset length => inRange offset (2 ^ 32) && inRange length (2 ^ 32)
  | .identifyMemoryDevice _ => true
  | .getLsa _ offset length => inRange offset (2 ^ 32) && inRange length (2 ^ 32)
  | .setLsa _ offset bytes => inRange offset (2 ^ 32) && decide (bytes.length ≤ 1024)
  | .getHealthInfo _ => true
  | .getShutdownState _ => true
  | .setShutdownState _ _ => true
  | .getPoison _ first count => inRange first (2 ^ 64) && inRange count (2 ^ 64)
  | .injectPoison _ dpa => inRange dpa (2 ^ 64)
  | .clearPoison _ dpa _ => inRange dpa (2 ^ 64)
  | .getScanMediaCapabilities _ first count => inRange first (2 ^ 64) && inRange count (2 ^ 64)
  | .scanMedia _ first count => inRange first (2 ^ 64) && inRange count (2 ^ 64)
  | .scanMediaComplete _ => true
  | .getScanMediaResults _ => true
  | .sanitize _ => true
  | .sanitizeComplete _ => true
  | .secureErase _ => true
  | .secureEraseComplete _ => true
  | .getSecurityState _ => true
  | .setPassphrase _ _ _ _ => true
  | .disablePassphrase _ _ => true
  | .unlock _ _ => true
  | .freezeSecurityState _ => true
  | .passphraseSecureErase _ _ => true
  | .releaseRange _ dpa len _ => inRange dpa (2 ^ 64) && inRange len (2 ^ 64)
  | .releaseRangeSecure _ dpa len _ => inRange dpa (2 ^ 64) && inRange len (2 ^ 64)
  | .flushLine _ dpa count _ => inRange dpa (2 ^ 64) && inRange count (2 ^ 32)
  | .invalLine _ dpa count _ => inRange dpa (2 ^ 64) && inRange count (2 ^ 32)
  | .zeroLine _ dpa count _ => inRange dpa (2 ^ 64) && inRange count (2 ^ 32)
  | .zeroParcel _ dpa count _ => inRange dpa (2 ^ 64) && inRange count (2 ^ 32)
  | .holdingCryptoErase _ id _ => inRange id (2 ^ 32)
  | .replatWrite _ offset bytes _ _ _ => inRange offset (2 ^ 32) && decide (bytes.length ≤ 65536)
  | .replatApply _ _ _ _ => true
  | .replatAbort _ _ => true
  | .assayStart _ => true
  | .assayResult _ => true
  | .surveyStrobe _ => true
  | .surveyRead _ block start count _ => inRange block 65536 && inRange start 65536 && inRange count 65536
  | .unsupportedOpcode _ _ => true
  | .clockFrontHand => true
  | .clockBackHand => true
  | .writeBackCommit parcel _ _ => inRange parcel (2 ^ 40)
  | .runMonumentWrite => true
  | .stgEnableClear _ _ => true
  | .stgEnableSet _ _ => true
  | .cleanAll _ => true
  | .tagCacheInvalidateDone => true
  | .stagingInvalidateDone => true
  | .stgClockParamWrite _ _ _ => true
  | .streamBandIdle _ _ => true
  | .wtSlotIdle parcel _ => inRange parcel (2 ^ 40)
  | .bwsDispatch _ _ => true
  | .mergeCommit _ _ => true
  | .checkpointSeal => true
  | .tractResetDone _ _ => true
  | .heatHalving _ => true
  | .chainRebuildDone _ => true
  | .ckptNow _ => true
  | .mergeAll _ => true
  | .streamEnClear _ => true
  | .cdsParamWrite _ _ _ => true
  | .xoLoss _ => true
  | .xoReturn _ _ => true
  | .datumDeedTimer _ => true
  | .slewComplete _ => true
  | .dtmParamWrite _ _ _ => true
  | .surveyStrobeWrite _ => true
  | .surveyInEdge => true
  | .surveyLatch => true
  | .surveyOutEnd => true
  | .readLine _ _ _ _ _ _ _ _ => true
  | .readParcel _ _ _ _ _ _ _ => true
  | .progLine _ _ _ _ _ _ => true
  | .progParcel _ _ _ _ _ _ => true
  | .resetTract _ _ _ _ => true
  | .suspend _ _ _ _ => true
  | .resume _ _ _ _ => true
  | .readStatus _ _ _ => true
  | .setLevel _ _ _ _ _ _ => true
  | .getTemp _ _ _ => true
  | .readId _ _ => true
  | .rdyNAssert _ _ _ _ _ _ _ => true
  | .trvCmdTimeout _ _ _ _ _ => true
  | .statusRetry _ _ _ _ _ => true
  | .trvRetrainDone _ _ _ => true
  | .trainingDone _ dies phy _ => dies.length == 32 && phy.length == 32
  | .retune _ => true
  | .tempPoll _ => true
  | .trvRetrainWrite _ _ => true
  | .trvPhyWrite _ _ _ => true
  | .trvParamWrite _ _ _ => true
  | .weightedClockTick _ => true
  | .levelAdjust _ _ => true
  | .readCountAnneal _ _ => true
  | .patrolPassStart _ => true
  | .patrolNow _ => true
  | .rebuildCommit _ _ => true
  | .mdcParamWrite _ _ _ => true
  | .lineSenseEdge _ => true
  | .lineEdgeLate _ => true
  | .braceTimeout _ => true
  | .relock _ => true
  | .simTrip _ => true
  | .vinDrop _ _ => true
  | .vinTrip _ => true
  | .vinRecover _ _ => true
  | .sealDone _ => true
  | .drainParcel _ _ _ => true
  | .monumentDone _ => true
  | .restDone _ => true
  | .safeResume _ _ => true
  | .idealDiodeSwitch _ _ _ => true
  | .hvRefreshTimeout => true
  | .overcurrent => true
  | .chargeOvervoltStop _ cells => decide (cells.length ≤ 8)
  | .floatReached _ => true
  | .cellMeasure cells _ _ _ _ => decide (cells.length ≤ 8)
  | .energyMeterUpdate _ _ _ _ _ _ => true
  | .liveEstimate _ _ _ => true
  | .noBankCheck _ _ => true
  | .chargeTimeout _ => true
  | .assayDue _ => true
  | .assayNow _ => true
  | .assaySlackExpiry _ => true
  | .assayRelaxDone _ => true
  | .assayEsrSample _ _ => true
  | .assayIntegrationEnd _ _ => true
  | .assayDone _ => true
  | .baseReset _ => true
  | .pwrParamWrite _ _ _ => true
  | .pflParamWrite _ _ => true
  | .bootComplete readings _ _ => readings.length == 14
  | .platLoad _ => true
  | .recoverComplete _ _ _ => true
  | .warmupTimeout _ => true
  | .rekeyStartWrite _ _ => true
  | .imeParamWrite _ _ => true
  | .gcmEncrypt _ => true
  | .gcmDecrypt _ => true
  | .gmac _ => true
  | .gmacVerify _ => true
  | .wrap _ => true
  | .unwrap _ => true
  | .derive _ => true
  | .sha384 _ => true
  | .genKey _ => true
  | .zeroSlot _ => true
  | .ideMove _ => true
  | .ckeOpComplete _ => true
  | .keyDataWrite _ _ => true
  | .keyLoad _ _ => true
  | .keyZero _ _ => true
  | .newChal _ => true
  | .challengeExpiry _ => true
  | .stageDataWrite _ _ => true
  | .evrClear _ => true
  | .ownerEnroll _ => true
  | .ownerRemove _ => true
  | .akReplace _ => true
  | .debugUnlock _ => true
  | .revokeFoaroKey _ => true
  | .rngRetest _ _ => true
  | .drbgReseed _ => true
  | .ringEntryPost role src op payload => inRange role 1024 && inRange src 256 && inRange op 65536 && decide (payload.length ≤ 56)
  | .engineWatchdogExpiry _ _ _ _ => true
  | .engineTrap _ _ => true
  | .engineSramUe _ _ => true
  | .lockstepMismatch _ => true
  | .failoverLoadDone _ _ => true
  | .failoverTimeout _ _ => true
  | .engineSelftestDone _ _ => true
  | .engineSelftestWrite _ _ => true
  | .engineHold _ _ _ => true
  | .pstOpStart _ => true
  | .pageProgramDone _ _ => true
  | .sectorEraseDone _ _ => true
  | .pageProgramTimeout _ => true
  | .sectorEraseTimeout _ => true
  | .mgmtHoldTimeout _ => true
  | .pstRead _ => true
  | .pstProg _ => true
  | .pstErase _ => true
  | .pstBlankCheck _ => true
  | .pstDataAccess _ _ => true
  | .marginScan _ => true
  | .collect _ _ => true
  | .pstParamWrite _ _ => true
  | .tokenRefill code _ => inRange code 65536
  | .suppressedSummary code _ => inRange code 65536
  | .suppTableFull _ => true
  | .evrCursorOldest _ => true
  | .evrCursorNewest _ => true
  | .evrCursorNext _ => true
  | .evrCursorPrev _ => true
  | .evrCursorWrite _ _ => true
  | .sensorSample readings _ => readings.length == 14
  | .levelFall _ => true
  | .riseBoost _ => true
  | .riseBoostEnd _ => true
  | .quenchHoldExpiry _ => true
  | .quenchRestart _ => true
  | .thmParamWrite _ _ => true
  | .svyWinSelWrite _ _ => true
  | .svyWin7Read _ => true
  | .pmcOverflow _ src _ => inRange src 256
  | .pmcCntWrite _ _ _ _ => true
  | .pmcCfgWrite _ _ _ => true
  | .pmcCntRead _ _ => true
  | .pairLoRead _ off => regAddress off
  | .pairHiRead _ off => regAddress off
  | .pairHiWrite _ off _ => regAddress off
  | .pairLoWrite _ off _ => regAddress off
  | .pair8bAccess _ off _ => regAddress off
  | .unsupportedAccess _ _ => true
  | .unimplAccess _ off _ => regAddress off
  | .rcRead _ off _ => regAddress off
  | .registerWrite _ off _ _ => regAddress off
  | .sysRstWarm _ _ => true
  | .sysRstCold _ _ => true
  | .sysRstDiag _ _ => true
  | .replatLock _ => true
  | .pltAbort _ => true
  | .energyPairRestartDone _ => true
  | .tapInstruction _ _ => true
  | .hdmDecoderUncommit _ _ => true
  | .pllUnlock _ => true

end Sys2Proof
end

