-- ==== Sys2Proof/Tests/Slice0.lean ====
section
/-! SUPPORT. Our own tests: ill-formed commands that well-formedness refuses, single steps on small states, and witnesses
that the statements' hypotheses can be met. -/

open Sys2Proof Sys2Proof.Machine

theorem test_wf_rail : (Instr.railWarn 6).wf = true := by decide
end

section
/-! # Register accesses (R3 to R9, R503)

What a read and a write of the register space do, for the statements about reads and about writes by access type, pair and
requester. -/

namespace Sys2Proof.Machine

/-! ## The shadows of a requester -/

/-- Two states with the same shadows of both requesters show each requester the same. -/
theorem State.shadow_congr {s t : State} (hb : t.bar2 = s.bar2) (hm : t.mctp = s.mctp) (q : Requester) :
    t.shadow q = s.shadow q := by
  cases q
  · exact hb
  · exact hm

@[simp] theorem State.emit_shadow (s : State) (x : Output) (q : Requester) : (s.emit x).shadow q = s.shadow q :=
  State.shadow_congr rfl rfl q

@[simp] theorem State.modShadow_shadow (s : State) (q : Requester) (f : Shadow → Shadow) :
    (s.modShadow q f).shadow q = f (s.shadow q) := by
  cases q <;> rfl

/-- Only the shadow at hand matters to an update of it. -/
theorem State.modShadow_congr {s : State} {q : Requester} {f g : Shadow → Shadow} (h : f (s.shadow q) = g (s.shadow q)) :
    s.modShadow q f = s.modShadow q g := by
  cases q
  · exact congrArg (fun x => { s with bar2 := x }) h
  · exact congrArg (fun x => { s with mctp := x }) h

/-! ## Pairs among the registers -/

theorem isPairLo_iff {off : Nat} : isPairLo off = true ↔ off ∈ pairLos := List.contains_iff_mem

/-- No _LO register of a pair is read in a way of its own. -/
theorem pairLo_read_plain {off : Nat} (h : isPairLo off = true) :
    off ≠ Reg.PST_DATA ∧ off ≠ Reg.SVY_WIN 7 ∧ pmcOf off = none := by
  have all : ∀ o ∈ pairLos, o ≠ Reg.PST_DATA ∧ o ≠ Reg.SVY_WIN 7 ∧ pmcOf o = none := by decide
  exact all off (isPairLo_iff.1 h)

/-! ## An access outside the registers (R503) -/

theorem bitIf_true (k : Nat) : bitIf k true = 2 ^ k := rfl

section
variable (s : State) (off : Nat) (w : Bool)

/-- The record of an access outside the registers, before the error flag that SYS_CTL enables. -/
theorem State.unimpl_eq : s.unimpl off w =
    let u := (s.setNat Reg.SYS_UNIMPL_ADDR (off % 2 ^ 20 + bitIf 31 w)).incReg Reg.SYS_UNIMPL_CNT
    if s.bit Reg.SYS_CTL 1 then u.flag Reg.SYS_ERR_STAT Reg.SYS_ERR_EN 0 false else u := by
  have hbit : ((s.setNat Reg.SYS_UNIMPL_ADDR (off % 2 ^ 20 + bitIf 31 w)).incReg Reg.SYS_UNIMPL_CNT).bit Reg.SYS_CTL 1 =
      s.bit Reg.SYS_CTL 1 := by
    simp only [State.bit, State.incReg_getReg, State.setNat_getReg]; rfl
  simp only [State.unimpl, hbit]

/-- An access outside the registers sends no message of its own and leaves both shadows. -/
theorem State.unimpl_frame : let t := s.unimpl off w
    t.out = s.out ∧ t.bar2 = s.bar2 ∧ t.mctp = s.mctp := by
  rw [State.unimpl_eq]; dsimp only; split
  · rw [State.flag_out, State.flag_bar2, State.flag_mctp]; exact ⟨rfl, rfl, rfl⟩
  · exact ⟨rfl, rfl, rfl⟩

theorem State.unimpl_addr : (s.unimpl off w).getReg Reg.SYS_UNIMPL_ADDR = BitVec.ofNat 32 (off % 2 ^ 20 + bitIf 31 w) := by
  rw [State.unimpl_eq]; dsimp only; split
  · rw [State.flag_getReg _ _ _ _ _ _ (by decide) (by decide), State.incReg_getReg, if_neg (by decide),
      State.setNat_getReg, if_pos rfl]
  · rw [State.incReg_getReg, if_neg (by decide), State.setNat_getReg, if_pos rfl]

theorem State.unimpl_count : (s.unimpl off w).getReg Reg.SYS_UNIMPL_CNT = s.getReg Reg.SYS_UNIMPL_CNT + 1 := by
  rw [State.unimpl_eq]; dsimp only; split
  · rw [State.flag_getReg _ _ _ _ _ _ (by decide) (by decide), State.incReg_getReg, if_pos rfl,
      State.setNat_getReg, if_neg (by decide)]
  · rw [State.incReg_getReg, if_pos rfl, State.setNat_getReg, if_neg (by decide)]

/-- With SYS_CTL set so, the access sets its error flag. -/
theorem State.unimpl_errStat (h : s.bit Reg.SYS_CTL 1 = true) :
    (s.unimpl off w).getReg Reg.SYS_ERR_STAT = s.getReg Reg.SYS_ERR_STAT ||| 1 := by
  rw [State.unimpl_eq]; dsimp only
  rw [if_pos h, State.flag_stat _ _ _ _ _ (by decide), State.incReg_getReg, if_neg (by decide), State.setNat_getReg,
    if_neg (by decide)]
  rfl

/-- Without it, only registers of the SYS block change. -/
theorem State.unimpl_touches (h : s.bit Reg.SYS_CTL 1 = false) : Touches (parts [.reg 0]) s (s.unimpl off w) := by
  rw [State.unimpl_eq]; dsimp only
  rw [if_neg (by simp [h])]
  exact ((Touches.refl _ s).setNat (by decide)).incReg (by decide)

end

/-! ## Reads -/

section
variable (s : State) (off : Nat) (same : Word)

/-- But for THM_TEMPER_TIME, which has a clock of its own, the clear of a read writes at most the register read. -/
theorem State.clearRead_eq (h : off ≠ Reg.THM_TEMPER_TIME) : s.clearRead off same =
    let rc := BitVec.ofNat 32 (((regRow off).map (·.rc)).getD 0)
    if rc = 0 then s else s.setReg off ((s.getReg off &&& ~~~ rc) ||| (same &&& rc)) := by
  simp only [State.clearRead, if_neg h]

/-- A read clears the RC fields but for what the same cycle contributes (R9). -/
theorem State.clearRead_getReg_same (h : off ≠ Reg.THM_TEMPER_TIME) : (s.clearRead off same).getReg off =
    (s.getReg off &&& ~~~ BitVec.ofNat 32 (((regRow off).map (·.rc)).getD 0)) |||
      (same &&& BitVec.ofNat 32 (((regRow off).map (·.rc)).getD 0)) := by
  rw [State.clearRead_eq _ _ _ h]; dsimp only; split
  · rename_i hrc; simp only [hrc, BitVec.ofNat_eq_ofNat, BitVec.not_zero, BitVec.and_allOnes, BitVec.and_zero, BitVec.or_zero]
  · exact State.getReg_setReg_same ..

theorem State.clearRead_getReg_ne (h : off ≠ Reg.THM_TEMPER_TIME) {o : Nat} (ho : o ≠ off) :
    (s.clearRead off same).getReg o = s.getReg o := by
  rw [State.clearRead_eq _ _ _ h]; dsimp only; split
  · rfl
  · exact State.getReg_setReg_ne _ _ ho

/-- A read's clear leaves the recorder, both shadows and the messages. -/
theorem State.clearRead_frame (h : off ≠ Reg.THM_TEMPER_TIME) : let t := s.clearRead off same
    t.evr = s.evr ∧ t.bar2 = s.bar2 ∧ t.mctp = s.mctp ∧ t.out = s.out := by
  rw [State.clearRead_eq _ _ _ h]; dsimp only; split <;> exact ⟨rfl, rfl, rfl, rfl⟩

variable {s off} {via : Via}

section
variable (hh : s.hidden via off = false) (hi : s.implemented off = true) (hp : off ≠ Reg.PST_DATA)
  (hw : off ≠ Reg.SVY_WIN 7) (hc : pmcOf off = none)
include hh hi hp hw hc

/-- The read of a register that is no half of a pair. -/
theorem State.readReg_single (hlo : isPairLo off = false) (hhi : isPairHi off = false) :
    s.readReg via off same = (s.showsTo via.requester off, s.clearRead off same) := by
  simp only [State.readReg, hh, hi, if_neg hp, if_neg hw, hc, hlo, hhi, Bool.false_eq_true, Bool.not_true, if_false]

/-- The read of a _LO register latches the _HI register for its requester (R4). -/
theorem State.readReg_lo (hlo : isPairLo off = true) : s.readReg via off same =
    (s.showsTo via.requester off,
      s.modShadow via.requester fun x => { x with readHi := some (off + 4, s.showsTo via.requester (off + 4)) }) := by
  simp only [State.readReg, hh, hi, if_neg hp, if_neg hw, hc, hlo, Bool.false_eq_true, Bool.not_true, if_false, if_true]

/-- The read of a _HI register that is latched takes the latched value (R4). -/
theorem State.readReg_hi_latched (hlo : isPairLo off = false) (hhi : isPairHi off = true) {w : Word}
    (hs : (s.shadow via.requester).readHi = some (off, w)) :
    s.readReg via off same = (w, s.modShadow via.requester fun x => { x with readHi := none }) := by
  simp only [State.readReg, hh, hi, if_neg hp, if_neg hw, hc, hlo, hhi, hs, Bool.false_eq_true, Bool.not_true, if_false, if_true]

/-- With nothing latched, the read of a _HI register gives its value now (R4). -/
theorem State.readReg_hi_live (hlo : isPairLo off = false) (hhi : isPairHi off = true)
    (hs : (s.shadow via.requester).readHi = none) : s.readReg via off same = (s.showsTo via.requester off, s) := by
  simp only [State.readReg, hh, hi, if_neg hp, if_neg hw, hc, hlo, hhi, hs, Bool.false_eq_true, Bool.not_true, if_false, if_true]

end

/-! The read commands of a requester that reaches the device. -/

variable (hr : s.reaches via = true)
include hr

theorem exec_rcRead : exec (.rcRead via off same) s = .next (s.read4 via off same) := by
  change execRcRead via off same s = _
  simp [execRcRead, hr]

theorem exec_pairLoRead (hlo : isPairLo off = true) : exec (.pairLoRead via off) s = .next (s.read4 via off 0) := by
  change execPairLoRead via off s = _
  simp [execPairLoRead, hr, hlo]

theorem exec_pairHiRead (hhi : isPairHi off = true) : exec (.pairHiRead via off) s = .next (s.read4 via off 0) := by
  change execPairHiRead via off s = _
  simp [execPairHiRead, hr, hhi]

/-- An 8-byte read of a pair that is there takes both halves as they are now (R6). -/
theorem exec_pair8bRead (hh : s.hidden via off = false) (hi : s.implemented off = true) (hlo : isPairLo off = true)
    (ha : off % 4 = 0) (hb : off + 8 ≤ 2 ^ 20) : exec (.pair8bAccess via off none) s =
      .next (s.emit (.regRead64 via off (s.showsTo via.requester (off + 4) ++ s.showsTo via.requester off))) := by
  change execPair8bAccess via off none s = _
  have hb' : ¬ 2 ^ 20 < off + 8 := by omega
  simp only [execPair8bAccess, hr, hh, hi, hlo, ha, decide_eq_false hb', Bool.not_true, Bool.not_false, Bool.and_true,
    Bool.or_false, bne_self_eq_false, Bool.false_eq_true, if_false, if_true]

theorem exec_unimplRead (hh : s.hidden via off = false) (hi : s.implemented off = false) :
    exec (.unimplAccess via off false) s = .next ((s.unimpl off false).emit (.regRead via off 0)) := by
  change execUnimplAccess via off false s = _
  simp [execUnimplAccess, hr, hh, hi]

end

/-- Settles O24: each read command answers what `readReg` gives for its kind of register, and an offset without a register is
recorded by `unimpl`. -/
theorem registerReads : Obligations.RegisterReads := by
  unfold Obligations.RegisterReads
  intro s via off hr hh
  refine ⟨fun same hi hp hw ht hc hlo hhi => ?single, fun hi hlo => ?lo, fun w hi hlo hhi hc hp hw hs => ?latched,
    fun hi hlo hhi hc hp hw hs => ?live, fun hi hlo ha hb => exec_pair8bRead hr hh hi hlo ha hb, fun hi => ?unimpl⟩
  case single =>
    obtain ⟨hevr, hbar2, hmctp, hout⟩ := s.clearRead_frame off same ht
    refine ⟨_, exec_rcRead same hr, ?_⟩
    rw [State.read4, State.readReg_single same hh hi hp hw hc hlo hhi]
    exact ⟨congrArg (· ++ _) hout, s.clearRead_getReg_same off same ht, fun o ho => s.clearRead_getReg_ne off same ht ho,
      hevr, hbar2, hmctp⟩
  case lo =>
    obtain ⟨hp, hw, hc⟩ := pairLo_read_plain hlo
    exact ⟨_, exec_pairLoRead hr hlo, by rw [State.read4, State.readReg_lo 0 hh hi hp hw hc hlo]⟩
  case latched => rw [exec_pairHiRead hr hhi, State.read4, State.readReg_hi_latched 0 hh hi hp hw hc hlo hhi hs]
  case live => rw [exec_pairHiRead hr hhi, State.read4, State.readReg_hi_live 0 hh hi hp hw hc hlo hhi hs]
  case unimpl =>
    refine ⟨_, exec_unimplRead hr hh hi, ?_⟩
    beta_reduce
    rw [State.emit_getReg, State.emit_getReg, State.emit_getReg, State.emit_out, State.unimpl_addr, State.unimpl_count,
      (s.unimpl_frame off false).1]
    exact ⟨rfl, rfl, rfl, s.unimpl_errStat off false,
      fun hb => ((s.unimpl_touches off false hb).mono (by decide)).emit (by decide)⟩

/-! ## Writes with an effect of their own -/

/-- The registers of a block whose write has an effect of its own. -/
def ownWrites : Nat → List Nat
  | 0x0 | 0x1 => [Reg.SYS_RST_CTL, Reg.PLT_CTL]
  | 0x2 => (List.finRange 2).map (Reg.HPT_CTL ·.val) ++ (List.finRange 2).map (Reg.HPT_DRAIN_CTL ·.val)
  | 0x3 => [Reg.STG_CTL, Reg.STG_FREE_LOW, Reg.STG_FREE_HIGH, Reg.STG_CLOCK_SPREAD]
  | 0x4 => [Reg.CDS_CTL, CdsParam.logFloor.off, CdsParam.chainMax.off, CdsParam.wearSpread.off, CdsParam.wearHyst.off,
      CdsParam.binWidth.off, CdsParam.ckptHigh.off, CdsParam.ckptLow.off, CdsParam.bwsCtl.off]
  | 0x5 => [Reg.TRV_WAIT_LIMIT, Reg.TRV_RETUNE_CFG] ++ (List.finRange 32).map (Reg.TRVn_CTL ·.val) ++
      (List.finRange 32).map (Reg.TRVn_PHY ·.val)
  | 0x6 => [Reg.MDC_CTL, MdcParam.retainH.row.1, MdcParam.annealPlan.row.1, MdcParam.rdcntLog2.row.1, MdcParam.unpwrTemp.row.1,
      MdcParam.patrolDays.row.1, MdcParam.refreshBits.row.1]
  | 0x7 => [Reg.DTM_CTL, Reg.DTM_SLEW_PPM, Reg.DTM_STEP_US, Reg.DTM_SVY_STROBE]
  | 0x8 => [Reg.PWR_CTL, Reg.PWR_C_MARGIN, Reg.PWR_ESR_FACTOR, Reg.PWR_HB_EXTRA_MW, Reg.PFL_CTL, Reg.PFL_BRACE_MAX_MS]
  | 0x9 => [Reg.IME_META_HIGH, Reg.IME_REKEY_CTL]
  | 0xA => [Reg.CKE_OP_CTL, Reg.CKE_KEY_DATA, Reg.CKE_KEY_CTL, Reg.CKE_AUTH_CTL, Reg.CKE_STAGE_DATA]
  | 0xB => (List.finRange 24).map (Reg.En_CTL ·.val)
  | 0xC => [Reg.PST_CTL, Reg.PST_LEN, Reg.PST_DATA, Reg.PST_CMD]
  | 0xD => [Reg.EVR_CUR_CMD, Reg.EVR_CURSOR]
  | 0xE => [Reg.THM_CTL, Reg.THM_MED_LIMIT]
  | 0xF => [Reg.SVY_WIN_SEL, Reg.SVY_INT_STAT] ++ (List.finRange 48).map (Reg.PMC_CFG ·.val) ++
      (List.finRange 48).map (Reg.PMC_CNT ·.val)
  | _ => []

/-- A write has an effect of its own at the registers of `ownWrites` only. -/
theorem State.writeOwn_none {off : Nat} (h : off ∉ ownWrites (off / 0x10000)) (s : State) (via : Via) (v same : Word) :
    s.writeOwn via off v same = none := by
  unfold State.writeOwn
  generalize off / 0x10000 = b at h ⊢
  split <;> simp only [ownWrites, List.mem_cons, List.mem_append, List.mem_map, List.mem_finRange, true_and, List.not_mem_nil,
    or_false, not_or, not_exists, eq_comm (b := off)] at h
  case h_1 => simp only [State.writeSys, h, if_false]
  case h_2 => simp only [State.writeSys, h, if_false]
  case h_3 => simp only [State.writeHpt, h, if_false]
  case h_4 => simp only [State.writeStg, h, if_false]
  case h_5 => simp [State.writeCds, h, eq_comm (b := off)]
  case h_6 => simp only [State.writeTrv, h, if_false]
  case h_7 => simp [State.writeMdc, h, eq_comm (b := off)]
  case h_8 => simp only [State.writeDtm, h, if_false]
  case h_9 => simp only [State.writePwr, h, if_false]
  case h_10 => simp only [State.writeIme, h, if_false]
  case h_11 => simp only [State.writeCke, h, if_false]
  case h_12 => simp only [State.writeEng, h, if_false]
  case h_13 => simp only [State.writePst, h, if_false]
  case h_14 => simp only [State.writeEvr, h, if_false]
  case h_15 => simp only [State.writeThm, h, if_false]
  case h_16 => simp only [State.writeSvy, h, if_false]
  case h_17 => rfl

theorem pair_not_ownWrites {off : Nat} (h : isPairLo off = true) :
    off ∉ ownWrites (off / 0x10000) ∧ off + 4 ∉ ownWrites ((off + 4) / 0x10000) := by
  have all : ∀ o ∈ pairLos, o ∉ ownWrites (o / 0x10000) ∧ o + 4 ∉ ownWrites ((o + 4) / 0x10000) := by decide
  exact all off (isPairLo_iff.1 h)

/-- The write of a half of a pair has no effect of its own. -/
theorem State.pairLo_writeOwn {off : Nat} (h : isPairLo off = true) (s : State) (via : Via) (v same : Word) :
    s.writeOwn via off v same = none := State.writeOwn_none (pair_not_ownWrites h).1 s via v same

theorem State.pairHi_writeOwn {off : Nat} (h : isPairLo off = true) (s : State) (via : Via) (v same : Word) :
    s.writeOwn via (off + 4) v same = none := State.writeOwn_none (pair_not_ownWrites h).2 s via v same

/-! ## Writes -/

section
variable {s : State} {via : Via} {off : Nat}

/-- A write by access type (R7, R8) is one write of the register's bits. -/
theorem State.storeReg_eq {r : RegRow} (h : regRow off = some r) (s : State) (v same : Word) : s.storeReg off v same =
    s.setReg off (((s.getReg off &&& ~~~ BitVec.ofNat 32 r.rw) &&& ~~~ (v &&& BitVec.ofNat 32 r.w1c)) |||
      (v &&& BitVec.ofNat 32 r.rw) ||| (v &&& BitVec.ofNat 32 r.w1s) ||| (same &&& BitVec.ofNat 32 r.w1c)) := by
  simp only [State.storeReg, h]

theorem State.storeReg_frame (s : State) (v same : Word) : let t := s.storeReg off v same
    t.out = s.out ∧ t.bar2 = s.bar2 ∧ t.mctp = s.mctp := by
  cases h : regRow off with
  | none => simp only [State.storeReg, h, and_self]
  | some r => rw [State.storeReg_eq h]; exact ⟨rfl, rfl, rfl⟩

/-- Where the register is there and its write has no effect of its own, it is written by access type. -/
theorem State.writeReg_store {v same : Word} (hh : s.hidden via off = false) (hi : s.implemented off = true)
    (h : s.writeOwn via off v same = none) : s.writeReg via off v same = s.storeReg off v same := by
  simp only [State.writeReg, hh, hi, h, Bool.false_eq_true, Bool.not_true, if_false]

/-- A write without an effect of its own sends no message and leaves both shadows. -/
theorem State.writeReg_frame {v same : Word} (h : s.writeOwn via off v same = none) : let t := s.writeReg via off v same
    t.out = s.out ∧ t.bar2 = s.bar2 ∧ t.mctp = s.mctp := by
  unfold State.writeReg
  split
  · exact ⟨rfl, rfl, rfl⟩
  · split
    · exact s.unimpl_frame off true
    · rw [h]; exact s.storeReg_frame v same

/-- An access whose meanings sent no message sends its completion alone. -/
theorem State.oneDone_of_out {s t : State} (h : t.out = s.out) (via : Via) (off : Nat) :
    s.oneDone t via off = t.emit (.regWriteDone via off) := by
  simp [State.oneDone, State.emit, h]

/-- A write of a _LO register takes and spends the _HI half that its requester holds (R5). -/
theorem State.writeLo_held {hi : Word} (h : (s.shadow via.requester).heldHi = [(off + 4, hi)]) (v : Word) :
    s.writeLo via off v = ((s.modShadow via.requester fun x => { x with heldHi := [] }).writeReg via off v 0).writeReg via
      (off + 4) hi 0 := by
  have hl : (s.shadow via.requester).heldHi.lookup (off + 4) = some hi := by simp [h]
  have hs : (s.modShadow via.requester fun x => { x with heldHi := x.heldHi.filter fun e => e.1 != off + 4 }) =
      s.modShadow via.requester fun x => { x with heldHi := [] } := State.modShadow_congr (by simp [h])
  simp only [State.writeLo, hl, hs]

theorem State.writeLo_unheld (h : (s.shadow via.requester).heldHi.lookup (off + 4) = none) (v : Word) :
    s.writeLo via off v = s.writeReg via off v 0 := by
  simp only [State.writeLo, h]

/-- Both halves of a pair written: no message, and the shadows stay. -/
theorem State.writePair_frame (hlo : isPairLo off = true) (s : State) (via : Via) (v hi : Word) :
    let t := (s.writeReg via off v 0).writeReg via (off + 4) hi 0
    t.out = s.out ∧ t.bar2 = s.bar2 ∧ t.mctp = s.mctp := by
  obtain ⟨hout, hbar2, hmctp⟩ := State.writeReg_frame (State.pairLo_writeOwn hlo s via v 0)
  obtain ⟨hout', hbar2', hmctp'⟩ := State.writeReg_frame (State.pairHi_writeOwn hlo (s.writeReg via off v 0) via hi 0)
  exact ⟨hout'.trans hout, hbar2'.trans hbar2, hmctp'.trans hmctp⟩

/-! The write commands of a requester that reaches the device. -/

variable (hr : s.reaches via = true)
include hr

/-- REGISTER_WRITE of a register that is no half of a pair and whose write sends no message of its own. -/
theorem exec_registerWrite {v same : Word} (hlo : isPairLo off = false) (hhi : isPairHi off = false)
    (h : (s.writeReg via off v same).out = s.out) : exec (.registerWrite via off v same) s =
      .next ((s.writeReg via off v same).emit (.regWriteDone via off)) := by
  change execRegisterWrite via off v same s = _
  simp [execRegisterWrite, State.writeAny, hr, hlo, hhi, State.oneDone_of_out h]

theorem exec_pairHiWrite (hhi : isPairHi off = true) (v : Word) :
    exec (.pairHiWrite via off v) s = .next ((s.holdHi via off v).emit (.regWriteDone via off)) := by
  change execPairHiWrite via off v s = _
  simp [execPairHiWrite, hr, hhi]

theorem exec_pairLoWrite {v : Word} (hlo : isPairLo off = true) (h : (s.writeLo via off v).out = s.out) :
    exec (.pairLoWrite via off v) s = .next ((s.writeLo via off v).emit (.regWriteDone via off)) := by
  change execPairLoWrite via off v s = _
  simp [execPairLoWrite, hr, hlo, State.oneDone_of_out h]

theorem exec_unsupportedAccess (off : Nat) :
    exec (.unsupportedAccess via off) s = .next (s.emit (.unsupportedRequest via off)) := by
  change execUnsupportedAccess via off s = _
  simp [execUnsupportedAccess, hr]

theorem exec_unimplWrite (hh : s.hidden via off = false) (hi : s.implemented off = false) :
    exec (.unimplAccess via off true) s = .next ((s.unimpl off true).emit (.regWriteDone via off)) := by
  change execUnimplAccess via off true s = _
  simp [execUnimplAccess, hr, hh, hi]

/-- IME_META_HIGH takes a value inside its limits and ignores any other. -/
theorem exec_imeParamWrite (v : Word) : exec (.imeParamWrite via v) s =
    .next (if 4096 ≤ v.toNat ∧ v.toNat ≤ 262144 then
        (s.emit (.regWriteDone via Reg.IME_META_HIGH)).setReg Reg.IME_META_HIGH v else
        s.emit (.regWriteDone via Reg.IME_META_HIGH)) := by
  change execImeParamWrite via v s = _
  simp [execImeParamWrite, within, hr]

end

/-- Settles O25: each write command acts as `writeReg` does on its kind of register, with the half that its requester holds for
a _LO register; a write without an effect of its own sends only its completion. -/
theorem registerWrites : Obligations.RegisterWrites := by
  unfold Obligations.RegisterWrites
  intro s via off hr
  refine ⟨fun v same r hh hi hrow hhi hlo hown => ?single, fun v hhi => exec_pairHiWrite hr hhi v, fun v hi hlo hheld => ?held,
    fun v hlo hnone => ?unheld, exec_unsupportedAccess hr off, fun hh hi => ?unimpl, fun v h₁ h₂ => ?inside,
    fun v h => ?outside⟩
  case single =>
    refine ⟨_, exec_registerWrite hr hlo hhi (State.writeReg_frame hown).1, ?_⟩
    rw [State.writeReg_store hh hi hown, State.storeReg_eq hrow]
    exact ⟨State.getReg_setReg_same .., fun o ho => State.getReg_setReg_ne _ _ ho, rfl, rfl, rfl⟩
  case held =>
    have heq := State.writeLo_held hheld v
    obtain ⟨hout, hbar2, hmctp⟩ :=
      State.writePair_frame hlo (s.modShadow via.requester fun x => { x with heldHi := [] }) via v hi
    rw [← heq] at hout hbar2 hmctp
    rw [State.modShadow_out] at hout
    refine ⟨_, exec_pairLoWrite hr hlo hout, ?_, congrArg (· ++ _) hout, ?_⟩
    · rw [State.emit_shadow, State.shadow_congr hbar2 hmctp, State.modShadow_shadow]
    · rw [← heq]; rfl
  case unheld =>
    have heq := State.writeLo_unheld hnone v
    obtain ⟨hout, hbar2, hmctp⟩ := State.writeReg_frame (State.pairLo_writeOwn hlo s via v 0)
    rw [← heq] at hout hbar2 hmctp
    refine ⟨_, exec_pairLoWrite hr hlo hout, ?_, congrArg (· ++ _) hout, ?_⟩
    · rw [← heq]; rfl
    · rw [State.emit_shadow, State.shadow_congr hbar2 hmctp]
  case unimpl =>
    refine ⟨_, exec_unimplWrite hr hh hi, ?_⟩
    beta_reduce
    rw [State.emit_getReg, State.emit_getReg, State.emit_out, State.unimpl_addr, State.unimpl_count, (s.unimpl_frame off true).1,
      bitIf_true]
    exact ⟨rfl, rfl, rfl⟩
  case inside => rw [exec_imeParamWrite hr, if_pos ⟨h₁, h₂⟩]
  case outside => rw [exec_imeParamWrite hr, if_neg (by omega)]

end Sys2Proof.Machine
end

section
/-! # The mailbox: information and the port event logs (R72, R74, R90)

When a mailbox command runs and what its answer leaves, and the commands of information and of the event logs. -/

namespace Sys2Proof.Machine

/-! ## A list with one entry changed -/

theorem listSet_eq_set {α : Type} (l : List α) (n : Nat) (v : α) : listSet l n v = l.set n v := by
  induction l generalizing n with
  | nil => rfl
  | cons x xs ih =>
    cases n with
    | zero => rfl
    | succ n => exact congrArg (x :: ·) (ih n)

theorem getElem?_listUpd {α : Type} (l : List α) (n : Nat) (f : α → α) (k : Nat) :
    (listUpd l n f)[k]? = if k = n then l[k]?.map f else l[k]? := by
  unfold listUpd
  split
  next x hx =>
    rw [listSet_eq_set, List.getElem?_set]
    obtain ⟨hn, -⟩ := List.getElem?_eq_some_iff.1 hx
    by_cases hk : k = n
    · rw [if_pos hk, if_pos hk.symm, if_pos hn, hk, hx]; rfl
    · rw [if_neg hk, if_neg (Ne.symm hk)]
  next hx =>
    split
    next hk => rw [hk, hx]; rfl
    next => rfl

theorem getD_listUpd_same {α : Type} {l : List α} {n : Nat} (h : n < l.length) (f : α → α) (d : α) :
    (listUpd l n f).getD n d = f (l.getD n d) := by
  simp [List.getD_eq_getElem?_getD, getElem?_listUpd, h]

theorem getD_listUpd_ne {α : Type} (l : List α) {n k : Nat} (h : k ≠ n) (f : α → α) (d : α) :
    (listUpd l n f).getD k d = l.getD k d := by
  rw [List.getD_eq_getElem?_getD, getElem?_listUpd, if_neg h, List.getD_eq_getElem?_getD]

/-! ## The ports, and the answer of a mailbox command -/

theorem State.port_congr {s t : State} (h0 : t.port0 = s.port0) (h1 : t.port1 = s.port1) (q : Nat) : t.port q = s.port q := by
  rw [State.port, State.port, h0, h1]

@[simp] theorem State.modPort_port_same (s : State) (p : Nat) (g : Port → Port) : (s.modPort p g).port p = g (s.port p) := by
  unfold State.port
  split
  next hp => rw [State.modPort_port0, if_pos hp]
  next hp => rw [State.modPort_port1, if_neg hp]

/-- An update that keeps what `f` reads of a port keeps it of every port. -/
theorem State.modPort_port_keeps {α : Type} {f : Port → α} {g : Port → Port} (h : ∀ x, f (g x) = f x) (s : State) (p q : Nat) :
    f ((s.modPort p g).port q) = f (s.port q) := by
  unfold State.modPort State.port
  split <;> split <;> simp only [h]

section
variable (s : State) (via : Via) (op ret ext : Nat) (fields : List Nat)

theorem State.mboxReply_out : (s.mboxReply via op ret ext fields).out = s.out ++ [.mbox via op ret ext fields] := by
  cases via with
  | mctp => rfl
  | bar2 p => simp only [State.mboxReply]; split <;> simp

/-- An answer changes nothing of a port but its doorbell. -/
theorem State.mboxReply_port_keeps {α : Type} {f : Port → α} (h : ∀ x, f { x with doorbell := false } = f x) (q : Nat) :
    f ((s.mboxReply via op ret ext fields).port q) = f (s.port q) := by
  cases via with
  | mctp => rfl
  | bar2 p =>
    have rung : ∀ t : State, t.port0 = (s.modPort p.val fun x => { x with doorbell := false }).port0 →
        t.port1 = (s.modPort p.val fun x => { x with doorbell := false }).port1 → f (t.port q) = f (s.port q) :=
      fun t h0 h1 => (congrArg f (State.port_congr h0 h1 q)).trans (State.modPort_port_keeps h s p.val q)
    simp only [State.mboxReply]
    split <;> exact rung _ rfl rfl

@[simp] theorem State.mboxReply_logs (q : Nat) :
    ((s.mboxReply via op ret ext fields).port q).logs = (s.port q).logs :=
  s.mboxReply_port_keeps via op ret ext fields (f := Port.logs) (fun _ => rfl) q

@[simp] theorem State.mboxReply_logOvf (q : Nat) :
    ((s.mboxReply via op ret ext fields).port q).logOvf = (s.port q).logOvf :=
  s.mboxReply_port_keeps via op ret ext fields (f := Port.logOvf) (fun _ => rfl) q

@[simp] theorem State.mboxReply_evtPolicy (q : Nat) :
    ((s.mboxReply via op ret ext fields).port q).evtPolicy = (s.port q).evtPolicy :=
  s.mboxReply_port_keeps via op ret ext fields (f := Port.evtPolicy) (fun _ => rfl) q

section
variable (p : Nat) (g : Port → Port)

/-- The answer is the only message of a command that updates a port and succeeds. -/
theorem State.modPort_done_out : ((s.modPort p g).done via op fields).out = s.out ++ [.mbox via op 0 0 fields] := by
  rw [State.done, State.mboxReply_out, State.modPort_out]

theorem State.modPort_done_touches :
    Touches (parts [.reg 2, .port0, .port1, .pst, .out]) s ((s.modPort p g).done via op fields) :=
  ((Touches.refl _ s).modPort (by decide) (by decide)).step (Foot.done ..) (by decide)

theorem State.modPort_done_logs : (((s.modPort p g).done via op fields).port p).logs = (g (s.port p)).logs := by
  rw [State.done, State.mboxReply_logs, State.modPort_port_same]

theorem State.modPort_done_logOvf : (((s.modPort p g).done via op fields).port p).logOvf = (g (s.port p)).logOvf := by
  rw [State.done, State.mboxReply_logOvf, State.modPort_port_same]

theorem State.modPort_done_evtPolicy :
    (((s.modPort p g).done via op fields).port p).evtPolicy = (g (s.port p)).evtPolicy := by
  rw [State.done, State.mboxReply_evtPolicy, State.modPort_port_same]

end

end

/-! ## When a mailbox command runs -/

section
variable {s : State} {via : Via} {op : Nat}

/-- An open mailbox runs the command, unless BRACED or a taken background slot answers in its place (R72, R73). -/
theorem State.mbox_of_open (h : s.mboxOpen via op = true) {braced : Option (Nat × Nat)} {bg : Bool} (run : State → State)
    (hbraced : s.sys.state ≠ .braced ∨ braced = none) (hslot : bg = false ∨ s.svc.background = none) :
    s.mbox via op braced bg run = .next (run s) := by
  simp only [State.mboxOpen, Bool.and_eq_true, Bool.not_eq_true'] at h
  obtain ⟨⟨⟨⟨⟨hrun, hpower⟩, hport⟩, hbusy⟩, hheld⟩, hshut⟩ := h
  have hfree : (bg && s.svc.background.isSome) = false := by
    rcases hslot with h | h <;> simp [h]
  simp only [State.mbox, hrun, hpower, hport, hbusy, hheld, hshut, hfree, Bool.not_true, Bool.or_false, Bool.false_eq_true, if_false]
  rcases hbraced with h | h
  · rw [beq_false_of_ne h]
  · rw [h]; cases s.sys.state == .braced <;> rfl

theorem State.query_of_open (h : s.mboxOpen via op = true) (run : State → State) : s.query via op run = .next (run s) :=
  State.mbox_of_open h run (.inr rfl) (.inl rfl)

end

/-! ## The commands of information and the event logs -/

section
variable {s : State} {via : Via}

theorem exec_identify (h : s.mboxOpen via 0x0001 = true) : exec (.identify via) s =
    .next (s.done via 0x0001 [s.regField Reg.SYS_ID 12 16, s.regField Reg.SYS_ID 0 4, 0x050210]) := by
  change execIdentify via s = _
  exact State.query_of_open h _

/-- How far a running operation is, is a free value (log entry 3). -/
theorem exec_backgroundOperationStatus_running (h : s.mboxOpen via 0x0002 = true) {b : Background} (hb : s.svc.background = some b) :
    exec (.backgroundOperationStatus via) s =
      .next ((s.done via 0x0002 [b.opcode, (Config.freeWord s.free).toNat % 100, 0]).useFree) := by
  change execBackgroundOperationStatus via s = _
  refine (State.query_of_open h _).trans ?_
  simp only [hb]

theorem exec_backgroundOperationStatus_ended (h : s.mboxOpen via 0x0002 = true) (hb : s.svc.background = none) {op ret : Nat}
    (hl : s.svc.lastBackground = some (op, ret)) :
    exec (.backgroundOperationStatus via) s = .next (s.done via 0x0002 [op, 100, ret]) := by
  change execBackgroundOperationStatus via s = _
  refine (State.query_of_open h _).trans ?_
  simp only [hb, hl]

theorem exec_getEventRecords (h : s.mboxOpen via 0x0100 = true) (log : Fin 4) : exec (.getEventRecords via log) s =
    .next (s.done via 0x0100 ([if (s.port via.port).logOvf.getD log.val false then 1 else 0,
      ((s.port via.port).logs.getD log.val []).length] ++ ((s.port via.port).logs.getD log.val []).flatMap recFields)) := by
  change execGetEventRecords via log s = _
  exact State.query_of_open h _

section
variable (h : s.mboxOpen via 0x0101 = true) (log : Fin 4) (seqs : List Nat)
include h

theorem exec_clearEventRecords_all : exec (.clearEventRecords via log true seqs) s =
    .next ((s.modPort via.port fun x => { x with
      logs := listUpd x.logs log.val fun _ => [], logOvf := listUpd x.logOvf log.val fun _ => false }).done via 0x0101 []) := by
  change execClearEventRecords via log true seqs s = _
  exact State.query_of_open h _

/-- Every SEQ named has a record in the log: those records go. -/
theorem exec_clearEventRecords_named (hq : ∀ q ∈ seqs, ∃ r ∈ (s.port via.port).logs.getD log.val [], r.seq = q) :
    exec (.clearEventRecords via log false seqs) s =
      .next ((s.modPort via.port fun x => { x with
        logs := listUpd x.logs log.val fun l => l.filter fun r => !seqs.contains r.seq }).done via 0x0101 []) := by
  change execClearEventRecords via log false seqs s = _
  refine (State.query_of_open h _).trans (congrArg _ ?_)
  have hall : (seqs.all fun q => ((s.port via.port).logs.getD log.val []).any fun r => r.seq == q) = true := by
    simpa only [List.all_eq_true, List.any_eq_true, beq_iff_eq] using hq
  simp only [hall, Bool.false_eq_true, if_false, if_true]

/-- Some SEQ named has no record in the log: nothing is cleared. -/
theorem exec_clearEventRecords_unknown (hq : ∃ q ∈ seqs, ∀ r ∈ (s.port via.port).logs.getD log.val [], r.seq ≠ q) :
    exec (.clearEventRecords via log false seqs) s = .next (s.mboxReply via 0x0101 0xE 0 []) := by
  change execClearEventRecords via log false seqs s = _
  refine (State.query_of_open h _).trans (congrArg _ ?_)
  have hall : (seqs.all fun q => ((s.port via.port).logs.getD log.val []).any fun r => r.seq == q) = false := by
    simpa only [List.all_eq_false, List.any_eq_true, beq_iff_eq, not_exists, not_and] using hq
  simp only [hall, Bool.false_eq_true, if_false, State.fails]

end

theorem exec_getEventInterruptPolicy (h : s.mboxOpen via 0x0102 = true) :
    exec (.getEventInterruptPolicy via) s = .next (s.done via 0x0102 [(s.port via.port).evtPolicy]) := by
  change execGetEventInterruptPolicy via s = _
  exact State.query_of_open h _

theorem exec_setEventInterruptPolicy (h : s.mboxOpen via 0x0103 = true) (policy : Word) :
    exec (.setEventInterruptPolicy via policy) s =
      .next ((s.modPort via.port fun x => { x with evtPolicy := policy.toNat }).done via 0x0103 []) := by
  change execSetEventInterruptPolicy via policy s = _
  exact State.query_of_open h _

theorem exec_unsupportedOpcode (opcode : BitVec 16) (hc : opcode.toNat ∉ celOpcodes)
    (h : s.mboxOpen via opcode.toNat = true) :
    exec (.unsupportedOpcode via opcode) s = .next (s.mboxReply via opcode.toNat 3 0 []) := by
  change execUnsupportedOpcode via opcode s = _
  rw [execUnsupportedOpcode, if_neg (by simpa only [List.contains_iff_mem] using hc)]
  exact State.query_of_open h _

end

/-- Settles O37: with its mailbox open each command is its body, whose update of the port's logs or policy outlives the
answer. -/
theorem mailboxInformation : Obligations.MailboxInformation := by
  unfold Obligations.MailboxInformation
  intro s via
  refine ⟨exec_identify, fun b h hb => ?running, fun op ret h hb hl => exec_backgroundOperationStatus_ended h hb hl,
    fun log h => exec_getEventRecords h log, fun log seqs h hlogs hovf => ?clearAll, fun log seqs h hlogs hq => ?clearNamed,
    fun log seqs h hq => exec_clearEventRecords_unknown h log seqs hq, exec_getEventInterruptPolicy,
    fun policy h => ?setPolicy, fun opcode hc h => exec_unsupportedOpcode opcode hc h⟩
  case running =>
    refine ⟨_, exec_backgroundOperationStatus_running h hb, ?_, (Config.freeWord s.free).toNat % 100,
      Nat.mod_lt _ (by decide), s.mboxReply_out ..⟩
    rw [State.useFree_svc]
    exact (Foot.done ..).svc (by decide)
  case clearAll =>
    have hlog : log.val < (s.port via.port).logs.length := by omega
    have hflag : log.val < (s.port via.port).logOvf.length := by omega
    refine ⟨_, exec_clearEventRecords_all h log seqs, ?_, ?_, fun k hk => ?_, s.modPort_done_out ..,
      (s.modPort_done_touches ..).evr (by decide)⟩
    · rw [State.modPort_done_logs]
      exact getD_listUpd_same hlog _ _
    · rw [State.modPort_done_logOvf]
      exact getD_listUpd_same hflag _ _
    · rw [State.modPort_done_logs]
      exact getD_listUpd_ne _ hk _ _
  case clearNamed =>
    have hlog : log.val < (s.port via.port).logs.length := by omega
    refine ⟨_, exec_clearEventRecords_named h log seqs hq, ?_, s.modPort_done_out ..⟩
    rw [State.modPort_done_logs]
    exact getD_listUpd_same hlog _ _
  case setPolicy =>
    exact ⟨_, exec_setEventInterruptPolicy h policy, s.modPort_done_evtPolicy .., s.modPort_done_out ..,
      s.modPort_done_touches ..⟩

end Sys2Proof.Machine
end

section
/-! # The supply: rails, converter faults and the 12 V input (R272, R275 to R278, R288)

What a measured input voltage changes, what the ideal diode's comparison gives, and the commands of the converter under the
condition that each one reports. -/

namespace Sys2Proof.Machine

/-! ## A measured input voltage -/

section
variable (s : State) (vin : Nat)

@[simp] theorem State.noteVin_pwr : (s.noteVin vin).pwr = { s.pwr with vin := vin } := by
  unfold State.noteVin; dsimp only
  split <;> split <;> simp only [State.nearMiss_pwr, State.modPfl_pwr, State.modPwr_pwr]

theorem State.noteVin_phase : (s.noteVin vin).pfl.phase = s.pfl.phase := by
  unfold State.noteVin; dsimp only
  split <;> split <;> simp only [State.nearMiss_pfl, State.modPfl_pfl, State.modPwr_pfl]

@[simp] theorem State.noteVin_sys : (s.noteVin vin).sys = s.sys := (Foot.noteVin s vin).sys rfl

@[simp] theorem State.noteVin_stg : (s.noteVin vin).stg = s.stg := (Foot.noteVin s vin).stg rfl

@[simp] theorem State.noteVin_conf : (s.noteVin vin).conf = s.conf :=
  congrArg PlatState.conf ((Foot.noteVin s vin).plat rfl)

@[simp] theorem State.noteVin_flushing : (s.noteVin vin).flushing = s.flushing := by
  rw [State.flushing, State.noteVin_sys, State.noteVin_phase, State.flushing]

@[simp] theorem State.clockTo_conf (atNs : Nat) : (s.clockTo atNs).conf = s.conf :=
  congrArg PlatState.conf (s.clockTo_plat atNs)

@[simp] theorem State.clockTo_flushing (atNs : Nat) : (s.clockTo atNs).flushing = s.flushing := by
  rw [State.flushing, State.clockTo_sys, State.clockTo_pfl, State.flushing]

end

/-- Whether the bank can be discharged does not depend on the input. -/
@[simp] theorem Pwr.dischargeable_input (p : Pwr) (vin : Nat) (g : Bool) :
    Pwr.dischargeable { p with vin := vin, gdIn := g } = p.dischargeable := rfl

/-! ## The ideal diode (R276) -/

section
variable {old assay : Bool} {vin hb trip : Nat}

theorem gateNext_off (h : vin < trip ∨ vin + 20 ≤ hb ∨ assay = true) : gateNext old vin hb trip assay = false := by
  rw [gateNext, if_pos (by simpa [or_assoc] using h)]

/-- Away from the conditions that close it, the gate opens with 10 mV across it and else stays. -/
theorem gateNext_on_or_keeps (ht : trip ≤ vin) (hd : hb < vin + 20) (ha : assay = false) :
    gateNext old vin hb trip assay = if hb + 10 ≤ vin then true else old := by
  rw [gateNext, if_neg (by simp [ha]; omega)]

end

/-! ## A bank state entered, with its budget -/

section
variable (s : State)

theorem State.setBank_setBudget_pwr (b : BankState) : (s.setBank b).setBudget.pwr = { s.pwr with bank := b } := by
  rw [(Foot.setBudget _).pwr rfl, State.setBank_pwr]

theorem State.setBank_setBudget_sys (b : BankState) : (s.setBank b).setBudget.sys = s.sys := by
  rw [(Foot.setBudget _).sys rfl, (Foot.setBank _ _).sys rfl]

/-- A bank that goes to a state other than ARMED takes the budget with it. -/
theorem State.setBank_setBudget_stg {b : BankState} (h : b ≠ .armed) :
    (s.setBank b).setBudget.stg = { s.stg with budget := 0 } := by
  rw [State.setBudget_unarmed _ (by rw [State.setBank_pwr]; exact h), (Foot.setBank _ _).stg rfl]

/-- A cause that is to be latched stands among the latched ones. -/
theorem State.degrade_latches (c : BankCause) : c ∈ (s.degrade c true).pwr.latched := by
  rw [State.degrade_pwr]
  by_cases h : c ∈ s.pwr.latched <;> simp [h]

end

/-! ## The commands -/

section
variable {s : State}

/-- OVERCURRENT while charging, with no assay under way (R278). -/
theorem exec_overcurrent (hc : s.pwr.conv = .charge ∨ s.pwr.conv = .float) (ha : s.pwr.assay.phase = .idle) :
    exec .overcurrent s =
      .next (((s.modPwr fun p => { p with conv := .off }).flag Reg.PWR_ERR_STAT Reg.PWR_ERR_EN 2 false).degrade
        .overcurrent true) := by
  change execOvercurrent s = _
  rcases hc with hc | hc <;> simp [execOvercurrent, hc, ha]

variable (hs : s.sys.supplies = true)
include hs

theorem exec_railWarn (rail : Fin 7) : exec (.railWarn rail) s =
    .next (((s.modPwr fun p => { p with railWarn := p.railWarn ||| 2 ^ rail.val }).flag Reg.PWR_ERR_STAT Reg.PWR_ERR_EN 0
      true).raise 0x8401 0 rail.val) := by
  change execRailWarn rail s = _
  simp [execRailWarn, hs]

theorem exec_hvRefreshTimeout : exec .hvRefreshTimeout s =
    .next ((s.modPwr fun p => { p with conv := .off, balance := 0, gdIn := false }).flag Reg.PWR_ERR_STAT Reg.PWR_ERR_EN 6
      false) := by
  change execHvRefreshTimeout s = _
  simp [execHvRefreshTimeout, hs]

theorem exec_idealDiodeSwitch (vin hb atNs : Nat) : exec (.idealDiodeSwitch vin hb atNs) s =
    .next (((s.clockTo atNs).noteVin vin).modPwr fun p =>
      { p with hb := hb, gdIn := gateNext p.gdIn vin hb s.conf.vinTrip (p.conv == .assay) }) := by
  change execIdealDiodeSwitch vin hb atNs s = _
  simp [execIdealDiodeSwitch, hs]

/-- VIN_DROP below the trip level with a bank that can be discharged (R277). -/
theorem exec_vinDrop {vin : Nat} (atNs : Nat) (ht : vin < s.conf.vinTrip) (hd : s.pwr.dischargeable = true)
    (hb : s.pwr.bank ≠ .discharging) (hsafe : s.sys.state ≠ .safe) : exec (.vinDrop vin atNs) s =
      .next ((((s.clockTo atNs).noteVin vin).modPwr fun p => { p with
        gdIn := false, convBefore := p.conv, conv := .discharge, bankBefore := p.bank, live := none,
        balance := 0 }).setBank .discharging).setBudget := by
  change execVinDrop vin atNs s = _
  simp [execVinDrop, hs, ht, hd, hb, hsafe]
  rfl -- the meaning's two updates of the converter are one

/-- VIN_RECOVER of a discharging bank before FLUSH (R277). -/
theorem exec_vinRecover {vin : Nat} (atNs : Nat) (hr : s.conf.vinResume ≤ vin) (hb : s.pwr.bank = .discharging)
    (hf : s.flushing = false) : exec (.vinRecover vin atNs) s =
      .next ((((s.clockTo atNs).noteVin vin).modPwr fun p => { p with conv := p.convBefore, live := none }).setBank
        s.pwr.bankBefore).setBudget := by
  change execVinRecover vin atNs s = _
  simp [execVinRecover, hs, hr, hb, hf]

end

/-- Settles O12: each command is its shared operations under its condition, and the footprint of its meaning is its frame. -/
theorem railsAndConverterFaults : Obligations.RailsAndConverterFaults := by
  unfold Obligations.RailsAndConverterFaults
  intro s
  refine ⟨fun rail hs => ?warn, fun hs => ?refresh, fun hc ha hb => ?overcurrent, fun vin hb atNs hs => ?diode⟩
  case warn =>
    have he := exec_railWarn hs rail
    refine ⟨_, he, by rw [State.raise_pwr, State.flag_pwr, State.modPwr_pwr],
      by rw [State.raise_sys, State.flag_sys, State.modPwr_sys], ?_, ((Foot.cmdRailWarn rail s).all _ he).mono (by decide)⟩
    rw [State.raise_getReg _ _ _ _ _ (by decide), State.flag_stat _ _ _ _ _ (by decide), State.modPwr_getReg]
    rfl
  case refresh =>
    have he := exec_hvRefreshTimeout hs
    refine ⟨_, he, by rw [State.flag_pwr, State.modPwr_pwr], ?_,
      ((Foot.cmdHvRefreshTimeout s).all _ he).mono (by decide)⟩
    rw [State.flag_stat _ _ _ _ _ (by decide), State.modPwr_getReg]
    rfl
  case overcurrent =>
    have he := exec_overcurrent hc ha
    refine ⟨_, he, ?off, ?degraded, ?cause, State.degrade_latches .., by rw [State.degrade_stg],
      ((Foot.cmdOvercurrent s).all _ he).sys rfl⟩ <;> rw [State.degrade_pwr, State.flag_pwr, State.modPwr_pwr]
    case degraded => exact if_pos hb
  case diode =>
    have he := exec_idealDiodeSwitch hs vin hb atNs
    refine ⟨_, he, ?_⟩
    beta_reduce
    rw [State.modPwr_pwr, State.noteVin_pwr, State.clockTo_pwr]
    refine ⟨rfl, rfl, fun h => gateNext_off (by simpa using h), fun ht hd ha => ?_, fun ht hd hd' ha => ?_, rfl, rfl,
      ((Foot.cmdIdealDiodeSwitch vin hb atNs s).all _ he).stg rfl⟩
    · exact (gateNext_on_or_keeps ht (by omega) (by simpa using ha)).trans (if_pos hd)
    · exact (gateNext_on_or_keeps ht hd (by simpa using ha)).trans (if_neg (by omega))

/-- Settles O13: both commands note the input, exchange the converter's mode and the bank's state with the ones kept from
before, and set the budget for the bank's new state. -/
theorem inputFallsAndReturns : Obligations.InputFallsAndReturns := by
  unfold Obligations.InputFallsAndReturns
  intro s vin atNs hs
  refine ⟨fun ht hd hb hsafe => ⟨_, exec_vinDrop hs atNs ht hd hb hsafe, ?drop⟩,
    fun hr hb hf => ⟨_, exec_vinRecover hs atNs hr hb hf, ?recover⟩⟩
  case drop =>
    beta_reduce
    rw [State.setBank_setBudget_pwr, State.setBank_setBudget_sys, State.setBank_setBudget_stg _ (by decide),
      State.modPwr_pwr, State.modPwr_sys, State.modPwr_stg, State.noteVin_pwr, State.noteVin_sys, State.noteVin_stg,
      State.clockTo_pwr, State.clockTo_sys, State.clockTo_stg]
    exact ⟨rfl, rfl, rfl, rfl, rfl, rfl, rfl, rfl, rfl⟩
  case recover =>
    beta_reduce
    rw [State.setBank_setBudget_pwr, State.setBank_setBudget_sys, State.modPwr_pwr, State.modPwr_sys, State.noteVin_pwr,
      State.noteVin_sys, State.clockTo_pwr, State.clockTo_sys]
    exact ⟨rfl, rfl, rfl, rfl, rfl⟩

end Sys2Proof.Machine
end

section
/-! # Performance counters (R436, R474, R476, R477)

A refused configuration raises an event, and a counter may be counting events: while a sample is held, the record of the
refusal can itself overflow such a counter, and SAMPLE_LOST then sets beside BAD_EVENT. -/

namespace Sys2Proof.Machine

/-- A configuration that names no listed event and filter only flags BAD_EVENT. -/
theorem exec_pmcCfgWrite_unlisted {s : State} {via : Via} (hr : s.reaches via = true) (n : Fin 48) {v : Word}
    (hv : pmcCfgValid (bitsAt v.toNat 0 16) (bitsAt v.toNat 16 8) = false) :
    exec (.pmcCfgWrite via n v) s =
      .next ((s.emit (.regWriteDone via (Reg.PMC_CFG n.val))).flag Reg.SVY_ERR_STAT Reg.SVY_ERR_EN 1 false) := by
  change execPmcCfgWrite via n v s = _
  simp [execPmcCfgWrite, hr, hv]

/-- A flag that its block does not log only sets. -/
theorem State.flagCore_of_disabled {s : State} {stat en n : Nat} (hne : en ≠ stat) (hen : s.bit en n = false) (listed : Bool) :
    s.flagCore stat en n listed = s.setBits stat (2 ^ n) := by
  have : (s.setBits stat (2 ^ n)).bit en n = false := by rwa [State.bit, State.setBits_getReg, if_neg hne]
  simp [State.flagCore, this]

theorem State.bit_congr {s t : State} {o : Nat} (h : t.getReg o = s.getReg o) (k : Nat) : t.bit o k = s.bit o k := by
  rw [State.bit, State.bit, h]

/-- With a sample held, the overflow of a counter with SAMPLE set flags SAMPLE_LOST (R477). -/
theorem State.pmcOverflow_errStat_of_held {s : State} {n : Nat} (hs : s.bit (Reg.PMC_CFG n) 30 = true)
    (hheld : s.bit Reg.SVY_INT_STAT 1 = true) (hen : s.bit Reg.SVY_ERR_EN 0 = false) (engine : Bool) (src arg : Nat) :
    (s.pmcOverflow n engine src arg).getReg Reg.SVY_ERR_STAT = s.getReg Reg.SVY_ERR_STAT ||| 1 := by
  unfold State.pmcOverflow
  extract_lets s₁ sampled s₂
  have hov {o : Nat} (h : o ∉ [Reg.PMC_OVF_0, Reg.PMC_OVF_1]) : s₁.getReg o = s.getReg o := by
    rw [State.setBits_getReg, if_neg]
    split <;> simp_all
  have hint {o : Nat} (h : o ∉ [Reg.SVY_INT_STAT, Reg.PMC_OVF_0, Reg.PMC_OVF_1]) : s₂.getReg o = s.getReg o := by
    rw [State.setBits_getReg, if_neg (List.ne_of_not_mem_cons h), hov (List.not_mem_of_not_mem_cons h)]
  have hcfg : s₂.bit (Reg.PMC_CFG n) 30 = true := by
    rwa [State.bit_congr (hint _)]
    simp only [Reg.PMC_CFG, Reg.SVY_INT_STAT, Reg.PMC_OVF_0, Reg.PMC_OVF_1, List.mem_cons, List.not_mem_nil, or_false]
    omega
  have hsampled : sampled = true := (State.bit_congr (hov (by decide)) 1).trans hheld
  have hlost {o : Nat} (h : o ∉ [Reg.PMC_SAMPLE_INFO, Reg.SVY_INT_STAT, Reg.PMC_OVF_0, Reg.PMC_OVF_1]) :
      (s₂.satField Reg.PMC_SAMPLE_INFO 0 16 1).getReg o = s.getReg o := by
    rw [State.satField_getReg_ne _ _ _ _ _ _ (List.ne_of_not_mem_cons h),
      hint (List.not_mem_of_not_mem_cons h)]
  rw [hcfg, hsampled, State.flagCore_of_disabled (by decide) ((State.bit_congr (hlost (by decide)) 0).trans hen)]
  simp [State.setBits_getReg, hlost]

/-- Four commands after reset: BAD_EVENT is logged, PMC[0] counts event records (event 0xD001) with EN and SAMPLE set, an
increment on top of 0xFFFFFFFF overflows it, which captures a sample, and it takes 0xFFFFFFFF again. -/
def heldSample : State :=
  (((State.reset.run (execRegisterWrite (.bar2 0) Reg.SVY_ERR_EN 2 0)).run (execPmcCfgWrite (.bar2 0) 0 0xC0FFD001)).run
    (execPmcCntWrite (.bar2 0) 0 0xFFFFFFFF 1)).run (execPmcCntWrite (.bar2 0) 0 0xFFFFFFFF 0)

theorem heldSample_reaches : heldSample.reaches (.bar2 0) = true := by decide

theorem heldSample_errStat : heldSample.getReg Reg.SVY_ERR_STAT = 0 := by decide

/-- `heldSample` after the answer to a write of PMC[1]_CFG. -/
def heldSampleAnswered : State := heldSample.emit (.regWriteDone (.bar2 0) (Reg.PMC_CFG 1))

/-- `heldSampleAnswered` with BAD_EVENT flagged and recorded, and PMC[0] past its last count. -/
def heldSampleRecorded : State :=
  (heldSampleAnswered.flagCore Reg.SVY_ERR_STAT Reg.SVY_ERR_EN 1 false).setNat (Reg.PMC_CNT 0) 0

theorem heldSampleRecorded_errStat : heldSampleRecorded.getReg Reg.SVY_ERR_STAT = 2 := by decide

/-- The record of BAD_EVENT is an event that PMC[0] counts, and its overflow ends the flag. -/
theorem heldSampleAnswered_flag : heldSampleAnswered.flag Reg.SVY_ERR_STAT Reg.SVY_ERR_EN 1 false =
    heldSampleRecorded.pmcOverflow 0 false 0 pmcNone := by decide

/-- SAMPLE_LOST joins BAD_EVENT. -/
theorem heldSampleAnswered_flag_errStat :
    (heldSampleAnswered.flag Reg.SVY_ERR_STAT Reg.SVY_ERR_EN 1 false).getReg Reg.SVY_ERR_STAT = 3 := by
  rw [heldSampleAnswered_flag, State.pmcOverflow_errStat_of_held (by decide) (by decide) (by decide),
    heldSampleRecorded_errStat]
  decide

/-- Refutes O31: a refused configuration can set more of SVY_ERR_STAT than bit 1. In `heldSample` event 0 is written to
PMC[1]_CFG, which is not listed; the record of the refusal overflows PMC[0], and the held sample makes that a lost one. -/
theorem not_performanceCounters : ¬ Obligations.PerformanceCounters := by
  unfold Obligations.PerformanceCounters
  intro h
  obtain ⟨-, hrefused, -⟩ := h heldSample 1
  have hv : pmcCfgValid (bitsAt (0 : Word).toNat 0 16) (bitsAt (0 : Word).toNat 16 8) = false := by decide
  obtain ⟨t, ht, -, hstat, -⟩ := hrefused (.bar2 0) 0 heldSample_reaches hv
  obtain rfl : heldSampleAnswered.flag Reg.SVY_ERR_STAT Reg.SVY_ERR_EN 1 false = t :=
    Host.Outcome.next.inj ((exec_pmcCfgWrite_unlisted heldSample_reaches 1 hv).symm.trans ht)
  rw [heldSampleAnswered_flag_errStat, heldSample_errStat] at hstat
  exact absurd hstat (by decide)

end Sys2Proof.Machine
end
section
/-! # The block step and the state after reset (R10, R288, R504) -/

namespace Sys2Proof.Machine

/-- Settles O1, by the definition of the step at a queue that is not empty. -/
theorem stepRunsTheFrontCommand : Obligations.StepRunsTheFrontCommand := by
  unfold Obligations.StepRunsTheFrontCommand
  intro c rest s h
  simp only [step, h]

/-- Settles O3: no register is stored at reset, so each reads its reset value, which the register table gives. -/
theorem resetLeaves : Obligations.ResetLeaves := by
  unfold Obligations.ResetLeaves
  refine ⟨rfl, rfl, rfl, rfl, rfl, rfl, fun _ => rfl, ?_, ?_, ?_, ?_, ?_⟩ <;> decide

/-- Settles O4: the register file that stores nothing is canonical. -/
theorem resetRegisterFile : Obligations.ResetRegisterFile := by
  unfold Obligations.ResetRegisterFile
  exact ⟨.nil, nofun⟩

end Sys2Proof.Machine
end
section
/-! # The queue and the register file under every command and every step

`Keeps s t` says what an operation that turns `s` into `t` does not touch: the queue, and the canonical form of the register file.
It follows from a footprint where the laws give one; the operations without a footprint are taken apart here, chapter by chapter. -/

namespace Sys2Proof.Machine

/-- The register file of `s` is canonical: `RegsWf` under a name of its own, which no tactic unfolds. -/
def State.Canonical (s : State) : Prop := s.RegsWf

/-- `t` has the queue of `s`, and a canonical register file if `s` has one. -/
structure Keeps (s t : State) : Prop where
  pending : t.pending = s.pending
  wf : s.Canonical → t.Canonical

/-- Every state that an operation may answer keeps them. -/
structure KeepsOpt (s : State) (r : Option State) : Prop where
  all : ∀ t, r = some t → Keeps s t

/-- Every next state of a command keeps them. -/
structure KeepsRes (s : State) (r : Res) : Prop where
  all : ∀ t, r = .next t → Keeps s t

section
variable {s t u : State} {α β : Type}

theorem Keeps.refl (s : State) : Keeps s s := ⟨rfl, id⟩

theorem Keeps.trans (h : Keeps s t) (k : Keeps t u) : Keeps s u := ⟨k.pending.trans h.pending, k.wf ∘ h.wf⟩

theorem keeps_iff : Keeps s t ↔ t.pending = s.pending ∧ (s.Canonical → t.Canonical) :=
  ⟨fun h => ⟨h.pending, h.wf⟩, fun h => ⟨h.1, h.2⟩⟩

theorem keepsOpt_some : KeepsOpt s (some t) ↔ Keeps s t := ⟨fun h => h.all t rfl, fun h => ⟨fun _ e => by cases e; exact h⟩⟩

theorem keepsOpt_none : KeepsOpt s none := ⟨fun _ e => by cases e⟩

theorem Keeps.getD {r : Option State} (h : KeepsOpt s r) : Keeps s (r.getD s) := by
  cases r with
  | none => exact .refl s
  | some t => exact h.all t rfl

theorem keepsRes_next : KeepsRes s (.next t) ↔ Keeps s t := ⟨fun h => h.all t rfl, fun h => ⟨fun _ e => by cases e; exact h⟩⟩

/-- A fold of operations that each keep them. -/
theorem Keeps.foldl {f : State → β → State} (hf : ∀ t b, Keeps t (f t b)) (l : List β) (s : State) : Keeps s (l.foldl f s) := by
  induction l generalizing s with
  | nil => exact .refl s
  | cons b l ih => exact (hf s b).trans (ih _)

/-! Whatever has a footprint or records only keeps them. -/

theorem Keeps.foot {m : Nat} (b : Touches m s t) : Keeps s t := ⟨b.pending, b.wf⟩

theorem ResT.keeps {m : Nat} {r : Res} (b : ResT m s r) : KeepsRes s r := ⟨fun t e => .foot (b.all t e)⟩

theorem Keeps.recorded (b : Recorded (fun _ => true) true s t) : Keeps s t := ⟨b.pending, b.wf⟩

end

/-! The primitive updates. -/

section
variable (s : State)

theorem Keeps.setReg (o : Nat) (v : Word) : Keeps s (s.setReg o v) := ⟨rfl, mapSet_wf regReset o v⟩
theorem Keeps.clearReg (o : Nat) : Keeps s (s.clearReg o) := .setReg ..
theorem Keeps.setNat (o n : Nat) : Keeps s (s.setNat o n) := .setReg ..
theorem Keeps.setBits (o n : Nat) : Keeps s (s.setBits o n) := .setReg ..
theorem Keeps.clearBits (o n : Nat) : Keeps s (s.clearBits o n) := .setReg ..
theorem Keeps.setField (o l w v : Nat) : Keeps s (s.setField o l w v) := (Keeps.clearBits ..).trans (.setBits ..)
theorem Keeps.addReg (o k : Nat) : Keeps s (s.addReg o k) := .setReg ..
theorem Keeps.incReg (o : Nat) : Keeps s (s.incReg o) := .setReg ..
theorem Keeps.satField (o l w k : Nat) : Keeps s (s.satField o l w k) := .setField ..
theorem Keeps.addPair (o k : Nat) : Keeps s (s.addPair o k) := (Keeps.setNat ..).trans (.setNat ..)
theorem Keeps.setPair (o k : Nat) : Keeps s (s.setPair o k) := (Keeps.setNat ..).trans (.setNat ..)
theorem Keeps.maxReg (o k : Nat) : Keeps s (s.maxReg o k) := by
  unfold State.maxReg
  split
  · exact .setNat ..
  · exact .refl s
theorem Keeps.resetRegs (p : RegDom → Bool) (q : Nat → Bool) : Keeps s (s.resetRegs p q) :=
  ⟨rfl, mapFilter_wf regReset _⟩

theorem Keeps.modSys (f : Sys → Sys) : Keeps s (s.modSys f) := ⟨rfl, id⟩
theorem Keeps.modDtm (f : Dtm → Dtm) : Keeps s (s.modDtm f) := ⟨rfl, id⟩
theorem Keeps.modPlat (f : PlatState → PlatState) : Keeps s (s.modPlat f) := ⟨rfl, id⟩
theorem Keeps.modPort (p : Nat) (f : Port → Port) : Keeps s (s.modPort p f) := by
  unfold State.modPort
  split <;> exact ⟨rfl, id⟩
theorem Keeps.modSvc (f : Svc → Svc) : Keeps s (s.modSvc f) := ⟨rfl, id⟩
theorem Keeps.modStg (f : Stg → Stg) : Keeps s (s.modStg f) := ⟨rfl, id⟩
theorem Keeps.modCds (f : Cds → Cds) : Keeps s (s.modCds f) := ⟨rfl, id⟩
theorem Keeps.modSaved (f : MapSave → MapSave) : Keeps s (s.modSaved f) := ⟨rfl, id⟩
theorem Keeps.modMed (f : SMap MedLine → SMap MedLine) : Keeps s (s.modMed f) := ⟨rfl, id⟩
theorem Keeps.modTrv (f : Trv → Trv) : Keeps s (s.modTrv f) := ⟨rfl, id⟩
theorem Keeps.modMdc (f : Mdc → Mdc) : Keeps s (s.modMdc f) := ⟨rfl, id⟩
theorem Keeps.modPwr (f : Pwr → Pwr) : Keeps s (s.modPwr f) := ⟨rfl, id⟩
theorem Keeps.modPfl (f : Pfl → Pfl) : Keeps s (s.modPfl f) := ⟨rfl, id⟩
theorem Keeps.modIme (f : Ime → Ime) : Keeps s (s.modIme f) := ⟨rfl, id⟩
theorem Keeps.modCke (f : Cke → Cke) : Keeps s (s.modCke f) := ⟨rfl, id⟩
theorem Keeps.modEng (f : Eng → Eng) : Keeps s (s.modEng f) := ⟨rfl, id⟩
theorem Keeps.modPst (f : Pst → Pst) : Keeps s (s.modPst f) := ⟨rfl, id⟩
theorem Keeps.modEvr (f : Evr → Evr) : Keeps s (s.modEvr f) := ⟨rfl, id⟩
theorem Keeps.modThm (f : Thm → Thm) : Keeps s (s.modThm f) := ⟨rfl, id⟩
theorem Keeps.modSvy (f : Svy → Svy) : Keeps s (s.modSvy f) := ⟨rfl, id⟩
theorem Keeps.modShadow (q : Requester) (f : Shadow → Shadow) : Keeps s (s.modShadow q f) := by
  cases q <;> exact ⟨rfl, id⟩
theorem Keeps.emit (x : Output) : Keeps s (s.emit x) := ⟨rfl, id⟩
theorem Keeps.useFree : Keeps s s.useFree := ⟨rfl, id⟩
theorem Keeps.useFrees (k : Nat) : Keeps s (s.useFrees k) := ⟨rfl, id⟩

/-! Recording, the passing of time and the change of the top-level state. -/

theorem Keeps.raise (c a b : Nat) : Keeps s (s.raise c a b) := .recorded (.raise all_true ..)
theorem Keeps.flag (st en n : Nat) (l : Bool) : Keeps s (s.flag st en n l) := .recorded (.flag all_true _ _ _ _ rfl)
theorem Keeps.evrFlag (n : Nat) (l : Bool) : Keeps s (s.evrFlag n l) := .recorded (.evrFlag all_true ..)
theorem Keeps.pmc (e f k a : Nat) : Keeps s (s.pmc e f k a) := .recorded (.pmc all_true ..)
theorem Keeps.pmcMany (e : Nat) (l : List Nat) (a : Nat) : Keeps s (s.pmcMany e l a) := .recorded (.pmcMany all_true ..)
theorem Keeps.pmcAdd (fuel : Nat) (n : Fin 48) (k : Nat) (e : Bool) (x y : Nat) : Keeps s (s.pmcAdd fuel n k e x y) :=
  .recorded (.pmcAdd all_true _ _ _ _ _ _ n.isLt)
theorem Keeps.nearMiss (n : Nat) : Keeps s (s.nearMiss n) := .recorded (.nearMiss (fun _ _ => rfl) ..)
theorem Keeps.strobe (n : Nat) : Keeps s (s.strobe n) := .recorded (.strobeAt all_true ..)
theorem Keeps.clockTo (n : Nat) : Keeps s (s.clockTo n) := .recorded (.clockTo all_true ..)
theorem Keeps.goState (d : DevState) : Keeps s (s.goState d) :=
  .foot (Touches.goState (m := 0x1ffffffffff) (.refl _ s) (by decide) (by decide) (by decide) (by decide) (by decide))
theorem Keeps.settleTemper : Keeps s s.settleTemper :=
  .foot (Touches.settleTemper (m := 0x1ffffffffff) (.refl _ s) (by decide) (by decide) (by decide))

end

/-! ## Operations with a footprint -/

section
variable (s : State)

theorem Keeps.stgLevels : Keeps s s.stgLevels := .foot (Foot.stgLevels ..)
theorem Keeps.afterResetState (k : ResetKind) (from_ : Nat) : Keeps s (s.afterResetState k from_) :=
  .foot (Foot.afterResetState ..)
theorem Keeps.pstBoot : Keeps s s.pstBoot := .foot (Foot.pstBoot ..)
theorem Keeps.saveMap : Keeps s s.saveMap := .foot (Foot.saveMap ..)
theorem Keeps.pstCut : Keeps s s.pstCut := .foot (Foot.pstCut ..)
theorem Keeps.requestReset (k : ResetKind) : Keeps s (s.requestReset k) := .foot (Foot.requestReset ..)
theorem Keeps.restLine : Keeps s s.restLine := .foot (Foot.restLine ..)
theorem Keeps.setPhase (p : Phase) : Keeps s (s.setPhase p) := .foot (Foot.setPhase ..)
theorem Keeps.done (via : Via) (op : Nat) (fields : List Nat) : Keeps s (s.done via op fields) := .foot (Foot.done ..)
theorem Keeps.performReset (k : ResetKind) : Keeps s (s.performReset k) := .foot (Foot.performReset ..)
theorem Keeps.refuse (ch d : Nat) (p : Packet) (result : Nat) : Keeps s (s.refuse ch d p result) := .foot (Foot.refuse ..)
theorem Keeps.rngFails : Keeps s s.rngFails := .foot (Foot.rngFails ..)
theorem Keeps.draw : Keeps s s.draw.1 := .foot (Foot.draw ..).all
theorem Keeps.fails (via : Via) (op ret : Nat) : Keeps s (s.fails via op ret) := .foot (Foot.fails ..)
theorem Keeps.queueFront (r : EvrRec) : Keeps s (s.queueFront r) := .foot (Foot.queueFront ..)
theorem Keeps.queueConfig (f : ConfigDeed → ConfigDeed) : Keeps s (s.queueConfig f) := .foot (Foot.queueConfig ..)
theorem Keeps.wrapKey (keyRef gen : Nat) (pass : Option (BitVec 256)) (key : Option (BitVec 256)) : Keeps s (s.wrapKey keyRef gen pass key).1 :=
  .foot (Foot.wrapKey ..).all
theorem Keeps.queueWrap (w : WrapRec) : Keeps s (s.queueWrap w) := .foot (Foot.queueWrap ..)
theorem Keeps.writeSlot (i : Nat) (key : Option (BitVec 256)) : Keeps s (s.writeSlot i key) := .foot (Foot.writeSlot ..)
theorem Keeps.tryWb (i : Nat) (forced : Bool) : Keeps s (s.tryWb i forced) := .foot (Foot.tryWb ..)
theorem Keeps.inverseMisses (parcel : Nat) (l : List (Fin 64 × Fin 2)) : Keeps s (s.inverseMisses parcel l) :=
  .foot (Foot.inverseMisses ..)
theorem Keeps.stick (line : Nat) : Keeps s (s.stick line) := .foot (Foot.stick ..)
theorem Keeps.commitWb (w : Wb) : Keeps s (s.commitWb w) := .foot (Foot.commitWb ..)
theorem Keeps.pushWb : Keeps s s.pushWb := .foot (Foot.pushWb ..)
theorem Keeps.pushMaint : Keeps s s.pushMaint := .foot (Foot.pushMaint ..)
theorem Keeps.retryRelease : Keeps s s.retryRelease := .foot (Foot.retryRelease ..)
theorem Keeps.endDrains : Keeps s s.endDrains := .foot (Foot.endDrains ..)
theorem Keeps.failUnit (p seq : Nat) : Keeps s (s.failUnit p seq) := .foot (Foot.failUnit ..)
theorem Keeps.settleFrame (i : Nat) : Keeps s (s.settleFrame i) := .foot (Foot.settleFrame ..)
theorem Keeps.checkReserve : Keeps s s.checkReserve := .foot (Foot.checkReserve ..)
theorem Keeps.dropPoison (line : Nat) : Keeps s (s.dropPoison line) := .foot (Foot.dropPoison ..)
theorem Keeps.allocFrame (parcel : Nat) (write : Bool) {i : Nat} {u : State} (e : (s.allocFrame parcel write) = some (i, u)) : Keeps s u :=
  .foot ((Foot.allocFrame ..).all _ _ e)
theorem Keeps.onChannel (ch : Nat) (f : Channel → Channel) : Keeps s (s.onChannel ch f) := .foot (Foot.onChannel ..)
theorem Keeps.imeFlag (n : Nat) (listed : Bool) : Keeps s (s.imeFlag n listed) := .foot (Foot.imeFlag ..)
theorem Keeps.secInfo (code line level : Nat) : Keeps s (s.secInfo code line level) := .foot (Foot.secInfo ..)
theorem Keeps.quarantine (base len : Nat) (tamper : Bool) : Keeps s (s.quarantine base len tamper) := .foot (Foot.quarantine ..)
theorem Keeps.addPoison (line : Nat) : Keeps s (s.addPoison line) := .foot (Foot.addPoison ..)
theorem Keeps.tamper (bit code : Nat) (line level : Nat) : Keeps s (s.tamper bit code line level) := .foot (Foot.tamper ..)
theorem Keeps.laneMiss (i : Nat) : Keeps s (s.laneMiss i) := .foot (Foot.laneMiss ..)
theorem Keeps.account (line place : Nat) (d : Decoded) : Keeps s (s.account line place d) := .foot (Foot.account ..)
theorem Keeps.place (failed origin : Nat) (roles : List Nat) : Keeps s (s.place failed origin roles) := .foot (Foot.place ..)
theorem Keeps.collect (src : Nat) : Keeps s (s.collect src) := .foot (Foot.collect ..)
theorem Keeps.mapCommit (pages : List Nat) (f : Cds → Cds) : Keeps s (s.mapCommit pages f) := .foot (Foot.mapCommit ..)
theorem Keeps.commitSeals (parcel : Nat) (seals : List (Nat × Seal)) : Keeps s (s.commitSeals parcel seals) :=
  .foot (Foot.commitSeals ..)
theorem Keeps.modMap (f : Cds → Cds) : Keeps s (s.modMap f) := .foot (Foot.modMap ..)
theorem Keeps.closeMark : Keeps s s.closeMark := .foot (Foot.closeMark ..)
theorem Keeps.logTriggers : Keeps s s.logTriggers := .foot (Foot.logTriggers ..)
theorem Keeps.checkReadonly : Keeps s s.checkReadonly := .foot (Foot.checkReadonly ..)
theorem Keeps.takeSlot (parcel : Nat) (full : Bool) {i j : Nat} {u : State} (e : (s.takeSlot parcel full) = some (i, j, u)) : Keeps s u :=
  .foot ((Foot.takeSlot ..).all _ _ _ e)
theorem Keeps.programLine (key : Nat) (m : MedLine) : Keeps s (s.programLine key m) := .foot (Foot.programLine ..)
theorem Keeps.unrecoverable (line : Nat) : Keeps s (s.unrecoverable line) := .foot (Foot.unrecoverable ..)
theorem Keeps.openStripe (band j : Nat) : KeepsOpt s (s.openStripe band j) := ⟨fun _ e => .foot ((Foot.openStripe ..).all _ e)⟩
theorem Keeps.sealMask (parcel : Nat) (mask : Quad) (wrapped : Bool) : Keeps s (s.sealMask parcel mask wrapped).1 :=
  .foot (Foot.sealMask ..).all
theorem Keeps.wrapGroup (parcel : Nat) : Keeps s (s.wrapGroup parcel) := .foot (Foot.wrapGroup ..)
theorem Keeps.portCopy (p : Nat) (r : EvrRec) : Keeps s (s.portCopy p r) := .foot (Foot.portCopy ..)
theorem Keeps.setSlot (i : Nat) (key : Option (BitVec 256)) : Keeps s (s.setSlot i key) := .foot (Foot.setSlot ..)
theorem Keeps.onRekey (y : Nat) (f : Rekey → Rekey) : Keeps s (s.onRekey y f) := .foot (Foot.onRekey ..)
theorem Keeps.startRekey (id : Nat) : Keeps s (s.startRekey id) := .foot (Foot.startRekey ..)
theorem Keeps.onBlock (parcel : Nat) (f : CtrBlock → CtrBlock) : Keeps s (s.onBlock parcel f) := .foot (Foot.onBlock ..)
theorem Keeps.fillAll (i : Nat) : Keeps s (s.fillAll i) := .foot (Foot.fillAll ..)
theorem Keeps.freshKey (y : Holding) (gen : Nat) : Keeps s (s.freshKey y gen).1 := .foot (Foot.freshKey ..).all
theorem Keeps.startMerge (plot why : Nat) : KeepsOpt s (s.startMerge plot why) :=
  ⟨fun _ e => .foot ((Foot.startMerge ..).all _ e)⟩
theorem Keeps.closeLog (id : Nat) : Keeps s (s.closeLog id) := .foot (Foot.closeLog ..)
theorem Keeps.streamSwitch (plot id : Nat) : Keeps s (s.streamSwitch plot id) := .foot (Foot.streamSwitch ..)
theorem Keeps.background (via : Via) (op : Nat) : Keeps s (s.background via op) := .foot (Foot.background ..)
theorem Keeps.gateTake (mj : Nat) : Keeps s (s.gateTake mj) := .foot (Foot.gateTake ..)
theorem Keeps.migStep : KeepsOpt s s.migStep := ⟨fun _ e => .foot ((Foot.migStep ..).all _ e)⟩
theorem Keeps.sensorFails (i : Nat) : Keeps s (s.sensorFails i) := .foot (Foot.sensorFails ..)
theorem Keeps.deedEffect (v : DeedVal) : Keeps s (s.deedEffect v) := .foot (Foot.deedEffect ..)
theorem Keeps.pstQueue (op : PstOp) : Keeps s (s.pstQueue op) := .foot (Foot.pstQueue ..)
theorem Keeps.quench (failed : Bool) : Keeps s (s.quench failed) := .foot (Foot.quench ..)
theorem Keeps.setBank (b : BankState) : Keeps s (s.setBank b) := .foot (Foot.setBank ..)
theorem Keeps.convFollow : Keeps s s.convFollow := .foot (Foot.convFollow ..)
theorem Keeps.setPlatPhase (n : Nat) : Keeps s (s.setPlatPhase n) := .foot (Foot.setPlatPhase ..)
theorem Keeps.placeRoles (p : Plat) : Keeps s (s.placeRoles p) := .foot (Foot.placeRoles ..)
theorem Keeps.layOut : Keeps s s.layOut := .foot (Foot.layOut ..)
theorem Keeps.setPlatErr (e : PlatErr) : Keeps s (s.setPlatErr e) := .foot (Foot.setPlatErr ..)
theorem Keeps.ageGap (ns : Nat) : Keeps s (s.ageGap ns) := .foot (Foot.ageGap ..)
theorem Keeps.datumDeed : Keeps s s.datumDeed := .foot (Foot.datumDeed ..)
theorem Keeps.rebase : Keeps s s.rebase := .foot (Foot.rebase ..)
theorem Keeps.refill : Keeps s s.refill := .foot (Foot.refill ..)
theorem Keeps.eraseTract (k : Nat) : Keeps s (s.eraseTract k) := .foot (Foot.eraseTract ..)
theorem Keeps.writeRun : Keeps s s.writeRun := .foot (Foot.writeRun ..)
theorem Keeps.eraseKeys (y : Holding) : Keeps s (s.eraseKeys y) := .foot (Foot.eraseKeys ..)
theorem Keeps.mergeMarked : Keeps s s.mergeMarked := .foot (Foot.mergeMarked ..)
theorem Keeps.goReady : Keeps s s.goReady := .foot (Foot.goReady ..)
theorem Keeps.enterReadonly : Keeps s s.enterReadonly := .foot (Foot.enterReadonly ..)
theorem Keeps.planByAge : Keeps s s.planByAge := .foot (Foot.planByAge ..)
theorem Keeps.queueDeed (index : Nat) (v : DeedVal) : Keeps s (s.queueDeed index v) := .foot (Foot.queueDeed ..)
theorem Keeps.setBudget : Keeps s s.setBudget := .foot (Foot.setBudget ..)
theorem Keeps.vendorFails (via : Via) (op ext : Nat) : Keeps s (s.vendorFails via op ext) := .foot (Foot.vendorFails ..)
theorem Keeps.startRelease (opcode : Nat) (ranges : List (Nat × Nat)) (secure : Bool) : Keeps s (s.startRelease opcode ranges secure) :=
  .foot (Foot.startRelease ..)
theorem Keeps.ringMbox (via : Via) : Keeps s (s.ringMbox via) := .foot (Foot.ringMbox ..)
theorem Keeps.askAssay : Keeps s s.askAssay := .foot (Foot.askAssay ..)
theorem Keeps.assayGate : Keeps s s.assayGate := .foot (Foot.assayGate ..)
theorem Keeps.pstDataRead : Keeps s s.pstDataRead.2 := .foot (Foot.pstDataRead ..).all
theorem Keeps.win7Read (q : Requester) : Keeps s (s.win7Read q).2 := .foot (Foot.win7Read ..).all
theorem Keeps.pmcRead (q : Requester) (n : Nat) : Keeps s (s.pmcRead q n).2 := .foot (Foot.pmcRead ..).all
theorem Keeps.ckeDenied : Keeps s s.ckeDenied := .foot (Foot.ckeDenied ..)
theorem Keeps.submit (code : CkeCode) (b : Submit) : Keeps s (s.submit code b) := .foot (Foot.submit ..)
theorem Keeps.pstDataWrite (v : Word) : Keeps s (s.pstDataWrite v) := .foot (Foot.pstDataWrite ..)

end

/-! ## Resets and top-level states -/

section
variable (s : State)

theorem Keeps.freshStart (straps : BitVec 5) (retained : Bool) (offNs : Nat) : Keeps s (s.freshStart straps retained offNs) :=
  ⟨rfl, fun _ => ⟨.nil, nofun⟩⟩

theorem Keeps.cmdSuppliesGood (straps : BitVec 5) (retained : Bool) (offNs : Nat) :
    KeepsRes s (execSuppliesGood straps retained offNs s) := by
  unfold execSuppliesGood
  grind [keepsRes_next, keeps_iff, !Keeps.freshStart, !Keeps.stgLevels, !Keeps.afterResetState, !Keeps.pstBoot]

theorem Keeps.cutMonument  : Keeps s (s.cutMonument) := by
  unfold State.cutMonument
  grind [keeps_iff, !Keeps.saveMap, !Keeps.modPfl, !Keeps.useFree]

theorem Keeps.cmdSupplyLoss  : KeepsRes s (execSupplyLoss s) := by
  unfold execSupplyLoss
  grind [keepsRes_next, keeps_iff, !Keeps.cutMonument, !Keeps.pstCut, !Keeps.modSys]

theorem Keeps.setPin (pin : ResetPin) (low : Bool) : Keeps s (s.setPin pin low) := by
  unfold State.setPin
  grind [keeps_iff, !Keeps.modSys]

theorem Keeps.cmdResetInputLow (pin : ResetPin) (atNs : Nat) : KeepsRes s (execResetInputLow pin atNs s) := by
  unfold execResetInputLow
  grind [keepsRes_next, keeps_iff, !Keeps.setPin, !Keeps.clockTo, !Keeps.requestReset]

theorem Keeps.cmdResetInputRelease (pin : ResetPin) (atNs : Nat) : KeepsRes s (execResetInputRelease pin atNs s) := by
  unfold execResetInputRelease
  grind [keepsRes_next, keeps_iff, !Keeps.setPin, !Keeps.clockTo, !Keeps.modSys]

theorem Keeps.cmdResetFlushDone (atNs : Nat) : KeepsRes s (execResetFlushDone atNs s) := by
  unfold execResetFlushDone
  grind [keepsRes_next, keeps_iff, !Keeps.clockTo, !Keeps.restLine, !Keeps.setPhase, !Keeps.done, !Keeps.modSys,
    !Keeps.performReset]

theorem Keeps.rstCtl (via : Via) (v : Nat) : Keeps s (s.rstCtl via v) := by
  unfold State.rstCtl
  grind [keeps_iff, !Keeps.emit, !Keeps.flag, !Keeps.requestReset]

theorem Keeps.cmdSysRstWarm (via : Via) (v : Word) : KeepsRes s (execSysRstWarm via v s) := by
  unfold execSysRstWarm
  grind [keepsRes_next, keeps_iff, !Keeps.rstCtl]

theorem Keeps.cmdSysRstCold (via : Via) (v : Word) : KeepsRes s (execSysRstCold via v s) := by
  unfold execSysRstCold
  grind [keepsRes_next, keeps_iff, !Keeps.rstCtl]

theorem Keeps.cmdSysRstDiag (via : Via) (v : Word) : KeepsRes s (execSysRstDiag via v s) := by
  unfold execSysRstDiag
  grind [keepsRes_next, keeps_iff, !Keeps.rstCtl]

theorem Keeps.cmdTapInstruction (i : TapInstr) (trstLow : Bool) : KeepsRes s (execTapInstruction i trstLow s) := by
  unfold execTapInstruction
  grind [keepsRes_next, keeps_iff, !Keeps.modSys, !Keeps.emit, !Keeps.useFree]

end

/-! ## Staging -/

section
variable (s : State)

theorem Keeps.cmdClockFrontHand  : KeepsRes s (execClockFrontHand s) := by
  unfold execClockFrontHand
  grind [keepsRes_next, keeps_iff, !Keeps.modStg, !Keeps.tryWb]

theorem Keeps.cmdClockBackHand : KeepsRes s (execClockBackHand s) := by
  unfold execClockBackHand
  dsimp only
  split
  · exact keepsRes_next.2 (.refl s)
  split
  · exact keepsRes_next.2 (.modStg ..)
  split
  · exact keepsRes_next.2 ((Keeps.modStg ..).trans ((Keeps.modStg ..).trans (.addPair ..)))
  · exact keepsRes_next.2 (.modStg ..)

theorem Keeps.cmdWriteBackCommit (parcel : Nat) (misses : List (Fin 64 × Fin 2)) (stuck : Option (Fin 64)) :
    KeepsRes s (execWriteBackCommit parcel misses stuck s) := by
  unfold execWriteBackCommit
  grind [keepsRes_next, keeps_iff, !Keeps.inverseMisses, !Keeps.stick, !Keeps.modIme, !Keeps.commitWb, !Keeps.pushWb,
    !Keeps.pushMaint, !Keeps.retryRelease]

theorem Keeps.cmdStgEnableClear (via : Via) (keep : Bool) : KeepsRes s (execStgEnableClear via keep s) := by
  unfold execStgEnableClear
  grind [keepsRes_next, keeps_iff, !Keeps.emit, !Keeps.setField, !Keeps.clearBits, !Keeps.modStg, !Keeps.pushWb, !Keeps.endDrains]

theorem Keeps.cmdStgEnableSet (via : Via) (keep : Bool) : KeepsRes s (execStgEnableSet via keep s) := by
  unfold execStgEnableSet
  grind [keepsRes_next, keeps_iff, !Keeps.emit, !Keeps.setField, !Keeps.setBits, !Keeps.modStg]

theorem Keeps.cmdCleanAll (via : Via) : KeepsRes s (execCleanAll via s) := by
  unfold execCleanAll
  grind [keepsRes_next, keeps_iff, !Keeps.emit, !Keeps.setBits, !Keeps.modStg, !Keeps.pushWb]

theorem Keeps.cmdTagCacheInvalidateDone  : KeepsRes s (execTagCacheInvalidateDone s) := by
  unfold execTagCacheInvalidateDone
  grind [keepsRes_next, keeps_iff, !Keeps.modStg]

theorem Keeps.cmdStagingInvalidateDone  : KeepsRes s (execStagingInvalidateDone s) := by
  unfold execStagingInvalidateDone
  grind [keepsRes_next, keeps_iff, !Keeps.modStg, !Keeps.setBits]

theorem Keeps.cmdStgClockParamWrite (via : Via) (p : StgParam) (v : Word) : KeepsRes s (execStgClockParamWrite via p v s) := by
  unfold execStgClockParamWrite
  grind [keepsRes_next, keeps_iff, !Keeps.emit, !Keeps.setReg]

end

/-! ## The host data path -/

section
variable (s : State)

theorem Keeps.respond (p : Fin 2) (o : Output) : Keeps s (s.respond p o) := by
  unfold State.respond
  grind [keeps_iff, !Keeps.modPort, !Keeps.emit]

theorem Keeps.hptFlag (p n : Nat) (listed : Bool) : Keeps s (s.hptFlag p n listed) := by
  unfold State.hptFlag
  grind [keeps_iff, !Keeps.flag]

theorem Keeps.settleDrain (p : Nat) : Keeps s (s.settleDrain p) := by
  unfold State.settleDrain
  grind [keeps_iff, !Keeps.modPort, !Keeps.clearBits, !Keeps.setBits]

theorem Keeps.settleGpf (p : Fin 2) : Keeps s (s.settleGpf p) := by
  unfold State.settleGpf
  grind [keeps_iff, !Keeps.modPort, !Keeps.clearBits, !Keeps.setNat, !Keeps.setBits, !Keeps.incReg, !Keeps.nearMiss, !Keeps.emit]

theorem Keeps.settleFlr (p : Fin 2) : Keeps s (s.settleFlr p) := by
  unfold State.settleFlr
  grind [keeps_iff, !Keeps.clearReg, !Keeps.modPort, !Keeps.satField, !Keeps.emit]

theorem Keeps.settlePort (p : Fin 2) : Keeps s (s.settlePort p) := by
  unfold State.settlePort
  grind [keeps_iff, !Keeps.settleDrain, !Keeps.settleGpf, !Keeps.settleFlr]

theorem Keeps.cmdM2sRwd (port : Fin 2) (line : Nat) (data : Line) (mask : Quad) (atNs : Nat) :
    KeepsRes s (execM2sRwd port line data mask atNs s) := by
  unfold execM2sRwd
  grind [keepsRes_next, keeps_iff, !Keeps.clockTo, !Keeps.incReg, !Keeps.modPort, !Keeps.maxReg, !Keeps.pmc, !Keeps.raise]

theorem Keeps.cmdM2sReq (port : Fin 2) (line tag atNs : Nat) : KeepsRes s (execM2sReq port line tag atNs s) := by
  unfold execM2sReq
  grind [keepsRes_next, keeps_iff, !Keeps.clockTo, !Keeps.modPort, !Keeps.pmc]

theorem Keeps.finishWrite (p : Fin 2) (e : PwbEntry) : Keeps s (s.finishWrite p e) := by
  unfold State.finishWrite
  grind [!Keeps.foldl, keeps_iff, !Keeps.modPort, !Keeps.respond, !Keeps.addPair, !Keeps.maxReg, !Keeps.pmc, !Keeps.settlePort,
    !Keeps.endDrains, !Keeps.pushMaint]

theorem Keeps.refuseWrite (p : Fin 2) (e : PwbEntry) : Keeps s (s.refuseWrite p e) := by
  unfold State.refuseWrite
  grind [keeps_iff, !Keeps.addReg, !Keeps.hptFlag, !Keeps.failUnit, !Keeps.incReg, !Keeps.raise, !Keeps.finishWrite]

theorem Keeps.noteDegraded (p : Fin 2) (e : PwbEntry) : Keeps s (s.noteDegraded p e) := by
  unfold State.noteDegraded
  grind [keeps_iff, !Keeps.setBits, !Keeps.raise]

theorem Keeps.stgErrAt (line : Nat) : Keeps s (s.stgErrAt line) := by
  unfold State.stgErrAt
  grind [keeps_iff, !Keeps.setPair]

theorem Keeps.stgFlag (n : Nat) (listed : Bool) : Keeps s (s.stgFlag n listed) := by
  unfold State.stgFlag
  grind [keeps_iff, !Keeps.flag]

theorem Keeps.stgFault (i line : Nat) (k : StgFault) : Keeps s (s.stgFault i line k) := by
  unfold State.stgFault
  grind [keeps_iff, !Keeps.incReg, !Keeps.stgFlag, !Keeps.stgErrAt, !Keeps.modStg, !Keeps.raise, !Keeps.settleFrame]

theorem Keeps.stgFaultAt (line : Nat) (k : Option StgFault) : Keeps s (s.stgFaultAt line k) := by
  unfold State.stgFaultAt
  grind [keeps_iff, !Keeps.stgFault]

theorem Keeps.openMark  : Keeps s (s.openMark) := by
  unfold State.openMark
  grind [keeps_iff, !Keeps.modPfl]

theorem Keeps.dirtyLine (i n : Nat) (data : Line) : Keeps s (s.dirtyLine i n data) := by
  unfold State.dirtyLine
  grind [keeps_iff, !Keeps.openMark, !Keeps.modStg, !Keeps.checkReserve]

theorem Keeps.stallBudget (p : Nat) (e : PwbEntry) : Keeps s (s.stallBudget p e) := by
  unfold State.stallBudget
  grind [keeps_iff, !Keeps.incReg, !Keeps.setBits, !Keeps.modStg, !Keeps.modPort]

theorem Keeps.installEntry (p : Fin 2) (e : PwbEntry) (i : Nat) (data : Line) (hit : Bool) :
    Keeps s (s.installEntry p e i data hit) := by
  unfold State.installEntry
  grind [keeps_iff, !Keeps.dirtyLine, !Keeps.dropPoison, !Keeps.modStg, !Keeps.addPair, !Keeps.finishWrite]

theorem Keeps.frameFor (parcel : Nat) {i : Nat} {hit : Bool} {u : State} (e : s.frameFor parcel = some (i, hit, u)) :
    Keeps s u := by
  unfold State.frameFor at e
  split at e
  · cases e
    exact .refl s
  · obtain ⟨⟨j, t⟩, ha, hb⟩ := Option.map_eq_some_iff.1 e
    cases hb
    exact .allocFrame s _ _ ha

theorem Keeps.lookupCounted (line : Nat) : Keeps s (s.lookupCounted line).2 := by
  unfold State.lookupCounted
  grind [keeps_iff, !Keeps.pmc, !Keeps.maxReg, !Keeps.modCds]

theorem Keeps.queueRead (key : Nat) : Keeps s (s.queueRead key) := by
  unfold State.queueRead
  grind [keeps_iff, !Keeps.onChannel]

theorem Keeps.queueSuspend (key : Nat) : Keeps s (s.queueSuspend key) := by
  unfold State.queueSuspend
  grind [keeps_iff, !Keeps.incReg, !Keeps.onChannel]

theorem Keeps.fetchAt (key band : Nat) : KeepsOpt s (s.fetchAt key band) := by
  unfold State.fetchAt
  grind [keepsOpt_some, keepsOpt_none, !Keeps.foldl, keeps_iff, !Keeps.queueRead, !Keeps.incReg, !Keeps.pmc, !Keeps.queueSuspend]

theorem Keeps.startFill (line key band : Nat) (frame : Option Nat) (merge : Option (Line × Quad)) (reader : Option (Fin 2 × Nat)) :
    KeepsOpt s (s.startFill line key band frame merge reader) := by
  unfold State.startFill
  split
  · exact keepsOpt_some.2 ((Keeps.incReg ..).trans (.modStg ..))
  · refine ⟨fun t e => ?_⟩
    obtain ⟨u, hu, rfl⟩ := Option.map_eq_some_iff.1 e
    exact ((Keeps.fetchAt s key band).all u hu).trans ((Keeps.modStg ..).trans (.maxReg ..))

theorem Keeps.unverifiable (line level : Nat) : Keeps s (s.unverifiable line level) := by
  unfold State.unverifiable
  grind [keeps_iff, !Keeps.imeFlag, !Keeps.secInfo, !Keeps.raise, !Keeps.incReg, !Keeps.quarantine]

theorem Keeps.imeUe (line : Nat) (u : ImeUe) : Keeps s (s.imeUe line u) := by
  unfold State.imeUe
  grind [!Keeps.foldl, keeps_iff, !Keeps.incReg, !Keeps.imeFlag, !Keeps.unverifiable, !Keeps.addPoison]

theorem Keeps.metaFault (line : Nat) (m : MetaFault) : Keeps s (s.metaFault line m) := by
  unfold State.metaFault
  grind [!Keeps.foldl, keeps_iff, !Keeps.addPoison, !Keeps.tamper, !Keeps.quarantine, !Keeps.unverifiable, !Keeps.imeUe]

theorem Keeps.tamperLine (line : Nat) : Keeps s (s.tamperLine line) := by
  unfold State.tamperLine
  grind [keeps_iff, !Keeps.addPoison, !Keeps.tamper]

theorem Keeps.tagCheck (line : Nat) (r : LineRead) (sealed_ : Bool) : Keeps s (s.tagCheck line r sealed_).2 := by
  unfold State.tagCheck
  extract_lets lane both t h u retry v
  have ht : Keeps s t := (Keeps.pmc ..).trans (.modIme ..)
  have hu : Keeps s u := ht.trans (.addPair ..)
  have hv : Keeps s v := hu.trans (.trans (by split; exact .incReg ..; exact .refl _) (.laneMiss ..))
  split
  · exact ht
  split
  · exact hu
  split
  · exact hv
  · exact hv.trans (.tamperLine ..)

theorem Keeps.release (line key : Nat) (r : LineRead) : Keeps s (s.release line key r).2 := by
  unfold State.release
  grind [keeps_iff, !Keeps.tagCheck]

theorem Keeps.arrive (line key : Nat) (r : LineRead) : Keeps s (s.arrive line key r).2 := by
  unfold State.arrive
  grind [keeps_iff, !Keeps.account, !Keeps.metaFault, !Keeps.release]

theorem Keeps.answerRead (p : Fin 2) (tag : Nat) (d : Option Line) : Keeps s (s.answerRead p tag d) := by
  unfold State.answerRead
  grind [keeps_iff, !Keeps.modPort, !Keeps.respond, !Keeps.addPair, !Keeps.maxReg, !Keeps.incReg, !Keeps.hptFlag]

theorem Keeps.installFill (i n : Nat) (d : Option Line) : Keeps s (s.installFill i n d) := by
  unfold State.installFill
  grind [keeps_iff, !Keeps.modStg, !Keeps.addPair]

theorem Keeps.endMerge (line : Nat) (d : Option Line) : Keeps s (s.endMerge line d) := by
  refine .foldl (fun t p => ?_) _ s
  grind [keeps_iff, !Keeps.installEntry, !Keeps.refuseWrite]

theorem Keeps.countPartial (r : LineRead) (before : Nat) (merging : Bool) : Keeps s (s.countPartial r before merging) := by
  unfold State.countPartial
  grind [keeps_iff, !Keeps.incReg]

theorem Keeps.countRace (key : Nat) (r : LineRead) : Keeps s (s.countRace key r) := by
  unfold State.countRace
  grind [keeps_iff, !Keeps.incReg]

theorem Keeps.cmdLineReadReturn (line : Nat) (r : LineRead) : KeepsRes s (execLineReadReturn line r s) := by
  unfold execLineReadReturn
  split
  · exact keepsRes_next.2 (.refl s)
  rename_i f _
  extract_lets found before
  clear_value found
  split
  rename_i d t ht
  extract_lets u v w x y z
  have ht : Keeps s t := by
    split at ht
    · obtain rfl := congrArg Prod.snd ht
      exact (Keeps.countRace ..).trans (.arrive ..)
    · cases ht; exact .refl s
    · cases ht; exact .refl s
  have hv : Keeps s v := ht.trans (.trans (.countPartial ..) (.modStg ..))
  have hw : Keeps s w := hv.trans (.foldl (fun t q => .trans (.answerRead ..) (.addPair ..)) _ v)
  have hx : Keeps s x := hw.trans (.trans (.pmc ..) (.collect ..))
  have hy : Keeps s y := hx.trans (by grind [keeps_iff, !Keeps.installFill, !Keeps.pmc])
  have hz : Keeps s z := hy.trans (by grind [keeps_iff, !Keeps.endMerge])
  refine keepsRes_next.2 (hz.trans (.trans ?_ (.pushMaint ..)))
  split
  · exact .refl z
  · split
    · rename_i u hu
      exact ((Keeps.startFill ..).all _ hu).trans (.foldl (fun t q => .getD (Keeps.startFill ..)) _ u)
    · exact .foldl (fun t q => .modPort ..) _ z
  · exact .foldl (fun t q => .answerRead ..) _ z

theorem Keeps.readMiss (p : Fin 2) (r : RdReq) : Keeps s (s.readMiss p r) := by
  unfold State.readMiss
  split
  rename_i found t e
  have ht : Keeps s t := by simpa only [e] using Keeps.lookupCounted s r.line
  refine ht.trans ?_
  split
  · exact .answerRead ..
  · exact .answerRead ..
  · extract_lets resident alloc
    split
    rename_i i u e
    have hu : Keeps t u := by
      split at e
      · cases e; exact .refl t
      · split at e <;> cases e
        · exact .allocFrame t _ _ (by assumption)
        · exact .refl t
    grind [keeps_iff, keepsOpt_some, !Keeps.startFill, !Keeps.modPort]

theorem Keeps.cmdReadPerform (port : Fin 2) (tag : Nat) (fault : Option StgFault) :
    KeepsRes s (execReadPerform port tag fault s) := by
  unfold execReadPerform
  grind [keepsRes_next, keeps_iff, !Keeps.answerRead, !Keeps.stgFaultAt, !Keeps.modStg, !Keeps.addPair, !Keeps.pmc,
    !Keeps.readMiss]

theorem Keeps.installBack (p : Fin 2) (e : PwbEntry) (fault : Option StgFault) : Keeps s (s.installBack p e fault) := by
  unfold State.installBack
  extract_lets n
  split
  · exact .refl s
  · rename_i i hit t h
    refine (Keeps.frameFor s _ h).trans ?_
    grind [keepsOpt_some, keeps_iff, !Keeps.stgFaultAt, !Keeps.refuseWrite, !Keeps.stallBudget, !Keeps.incReg, !Keeps.modStg,
      !Keeps.installEntry, !Keeps.lookupCounted, !Keeps.startFill, !Keeps.modPort]

theorem Keeps.installThrough (p : Fin 2) (e : PwbEntry) (w : Placed) : Keeps s (s.installThrough p e w) := by
  unfold State.installThrough
  grind [keeps_iff, !Keeps.mapCommit, !Keeps.modCds, !Keeps.commitSeals, !Keeps.modStg, !Keeps.settleFrame, !Keeps.dropPoison,
    !Keeps.noteDegraded, !Keeps.modMap, !Keeps.finishWrite, !Keeps.closeMark, !Keeps.logTriggers, !Keeps.checkReadonly]

theorem Keeps.cmdPwbInstall (port : Fin 2) (fault : Option StgFault) : KeepsRes s (execPwbInstall port fault s) := by
  unfold execPwbInstall
  grind [keepsRes_next, keeps_iff, !Keeps.refuseWrite, !Keeps.installThrough, !Keeps.installBack]

theorem Keeps.wtSlot (parcel : Nat) (mask : Quad) {i j : Nat} {u : State} (e : s.wtSlot parcel mask = some (i, j, u)) :
    Keeps s u := by
  unfold State.wtSlot at e
  split at e <;> obtain ⟨x, ha, hb⟩ := Option.map_eq_some_iff.1 e <;> cases hb
  · exact .modCds ..
  · exact (Keeps.takeSlot s _ _ ha).trans (.modCds ..)

theorem Keeps.wtSource (e : PwbEntry) (r : LineRead) : Keeps s (s.wtSource e r).2 := by
  unfold State.wtSource
  grind [keeps_iff, !Keeps.arrive]

theorem Keeps.wtProgram (band slot parcel : Nat) (lines : List (Nat × Line × Bool)) (seals : List (Nat × Seal)) :
    Keeps s (s.wtProgram band slot parcel lines seals) := by
  unfold State.wtProgram
  grind [!Keeps.foldl, keeps_iff, !Keeps.pmc, !Keeps.programLine]

theorem Keeps.setWrite (p seq : Nat) (f : PwbEntry → PwbEntry) : Keeps s (s.setWrite p seq f) := by
  unfold State.setWrite
  grind [keeps_iff, !Keeps.modPort]

theorem Keeps.cmdWriteThroughVerify (port : Fin 2) (seq : Nat) (src : LineRead) (redirected : Bool) :
    KeepsRes s (execWriteThroughVerify port seq src redirected s) := by
  unfold execWriteThroughVerify
  extract_lets p
  split
  · exact keepsRes_next.2 (.refl s)
  rename_i e _
  extract_lets earlier through before
  split
  · exact keepsRes_next.2 (.refl s)
  split
  rename_i source t ht
  extract_lets u
  have hu : Keeps s u := .trans (by simpa only [ht] using Keeps.wtSource s e src) (.countPartial ..)
  split
  · exact keepsRes_next.2 (hu.trans (.setWrite ..))
  · extract_lets lines mask wrapped
    split
    · exact keepsRes_next.2 (hu.trans (.modIme ..))
    split
    · exact keepsRes_next.2 hu
    · rename_i band slot v hv
      have hv : Keeps s v := hu.trans (.wtSlot u _ _ hv)
      split
      · exact keepsRes_next.2 hv
      rename_i w hw
      split
      rename_i x seals hx
      have hx : Keeps w x := by
        rw [← show _ = x from congrArg Prod.fst hx]
        exact .sealMask ..
      replace hx := (hv.trans ((Keeps.openStripe ..).all _ hw)).trans hx
      extract_lets y z
      have hy : Keeps s y := hx.trans (by unfold y; split; exact .wrapGroup ..; exact .refl x)
      exact keepsRes_next.2 (hy.trans ((Keeps.wtProgram ..).trans ((Keeps.setWrite ..).trans (.collect ..))))

theorem Keeps.cmdPortDrain (via : Via) (port : Fin 2) : KeepsRes s (execPortDrain via port s) := by
  unfold execPortDrain
  grind [keepsRes_next, keeps_iff, !Keeps.emit, !Keeps.setNat, !Keeps.modPort, !Keeps.settleDrain]

theorem Keeps.cmdGpfPhase1 (port : Fin 2) : KeepsRes s (execGpfPhase1 port s) := by
  unfold execGpfPhase1
  grind [keepsRes_next, keeps_iff, !Keeps.emit]

theorem Keeps.cmdGpfPhase2 (port : Fin 2) (atNs : Nat) : KeepsRes s (execGpfPhase2 port atNs s) := by
  unfold execGpfPhase2
  grind [keepsRes_next, keeps_iff, !Keeps.clockTo, !Keeps.setNat, !Keeps.modPort, !Keeps.settleGpf]

theorem Keeps.cmdGpfPhase2Timeout (port : Fin 2) (atNs : Nat) : KeepsRes s (execGpfPhase2Timeout port atNs s) := by
  unfold execGpfPhase2Timeout
  grind [keepsRes_next, keeps_iff, !Keeps.clockTo, !Keeps.settleGpf]

end

/-! ## Links and link IDE -/

section
variable (s : State)

theorem Keeps.cmdHostLinkTrain (port : Fin 2) (rate : Fin 4) (width : Nat) (flit68 : Bool) :
    KeepsRes s (execHostLinkTrain port rate width flit68 s) := by
  unfold execHostLinkTrain
  grind [keepsRes_next, keeps_iff, !Keeps.modPort]

theorem Keeps.laneFails (p lane : Nat) : Keeps s (s.laneFails p lane) := by
  unfold State.laneFails
  extract_lets _ u
  have hu : Keeps s u := (Keeps.setBits ..).trans ((Keeps.hptFlag ..).trans
    ((Keeps.setBits ..).trans ((Keeps.incReg ..).trans (.raise ..))))
  split
  split <;> exact hu.trans (.modPort ..)

theorem Keeps.cmdLaneFail (port : Fin 2) (lane : Fin 16) (lock : Bool) (atNs : Nat) :
    KeepsRes s (execLaneFail port lane lock atNs s) := by
  unfold execLaneFail
  grind [keepsRes_next, keeps_iff, !Keeps.clockTo, !Keeps.laneFails, !Keeps.incReg, !Keeps.modPort]

theorem Keeps.cmdLinkDown (port : Fin 2) : KeepsRes s (execLinkDown port s) := by
  unfold execLinkDown
  grind [keepsRes_next, keeps_iff, !Keeps.modPort]

theorem Keeps.cmdLinkDisable (via : Via) (port : Fin 2) (disable : Bool) : KeepsRes s (execLinkDisable via port disable s) := by
  unfold execLinkDisable
  grind [keepsRes_next, keeps_iff, !Keeps.emit, !Keeps.setBits, !Keeps.modPort, !Keeps.clearBits]

theorem Keeps.cmdLinkRetrain (via : Via) (port : Fin 2) : KeepsRes s (execLinkRetrain via port s) := by
  unfold execLinkRetrain
  grind [keepsRes_next, keeps_iff, !Keeps.emit, !Keeps.incReg]

theorem Keeps.cmdFunctionLevelReset (port : Fin 2) : KeepsRes s (execFunctionLevelReset port s) := by
  unfold execFunctionLevelReset
  grind [keepsRes_next, keeps_iff, !Keeps.modPort, !Keeps.settlePort]

theorem Keeps.modIde (p : Nat) (f : Ide → Ide) : Keeps s (s.modIde p f) := by
  unfold State.modIde
  grind [keeps_iff, !Keeps.modPort]

theorem Keeps.cmdIdeRxFlit (port : Fin 2) (macOk : Bool) : KeepsRes s (execIdeRxFlit port macOk s) := by
  unfold execIdeRxFlit
  grind [keepsRes_next, keeps_iff, !Keeps.modIde, !Keeps.modPort, !Keeps.incReg, !Keeps.raise]

theorem Keeps.cmdIdeTxMacFailReport (port : Fin 2) : KeepsRes s (execIdeTxMacFailReport port s) := by
  unfold execIdeTxMacFailReport
  grind [keepsRes_next, keeps_iff, !Keeps.modIde, !Keeps.hptFlag, !Keeps.raise, !Keeps.portCopy]

theorem Keeps.cmdIdeIvThreshold (port : Fin 2) : KeepsRes s (execIdeIvThreshold port s) := by
  unfold execIdeIvThreshold
  grind [keepsRes_next, keeps_iff, !Keeps.modIde, !Keeps.setBits, !Keeps.raise]

theorem Keeps.cmdIdeIvExhaust (port : Fin 2) (atNs : Nat) : KeepsRes s (execIdeIvExhaust port atNs s) := by
  unfold execIdeIvExhaust
  grind [keepsRes_next, keeps_iff, !Keeps.clockTo, !Keeps.modIde, !Keeps.setBits, !Keeps.raise]

theorem Keeps.cmdIdeRefreshTimeout (port : Fin 2) (atNs : Nat) : KeepsRes s (execIdeRefreshTimeout port atNs s) := by
  unfold execIdeRefreshTimeout
  grind [keepsRes_next, keeps_iff, !Keeps.clockTo, !Keeps.modIde, !Keeps.modPort, !Keeps.raise]

theorem Keeps.ideSay (p : Fin 2) (fields : List Nat) : Keeps s (s.ideSay p fields) := by
  unfold State.ideSay
  grind [keeps_iff, !Keeps.emit]

theorem Keeps.cmdIdeKmQuery (port : Fin 2) : KeepsRes s (execIdeKmQuery port s) := by
  unfold execIdeKmQuery
  grind [keepsRes_next, keeps_iff, !Keeps.ideSay]

theorem Keeps.cmdIdeKmKeyProg (port stream : Fin 2) (dir set : Fin 2) (sub : Fin 8) (key : BitVec 256) :
    KeepsRes s (execIdeKmKeyProg port stream dir set sub key s) := by
  unfold execIdeKmKeyProg
  grind [keepsRes_next, keeps_iff, !Keeps.modCke, !Keeps.setSlot, !Keeps.ideSay]

theorem Keeps.cmdIdeKmKSetGo (port stream set : Fin 2) (skid : Bool) (atNs : Nat) :
    KeepsRes s (execIdeKmKSetGo port stream set skid atNs s) := by
  unfold execIdeKmKSetGo
  extract_lets t p i allowed u same go
  have ht : Keeps s t := .clockTo s atNs
  have hu : Keeps s u := ht.trans (.ideSay ..)
  split
  · exact keepsRes_next.2 ht
  split
  · exact keepsRes_next.2 (ht.trans (.ideSay ..))
  split
  · exact keepsRes_next.2 (hu.trans (.modIde ..))
  split
  · extract_lets ms v held w
    split
    · exact keepsRes_next.2 hu
    split
    · exact keepsRes_next.2 hu
    · have hv : Keeps u v := by
        grind [keeps_iff, !Keeps.incReg, !Keeps.nearMiss]
      exact keepsRes_next.2 ((hu.trans hv).trans ((Keeps.modPort ..).trans (.foldl (fun x o => .respond x port o) _ _)))
  · split
    · exact keepsRes_next.2 hu
    · exact keepsRes_next.2 (hu.trans (.modIde ..))

theorem Keeps.cmdIdeKmKSetStop (port stream set : Fin 2) :
    KeepsRes s (execIdeKmKSetStop port stream set s) := by
  unfold execIdeKmKSetStop
  grind [keepsRes_next, keeps_iff, !Keeps.modIde, !Keeps.modPort, !Keeps.ideSay]

theorem Keeps.cmdIdeKmGetKey (port stream sub : Fin 2) : KeepsRes s (execIdeKmGetKey port stream sub s) := by
  unfold execIdeKmGetKey
  grind [keepsRes_next, keeps_iff, !Keeps.rngFails, !Keeps.ideSay, !Keeps.draw]

theorem Keeps.cmdHdmDecoderCommit (port : Fin 2) (n : Fin 4) (hpa size : Nat) (skip ways gran : Nat) (lock : Bool) :
    KeepsRes s (execHdmDecoderCommit port n hpa size skip ways gran lock s) := by
  unfold execHdmDecoderCommit
  grind [keepsRes_next, keeps_iff, !Keeps.modPort, !Keeps.setNat]

theorem Keeps.cmdHdmDecoderUncommit (port : Fin 2) (n : Fin 4) : KeepsRes s (execHdmDecoderUncommit port n s) := by
  unfold execHdmDecoderUncommit
  grind [keepsRes_next, keeps_iff, !Keeps.modPort]

theorem Keeps.cmdDoeDiscovery (port : Fin 2) (index : Fin 5) : KeepsRes s (execDoeDiscovery port index s) := by
  unfold execDoeDiscovery
  grind [keepsRes_next, keeps_iff, !Keeps.emit]

theorem Keeps.cmdCdatTableAccess (port : Fin 2) : KeepsRes s (execCdatTableAccess port s) := by
  unfold execCdatTableAccess
  grind [keepsRes_next, keeps_iff, !Keeps.emit]

end

/-! ## Authorised operations and SPDM -/

section
variable (s : State)

theorem Keeps.cmdNewChal (via : Via) : KeepsRes s (execNewChal via s) := by
  unfold execNewChal
  grind [keepsRes_next, keeps_iff, !Keeps.emit, !Keeps.rngFails, !Keeps.draw, !Keeps.modCke]

theorem Keeps.cmdChallengeExpiry (atNs : Nat) : KeepsRes s (execChallengeExpiry atNs s) := by
  unfold execChallengeExpiry
  grind [keepsRes_next, keeps_iff, !Keeps.clockTo, !Keeps.modCke, !Keeps.setBits]

theorem Keeps.cmdStageDataWrite (via : Via) (v : Word) : KeepsRes s (execStageDataWrite via v s) := by
  unfold execStageDataWrite
  grind [keepsRes_next, keeps_iff, !Keeps.emit, !Keeps.modCke, !Keeps.setField]

theorem Keeps.authResult (op r : Nat) : Keeps s (s.authResult op r) := by
  unfold State.authResult
  grind [keeps_iff, !Keeps.modCke]

theorem Keeps.tokenFail (op r : Nat) : Keeps s (s.tokenFail op r) := by
  unfold State.tokenFail
  grind [keeps_iff, !Keeps.modCke, !Keeps.authResult, !Keeps.incReg, !Keeps.raise, !Keeps.flag]

theorem Keeps.token (via : Via) (op : Nat) (states : List DevState) (input : Nat) {run : State → Option State}
    (hr : ∀ u, KeepsOpt u (run u)) : Keeps s (s.token via op states input run) := by
  unfold State.token
  grind [keeps_iff, keepsOpt_some, !Keeps.emit, !Keeps.authResult, !Keeps.tokenFail, !Keeps.modEvr, !Keeps.modCke,
    !Keeps.setBits, !Keeps.raise]

theorem KeepsOpt.zeroArg {f : State → State} (hf : ∀ u, Keeps u (f u)) : KeepsOpt s (zeroArg f s) := by
  unfold Machine.zeroArg
  split
  · exact keepsOpt_some.2 (hf s)
  · exact keepsOpt_none

theorem Keeps.clearLog  : Keeps s (s.clearLog) := by
  unfold State.clearLog
  grind [keeps_iff, !Keeps.fails, !Keeps.modEvr, !Keeps.queueFront]

theorem Keeps.cmdEvrClear (via : Via) : KeepsRes s (execEvrClear via s) := by
  unfold execEvrClear
  split
  · exact keepsRes_next.2 (.refl s)
  · exact keepsRes_next.2 (.token s _ _ _ _ fun u => .zeroArg u fun v => .clearLog v)

theorem Keeps.cmdOwnerEnroll (via : Via) : KeepsRes s (execOwnerEnroll via s) := by
  unfold execOwnerEnroll
  split
  · exact keepsRes_next.2 (.refl s)
  · refine keepsRes_next.2 (.token s _ _ _ _ fun u => ⟨fun t e => ?_⟩)
    obtain ⟨k, -, rfl⟩ := Option.map_eq_some_iff.1 e
    exact .queueConfig ..

theorem Keeps.cmdOwnerRemove (via : Via) : KeepsRes s (execOwnerRemove via s) := by
  unfold execOwnerRemove
  split
  · exact keepsRes_next.2 (.refl s)
  · exact keepsRes_next.2 (.token s _ _ _ _ fun u => .zeroArg u fun v => .queueConfig v _)

theorem Keeps.cmdAkReplace (via : Via) : KeepsRes s (execAkReplace via s) := by
  unfold execAkReplace
  split
  · exact keepsRes_next.2 (.refl s)
  · refine keepsRes_next.2 (.token s _ _ _ _ fun u => ?_)
    grind [keepsOpt_some, keeps_iff, !Keeps.wrapKey, !Keeps.queueWrap, !Keeps.writeSlot]

theorem Keeps.cmdDebugUnlock (via : Via) : KeepsRes s (execDebugUnlock via s) := by
  unfold execDebugUnlock
  split
  · exact keepsRes_next.2 (.refl s)
  · exact keepsRes_next.2 (.token s _ _ _ _ fun u => .zeroArg u fun v =>
      (Keeps.foldl (fun t i => .writeSlot t i none) _ v).trans ((Keeps.modIme ..).trans (.modCke ..)))

theorem Keeps.cmdRevokeFoaroKey (via : Via) : KeepsRes s (execRevokeFoaroKey via s) := by
  unfold execRevokeFoaroKey
  split
  · exact keepsRes_next.2 (.refl s)
  · refine keepsRes_next.2 (.token s _ _ _ _ fun u => ?_)
    dsimp only
    split
    · exact keepsOpt_none
    · exact keepsOpt_some.2 (.modCke ..)

theorem Keeps.onSpdm (via : Via) (f : Spdm → Spdm) : Keeps s (s.onSpdm via f) := by
  unfold State.onSpdm
  grind [keeps_iff, !Keeps.modCke]

theorem Keeps.spdmSay (via : Via) (fields : List Nat) : Keeps s (s.spdmSay via fields) := by
  unfold State.spdmSay
  grind [keeps_iff, !Keeps.emit]

theorem Keeps.spdmErr (via : Via) : Keeps s (s.spdmErr via) := by
  unfold State.spdmErr
  grind [keeps_iff, !Keeps.spdmSay]

theorem Keeps.cmdSpdmGetVersion (via : Via) : KeepsRes s (execSpdmGetVersion via s) := by
  unfold execSpdmGetVersion
  grind [keepsRes_next, keeps_iff, !Keeps.onSpdm, !Keeps.spdmSay]

theorem Keeps.cmdSpdmGetCapabilities (via : Via) : KeepsRes s (execSpdmGetCapabilities via s) := by
  unfold execSpdmGetCapabilities
  grind [keepsRes_next, keeps_iff, !Keeps.onSpdm, !Keeps.spdmSay, !Keeps.spdmErr]

theorem Keeps.cmdSpdmNegotiateAlgorithms (via : Via) : KeepsRes s (execSpdmNegotiateAlgorithms via s) := by
  unfold execSpdmNegotiateAlgorithms
  grind [keepsRes_next, keeps_iff, !Keeps.onSpdm, !Keeps.spdmSay, !Keeps.spdmErr]

theorem Keeps.cmdSpdmGetDigests (via : Via) : KeepsRes s (execSpdmGetDigests via s) := by
  unfold execSpdmGetDigests
  grind [keepsRes_next, keeps_iff, !Keeps.spdmSay, !Keeps.spdmErr]

theorem Keeps.cmdSpdmGetCertificate (via : Via) (slot : Fin 8) (offset length : Nat) :
    KeepsRes s (execSpdmGetCertificate via slot offset length s) := by
  unfold execSpdmGetCertificate
  grind [keepsRes_next, keeps_iff, !Keeps.spdmSay, !Keeps.spdmErr]

theorem Keeps.cmdSpdmChallenge (via : Via) (nonce : BitVec 256) : KeepsRes s (execSpdmChallenge via nonce s) := by
  unfold execSpdmChallenge
  grind [keepsRes_next, keeps_iff, !Keeps.draw, !Keeps.spdmSay, !Keeps.spdmErr]

theorem Keeps.cmdSpdmGetMeasurements (via : Via) (index : Nat) (nonce : BitVec 256) :
    KeepsRes s (execSpdmGetMeasurements via index nonce s) := by
  unfold execSpdmGetMeasurements
  grind [keepsRes_next, keeps_iff, !Keeps.spdmSay, !Keeps.spdmErr]

theorem Keeps.cmdSpdmKeyExchange (via : Via) (session : Nat) : KeepsRes s (execSpdmKeyExchange via session s) := by
  unfold execSpdmKeyExchange
  grind [keepsRes_next, keeps_iff, !Keeps.draw, !Keeps.writeSlot, !Keeps.onSpdm, !Keeps.spdmSay, !Keeps.rngFails, !Keeps.spdmErr]

theorem Keeps.cmdSpdmFinish (via : Via) : KeepsRes s (execSpdmFinish via s) := by
  unfold execSpdmFinish
  grind [keepsRes_next, keeps_iff, !Keeps.onSpdm, !Keeps.spdmSay, !Keeps.spdmErr]

theorem Keeps.cmdSpdmEndSession (via : Via) : KeepsRes s (execSpdmEndSession via s) := by
  unfold execSpdmEndSession
  grind [keepsRes_next, keeps_iff, !Keeps.writeSlot, !Keeps.onSpdm, !Keeps.spdmSay, !Keeps.spdmErr]

end

/-! ## Background work -/

section
variable (s : State)

theorem Keeps.dropWork (k : WorkKind) : Keeps s (s.dropWork k) := by
  unfold State.dropWork
  grind [keeps_iff, !Keeps.modCds]

theorem Keeps.finishRekey (h : Holding) : Keeps s (s.finishRekey h) := by
  unfold State.finishRekey
  grind [keeps_iff, !Keeps.wrapKey, !Keeps.queueWrap, !Keeps.onRekey, !Keeps.modIme, !Keeps.setBits, !Keeps.raise,
    !Keeps.startRekey]

theorem Keeps.freeQuar (id first : Nat) : Keeps s (s.freeQuar id first) := by
  unfold State.freeQuar
  grind [keeps_iff, !Keeps.modIme, !Keeps.setBits]

theorem Keeps.passGranule (h : Holding) (q : Nat) : Keeps s (s.passGranule h q) := by
  unfold State.passGranule
  grind [keeps_iff, !Keeps.onRekey, !Keeps.freeQuar]

theorem Keeps.quarGranule (h : Holding) (q : Nat) : Keeps s (s.quarGranule h q) := by
  unfold State.quarGranule
  grind [!Keeps.foldl, keeps_iff, !Keeps.addPoison, !Keeps.onBlock, !Keeps.passGranule]

theorem Keeps.rekeyBack (h : Holding) (q : Nat) : KeepsOpt s (s.rekeyBack h q) := by
  unfold State.rekeyBack
  split
  · exact keepsOpt_none
  extract_lets staged
  split
  · exact keepsOpt_some.2 (.passGranule ..)
  split
  · exact keepsOpt_none
  next i hit u hu =>
    have hu := Keeps.frameFor s q hu
    split
    · exact keepsOpt_none
    · extract_lets v w
      have hv : Keeps u v := by
        grind [keeps_iff, !Keeps.openMark]
      exact keepsOpt_some.2 ((hu.trans hv).trans ((Keeps.fillAll ..).trans ((Keeps.modStg ..).trans (.passGranule ..))))

theorem Keeps.rekeyThrough (h : Holding) (q : Nat) : KeepsOpt s (s.rekeyThrough h q) := by
  unfold State.rekeyThrough
  extract_lets lines
  split
  · exact keepsOpt_some.2 (.passGranule ..)
  refine ⟨fun t e => ?_⟩
  obtain ⟨⟨band, slot, u⟩, hu, rfl⟩ := Option.map_eq_some_iff.1 e
  have hu := Keeps.takeSlot s q false hu
  grind [keeps_iff, !Keeps.passGranule, !Keeps.sealMask, !Keeps.wtProgram, !Keeps.mapCommit, !Keeps.commitSeals,
    !Keeps.logTriggers]

theorem Keeps.rekeyStep (e : Holding × Nat × Nat) : KeepsOpt s (s.rekeyStep e) := by
  unfold State.rekeyStep
  grind [keepsOpt_some, keepsOpt_none, keeps_iff, !Keeps.onRekey, !Keeps.freshKey, !Keeps.queueWrap, !Keeps.finishRekey,
    !Keeps.quarGranule, !Keeps.rekeyBack, !Keeps.rekeyThrough]

theorem Keeps.rekeyNext : KeepsOpt s (s.rekeyNext) := by
  unfold State.rekeyNext
  refine ⟨fun t e => ?_⟩
  obtain ⟨h, -, hr⟩ := List.exists_of_findSome?_eq_some e
  exact (Keeps.rekeyStep s h).all t hr

theorem Keeps.mergeStep (k : WorkKind) (plot why : Nat) : KeepsOpt s (s.mergeStep k plot why) := by
  unfold State.mergeStep
  extract_lets
  split
  · exact keepsOpt_some.2 (.dropWork ..)
  · refine ⟨fun t e => ?_⟩
    obtain ⟨u, hu, rfl⟩ := Option.map_eq_some_iff.1 e
    exact ((Keeps.startMerge s plot why).all u hu).trans (.dropWork ..)

theorem Keeps.annealStep (k : WorkKind) (id : Nat) : KeepsOpt s (s.annealStep k id) := by
  unfold State.annealStep
  grind [keepsOpt_some, keepsOpt_none, !Keeps.foldl, keeps_iff, !Keeps.dropWork, !Keeps.startMerge, !Keeps.closeLog,
    !Keeps.modCds]

theorem Keeps.streamStep (k : WorkKind) (plot id : Nat) : KeepsOpt s (s.streamStep k plot id) := by
  unfold State.streamStep
  grind [keepsOpt_some, keepsOpt_none, keeps_iff, !Keeps.dropWork, !Keeps.streamSwitch, !Keeps.modCds]

theorem Keeps.resetStep (w : WorkKind) (ch die tract : Nat) : KeepsOpt s (s.resetStep w ch die tract) := by
  unfold State.resetStep
  grind [keepsOpt_some, keepsOpt_none, keeps_iff, !Keeps.dropWork, !Keeps.background, !Keeps.mapCommit, !Keeps.onChannel]

theorem Keeps.ckptStep (k : WorkKind) : KeepsOpt s (s.ckptStep k) := by
  unfold State.ckptStep
  grind [keepsOpt_some, keepsOpt_none, keeps_iff, !Keeps.gateTake, !Keeps.modCds, !Keeps.dropWork]

theorem Keeps.patrolStep (k : WorkKind) (reads : List (Nat × Nat × Decoded)) : KeepsOpt s (s.patrolStep k reads) := by
  unfold State.patrolStep
  grind [keepsOpt_some, keepsOpt_none, !Keeps.foldl, keeps_iff, !Keeps.modMdc, !Keeps.setBits, !Keeps.clearBits,
    !Keeps.dropWork, !Keeps.account]

theorem Keeps.startWork (reads : List (Nat × Nat × Decoded)) (w : Work) : KeepsOpt s (s.startWork reads w) := by
  unfold State.startWork
  grind [keepsOpt_some, keepsOpt_none, keeps_iff, !Keeps.modMdc, !Keeps.dropWork, !Keeps.annealStep, !Keeps.mergeStep,
    !Keeps.streamSwitch, !Keeps.streamStep, !Keeps.resetStep, !Keeps.ckptStep, !Keeps.rekeyNext, !Keeps.migStep,
    !Keeps.patrolStep]

theorem Keeps.deferWork (w : Work) : Keeps s (s.deferWork w) := by
  unfold State.deferWork
  grind [keeps_iff, !Keeps.incReg, !Keeps.modCds]

theorem Keeps.lateWork (w : Work) : Keeps s (s.lateWork w) := by
  unfold State.lateWork
  grind [keeps_iff, !Keeps.incReg, !Keeps.modCds]

theorem Keeps.startFirst (reads : List (Nat × Nat × Decoded)) (l : List Work) : Keeps s (State.startFirst reads l s).1 := by
  induction l generalizing s with
  | nil => exact .refl s
  | cons w rest ih =>
    unfold State.startFirst
    split
    · exact ih s
    split
    · exact Keeps.getD ⟨fun t e => (Keeps.lateWork s w).trans ((Keeps.startWork _ reads w).all t e)⟩
    · exact (Keeps.deferWork s w).trans (ih _)

theorem Keeps.cmdBwsDispatch (reads : List (Nat × Nat × Decoded)) (atNs : Nat) : KeepsRes s (execBwsDispatch reads atNs s) := by
  unfold execBwsDispatch
  grind [keepsRes_next, keeps_iff, !Keeps.clockTo, !Keeps.retryRelease, !Keeps.startFirst]

end

/-! ## Recovery -/

section
variable (s : State)

theorem Keeps.settleCopies (one : Bool) : Keeps s (s.settleCopies one) := by
  unfold State.settleCopies
  grind [keeps_iff, !Keeps.modPfl, !Keeps.flag]

theorem Keeps.monumentDatum (m : Monument) : Keeps s (s.monumentDatum m) := by
  unfold State.monumentDatum
  extract_lets d u v
  split
  · exact .refl s
  · have hu : Keeps s u := Keeps.modDtm ..
    have hv : Keeps u v := ((Keeps.setPair ..).trans (.setBits ..)).trans (.raise ..)
    exact ((hu.trans hv).trans (Keeps.ageGap ..)).trans (Keeps.datumDeed ..)

theorem Keeps.hintCheck (gen : Nat) : Keeps s (s.hintCheck gen) := by
  unfold State.hintCheck
  grind [keeps_iff, !Keeps.flag, !Keeps.setBits, !Keeps.incReg, !Keeps.secInfo, !Keeps.raise]

theorem Keeps.loadMap  : Keeps s (s.loadMap) := by
  unfold State.loadMap
  grind [keeps_iff, !Keeps.rebase, !Keeps.modCds]

theorem Keeps.reserveDumps (n : Nat) : Keeps s (State.reserveDumps n s) := by
  induction n generalizing s with
  | zero => exact .refl s
  | succ n ih => exact (Keeps.foot (Foot.reserveDump s)).trans (ih _)

theorem Keeps.adopt (m : Monument) : Keeps s (s.adopt m) := by
  unfold State.adopt
  grind [keeps_iff, !Keeps.modCds, !Keeps.refill, !Keeps.reserveDumps]

theorem Keeps.loadInline  : Keeps s (s.loadInline) := by
  unfold State.loadInline
  grind [keeps_iff, !Keeps.modIme]

theorem Keeps.lockKey (id : Nat) : Keeps s (s.lockKey id) := by
  unfold State.lockKey
  grind [keeps_iff, !Keeps.modIme, !Keeps.onRekey]

theorem Keeps.loadKeys (id : Nat) (gens : List Nat) : Keeps s (s.loadKeys id gens) := by
  unfold State.loadKeys
  grind [keeps_iff, !Keeps.modIme, !Keeps.onRekey]

theorem Keeps.makeKey (h : Holding) (gen : Nat) : KeepsOpt s (s.makeKey h gen) := by
  unfold State.makeKey
  grind [keepsOpt_some, keepsOpt_none, keeps_iff, !Keeps.freshKey, !Keeps.queueWrap]

theorem Keeps.destroyOld (h : Holding) (gen : Nat) : Keeps s (s.destroyOld h gen) := by
  unfold State.destroyOld
  grind [keeps_iff, !Keeps.wrapKey, !Keeps.queueWrap]

theorem Keeps.holdingKey (h : Holding) : Keeps s (s.holdingKey h) := by
  unfold State.holdingKey
  extract_lets r t new u v gens
  split
  · split
    next w hw => exact ((Keeps.makeKey s h r.cur).all w hw).trans (.loadKeys ..)
    · exact .lockKey ..
  have ht : Keeps s t := by
    grind [keeps_iff, !Keeps.destroyOld]
  have hv : Keeps u v := by
    grind [keeps_iff, !Keeps.getD, !Keeps.makeKey]
  refine ht.trans ((Keeps.modIme ..).trans (hv.trans ?_))
  grind [keeps_iff, !Keeps.loadKeys, !Keeps.lockKey, !Keeps.flag, !Keeps.raise]

theorem Keeps.adoptOrphan (e : Nat × Nat) : Keeps s (s.adoptOrphan e) := by
  unfold State.adoptOrphan
  extract_lets q b major t lines seals
  have ht : Keeps s t := (Keeps.incReg ..).trans (.raise ..)
  split
  · exact ht
  next band slot u hu =>
    exact ht.trans ((Keeps.takeSlot t q false hu).trans ((Keeps.wtProgram ..).trans ((Keeps.mapCommit ..).trans
      (.commitSeals ..))))

theorem Keeps.poisonRange (lo n : Nat) : Keeps s (s.poisonRange lo n) := by
  unfold State.poisonRange
  grind [keeps_iff, !Keeps.modSvc]

theorem Keeps.poisonPlot (plot : Nat) : Keeps s (s.poisonPlot plot) := by
  unfold State.poisonPlot
  grind [keeps_iff, !Keeps.poisonRange]

theorem Keeps.loseNode (level g : Nat) : Keeps s (s.loseNode level g) := by
  unfold State.loseNode
  grind [keeps_iff, !Keeps.metaFault]

theorem Keeps.tamperRoot (j : Nat) : Keeps s (s.tamperRoot j) := by
  unfold State.tamperRoot
  grind [keeps_iff, !Keeps.tamper, !Keeps.quarantine]

theorem Keeps.uncheckedRoot (g : Nat) : Keeps s (s.uncheckedRoot g) := by
  unfold State.uncheckedRoot
  grind [keeps_iff, !Keeps.loseNode, !Keeps.imeFlag, !Keeps.raise]

theorem Keeps.loseMeta (item : Nat) : Keeps s (s.loseMeta item) := by
  unfold State.loseMeta
  grind [!Keeps.foldl, keeps_iff, !Keeps.poisonPlot, !Keeps.loseNode, !Keeps.poisonRange]

theorem Keeps.loseAll (lost : List Nat) : Keeps s (s.loseAll lost) := by
  unfold State.loseAll
  grind [!Keeps.foldl, keeps_iff, !Keeps.poisonPlot, !Keeps.loseMeta]

theorem Keeps.poisonUnflushed (m : Monument) : Keeps s (s.poisonUnflushed m) := by
  unfold State.poisonUnflushed
  grind [!Keeps.foldl, keeps_iff, !Keeps.addPoison, !Keeps.poisonPlot]

theorem Keeps.restartStaging (keep : Bool) : Keeps s (s.restartStaging keep) := by
  unfold State.restartStaging
  grind [keeps_iff, !Keeps.modStg, !Keeps.setBits, !Keeps.modMdc]

theorem Keeps.resetSpare (one : Bool) : Keeps s (s.resetSpare one) := by
  unfold State.resetSpare
  grind [!Keeps.foldl, keeps_iff, !Keeps.eraseTract, !Keeps.modCds, !Keeps.modPfl]

theorem Keeps.recoverRun (sel : Option (Bool × Monument)) : Keeps s (s.recoverRun sel) := by
  unfold State.recoverRun
  grind [keeps_iff, !Keeps.resetSpare, !Keeps.modPfl, !Keeps.writeRun]

theorem Keeps.resumeRekeys  : Keeps s (s.resumeRekeys) := by
  unfold State.resumeRekeys
  grind [keeps_iff, !Keeps.modCds]

theorem Keeps.resumeMigration : Keeps s (s.resumeMigration) := by
  unfold State.resumeMigration
  split
  · exact .refl s
  next m hm =>
    extract_lets t u v
    have hv : Keeps s v := (Keeps.setPlatPhase ..).trans ((Keeps.setNat ..).trans ((Keeps.modSvc ..).trans (.modCds ..)))
    split
    · exact hv.trans ((Keeps.modSvc ..).trans (.foldl (fun w h => .eraseKeys w h) _ _))
    · refine hv.trans (.foldl (fun w e => ?_) _ _)
      split
      · split
        · exact .refl w
        · exact .getD (Keeps.makeKey ..)
      · exact .refl w

theorem Keeps.resumeReleases  : Keeps s (s.resumeReleases) := by
  unfold State.resumeReleases
  grind [!Keeps.foldl, keeps_iff, !Keeps.release, !Keeps.modSvc, !Keeps.background, !Keeps.mergeMarked]

theorem Keeps.resumePatrol  : Keeps s (s.resumePatrol) := by
  unfold State.resumePatrol
  grind [keeps_iff, !Keeps.modCds]

theorem Keeps.countDirty (m : Monument) : Keeps s (s.countDirty m) := by
  unfold State.countDirty
  grind [keeps_iff, !Keeps.flag, !Keeps.raise, !Keeps.pstQueue]

theorem Keeps.fileReport (one : Bool) (m : Monument) (okA okB conflict : Bool) (ms : Nat) :
    Keeps s (s.fileReport one m okA okB conflict ms) := by
  unfold State.fileReport
  grind [keeps_iff, !Keeps.modPfl, !Keeps.setNat, !Keeps.setBits, !Keeps.raise]

theorem Keeps.leaveRecover  : Keeps s (s.leaveRecover) := by
  unfold State.leaveRecover
  grind [keeps_iff, !Keeps.goState, !Keeps.goReady, !Keeps.enterReadonly]

theorem Keeps.lostMonument  : Keeps s (s.lostMonument) := by
  unfold State.lostMonument
  grind [keeps_iff, !Keeps.modCds, !Keeps.modIme, !Keeps.flag, !Keeps.raise, !Keeps.pstQueue, !Keeps.modPfl, !Keeps.goState]

theorem Keeps.matchSel {sel : Option (Bool × Monument)} {f : Bool → Monument → State} {t : State}
    (hf : ∀ one m, Keeps s (f one m)) (ht : Keeps s t) : Keeps s (match sel with | some (one, m) => f one m | none => t) := by
  split
  · exact hf ..
  · exact ht

theorem Keeps.recover (sel : Option (Bool × Monument)) (bad unread : List Nat) :
    Keeps s (s.recover sel bad unread) := by
  unfold State.recover
  extract_lets ms moved
  split
  rename_i conflict s1 s2 s3 s4 s5 s6 s7 keep s8 s9 s10 s11 _ okA okB _
  extract_lets s12 s13 s14
  have h1 : Keeps s s1 := .matchSel s (fun one m => (Keeps.settleCopies ..).trans ((Keeps.monumentDatum ..).trans
    (.hintCheck ..))) (.refl s)
  have h2 : Keeps s1 s2 := (Keeps.loadMap ..).trans (.loadInline ..)
  have h3 : Keeps s2 s3 := .matchSel s2 (fun _ m => .adopt ..) (.refill ..)
  have h4 : Keeps s3 s4 := .foldl (fun t h => .holdingKey t h) _ _
  have h5 : Keeps s4 s5 := by
    unfold s5
    split
    · exact .refl s4
    · exact .foldl (fun t e => .adoptOrphan t e) _ _
  have h6 : Keeps s5 s6 := (Keeps.foldl (fun t j => .tamperRoot t j) _ _).trans (.foldl (fun t g => .uncheckedRoot t g) _ _)
  have h7 : Keeps s6 s7 := .matchSel s6 (fun _ m => (Keeps.poisonUnflushed ..).trans (.loseAll ..)) (.refl s6)
  have h8 : Keeps s7 s8 := (Keeps.restartStaging ..).trans (.planByAge ..)
  have h10 : Keeps s9 s10 := (Keeps.resumeRekeys ..).trans ((Keeps.resumeReleases ..).trans
    ((Keeps.resumeMigration ..).trans (.resumePatrol ..)))
  have h12 : Keeps s11 s12 := .matchSel s11 (fun _ m => (Keeps.countDirty ..).trans (.fileReport ..)) (.modPfl ..)
  have h14 : Keeps s12 s14 := (Keeps.queueDeed ..).trans ((Keeps.setBits ..).trans ((Keeps.modPlat ..).trans (.logTriggers ..)))
  have hend : Keeps s14 s14.saveMap.setBudget.leaveRecover.retryRelease :=
    (Keeps.saveMap ..).trans ((Keeps.setBudget ..).trans ((Keeps.leaveRecover ..).trans (.retryRelease ..)))
  exact h1.trans (h2.trans (h3.trans (h4.trans (h5.trans (h6.trans (h7.trans (h8.trans ((Keeps.recoverRun ..).trans
    (h10.trans ((Keeps.setNat ..).trans (h12.trans (h14.trans hend))))))))))))

theorem Keeps.cmdRecoverComplete (badRoots : List (Fin 8)) (unread : List Nat) (atNs : Nat) :
    KeepsRes s (execRecoverComplete badRoots unread atNs s) := by
  unfold execRecoverComplete
  grind [keepsRes_next, keeps_iff, !Keeps.recover, !Keeps.clockTo, !Keeps.lostMonument]

end

/-! ## Boot -/

section
variable (s : State)

theorem Keeps.bootPlls  : Keeps s (s.bootPlls) := by
  unfold State.bootPlls
  grind [keeps_iff, !Keeps.modDtm]

theorem Keeps.bootSensors (r : List (Option Int)) : Keeps s (s.bootSensors r) := by
  unfold State.bootSensors
  grind [!Keeps.foldl, keeps_iff, !Keeps.sensorFails, !Keeps.modThm]

theorem Keeps.bootDatum  : Keeps s (s.bootDatum) := by
  unfold State.bootDatum
  grind [keeps_iff, !Keeps.modDtm]

theorem Keeps.bootDeeds  : Keeps s (s.bootDeeds) := by
  unfold State.bootDeeds
  grind [!Keeps.foldl, keeps_iff, !Keeps.deedEffect, !Keeps.modCke, !Keeps.queueConfig]

theorem Keeps.recordKey (ref : Nat) (made : BitVec 256) : Keeps s (s.recordKey ref made).1 := by
  unfold State.recordKey
  grind [!Keeps.foldl, keeps_iff, !Keeps.flag, !Keeps.raise]

theorem Keeps.bootKeys  : Keeps s (s.bootKeys) := by
  unfold State.bootKeys
  grind [keeps_iff, !Keeps.modCke, !Keeps.setSlot, !Keeps.recordKey, !Keeps.pstQueue]

theorem Keeps.fwRecord (slot : Bool) : Keeps s (s.fwRecord slot) := by
  unfold State.fwRecord
  grind [keeps_iff, !Keeps.modEng]

theorem Keeps.bootFirmware  : Keeps s (s.bootFirmware) := by
  unfold State.bootFirmware
  grind [keeps_iff, !Keeps.fwRecord, !Keeps.modEng, !Keeps.modSvc, !Keeps.flag, !Keeps.raise, !Keeps.queueConfig]

theorem Keeps.bootPins  : Keeps s (s.bootPins) := by
  unfold State.bootPins
  grind [keeps_iff, !Keeps.requestReset]

theorem Keeps.cmdBootComplete (readings : List (Option Int)) (drbgOk : Bool) (atNs : Nat) :
    KeepsRes s (execBootComplete readings drbgOk atNs s) := by
  unfold execBootComplete
  grind [keepsRes_next, keeps_iff, !Keeps.clockTo, !Keeps.bootPlls, !Keeps.bootSensors, !Keeps.setNat, !Keeps.bootDeeds,
    !Keeps.bootDatum, !Keeps.modCke, !Keeps.rngFails, !Keeps.bootKeys, !Keeps.bootFirmware, !Keeps.quench, !Keeps.goState,
    !Keeps.bootPins]

theorem Keeps.loadPower (p : Plat) : Keeps s (s.loadPower p) := by
  unfold State.loadPower
  grind [keeps_iff, !Keeps.modPwr, !Keeps.setBank, !Keeps.convFollow]

theorem Keeps.acceptPlat (im : Image) : Keeps s (s.acceptPlat im) := by
  unfold State.acceptPlat
  grind [keeps_iff, !Keeps.modPlat, !Keeps.setPlatPhase, !Keeps.clearBits, !Keeps.recordKey, !Keeps.setSlot, !Keeps.placeRoles,
    !Keeps.modStg, !Keeps.stgLevels, !Keeps.modTrv, !Keeps.loadPower]

theorem Keeps.enterRecover (im : Image) (laid : Bool) : Keeps s (s.enterRecover im laid) := by
  unfold State.enterRecover
  grind [keeps_iff, !Keeps.layOut, !Keeps.modPlat, !Keeps.queueConfig, !Keeps.modStg, !Keeps.goState, !Keeps.recover]

theorem Keeps.loadFails  : Keeps s (s.loadFails) := by
  unfold State.loadFails
  grind [keeps_iff, !Keeps.setPlatPhase, !Keeps.goState]

theorem Keeps.cmdPlatLoad (atNs : Nat) : KeepsRes s (execPlatLoad atNs s) := by
  unfold execPlatLoad
  grind [keepsRes_next, keeps_iff, !Keeps.clockTo, !Keeps.flag, !Keeps.loadFails, !Keeps.clearBits, !Keeps.acceptPlat,
    !Keeps.enterRecover, !Keeps.setPlatErr, !Keeps.setBits, !Keeps.raise]

end

/-! ## Vendor mailbox commands -/

section
variable (s : State)

theorem Keeps.holdMbox (via : Via) : Keeps s (s.holdMbox via) := .foot (Foot.holdMbox ..)

theorem Keeps.mboxReply (via : Via) (op ret ext : Nat) (l : List Nat) : Keeps s (s.mboxReply via op ret ext l) :=
  .foot (Foot.mboxReply ..)

theorem KeepsRes.mbox (via : Via) (op : Nat) (braced : Option (Nat × Nat)) (bg : Bool) {run : State → State} (hr : Keeps s (run s)) :
    KeepsRes s (s.mbox via op braced bg run) := by
  unfold State.mbox
  grind [keepsRes_next, keeps_iff, !Keeps.holdMbox, !Keeps.mboxReply]

theorem KeepsRes.query (via : Via) (op : Nat) {run : State → State} (hr : Keeps s (run s)) : KeepsRes s (s.query via op run) := by
  unfold State.query
  exact .mbox s via op none false hr

theorem Keeps.releaseRange (via : Via) (op dpa len : Nat) (rsvOk secure : Bool) :
    Keeps s (s.releaseRange via op dpa len rsvOk secure) := by
  unfold State.releaseRange
  grind [keeps_iff, !Keeps.vendorFails, !Keeps.background, !Keeps.startRelease]

theorem Keeps.cmdReleaseRange (via : Via) (dpa len : Nat) (rsvOk : Bool) : KeepsRes s (execReleaseRange via dpa len rsvOk s) :=
  .mbox s _ _ _ _ (.releaseRange ..)

theorem Keeps.cmdReleaseRangeSecure (via : Via) (dpa len : Nat) (rsvOk : Bool) : KeepsRes s (execReleaseRangeSecure via dpa len rsvOk s) :=
  .mbox s _ _ _ _ (.releaseRange ..)

theorem Keeps.lineMaint (via : Via) (op unit : Nat) (dpa count : Nat) (rsvOk : Bool) :
    KeepsRes s (s.lineMaint via op unit dpa count rsvOk) := by
  unfold State.lineMaint
  refine .query s _ _ ?_
  grind [keeps_iff, !Keeps.fails, !Keeps.vendorFails, !Keeps.ringMbox, !Keeps.modStg, !Keeps.pushMaint]

theorem Keeps.cmdFlushLine (via : Via) (dpa count : Nat) (rsvOk : Bool) : KeepsRes s (execFlushLine via dpa count rsvOk s) :=
  Keeps.lineMaint ..

theorem Keeps.cmdInvalLine (via : Via) (dpa count : Nat) (rsvOk : Bool) : KeepsRes s (execInvalLine via dpa count rsvOk s) :=
  Keeps.lineMaint ..

theorem Keeps.cmdZeroLine (via : Via) (dpa count : Nat) (rsvOk : Bool) : KeepsRes s (execZeroLine via dpa count rsvOk s) :=
  Keeps.lineMaint ..

theorem Keeps.cmdZeroParcel (via : Via) (dpa count : Nat) (rsvOk : Bool) : KeepsRes s (execZeroParcel via dpa count rsvOk s) :=
  Keeps.lineMaint ..

theorem Keeps.cmdAssayStart (via : Via) : KeepsRes s (execAssayStart via s) := by
  unfold execAssayStart
  refine .mbox s _ _ _ _ ?_
  grind [keeps_iff, !Keeps.vendorFails, !Keeps.background, !Keeps.fails, !Keeps.askAssay, !Keeps.modPwr, !Keeps.assayGate]

theorem Keeps.cmdAssayResult (via : Via) : KeepsRes s (execAssayResult via s) :=
  .query s _ _ (.done ..)

end

/-! ## Register accesses -/

section
variable (s : State)

theorem Keeps.unimpl (off : Nat) (write : Bool) : Keeps s (s.unimpl off write) := by
  unfold State.unimpl
  grind [keeps_iff, !Keeps.setNat, !Keeps.incReg, !Keeps.flag]

theorem Keeps.clearRead (off : Nat) (same : Word) : Keeps s (s.clearRead off same) := by
  unfold State.clearRead
  grind [keeps_iff, !Keeps.modThm, !Keeps.setReg]

theorem Keeps.readReg (via : Via) (off : Nat) (same : Word) : Keeps s (s.readReg via off same).2 := by
  unfold State.readReg
  grind [keeps_iff, !Keeps.unimpl, !Keeps.pstDataRead, !Keeps.win7Read, !Keeps.pmcRead, !Keeps.modShadow, !Keeps.clearRead]

theorem Keeps.read4 (via : Via) (off : Nat) (same : Word) : Keeps s (s.read4 via off same) := by
  unfold State.read4
  grind [keeps_iff, !Keeps.readReg, !Keeps.emit]

theorem Keeps.run {f : State → Res} (hf : ∀ u, KeepsRes u (f u)) : Keeps s (s.run f) := by
  unfold State.run
  split
  next t ht => exact (hf s).all t ht
  · exact .refl s

theorem Keeps.runIf (b : Bool) {f : State → Res} (hf : ∀ u, KeepsRes u (f u)) : Keeps s (s.runIf b f) := by
  unfold State.runIf
  split
  · exact .run s hf
  · exact .refl s

theorem Keeps.storeReg (off : Nat) (v same : Word) : Keeps s (s.storeReg off v same) := by
  unfold State.storeReg
  grind [keeps_iff, !Keeps.setReg]

theorem Keeps.storeBits (off mask : Nat) (v : Word) : Keeps s (s.storeBits off mask v) := by
  unfold State.storeBits
  grind [keeps_iff, !Keeps.setReg]

theorem Keeps.writeSys (via : Via) (off : Nat) (v : Word) : KeepsOpt s (s.writeSys via off v) := by
  unfold State.writeSys
  split
  · exact keepsOpt_some.2 (.rstCtl ..)
  split
  · exact keepsOpt_some.2 ((Keeps.runIf _ _ (fun _ => (Foot.cmdReplatLock ..).keeps)).trans
    (.runIf _ _ (fun _ => (Foot.cmdPltAbort ..).keeps)))
  · exact keepsOpt_none

theorem Keeps.writeHpt (via : Via) (off : Nat) (v : Word) : KeepsOpt s (s.writeHpt via off v) := by
  unfold State.writeHpt
  extract_lets b p
  split
  · exact keepsOpt_some.2 ((Keeps.runIf _ _ (fun _ => Keeps.cmdLinkDisable ..)).trans
    (.runIf _ _ (fun _ => Keeps.cmdLinkRetrain ..)))
  split
  · exact keepsOpt_some.2 (.runIf _ _ (fun _ => Keeps.cmdPortDrain ..))
  · exact keepsOpt_none

theorem Keeps.writeStg (via : Via) (off : Nat) (v : Word) : KeepsOpt s (s.writeStg via off v) := by
  unfold State.writeStg
  split
  · have hon : Keeps s (s.run (if v.toNat.testBit 0 then execStgEnableSet via (v.toNat.testBit 1) else execStgEnableClear via (v.toNat.testBit 1))) := by
      split
      · exact .run _ (fun _ => Keeps.cmdStgEnableSet ..)
      · exact .run _ (fun _ => Keeps.cmdStgEnableClear ..)
    exact keepsOpt_some.2 (hon.trans (.runIf _ _ (fun _ => Keeps.cmdCleanAll ..)))
  split
  · exact keepsOpt_some.2 (.run _ (fun _ => Keeps.cmdStgClockParamWrite ..))
  split
  · exact keepsOpt_some.2 (.run _ (fun _ => Keeps.cmdStgClockParamWrite ..))
  split
  · exact keepsOpt_some.2 (.run _ (fun _ => Keeps.cmdStgClockParamWrite ..))
  · exact keepsOpt_none

theorem Keeps.writeCds (via : Via) (off : Nat) (v : Word) : KeepsOpt s (s.writeCds via off v) := by
  unfold State.writeCds
  extract_lets b t u
  split
  · have hu : Keeps t u := by
      unfold u
      split
      · exact .setBits ..
      · exact .refl t
    exact keepsOpt_some.2 ((Keeps.storeBits ..).trans
      (((Keeps.runIf _ _ (fun _ => (Foot.cmdStreamEnClear ..).keeps))).trans (hu.trans
      ((Keeps.runIf _ _ (fun _ => (Foot.cmdMergeAll ..).keeps)).trans (.runIf _ _ (fun _ => (Foot.cmdCkptNow ..).keeps))))))
  · refine ⟨fun t e => ?_⟩
    obtain ⟨p, -, rfl⟩ := Option.map_eq_some_iff.1 e
    exact .run _ (fun _ => (Foot.cmdCdsParamWrite ..).keeps)

theorem Keeps.writeTrv (via : Via) (off : Nat) (v : Word) : KeepsOpt s (s.writeTrv via off v) := by
  unfold State.writeTrv
  extract_lets ch
  split
  · exact keepsOpt_some.2 (.run _ (fun _ => (Foot.cmdTrvParamWrite ..).keeps))
  split
  · exact keepsOpt_some.2 (.run _ (fun _ => (Foot.cmdTrvParamWrite ..).keeps))
  split
  · exact keepsOpt_some.2 ((Keeps.storeBits ..).trans (.runIf _ _ (fun _ => (Foot.cmdTrvRetrainWrite ..).keeps)))
  split
  · exact keepsOpt_some.2 (.run _ (fun _ => (Foot.cmdTrvPhyWrite ..).keeps))
  · exact keepsOpt_none

theorem Keeps.writeMdc (via : Via) (off : Nat) (v : Word) : KeepsOpt s (s.writeMdc via off v) := by
  unfold State.writeMdc
  split
  · exact keepsOpt_some.2 ((Keeps.storeBits ..).trans (.runIf _ _ (fun _ => (Foot.cmdPatrolNow ..).keeps)))
  · refine ⟨fun t e => ?_⟩
    obtain ⟨p, -, rfl⟩ := Option.map_eq_some_iff.1 e
    exact .run _ (fun _ => (Foot.cmdMdcParamWrite ..).keeps)

theorem Keeps.writeDtm (via : Via) (off : Nat) (v : Word) : KeepsOpt s (s.writeDtm via off v) := by
  unfold State.writeDtm
  extract_lets b valid t
  split
  · have ht : Keeps s t := (Keeps.storeBits ..).trans (.setBits ..)
    split
    · exact keepsOpt_some.2 (ht.trans ((Keeps.run _ (fun _ => (Foot.cmdXoReturn ..).keeps)).trans (.useFree ..)))
    · exact keepsOpt_some.2 ht
  split
  · exact keepsOpt_some.2 (.run _ (fun _ => (Foot.cmdDtmParamWrite ..).keeps))
  split
  · exact keepsOpt_some.2 (.run _ (fun _ => (Foot.cmdDtmParamWrite ..).keeps))
  split
  · exact keepsOpt_some.2 (.runIf _ _ (fun _ => (Foot.cmdSurveyStrobeWrite ..).keeps))
  · exact keepsOpt_none

theorem Keeps.writePwr (via : Via) (off : Nat) (v : Word) : KeepsOpt s (s.writePwr via off v) := by
  unfold State.writePwr
  extract_lets b t u
  split
  · have hu : Keeps t u := by
      unfold u
      split
      · exact .refl t
      · exact .modPwr ..
    exact keepsOpt_some.2 (((Keeps.storeBits ..).trans ((Keeps.setBudget ..).trans (.convFollow ..))).trans (hu.trans
      ((Keeps.runIf _ _ (fun _ => (Foot.cmdAssayNow ..).keeps)).trans (.runIf _ _ (fun _ => (Foot.cmdBaseReset ..).keeps)))))
  split
  · exact keepsOpt_some.2 (.run _ (fun _ => (Foot.cmdPwrParamWrite ..).keeps))
  split
  · exact keepsOpt_some.2 (.run _ (fun _ => (Foot.cmdPwrParamWrite ..).keeps))
  split
  · exact keepsOpt_some.2 (.run _ (fun _ => (Foot.cmdPwrParamWrite ..).keeps))
  split
  · exact keepsOpt_some.2 ((Keeps.runIf _ _ (fun _ => (Foot.cmdRelock ..).keeps)).trans
    (.runIf _ _ (fun _ => (Foot.cmdSimTrip ..).keeps)))
  split
  · exact keepsOpt_some.2 (.run _ (fun _ => (Foot.cmdPflParamWrite ..).keeps))
  · exact keepsOpt_none

theorem Keeps.cmdImeParamWrite (via : Via) (v : Word) : KeepsRes s (execImeParamWrite via v s) := by
  unfold execImeParamWrite
  grind [keepsRes_next, keeps_iff, !Keeps.emit, !Keeps.setReg]

theorem Keeps.cmdRekeyStartWrite (via : Via) (v : Word) : KeepsRes s (execRekeyStartWrite via v s) := by
  unfold execRekeyStartWrite
  grind [keepsRes_next, keeps_iff, !Keeps.emit, !Keeps.startRekey]

theorem Keeps.writeIme (via : Via) (off : Nat) (v : Word) : KeepsOpt s (s.writeIme via off v) := by
  unfold State.writeIme
  split
  · exact keepsOpt_some.2 (.run _ (fun _ => Keeps.cmdImeParamWrite ..))
  split
  · exact keepsOpt_some.2 (.run _ (fun _ => Keeps.cmdRekeyStartWrite ..))
  · exact keepsOpt_none

theorem Keeps.writeCke (via : Via) (off : Nat) (v : Word) : KeepsOpt s (s.writeCke via off v) := by
  unfold State.writeCke
  extract_lets n slot t
  split
  · split
    · exact keepsOpt_some.2 (.ckeDenied ..)
    split
    · split
      · exact keepsOpt_some.2 (.submit ..)
      · exact keepsOpt_some.2 (.storeBits ..)
    · exact keepsOpt_some.2 (.storeBits ..)
  split
  · exact keepsOpt_some.2 (.run _ (fun _ => (Foot.cmdKeyDataWrite ..).keeps))
  split
  · split
    · exact keepsOpt_some.2 (.ckeDenied ..)
    split
    · exact keepsOpt_some.2 (.refl s)
    split
    · exact keepsOpt_some.2 (.run _ (fun _ => (Foot.cmdKeyLoad ..).keeps))
    · exact keepsOpt_some.2 (.run _ (fun _ => (Foot.cmdKeyZero ..).keeps))
    · exact keepsOpt_some.2 (.refl s)
  split
  · have ht : Keeps s t := .runIf _ _ (fun _ => Keeps.cmdNewChal ..)
    split
    · exact keepsOpt_some.2 ht
    split
    · exact keepsOpt_some.2 (ht.trans (.run _ (fun _ => Keeps.cmdEvrClear ..)))
    · exact keepsOpt_some.2 (ht.trans (.run _ (fun _ => Keeps.cmdOwnerEnroll ..)))
    · exact keepsOpt_some.2 (ht.trans (.run _ (fun _ => Keeps.cmdOwnerRemove ..)))
    · exact keepsOpt_some.2 (ht.trans (.run _ (fun _ => Keeps.cmdAkReplace ..)))
    · exact keepsOpt_some.2 (ht.trans (.run _ (fun _ => Keeps.cmdDebugUnlock ..)))
    · exact keepsOpt_some.2 (ht.trans (.run _ (fun _ => Keeps.cmdRevokeFoaroKey ..)))
    · exact keepsOpt_some.2 ht
  split
  · exact keepsOpt_some.2 (.run _ (fun _ => Keeps.cmdStageDataWrite ..))
  · exact keepsOpt_none

theorem Keeps.writeEng (via : Via) (off : Nat) (v : Word) : KeepsOpt s (s.writeEng via off v) := by
  unfold State.writeEng
  extract_lets n b
  split
  · exact keepsOpt_some.2 ((Keeps.run _ (fun _ => (Foot.cmdEngineHold ..).keeps)).trans
    (.runIf _ _ (fun _ => (Foot.cmdEngineSelftestWrite ..).keeps)))
  · exact keepsOpt_none

theorem Keeps.writePst (via : Via) (off : Nat) (v : Word) : KeepsOpt s (s.writePst via off v) := by
  unfold State.writePst
  extract_lets n
  split
  · exact keepsOpt_some.2 ((Keeps.storeBits ..).trans ((Keeps.runIf _ _ (fun _ => (Foot.cmdCollect ..).keeps)).trans
    (.runIf _ _ (fun _ => (Foot.cmdMarginScan ..).keeps))))
  split
  · exact keepsOpt_some.2 (.run _ (fun _ => (Foot.cmdPstParamWrite ..).keeps))
  split
  · exact keepsOpt_some.2 (.pstDataWrite ..)
  split
  · split
    · exact keepsOpt_some.2 (.refl s)
    split
    · exact keepsOpt_some.2 (.run _ (fun _ => (Foot.cmdPstRead ..).keeps))
    · exact keepsOpt_some.2 (.run _ (fun _ => (Foot.cmdPstProg ..).keeps))
    · exact keepsOpt_some.2 (.run _ (fun _ => (Foot.cmdPstErase ..).keeps))
    · exact keepsOpt_some.2 (.run _ (fun _ => (Foot.cmdPstBlankCheck ..).keeps))
    · exact keepsOpt_some.2 (.refl s)
  · exact keepsOpt_none

theorem Keeps.writeEvr (via : Via) (off : Nat) (v : Word) : KeepsOpt s (s.writeEvr via off v) := by
  unfold State.writeEvr
  split
  · split
    · exact keepsOpt_some.2 (.run _ (fun _ => (Foot.cmdEvrCursorOldest ..).keeps))
    · exact keepsOpt_some.2 (.run _ (fun _ => (Foot.cmdEvrCursorNewest ..).keeps))
    · exact keepsOpt_some.2 (.run _ (fun _ => (Foot.cmdEvrCursorNext ..).keeps))
    · exact keepsOpt_some.2 (.run _ (fun _ => (Foot.cmdEvrCursorPrev ..).keeps))
    · exact keepsOpt_some.2 (.refl s)
  split
  · exact keepsOpt_some.2 (.run _ (fun _ => (Foot.cmdEvrCursorWrite ..).keeps))
  · exact keepsOpt_none

theorem Keeps.writeThm (via : Via) (off : Nat) (v : Word) : KeepsOpt s (s.writeThm via off v) := by
  unfold State.writeThm
  split
  · exact keepsOpt_some.2 ((Keeps.storeBits ..).trans (.settleTemper ..))
  split
  · exact keepsOpt_some.2 (.run _ (fun _ => (Foot.cmdThmParamWrite ..).keeps))
  · exact keepsOpt_none

theorem Keeps.writeSvy (via : Via) (off : Nat) (v same : Word) : KeepsOpt s (s.writeSvy via off v same) := by
  unfold State.writeSvy
  extract_lets n t
  split
  · exact keepsOpt_some.2 (.run _ (fun _ => (Foot.cmdSvyWinSelWrite ..).keeps))
  split
  · refine keepsOpt_some.2 ((Keeps.storeReg s off v same).trans ?_)
    split
    · exact .setField ..
    · exact .refl _
  split
  · exact keepsOpt_some.2 (.run _ (fun _ => (Foot.cmdPmcCfgWrite ..).keeps))
  split
  · exact keepsOpt_some.2 (.run _ (fun _ => (Foot.cmdPmcCntWrite ..).keeps))
  · exact keepsOpt_none

theorem Keeps.writeOwn (via : Via) (off : Nat) (v same : Word) : KeepsOpt s (s.writeOwn via off v same) := by
  unfold State.writeOwn
  grind [keepsOpt_some, keepsOpt_none, keeps_iff, !Keeps.writeSys, !Keeps.writeHpt, !Keeps.writeStg, !Keeps.writeCds,
    !Keeps.writeTrv, !Keeps.writeMdc, !Keeps.writeDtm, !Keeps.writePwr, !Keeps.writeIme, !Keeps.writeCke, !Keeps.writeEng,
    !Keeps.writePst, !Keeps.writeEvr, !Keeps.writeThm, !Keeps.writeSvy]

theorem Keeps.writeReg (via : Via) (off : Nat) (v same : Word) : Keeps s (s.writeReg via off v same) := by
  unfold State.writeReg
  grind [keepsOpt_some, keeps_iff, !Keeps.unimpl, !Keeps.writeOwn, !Keeps.storeReg]

theorem Keeps.oneDone {t : State} (via : Via) (off : Nat) (h : Keeps s t) : Keeps s (s.oneDone t via off) := h.trans ⟨rfl, id⟩

theorem Keeps.write4 (via : Via) (off : Nat) (v same : Word) : Keeps s (s.write4 via off v same) :=
  .oneDone s via off (.writeReg ..)

theorem Keeps.cmdPairLoRead (via : Via) (off : Nat) : KeepsRes s (execPairLoRead via off s) := by
  unfold execPairLoRead
  grind [keepsRes_next, keeps_iff, !Keeps.read4]

theorem Keeps.cmdPairHiRead (via : Via) (off : Nat) : KeepsRes s (execPairHiRead via off s) := by
  unfold execPairHiRead
  grind [keepsRes_next, keeps_iff, !Keeps.read4]

theorem Keeps.holdHi (via : Via) (off : Nat) (v : Word) : Keeps s (s.holdHi via off v) := by
  unfold State.holdHi
  grind [keeps_iff, !Keeps.modShadow]

theorem Keeps.writeLo (via : Via) (off : Nat) (v : Word) : Keeps s (s.writeLo via off v) := by
  unfold State.writeLo
  split
  · exact (Keeps.modShadow ..).trans ((Keeps.writeReg ..).trans (.writeReg ..))
  · exact .writeReg ..

theorem Keeps.cmdPairHiWrite (via : Via) (off : Nat) (v : Word) : KeepsRes s (execPairHiWrite via off v s) := by
  unfold execPairHiWrite
  grind [keepsRes_next, keeps_iff, !Keeps.holdHi, !Keeps.emit]

theorem Keeps.cmdPairLoWrite (via : Via) (off : Nat) (v : Word) : KeepsRes s (execPairLoWrite via off v s) := by
  unfold execPairLoWrite
  split
  · exact keepsRes_next.2 (.oneDone s via off (.writeLo ..))
  · exact keepsRes_next.2 (.refl s)

theorem Keeps.writeAny (via : Via) (off : Nat) (v same : Word) : Keeps s (s.writeAny via off v same) := by
  unfold State.writeAny
  split
  · exact .holdHi ..
  split
  · exact .writeLo ..
  · exact .writeReg ..

theorem Keeps.cmdPair8bAccess (via : Via) (off : Nat) (write : Option Quad) : KeepsRes s (execPair8bAccess via off write s) := by
  unfold execPair8bAccess
  split
  · exact keepsRes_next.2 (.refl s)
  split
  · grind [keepsRes_next, keeps_iff, !Keeps.readReg, !Keeps.emit]
  next v =>
    refine keepsRes_next.2 (.oneDone s via off ?_)
    split
    · exact (Keeps.writeReg ..).trans (.writeReg ..)
    · exact (Keeps.writeAny ..).trans (.writeAny ..)

theorem Keeps.cmdUnsupportedAccess (via : Via) (off : Nat) : KeepsRes s (execUnsupportedAccess via off s) := by
  unfold execUnsupportedAccess
  grind [keepsRes_next, keeps_iff, !Keeps.emit]

theorem Keeps.cmdUnimplAccess (via : Via) (off : Nat) (write : Bool) : KeepsRes s (execUnimplAccess via off write s) := by
  unfold execUnimplAccess
  grind [keepsRes_next, keeps_iff, !Keeps.unimpl, !Keeps.emit]

theorem Keeps.cmdRcRead (via : Via) (off : Nat) (same : Word) : KeepsRes s (execRcRead via off same s) := by
  unfold execRcRead
  grind [keepsRes_next, keeps_iff, !Keeps.read4]

theorem Keeps.cmdRegisterWrite (via : Via) (off : Nat) (v same : Word) :
    KeepsRes s (execRegisterWrite via off v same s) := by
  unfold execRegisterWrite
  split
  · exact keepsRes_next.2 (.refl s)
  · exact keepsRes_next.2 (.oneDone s via off (.writeAny ..))

end

/-! ## Every command and every step -/

/-- Every command keeps the queue and the canonical form of the register file. -/
theorem Keeps.command (c : Instr) (s : State) : KeepsRes s (exec c s) := by
  cases c with
  | suppliesGood => exact Keeps.cmdSuppliesGood ..
  | supplyLoss => exact Keeps.cmdSupplyLoss ..
  | railWarn => exact (Foot.cmdRailWarn ..).keeps
  | resetInputLow => exact Keeps.cmdResetInputLow ..
  | resetInputRelease => exact Keeps.cmdResetInputRelease ..
  | resetFlushDone => exact Keeps.cmdResetFlushDone ..
  | functionLevelReset => exact Keeps.cmdFunctionLevelReset ..
  | hostLinkTrain => exact Keeps.cmdHostLinkTrain ..
  | laneFail => exact Keeps.cmdLaneFail ..
  | linkDown => exact Keeps.cmdLinkDown ..
  | ideRxFlit => exact Keeps.cmdIdeRxFlit ..
  | m2sRwd => exact Keeps.cmdM2sRwd ..
  | m2sReq => exact Keeps.cmdM2sReq ..
  | pwbInstall => exact Keeps.cmdPwbInstall ..
  | readPerform => exact Keeps.cmdReadPerform ..
  | lineReadReturn => exact Keeps.cmdLineReadReturn ..
  | writeThroughVerify => exact Keeps.cmdWriteThroughVerify ..
  | ideTxMacFailReport => exact Keeps.cmdIdeTxMacFailReport ..
  | ideIvThreshold => exact Keeps.cmdIdeIvThreshold ..
  | ideIvExhaust => exact Keeps.cmdIdeIvExhaust ..
  | ideRefreshTimeout => exact Keeps.cmdIdeRefreshTimeout ..
  | ideKmQuery => exact Keeps.cmdIdeKmQuery ..
  | ideKmKeyProg => exact Keeps.cmdIdeKmKeyProg ..
  | ideKmKSetGo => exact Keeps.cmdIdeKmKSetGo ..
  | ideKmKSetStop => exact Keeps.cmdIdeKmKSetStop ..
  | ideKmGetKey => exact Keeps.cmdIdeKmGetKey ..
  | gpfPhase1 => exact Keeps.cmdGpfPhase1 ..
  | gpfPhase2 => exact Keeps.cmdGpfPhase2 ..
  | gpfPhase2Timeout => exact Keeps.cmdGpfPhase2Timeout ..
  | hdmDecoderCommit => exact Keeps.cmdHdmDecoderCommit ..
  | linkDisable => exact Keeps.cmdLinkDisable ..
  | linkRetrain => exact Keeps.cmdLinkRetrain ..
  | portDrain => exact Keeps.cmdPortDrain ..
  | doeDiscovery => exact Keeps.cmdDoeDiscovery ..
  | cdatTableAccess => exact Keeps.cmdCdatTableAccess ..
  | spdmGetVersion => exact Keeps.cmdSpdmGetVersion ..
  | spdmGetCapabilities => exact Keeps.cmdSpdmGetCapabilities ..
  | spdmNegotiateAlgorithms => exact Keeps.cmdSpdmNegotiateAlgorithms ..
  | spdmGetDigests => exact Keeps.cmdSpdmGetDigests ..
  | spdmGetCertificate => exact Keeps.cmdSpdmGetCertificate ..
  | spdmChallenge => exact Keeps.cmdSpdmChallenge ..
  | spdmGetMeasurements => exact Keeps.cmdSpdmGetMeasurements ..
  | spdmKeyExchange => exact Keeps.cmdSpdmKeyExchange ..
  | spdmFinish => exact Keeps.cmdSpdmFinish ..
  | spdmEndSession => exact Keeps.cmdSpdmEndSession ..
  | identify => exact (Foot.cmdIdentify ..).keeps
  | backgroundOperationStatus => exact (Foot.cmdBackgroundOperationStatus ..).keeps
  | getEventRecords => exact (Foot.cmdGetEventRecords ..).keeps
  | clearEventRecords => exact (Foot.cmdClearEventRecords ..).keeps
  | getEventInterruptPolicy => exact (Foot.cmdGetEventInterruptPolicy ..).keeps
  | setEventInterruptPolicy => exact (Foot.cmdSetEventInterruptPolicy ..).keeps
  | getFwInfo => exact (Foot.cmdGetFwInfo ..).keeps
  | transferFw => exact (Foot.cmdTransferFw ..).keeps
  | activateFw => exact (Foot.cmdActivateFw ..).keeps
  | getTimestamp => exact (Foot.cmdGetTimestamp ..).keeps
  | setTimestamp => exact (Foot.cmdSetTimestamp ..).keeps
  | getSupportedLogs => exact (Foot.cmdGetSupportedLogs ..).keeps
  | getLog => exact (Foot.cmdGetLog ..).keeps
  | identifyMemoryDevice => exact (Foot.cmdIdentifyMemoryDevice ..).keeps
  | getLsa => exact (Foot.cmdGetLsa ..).keeps
  | setLsa => exact (Foot.cmdSetLsa ..).keeps
  | getHealthInfo => exact (Foot.cmdGetHealthInfo ..).keeps
  | getShutdownState => exact (Foot.cmdGetShutdownState ..).keeps
  | setShutdownState => exact (Foot.cmdSetShutdownState ..).keeps
  | getPoison => exact (Foot.cmdGetPoison ..).keeps
  | injectPoison => exact (Foot.cmdInjectPoison ..).keeps
  | clearPoison => exact (Foot.cmdClearPoison ..).keeps
  | getScanMediaCapabilities => exact (Foot.cmdGetScanMediaCapabilities ..).keeps
  | scanMedia => exact (Foot.cmdScanMedia ..).keeps
  | scanMediaComplete => exact (Foot.cmdScanMediaComplete ..).keeps
  | getScanMediaResults => exact (Foot.cmdGetScanMediaResults ..).keeps
  | sanitize => exact (Foot.cmdSanitize ..).keeps
  | sanitizeComplete => exact (Foot.cmdSanitizeComplete ..).keeps
  | secureErase => exact (Foot.cmdSecureErase ..).keeps
  | secureEraseComplete => exact (Foot.cmdSecureEraseComplete ..).keeps
  | getSecurityState => exact (Foot.cmdGetSecurityState ..).keeps
  | setPassphrase => exact (Foot.cmdSetPassphrase ..).keeps
  | disablePassphrase => exact (Foot.cmdDisablePassphrase ..).keeps
  | unlock => exact (Foot.cmdUnlock ..).keeps
  | freezeSecurityState => exact (Foot.cmdFreezeSecurityState ..).keeps
  | passphraseSecureErase => exact (Foot.cmdPassphraseSecureErase ..).keeps
  | releaseRange => exact Keeps.cmdReleaseRange ..
  | releaseRangeSecure => exact Keeps.cmdReleaseRangeSecure ..
  | flushLine => exact Keeps.cmdFlushLine ..
  | invalLine => exact Keeps.cmdInvalLine ..
  | zeroLine => exact Keeps.cmdZeroLine ..
  | zeroParcel => exact Keeps.cmdZeroParcel ..
  | holdingCryptoErase => exact (Foot.cmdHoldingCryptoErase ..).keeps
  | replatWrite => exact (Foot.cmdReplatWrite ..).keeps
  | replatApply => exact (Foot.cmdReplatApply ..).keeps
  | replatAbort => exact (Foot.cmdReplatAbort ..).keeps
  | assayStart => exact Keeps.cmdAssayStart ..
  | assayResult => exact Keeps.cmdAssayResult ..
  | surveyStrobe => exact (Foot.cmdSurveyStrobe ..).keeps
  | surveyRead => exact (Foot.cmdSurveyRead ..).keeps
  | unsupportedOpcode => exact (Foot.cmdUnsupportedOpcode ..).keeps
  | clockFrontHand => exact Keeps.cmdClockFrontHand ..
  | clockBackHand => exact Keeps.cmdClockBackHand ..
  | writeBackCommit => exact Keeps.cmdWriteBackCommit ..
  | runMonumentWrite => exact (Foot.cmdRunMonumentWrite ..).keeps
  | stgEnableClear => exact Keeps.cmdStgEnableClear ..
  | stgEnableSet => exact Keeps.cmdStgEnableSet ..
  | cleanAll => exact Keeps.cmdCleanAll ..
  | tagCacheInvalidateDone => exact Keeps.cmdTagCacheInvalidateDone ..
  | stagingInvalidateDone => exact Keeps.cmdStagingInvalidateDone ..
  | stgClockParamWrite => exact Keeps.cmdStgClockParamWrite ..
  | streamBandIdle => exact (Foot.cmdStreamBandIdle ..).keeps
  | wtSlotIdle => exact (Foot.cmdWtSlotIdle ..).keeps
  | bwsDispatch => exact Keeps.cmdBwsDispatch ..
  | mergeCommit => exact (Foot.cmdMergeCommit ..).keeps
  | checkpointSeal => exact (Foot.cmdCheckpointSeal ..).keeps
  | tractResetDone => exact (Foot.cmdTractResetDone ..).keeps
  | heatHalving => exact (Foot.cmdHeatHalving ..).keeps
  | chainRebuildDone => exact (Foot.cmdChainRebuildDone ..).keeps
  | ckptNow => exact (Foot.cmdCkptNow ..).keeps
  | mergeAll => exact (Foot.cmdMergeAll ..).keeps
  | streamEnClear => exact (Foot.cmdStreamEnClear ..).keeps
  | cdsParamWrite => exact (Foot.cmdCdsParamWrite ..).keeps
  | xoLoss => exact (Foot.cmdXoLoss ..).keeps
  | xoReturn => exact (Foot.cmdXoReturn ..).keeps
  | datumDeedTimer => exact (Foot.cmdDatumDeedTimer ..).keeps
  | slewComplete => exact (Foot.cmdSlewComplete ..).keeps
  | dtmParamWrite => exact (Foot.cmdDtmParamWrite ..).keeps
  | surveyStrobeWrite => exact (Foot.cmdSurveyStrobeWrite ..).keeps
  | surveyInEdge => exact (Foot.cmdSurveyInEdge ..).keeps
  | surveyLatch => exact (Foot.cmdSurveyLatch ..).keeps
  | surveyOutEnd => exact (Foot.cmdSurveyOutEnd ..).keeps
  | readLine => exact (Foot.cmdReadLine ..).keeps
  | readParcel => exact (Foot.cmdReadParcel ..).keeps
  | progLine => exact (Foot.cmdProgLine ..).keeps
  | progParcel => exact (Foot.cmdProgParcel ..).keeps
  | resetTract => exact (Foot.cmdResetTract ..).keeps
  | suspend => exact (Foot.cmdSuspend ..).keeps
  | resume => exact (Foot.cmdResume ..).keeps
  | readStatus => exact (Foot.cmdReadStatus ..).keeps
  | setLevel => exact (Foot.cmdSetLevel ..).keeps
  | getTemp => exact (Foot.cmdGetTemp ..).keeps
  | readId => exact (Foot.cmdReadId ..).keeps
  | rdyNAssert => exact (Foot.cmdRdyNAssert ..).keeps
  | trvCmdTimeout => exact (Foot.cmdTrvCmdTimeout ..).keeps
  | statusRetry => exact (Foot.cmdStatusRetry ..).keeps
  | trvRetrainDone => exact (Foot.cmdTrvRetrainDone ..).keeps
  | trainingDone => exact (Foot.cmdTrainingDone ..).keeps
  | retune => exact (Foot.cmdRetune ..).keeps
  | tempPoll => exact (Foot.cmdTempPoll ..).keeps
  | trvRetrainWrite => exact (Foot.cmdTrvRetrainWrite ..).keeps
  | trvPhyWrite => exact (Foot.cmdTrvPhyWrite ..).keeps
  | trvParamWrite => exact (Foot.cmdTrvParamWrite ..).keeps
  | weightedClockTick => exact (Foot.cmdWeightedClockTick ..).keeps
  | levelAdjust => exact (Foot.cmdLevelAdjust ..).keeps
  | readCountAnneal => exact (Foot.cmdReadCountAnneal ..).keeps
  | patrolPassStart => exact (Foot.cmdPatrolPassStart ..).keeps
  | patrolNow => exact (Foot.cmdPatrolNow ..).keeps
  | rebuildCommit => exact (Foot.cmdRebuildCommit ..).keeps
  | mdcParamWrite => exact (Foot.cmdMdcParamWrite ..).keeps
  | lineSenseEdge => exact (Foot.cmdLineSenseEdge ..).keeps
  | lineEdgeLate => exact (Foot.cmdLineEdgeLate ..).keeps
  | braceTimeout => exact (Foot.cmdBraceTimeout ..).keeps
  | relock => exact (Foot.cmdRelock ..).keeps
  | simTrip => exact (Foot.cmdSimTrip ..).keeps
  | vinDrop => exact (Foot.cmdVinDrop ..).keeps
  | vinTrip => exact (Foot.cmdVinTrip ..).keeps
  | vinRecover => exact (Foot.cmdVinRecover ..).keeps
  | sealDone => exact (Foot.cmdSealDone ..).keeps
  | drainParcel => exact (Foot.cmdDrainParcel ..).keeps
  | monumentDone => exact (Foot.cmdMonumentDone ..).keeps
  | restDone => exact (Foot.cmdRestDone ..).keeps
  | safeResume => exact (Foot.cmdSafeResume ..).keeps
  | idealDiodeSwitch => exact (Foot.cmdIdealDiodeSwitch ..).keeps
  | hvRefreshTimeout => exact (Foot.cmdHvRefreshTimeout ..).keeps
  | overcurrent => exact (Foot.cmdOvercurrent ..).keeps
  | chargeOvervoltStop => exact (Foot.cmdChargeOvervoltStop ..).keeps
  | floatReached => exact (Foot.cmdFloatReached ..).keeps
  | cellMeasure => exact (Foot.cmdCellMeasure ..).keeps
  | energyMeterUpdate => exact (Foot.cmdEnergyMeterUpdate ..).keeps
  | liveEstimate => exact (Foot.cmdLiveEstimate ..).keeps
  | noBankCheck => exact (Foot.cmdNoBankCheck ..).keeps
  | chargeTimeout => exact (Foot.cmdChargeTimeout ..).keeps
  | assayDue => exact (Foot.cmdAssayDue ..).keeps
  | assayNow => exact (Foot.cmdAssayNow ..).keeps
  | assaySlackExpiry => exact (Foot.cmdAssaySlackExpiry ..).keeps
  | assayRelaxDone => exact (Foot.cmdAssayRelaxDone ..).keeps
  | assayEsrSample => exact (Foot.cmdAssayEsrSample ..).keeps
  | assayIntegrationEnd => exact (Foot.cmdAssayIntegrationEnd ..).keeps
  | assayDone => exact (Foot.cmdAssayDone ..).keeps
  | baseReset => exact (Foot.cmdBaseReset ..).keeps
  | pwrParamWrite => exact (Foot.cmdPwrParamWrite ..).keeps
  | pflParamWrite => exact (Foot.cmdPflParamWrite ..).keeps
  | bootComplete => exact Keeps.cmdBootComplete ..
  | platLoad => exact Keeps.cmdPlatLoad ..
  | recoverComplete => exact Keeps.cmdRecoverComplete ..
  | warmupTimeout => exact (Foot.cmdWarmupTimeout ..).keeps
  | rekeyStartWrite => exact Keeps.cmdRekeyStartWrite ..
  | imeParamWrite => exact Keeps.cmdImeParamWrite ..
  | gcmEncrypt => exact (Foot.cmdGcmEncrypt ..).keeps
  | gcmDecrypt => exact (Foot.cmdGcmDecrypt ..).keeps
  | gmac => exact (Foot.cmdGmac ..).keeps
  | gmacVerify => exact (Foot.cmdGmacVerify ..).keeps
  | wrap => exact (Foot.cmdWrap ..).keeps
  | unwrap => exact (Foot.cmdUnwrap ..).keeps
  | derive => exact (Foot.cmdDerive ..).keeps
  | sha384 => exact (Foot.cmdSha384 ..).keeps
  | genKey => exact (Foot.cmdGenKey ..).keeps
  | zeroSlot => exact (Foot.cmdZeroSlot ..).keeps
  | ideMove => exact (Foot.cmdIdeMove ..).keeps
  | ckeOpComplete => exact (Foot.cmdCkeOpComplete ..).keeps
  | keyDataWrite => exact (Foot.cmdKeyDataWrite ..).keeps
  | keyLoad => exact (Foot.cmdKeyLoad ..).keeps
  | keyZero => exact (Foot.cmdKeyZero ..).keeps
  | newChal => exact Keeps.cmdNewChal ..
  | challengeExpiry => exact Keeps.cmdChallengeExpiry ..
  | stageDataWrite => exact Keeps.cmdStageDataWrite ..
  | evrClear => exact Keeps.cmdEvrClear ..
  | ownerEnroll => exact Keeps.cmdOwnerEnroll ..
  | ownerRemove => exact Keeps.cmdOwnerRemove ..
  | akReplace => exact Keeps.cmdAkReplace ..
  | debugUnlock => exact Keeps.cmdDebugUnlock ..
  | revokeFoaroKey => exact Keeps.cmdRevokeFoaroKey ..
  | rngRetest => exact (Foot.cmdRngRetest ..).keeps
  | drbgReseed => exact (Foot.cmdDrbgReseed ..).keeps
  | ringEntryPost => exact (Foot.cmdRingEntryPost ..).keeps
  | engineWatchdogExpiry => exact (Foot.cmdEngineWatchdogExpiry ..).keeps
  | engineTrap => exact (Foot.cmdEngineTrap ..).keeps
  | engineSramUe => exact (Foot.cmdEngineSramUe ..).keeps
  | lockstepMismatch => exact (Foot.cmdLockstepMismatch ..).keeps
  | failoverLoadDone => exact (Foot.cmdFailoverLoadDone ..).keeps
  | failoverTimeout => exact (Foot.cmdFailoverTimeout ..).keeps
  | engineSelftestDone => exact (Foot.cmdEngineSelftestDone ..).keeps
  | engineSelftestWrite => exact (Foot.cmdEngineSelftestWrite ..).keeps
  | engineHold => exact (Foot.cmdEngineHold ..).keeps
  | pstOpStart => exact (Foot.cmdPstOpStart ..).keeps
  | pageProgramDone => exact (Foot.cmdPageProgramDone ..).keeps
  | sectorEraseDone => exact (Foot.cmdSectorEraseDone ..).keeps
  | pageProgramTimeout => exact (Foot.cmdPageProgramTimeout ..).keeps
  | sectorEraseTimeout => exact (Foot.cmdSectorEraseTimeout ..).keeps
  | mgmtHoldTimeout => exact (Foot.cmdMgmtHoldTimeout ..).keeps
  | pstRead => exact (Foot.cmdPstRead ..).keeps
  | pstProg => exact (Foot.cmdPstProg ..).keeps
  | pstErase => exact (Foot.cmdPstErase ..).keeps
  | pstBlankCheck => exact (Foot.cmdPstBlankCheck ..).keeps
  | pstDataAccess => exact (Foot.cmdPstDataAccess ..).keeps
  | marginScan => exact (Foot.cmdMarginScan ..).keeps
  | collect => exact (Foot.cmdCollect ..).keeps
  | pstParamWrite => exact (Foot.cmdPstParamWrite ..).keeps
  | tokenRefill => exact (Foot.cmdTokenRefill ..).keeps
  | suppressedSummary => exact (Foot.cmdSuppressedSummary ..).keeps
  | suppTableFull => exact (Foot.cmdSuppTableFull ..).keeps
  | evrCursorOldest => exact (Foot.cmdEvrCursorOldest ..).keeps
  | evrCursorNewest => exact (Foot.cmdEvrCursorNewest ..).keeps
  | evrCursorNext => exact (Foot.cmdEvrCursorNext ..).keeps
  | evrCursorPrev => exact (Foot.cmdEvrCursorPrev ..).keeps
  | evrCursorWrite => exact (Foot.cmdEvrCursorWrite ..).keeps
  | sensorSample => exact (Foot.cmdSensorSample ..).keeps
  | levelFall => exact (Foot.cmdLevelFall ..).keeps
  | riseBoost => exact (Foot.cmdRiseBoost ..).keeps
  | riseBoostEnd => exact (Foot.cmdRiseBoostEnd ..).keeps
  | quenchHoldExpiry => exact (Foot.cmdQuenchHoldExpiry ..).keeps
  | quenchRestart => exact (Foot.cmdQuenchRestart ..).keeps
  | thmParamWrite => exact (Foot.cmdThmParamWrite ..).keeps
  | svyWinSelWrite => exact (Foot.cmdSvyWinSelWrite ..).keeps
  | svyWin7Read => exact (Foot.cmdSvyWin7Read ..).keeps
  | pmcOverflow => exact (Foot.cmdPmcOverflow ..).keeps
  | pmcCntWrite => exact (Foot.cmdPmcCntWrite ..).keeps
  | pmcCfgWrite => exact (Foot.cmdPmcCfgWrite ..).keeps
  | pmcCntRead => exact (Foot.cmdPmcCntRead ..).keeps
  | pairLoRead => exact Keeps.cmdPairLoRead ..
  | pairHiRead => exact Keeps.cmdPairHiRead ..
  | pairHiWrite => exact Keeps.cmdPairHiWrite ..
  | pairLoWrite => exact Keeps.cmdPairLoWrite ..
  | pair8bAccess => exact Keeps.cmdPair8bAccess ..
  | unsupportedAccess => exact Keeps.cmdUnsupportedAccess ..
  | unimplAccess => exact Keeps.cmdUnimplAccess ..
  | rcRead => exact Keeps.cmdRcRead ..
  | registerWrite => exact Keeps.cmdRegisterWrite ..
  | sysRstWarm => exact Keeps.cmdSysRstWarm ..
  | sysRstCold => exact Keeps.cmdSysRstCold ..
  | sysRstDiag => exact Keeps.cmdSysRstDiag ..
  | replatLock => exact (Foot.cmdReplatLock ..).keeps
  | pltAbort => exact (Foot.cmdPltAbort ..).keeps
  | energyPairRestartDone => exact (Foot.cmdEnergyPairRestartDone ..).keeps
  | tapInstruction => exact Keeps.cmdTapInstruction ..
  | hdmDecoderUncommit => exact Keeps.cmdHdmDecoderUncommit ..
  | pllUnlock => exact (Foot.cmdPllUnlock ..).keeps

/-- Settles O6: the queue's half of `Keeps.command`. -/
theorem commandsLeaveTheQueue : Obligations.CommandsLeaveTheQueue := by
  unfold Obligations.CommandsLeaveTheQueue
  exact fun c s t h => ((Keeps.command c s).all t h).pending

/-- Settles O5: a step runs the front command, which keeps the form, or ticks, which touches registers one write at a time. -/
theorem registerFileStaysCanonical : Obligations.RegisterFileStaysCanonical := by
  unfold Obligations.RegisterFileStaysCanonical
  intro s t wf h
  unfold step at h
  split at h
  · cases h
    exact (Keeps.foot (Foot.tick s)).wf wf
  next c rest _ => exact ((Keeps.command c { s with pending := rest }).all t h).wf wf

end Sys2Proof.Machine
end
section
/-! # Every command answers a next state (log entry 42) -/

namespace Sys2Proof.Machine

/-- A command answers a next state. -/
def Completes (r : Res) : Prop := ∃ t, r = .next t

theorem Completes.next (s : State) : Completes (.next s) := ⟨s, rfl⟩

theorem completes_mbox (s : State) (via : Via) (op : Nat) (braced : Option (Nat × Nat)) (bg : Bool) (run : State → State) :
    Completes (s.mbox via op braced bg run) := by
  unfold State.mbox
  split
  · exact .next _
  split
  · exact .next _
  split
  · exact .next _
  split <;> exact .next _

theorem completes_query (s : State) (via : Via) (op : Nat) (run : State → State) :
    Completes (s.query via op run) := completes_mbox ..

theorem completes_ite {c : Prop} [Decidable c] {a b : Res} :
    Completes (if c then a else b) ↔ (c → Completes a) ∧ (¬c → Completes b) := by
  split <;> simp_all

theorem completes_writeThroughVerify (port : Fin 2) (seq : Nat) (src : LineRead) (redirected : Bool) (s : State) :
    Completes (execWriteThroughVerify port seq src redirected s) := by
  unfold execWriteThroughVerify
  extract_lets
  split
  · exact .next _
  extract_lets
  split
  · exact .next _
  split
  split
  · exact .next _
  extract_lets
  split
  · exact .next _
  split
  · exact .next _
  split
  · exact .next _
  · exact .next _

theorem completes_ideKmKSetGo (port stream set : Fin 2) (skid : Bool) (atNs : Nat) (s : State) :
    Completes (execIdeKmKSetGo port stream set skid atNs s) := by
  unfold execIdeKmKSetGo
  extract_lets
  split
  · exact .next _
  split
  · exact .next _
  split
  · exact .next _
  split
  · split
    · exact .next _
    split <;> exact .next _
  · split <;> exact .next _

theorem completes_datumDeedTimer (atNs : Nat) (s : State) : Completes (execDatumDeedTimer atNs s) := by
  unfold execDatumDeedTimer
  extract_lets
  split
  · split <;> exact .next _
  · exact .next _

theorem completes_surveyLatch (s : State) : Completes (execSurveyLatch s) := by
  unfold execSurveyLatch
  split <;> exact .next _

theorem completes_resetFlushDone (atNs : Nat) (s : State) : Completes (execResetFlushDone atNs s) := by
  unfold execResetFlushDone
  grind [Completes.next]

theorem completes_pwbInstall (port : Fin 2) (fault : Option StgFault) (s : State) : Completes (execPwbInstall port fault s) := by
  unfold execPwbInstall
  grind [Completes.next]

theorem completes_readPerform (port : Fin 2) (tag : Nat) (fault : Option StgFault) (s : State) :
    Completes (execReadPerform port tag fault s) := by
  unfold execReadPerform
  grind [Completes.next]

theorem completes_lineReadReturn (line : Nat) (r : LineRead) (s : State) : Completes (execLineReadReturn line r s) := by
  unfold execLineReadReturn
  grind [Completes.next]

theorem completes_ideRefreshTimeout (port : Fin 2) (atNs : Nat) (s : State) : Completes (execIdeRefreshTimeout port atNs s) := by
  unfold execIdeRefreshTimeout
  grind [Completes.next]

theorem completes_scanMediaComplete (lost : List Nat) (s : State) : Completes (execScanMediaComplete lost s) := by
  unfold execScanMediaComplete
  grind [Completes.next]

theorem completes_sanitizeComplete (atNs : Nat) (s : State) : Completes (execSanitizeComplete atNs s) := by
  unfold execSanitizeComplete
  grind [Completes.next]

theorem completes_writeBackCommit (parcel : Nat) (misses : List (Fin 64 × Fin 2)) (stuck : Option (Fin 64)) (s : State) :
    Completes (execWriteBackCommit parcel misses stuck s) := by
  unfold execWriteBackCommit
  grind [Completes.next]

theorem completes_runMonumentWrite (s : State) : Completes (execRunMonumentWrite s) := by
  unfold execRunMonumentWrite
  grind [Completes.next]

theorem completes_cleanAll (via : Via) (s : State) : Completes (execCleanAll via s) := by
  unfold execCleanAll
  grind [Completes.next]

theorem completes_streamBandIdle (band : Nat) (atNs : Nat) (s : State) : Completes (execStreamBandIdle band atNs s) := by
  unfold execStreamBandIdle
  grind [Completes.next]

theorem completes_mergeCommit (plot : Nat) (lost : List Nat) (s : State) : Completes (execMergeCommit plot lost s) := by
  unfold execMergeCommit
  grind [Completes.next]

theorem completes_mergeAll (via : Via) (s : State) : Completes (execMergeAll via s) := by
  unfold execMergeAll
  grind [Completes.next]

theorem completes_xoLoss (ppm : Int) (s : State) : Completes (execXoLoss ppm s) := by
  unfold execXoLoss
  grind [Completes.next]

theorem completes_surveyOutEnd (s : State) : Completes (execSurveyOutEnd s) := by
  unfold execSurveyOutEnd
  grind [Completes.next]

theorem completes_readStatus (ch : Fin 32) (die : Fin 4) (burstOk : Bool) (s : State) :
    Completes (execReadStatus ch die burstOk s) := by
  unfold execReadStatus
  grind [Completes.next]

theorem completes_rdyNAssert (ch : Fin 32) (die : Fin 4) (op : Fin 32) (result : Fin 8) (plane : Fin 4) (value : BitVec 16)
    (atNs : Nat) (s : State) :
    Completes (execRdyNAssert ch die op result plane value atNs s) := by
  unfold execRdyNAssert
  grind [Completes.next]

theorem completes_trvCmdTimeout (ch : Fin 32) (die : Fin 4) (op : Fin 32) (plane : Fin 4) (atNs : Nat) (s : State) :
    Completes (execTrvCmdTimeout ch die op plane atNs s) := by
  unfold execTrvCmdTimeout
  grind [Completes.next]

theorem completes_statusRetry (ch : Fin 32) (die : Fin 4) (valid stillRunning : Bool) (atNs : Nat) (s : State) :
    Completes (execStatusRetry ch die valid stillRunning atNs s) := by
  unfold execStatusRetry
  grind [Completes.next]

theorem completes_rebuildCommit (band : Nat) (lost : List Nat) (s : State) : Completes (execRebuildCommit band lost s) := by
  unfold execRebuildCommit
  grind [Completes.next]

theorem completes_lineSenseEdge (atNs : Nat) (s : State) : Completes (execLineSenseEdge atNs s) := by
  unfold execLineSenseEdge
  grind [Completes.next]

theorem completes_relock (via : Via) (s : State) : Completes (execRelock via s) := by
  unfold execRelock
  grind [Completes.next]

theorem completes_drainParcel (misses : List (Fin 64 × Fin 2)) (stuck : Option (Fin 64)) (atNs : Nat) (s : State) :
    Completes (execDrainParcel misses stuck atNs s) := by
  unfold execDrainParcel
  grind [Completes.next]

theorem completes_restDone (atNs : Nat) (s : State) : Completes (execRestDone atNs s) := by
  unfold execRestDone
  grind [Completes.next]

theorem completes_overcurrent (s : State) : Completes (execOvercurrent s) := by
  unfold execOvercurrent
  grind [Completes.next]

theorem completes_platLoad (atNs : Nat) (s : State) : Completes (execPlatLoad atNs s) := by
  unfold execPlatLoad
  grind [Completes.next]

theorem completes_recoverComplete (badRoots : List (Fin 8)) (unread : List Nat) (atNs : Nat) (s : State) :
    Completes (execRecoverComplete badRoots unread atNs s) := by
  unfold execRecoverComplete
  grind [Completes.next]

theorem completes_zeroSlot (b : Submit) (s : State) : Completes (execZeroSlot b s) := by
  unfold execZeroSlot
  grind [Completes.next]

theorem completes_ckeOpComplete (mismatch : Bool) (s : State) : Completes (execCkeOpComplete mismatch s) := by
  unfold execCkeOpComplete
  grind [Completes.next]

theorem completes_challengeExpiry (atNs : Nat) (s : State) : Completes (execChallengeExpiry atNs s) := by
  unfold execChallengeExpiry
  grind [Completes.next]

theorem completes_failoverLoadDone (target : Fin 24) (atNs : Nat) (s : State) :
    Completes (execFailoverLoadDone target atNs s) := by
  unfold execFailoverLoadDone
  grind [Completes.next]

theorem completes_failoverTimeout (target : Fin 24) (atNs : Nat) (s : State) : Completes (execFailoverTimeout target atNs s) := by
  unfold execFailoverTimeout
  grind [Completes.next]

theorem completes_pageProgramDone (ok : Bool) (atNs : Nat) (s : State) : Completes (execPageProgramDone ok atNs s) := by
  unfold execPageProgramDone
  grind [Completes.next]

theorem completes_sectorEraseDone (ok : Bool) (atNs : Nat) (s : State) : Completes (execSectorEraseDone ok atNs s) := by
  unfold execSectorEraseDone
  grind [Completes.next]

theorem completes_pageProgramTimeout (atNs : Nat) (s : State) : Completes (execPageProgramTimeout atNs s) := by
  unfold execPageProgramTimeout
  grind [Completes.next]

theorem completes_sectorEraseTimeout (atNs : Nat) (s : State) : Completes (execSectorEraseTimeout atNs s) := by
  unfold execSectorEraseTimeout
  grind [Completes.next]

theorem completes_pstDataAccess (via : Via) (write : Option Word) (s : State) : Completes (execPstDataAccess via write s) := by
  unfold execPstDataAccess
  grind [Completes.next]

theorem completes_suppressedSummary (code : Nat) (atNs : Nat) (s : State) : Completes (execSuppressedSummary code atNs s) := by
  unfold execSuppressedSummary
  grind [Completes.next]

theorem completes_evrCursorNext (via : Via) (s : State) : Completes (execEvrCursorNext via s) := by
  unfold execEvrCursorNext
  grind [Completes.next]

theorem completes_evrCursorPrev (via : Via) (s : State) : Completes (execEvrCursorPrev via s) := by
  unfold execEvrCursorPrev
  grind [Completes.next]

theorem completes_evrCursorWrite (via : Via) (seq : Word) (s : State) : Completes (execEvrCursorWrite via seq s) := by
  unfold execEvrCursorWrite
  grind [Completes.next]

theorem completes_pair8bAccess (via : Via) (off : Nat) (write : Option Quad) (s : State) :
    Completes (execPair8bAccess via off write s) := by
  unfold execPair8bAccess
  grind [Completes.next]

theorem completes_tapInstruction (i : TapInstr) (trstLow : Bool) (s : State) : Completes (execTapInstruction i trstLow s) := by
  unfold execTapInstruction
  grind [Completes.next]

/-- Each command of the table completes: most are one next state, or a mailbox command, in plain sight; the others are taken
apart into the branches of their meaning. -/
theorem exec_completes (c : Instr) (s : State) : Completes (exec c s) := by
  cases c with
  | linkDown | ideKmQuery | gpfPhase1 | gpfPhase2Timeout | doeDiscovery | tagCacheInvalidateDone | stagingInvalidateDone |
    surveyInEdge | readLine | readParcel | progLine | progParcel | suspend | setLevel | getTemp | gcmEncrypt | gcmDecrypt |
    gmac | gmacVerify | wrap | unwrap | derive | sha384 | genKey | ideMove | ringEntryPost | lockstepMismatch | pstOpStart |
    mgmtHoldTimeout | tokenRefill | pairLoRead | pairHiRead | pairHiWrite | pairLoWrite | pllUnlock => exact .next _
  | transferFw | activateFw | setShutdownState | scanMedia | sanitize | secureErase | setPassphrase | disablePassphrase |
    unlock | passphraseSecureErase | releaseRange | releaseRangeSecure | holdingCryptoErase | replatWrite | replatApply |
    assayStart =>
    dsimp only [exec]
    exact completes_mbox ..
  | identify | backgroundOperationStatus | getEventRecords | clearEventRecords | getEventInterruptPolicy |
    setEventInterruptPolicy | getFwInfo | getTimestamp | setTimestamp | getSupportedLogs | getLog | identifyMemoryDevice |
    getLsa | setLsa | getHealthInfo | getShutdownState =>
    simp only [exec, execIdentify, execBackgroundOperationStatus, execGetEventRecords, execClearEventRecords,
      execGetEventInterruptPolicy, execSetEventInterruptPolicy, execGetFwInfo, execGetTimestamp, execSetTimestamp,
      execGetSupportedLogs, execGetLog, execIdentifyMemoryDevice, execGetLsa, execSetLsa, execGetHealthInfo,
      execGetShutdownState, completes_query]
  | getPoison | injectPoison | clearPoison | getScanMediaCapabilities | getScanMediaResults | getSecurityState |
    freezeSecurityState | flushLine | invalLine | zeroLine | zeroParcel | replatAbort | assayResult | surveyStrobe |
    surveyRead =>
    simp only [exec, execGetPoison, execInjectPoison, execClearPoison, execGetScanMediaCapabilities, execGetScanMediaResults,
      execGetSecurityState, execFreezeSecurityState, execFlushLine, execInvalLine, execZeroLine, execZeroParcel,
      execReplatAbort, execAssayResult, execSurveyStrobe, execSurveyRead, State.lineMaint, completes_query]
  | suppliesGood | supplyLoss | railWarn | resetInputLow | resetInputRelease | functionLevelReset | hostLinkTrain | laneFail |
    ideRxFlit | m2sRwd | m2sReq | ideTxMacFailReport | ideIvThreshold | ideIvExhaust | ideKmKeyProg | ideKmKSetStop |
    ideKmGetKey =>
    simp [exec, execSuppliesGood, execSupplyLoss, execRailWarn, execResetInputLow, execResetInputRelease,
      execFunctionLevelReset, execHostLinkTrain, execLaneFail, execIdeRxFlit, execM2sRwd, execM2sReq, execIdeTxMacFailReport,
      execIdeIvThreshold, execIdeIvExhaust, execIdeKmKeyProg, execIdeKmKSetStop, execIdeKmGetKey, completes_ite, Completes.next]
  | gpfPhase2 | hdmDecoderCommit | linkDisable | linkRetrain | portDrain | cdatTableAccess | spdmGetVersion |
    spdmGetCapabilities | spdmNegotiateAlgorithms | spdmGetDigests | spdmGetCertificate | spdmChallenge | spdmGetMeasurements |
    spdmKeyExchange | spdmFinish | spdmEndSession =>
    simp [exec, execGpfPhase2, execHdmDecoderCommit, execLinkDisable, execLinkRetrain, execPortDrain, execCdatTableAccess,
      execSpdmGetVersion, execSpdmGetCapabilities, execSpdmNegotiateAlgorithms, execSpdmGetDigests, execSpdmGetCertificate,
      execSpdmChallenge, execSpdmGetMeasurements, execSpdmKeyExchange, execSpdmFinish, execSpdmEndSession, completes_ite,
      Completes.next]
  | secureEraseComplete | unsupportedOpcode | clockFrontHand | clockBackHand | stgEnableClear | stgEnableSet |
    stgClockParamWrite | wtSlotIdle | bwsDispatch | checkpointSeal | tractResetDone | heatHalving | chainRebuildDone |
    ckptNow | streamEnClear | cdsParamWrite =>
    simp [exec, execSecureEraseComplete, execUnsupportedOpcode, execClockFrontHand, execClockBackHand, execStgEnableClear,
      execStgEnableSet, execStgClockParamWrite, execWtSlotIdle, execBwsDispatch, execCheckpointSeal, execTractResetDone,
      execHeatHalving, execChainRebuildDone, execCkptNow, execStreamEnClear, execCdsParamWrite, completes_ite, Completes.next,
      completes_query]
  | xoReturn | slewComplete | dtmParamWrite | surveyStrobeWrite | resetTract | resume | readId | trvRetrainDone |
    trainingDone | retune | tempPoll | trvRetrainWrite | trvPhyWrite | trvParamWrite =>
    simp [exec, execXoReturn, execSlewComplete, execDtmParamWrite, execSurveyStrobeWrite, execResetTract, execResume,
      execReadId, execTrvRetrainDone, execTrainingDone, execRetune, execTempPoll, execTrvRetrainWrite, execTrvPhyWrite,
      execTrvParamWrite, completes_ite, Completes.next]
  | weightedClockTick | levelAdjust | readCountAnneal | patrolPassStart | patrolNow | mdcParamWrite | lineEdgeLate |
    braceTimeout | simTrip | vinDrop | vinTrip | vinRecover =>
    simp [exec, execWeightedClockTick, execLevelAdjust, execReadCountAnneal, execPatrolPassStart, execPatrolNow,
      execMdcParamWrite, execLineEdgeLate, execBraceTimeout, execSimTrip, execVinDrop, execVinTrip, execVinRecover,
      completes_ite, Completes.next]
  | sealDone | monumentDone | safeResume | idealDiodeSwitch | hvRefreshTimeout | chargeOvervoltStop | floatReached |
    cellMeasure | energyMeterUpdate | liveEstimate | noBankCheck | chargeTimeout | assayDue | assayNow | assaySlackExpiry |
    assayRelaxDone | assayEsrSample | assayIntegrationEnd | assayDone | baseReset | pwrParamWrite =>
    simp [exec, execSealDone, execMonumentDone, execSafeResume, execIdealDiodeSwitch, execHvRefreshTimeout,
      execChargeOvervoltStop, execFloatReached, execCellMeasure, execEnergyMeterUpdate, execLiveEstimate, execNoBankCheck,
      execChargeTimeout, execAssayDue, execAssayNow, execAssaySlackExpiry, execAssayRelaxDone, execAssayEsrSample,
      execAssayIntegrationEnd, execAssayDone, execBaseReset, execPwrParamWrite, completes_ite, Completes.next]
  | pflParamWrite | bootComplete | warmupTimeout | rekeyStartWrite | imeParamWrite | keyDataWrite | keyLoad | keyZero |
    newChal | stageDataWrite | evrClear | ownerEnroll | ownerRemove | akReplace | debugUnlock | revokeFoaroKey =>
    simp [exec, execPflParamWrite, execBootComplete, execWarmupTimeout, execRekeyStartWrite, execImeParamWrite,
      execKeyDataWrite, execKeyLoad, execKeyZero, execNewChal, execStageDataWrite, execEvrClear, execOwnerEnroll,
      execOwnerRemove, execAkReplace, execDebugUnlock, execRevokeFoaroKey, completes_ite, Completes.next]
  | rngRetest | drbgReseed | engineWatchdogExpiry | engineTrap | engineSramUe | engineSelftestDone | engineSelftestWrite |
    engineHold | pstRead | pstProg | pstErase | pstBlankCheck | marginScan | collect | pstParamWrite =>
    simp [exec, execRngRetest, execDrbgReseed, execEngineWatchdogExpiry, execEngineTrap, execEngineSramUe,
      execEngineSelftestDone, execEngineSelftestWrite, execEngineHold, execPstRead, execPstProg, execPstErase,
      execPstBlankCheck, execMarginScan, execCollect, execPstParamWrite, completes_ite, Completes.next]
  | suppTableFull | evrCursorOldest | evrCursorNewest | sensorSample | levelFall | riseBoost | riseBoostEnd |
    quenchHoldExpiry | quenchRestart | thmParamWrite | svyWinSelWrite | svyWin7Read =>
    simp [exec, execSuppTableFull, execEvrCursorOldest, execEvrCursorNewest, execSensorSample, execLevelFall, execRiseBoost,
      execRiseBoostEnd, execQuenchHoldExpiry, execQuenchRestart, execThmParamWrite, execSvyWinSelWrite, execSvyWin7Read,
      completes_ite, Completes.next]
  | pmcOverflow | pmcCntWrite | pmcCfgWrite | pmcCntRead | unsupportedAccess | unimplAccess | rcRead | registerWrite |
    sysRstWarm | sysRstCold | sysRstDiag | replatLock | pltAbort =>
    simp [exec, execPmcOverflow, execPmcCntWrite, execPmcCfgWrite, execPmcCntRead, execUnsupportedAccess, execUnimplAccess,
      execRcRead, execRegisterWrite, execSysRstWarm, execSysRstCold, execSysRstDiag, execReplatLock, execPltAbort,
      completes_ite, Completes.next]
  | energyPairRestartDone | hdmDecoderUncommit =>
    simp [exec, execEnergyPairRestartDone, execHdmDecoderUncommit, completes_ite, Completes.next]
  | resetFlushDone => exact completes_resetFlushDone ..
  | pwbInstall => exact completes_pwbInstall ..
  | readPerform => exact completes_readPerform ..
  | lineReadReturn => exact completes_lineReadReturn ..
  | ideRefreshTimeout => exact completes_ideRefreshTimeout ..
  | scanMediaComplete => exact completes_scanMediaComplete ..
  | sanitizeComplete => exact completes_sanitizeComplete ..
  | writeBackCommit => exact completes_writeBackCommit ..
  | runMonumentWrite => exact completes_runMonumentWrite ..
  | cleanAll => exact completes_cleanAll ..
  | streamBandIdle => exact completes_streamBandIdle ..
  | mergeCommit => exact completes_mergeCommit ..
  | mergeAll => exact completes_mergeAll ..
  | xoLoss => exact completes_xoLoss ..
  | surveyOutEnd => exact completes_surveyOutEnd ..
  | readStatus => exact completes_readStatus ..
  | rdyNAssert => exact completes_rdyNAssert ..
  | trvCmdTimeout => exact completes_trvCmdTimeout ..
  | statusRetry => exact completes_statusRetry ..
  | rebuildCommit => exact completes_rebuildCommit ..
  | lineSenseEdge => exact completes_lineSenseEdge ..
  | relock => exact completes_relock ..
  | drainParcel => exact completes_drainParcel ..
  | restDone => exact completes_restDone ..
  | overcurrent => exact completes_overcurrent ..
  | platLoad => exact completes_platLoad ..
  | recoverComplete => exact completes_recoverComplete ..
  | zeroSlot => exact completes_zeroSlot ..
  | ckeOpComplete => exact completes_ckeOpComplete ..
  | challengeExpiry => exact completes_challengeExpiry ..
  | failoverLoadDone => exact completes_failoverLoadDone ..
  | failoverTimeout => exact completes_failoverTimeout ..
  | pageProgramDone => exact completes_pageProgramDone ..
  | sectorEraseDone => exact completes_sectorEraseDone ..
  | pageProgramTimeout => exact completes_pageProgramTimeout ..
  | sectorEraseTimeout => exact completes_sectorEraseTimeout ..
  | pstDataAccess => exact completes_pstDataAccess ..
  | suppressedSummary => exact completes_suppressedSummary ..
  | evrCursorNext => exact completes_evrCursorNext ..
  | evrCursorPrev => exact completes_evrCursorPrev ..
  | evrCursorWrite => exact completes_evrCursorWrite ..
  | pair8bAccess => exact completes_pair8bAccess ..
  | tapInstruction => exact completes_tapInstruction ..
  | writeThroughVerify => exact completes_writeThroughVerify ..
  | ideKmKSetGo => exact completes_ideKmKSetGo ..
  | datumDeedTimer => exact completes_datumDeedTimer ..
  | surveyLatch => exact completes_surveyLatch ..

/-- Settles O7, by the cases of the table. -/
theorem everyCommandCompletes : Obligations.EveryCommandCompletes := by
  unfold Obligations.EveryCommandCompletes
  exact exec_completes

end Sys2Proof.Machine
end
section
/-! # The idle step (R192, R235, log entry 2) -/

namespace Sys2Proof.Machine

/-! ## The collector takes at most four completions, from different sources -/

/-- The source the collector turns to next is one not masked out. -/
theorem collNext_notMem {q : List (List Nat)} {done : List Nat} {ptr i : Nat}
    (h : collNext ((List.range 40).map fun j => if done.contains j then [] else q.getD j []) ptr = some i) : i ∉ done := by
  intro hi
  have hlt : i < 40 := by
    obtain ⟨k, -, rfl⟩ := List.mem_map.1 (List.mem_of_find?_eq_some h)
    exact Nat.mod_lt _ (by decide)
  have hne := List.find?_some h
  simp [List.getD_eq_getElem?_getD, hlt, hi] at hne

theorem Trv.take_length_le (t : Trv) (now n : Nat) (done : List Nat) : (t.take now n done).taken.length ≤ t.taken.length + n := by
  induction n generalizing t done with
  | zero => exact Nat.le_refl _
  | succ n ih =>
    unfold Trv.take
    dsimp only
    split
    · omega
    · refine (ih _ _).trans ?_
      rw [List.length_append, List.length_singleton]
      omega

/-- The sources taken from stay different as long as each of them is masked out. -/
theorem Trv.take_nodup (t : Trv) (now n : Nat) (done : List Nat) (hsub : ∀ e ∈ t.taken, e.1 ∈ done)
    (hnodup : (t.taken.map Prod.fst).Nodup) : ((t.take now n done).taken.map Prod.fst).Nodup := by
  induction n generalizing t done with
  | zero => exact hnodup
  | succ n ih =>
    unfold Trv.take
    dsimp only
    split
    · exact hnodup
    next i hi =>
      have hnew := collNext_notMem hi
      refine ih _ _ ?_ ?_
      · simp only [List.mem_append, List.mem_cons, List.not_mem_nil, or_false]
        rintro e (he | rfl)
        · exact .inr (hsub e he)
        · exact .inl rfl
      · simp only [List.map_append, List.map_cons, List.map_nil]
        refine List.nodup_append.2 ⟨hnodup, List.nodup_singleton i, ?_⟩
        rintro a ha b hb rfl
        obtain ⟨e, he, rfl⟩ := List.mem_map.1 ha
        exact hnew (List.mem_singleton.1 hb ▸ hsub e he)

/-! ## Time passes -/

section
variable (s : State)

theorem State.pass_datum (d : Nat) (h : s.dtm.slewing = false) : (s.pass d).dtm.datum = s.dtm.datum + d := by
  simp [State.pass, Dtm.advance, h]

theorem State.elapse_of_held (d : Nat) (h : s.clockHeld = true) : s.elapse d = s.pass d := by
  simp [State.elapse, h]

theorem State.elapse_dtm_mono (d : Nat) : (s.elapse d).dtm.mono = s.dtm.mono + d := by
  unfold State.elapse
  dsimp only
  split
  · exact s.pass_mono d
  · obtain ⟨_, _, _, _, h, e⟩ := (Recorded.countConds (R := fun _ => true) (tm := false) all_true s _ _).dtm
    rw [State.pass_mono, h]
    simp [e]

theorem State.elapse_dtm_datum (d : Nat) (hs : s.dtm.slewing = false) : (s.elapse d).dtm.datum = s.dtm.datum + d := by
  unfold State.elapse
  dsimp only
  split
  · exact s.pass_datum d hs
  · obtain ⟨_, _, _, _, h, e⟩ := (Recorded.countConds (R := fun _ => true) (tm := false) all_true s _ _).dtm
    rw [State.pass_datum _ _ (by rw [h]; exact hs), h]
    simp [e]

/-! ## The three kinds of idle step -/

theorem State.tick_of_off (h : s.sys.supplies = false) : s.tick = s := by
  simp [State.tick, h]

theorem State.tick_of_held (h : s.sys.supplies = true) (hh : s.clockHeld = true) : s.tick = s.pass (40 * nsUnits) := by
  simp [State.tick, h, hh, State.elapse_of_held]

theorem State.tick_dtm (h : s.sys.supplies = true) (hh : s.clockHeld = false) :
    s.tick.dtm.mono = (s.elapse cycleUnits).dtm.mono ∧ s.tick.dtm.datum = (s.elapse cycleUnits).dtm.datum := by
  simp [State.tick, h, hh]

theorem State.tick_taken (h : s.sys.supplies = true) (hh : s.clockHeld = false) :
    s.tick.trv.taken = (({ (s.elapse cycleUnits).trv with taken := [] } : Trv).take (s.elapse cycleUnits).dtm.mono 4 []).taken := by
  simp [State.tick, h, hh]

end

/-- Settles O2, by the three kinds of idle step: no supplies, a held fabric clock, a fabric cycle. -/
theorem idleStepIsAFabricCycle : Obligations.IdleStepIsAFabricCycle := by
  unfold Obligations.IdleStepIsAFabricCycle
  intro s hp
  refine ⟨by simp [step, hp], (Foot.tick s).pending.trans hp, s.tick_of_off, fun hs hh => ?_, fun hs hh => ?_⟩
  · obtain ⟨hmono, hdatum⟩ := s.tick_dtm hs hh
    refine ⟨hmono.trans (s.elapse_dtm_mono _), fun hslew => hdatum.trans (s.elapse_dtm_datum _ hslew), ?_, ?_,
      (Foot.tick s).mono (by decide)⟩
    · rw [s.tick_taken hs hh]
      exact Trv.take_length_le ..
    · rw [s.tick_taken hs hh]
      exact Trv.take_nodup _ _ _ _ nofun List.nodup_nil
  · rw [s.tick_of_held hs hh]
    exact ⟨s.pass_mono _, rfl⟩

end Sys2Proof.Machine
end
section
/-! # Supplies and resets (R29, R271, R306, R488 to R490, R504, R506) -/

namespace Sys2Proof.Machine

/-! ## Entering BOOT or DIAG by a reset -/

section
variable (s : State)

/-- The state entered by a reset: DIAG by a diagnostic one, else BOOT. -/
def ResetKind.enters (k : ResetKind) : DevState := if k == .diagnostic then .diag else .boot

theorem ResetKind.enters_eq_boot {k : ResetKind} (h : k ≠ .diagnostic) : k.enters = .boot := by
  simp [ResetKind.enters, h]

theorem State.afterResetState_sys (k : ResetKind) (from_ : Nat) : (s.afterResetState k from_).sys =
    { s.sys with state := k.enters, prev := 0, since := s.nowNs, bootAt := s.nowNs, resetAt := s.nowNs, held := none,
                 flushFor := none, poweredDown := false, quenchAfterFlush := false,
                 readySeen := s.sys.readySeen || k.enters == .ready } := by
  simp [State.afterResetState, ResetKind.enters]

theorem State.afterResetState_cause (k : ResetKind) (from_ : Nat) :
    (s.afterResetState k from_).getReg Reg.SYS_RST_CAUSE = BitVec.ofNat 32 (k.code * 2 ^ 28 + from_ * 256) := by
  unfold State.afterResetState
  dsimp only
  rw [State.setNat_getReg, if_neg (by decide), State.modSys_getReg, State.goState_getReg _ _ _ (by decide) (by decide),
    State.raise_getReg _ _ _ _ _ (by decide), State.setNat_getReg, if_pos rfl]

theorem State.afterResetState_lastTrans (k : ResetKind) (from_ : Nat) :
    (s.afterResetState k from_).getReg Reg.SYS_LAST_TRANS = BitVec.ofNat 32 k.enters.code := by
  unfold State.afterResetState
  dsimp only
  rw [State.setNat_getReg, if_pos rfl]
  rfl

end

/-! ## Performing a reset -/

section
variable (s : State)

theorem State.pstLaunch_ungated_stg (op : PstOp) : (s.pstLaunch op true).stg = s.stg := by
  unfold State.pstLaunch
  dsimp only
  split
  · exact (Foot.rawRead ..).stg rfl
  · exact (Foot.rawBlank ..).stg rfl
  · rfl
  · split <;> rfl

/-- What the parameter store still runs before a reset takes no energy: the budget and the frames stay. -/
theorem State.pstDrain_stg (n : Nat) : (s.pstDrain n).stg = s.stg := by
  induction n generalizing s with
  | zero => rfl
  | succ n ih =>
    have hrun : (s.finishRun 64).stg = s.stg := (Foot.finishRun ..).stg rfl
    unfold State.pstDrain
    dsimp only
    split
    · exact hrun
    split
    · rw [ih]
      exact hrun
    split
    · exact hrun
    · rw [ih, State.pstLaunch_ungated_stg]
      exact hrun

theorem State.pstQuiesce_stg : s.pstQuiesce.stg = s.stg := by
  unfold State.pstQuiesce
  rw [State.modPst_stg, (Foot.dropWriting _).stg rfl, State.pstDrain_stg]

/-- The state as a reset of kind `k` leaves it before BOOT or DIAG is entered. -/
def State.cleared (s : State) (k : ResetKind) : State :=
  let s := s.pstQuiesce
  let s := s.resetRegs k.clears fun _ => true
  let s := (s.resetBlocks k).stgLevels
  let s := if k.isCold then s.modPwr fun p => { p with pwrfail := false } else s
  s.countReset k

/-- The device is held in reset after a warm reset with an input still low. -/
def State.heldInReset (s : State) (k : ResetKind) : State :=
  if s.sys.sysRstLow || s.sys.perstLow then (if k.isCold then s else s.modSys fun x => { x with inReset := true }) else s

theorem State.performReset_eq {k : ResetKind} (h : k ≠ .diagnostic) :
    s.performReset k = (((s.cleared k).afterResetState k s.sys.state.code).heldInReset k).pstBoot := by
  simp only [State.performReset, beq_iff_eq, if_neg h]
  rfl

theorem State.cleared_sys (k : ResetKind) : (s.cleared k).sys = s.sys := by
  unfold State.cleared
  dsimp only
  rw [(Foot.countReset ..).sys rfl]
  split
  · rw [State.modPwr_sys, (Foot.stgLevels _).sys rfl, (Foot.resetBlocks ..).sys rfl]
    exact (Foot.pstQuiesce s).sys rfl
  · rw [(Foot.stgLevels _).sys rfl, (Foot.resetBlocks ..).sys rfl]
    exact (Foot.pstQuiesce s).sys rfl

theorem State.resetBlocks_frames (k : ResetKind) : (s.resetBlocks k).stg.frames = s.stg.frames := by
  unfold State.resetBlocks
  dsimp only
  split <;> split <;> simp [Stg.afterReset]

theorem State.cleared_frames (k : ResetKind) : (s.cleared k).stg.frames = s.stg.frames := by
  unfold State.cleared
  dsimp only
  rw [(Foot.countReset ..).stg rfl]
  split
  · rw [State.modPwr_stg, (Foot.stgLevels _).stg rfl, State.resetBlocks_frames]
    exact congrArg Stg.frames s.pstQuiesce_stg
  · rw [(Foot.stgLevels _).stg rfl, State.resetBlocks_frames]
    exact congrArg Stg.frames s.pstQuiesce_stg

theorem State.heldInReset_sys (k : ResetKind) : (s.heldInReset k).sys =
    { s.sys with inReset := s.sys.inReset || ((s.sys.sysRstLow || s.sys.perstLow) && !k.isCold) } := by
  unfold State.heldInReset
  cases s.sys.sysRstLow || s.sys.perstLow <;> cases k.isCold <;> simp

theorem Foot.heldInReset (k : ResetKind) : Touches 0x40000 s (s.heldInReset k) := by
  unfold State.heldInReset
  split
  · split
    · exact .refl ..
    · exact .modSys (.refl ..) rfl
  · exact .refl ..

/-- A reset but the diagnostic one enters BOOT. -/
theorem State.performReset_sys {k : ResetKind} (h : k ≠ .diagnostic) : ∃ n, (s.performReset k).sys =
    { s.sys with state := .boot, prev := 0, since := n, bootAt := n, resetAt := n, held := none, flushFor := none,
                 poweredDown := false, quenchAfterFlush := false,
                 inReset := s.sys.inReset || ((s.sys.sysRstLow || s.sys.perstLow) && !k.isCold) } := by
  refine ⟨(s.cleared k).nowNs, ?_⟩
  rw [s.performReset_eq h, (Foot.pstBoot _).sys rfl, State.heldInReset_sys, State.afterResetState_sys, State.cleared_sys,
    ResetKind.enters_eq_boot h]
  simp

theorem State.performReset_cause {k : ResetKind} (h : k ≠ .diagnostic) : (s.performReset k).getReg Reg.SYS_RST_CAUSE =
    BitVec.ofNat 32 (k.code * 2 ^ 28 + s.sys.state.code * 256) := by
  rw [s.performReset_eq h, (Foot.pstBoot _).regs _ (by decide) (by decide), (Foot.heldInReset ..).regs _ (by decide) (by decide),
    State.afterResetState_cause]

theorem State.performReset_med (k : ResetKind) : (s.performReset k).med = s.med := (Foot.performReset ..).med rfl

theorem State.performReset_frames {k : ResetKind} (h : k ≠ .diagnostic) : (s.performReset k).stg.frames = s.stg.frames := by
  rw [s.performReset_eq h, (Foot.pstBoot _).stg rfl, (Foot.heldInReset ..).stg rfl, (Foot.afterResetState ..).stg rfl,
    State.cleared_frames]

end

/-! ## Asking for a reset -/

theorem State.startSeal_phase (s : State) (kind : MonKind) : (s.startSeal kind).pfl.phase = .sealing := rfl

theorem State.startSeal_kind (s : State) (kind : MonKind) : (s.startSeal kind).pfl.kind = kind := rfl

section
variable {s : State} (k : ResetKind)

theorem State.requestReset_braced (h : s.sys.state = .braced) : s.requestReset k =
    (s.modSys fun x => { x with held := some (joinReset x.held k) }).setBits Reg.SYS_INT_STAT 2 := by
  simp [State.requestReset, h]

theorem State.requestReset_discarded (h : s.sys.state = .flush ∨ s.sys.state = .safe ∨ s.sys.state = .quench) :
    s.requestReset k = s := by
  rcases h with h | h | h <;> simp [State.requestReset, h]

theorem State.requestReset_flushes (h : s.sys.state = .ready ∨ s.sys.state = .readonly ∨ s.sys.state = .locked)
    (hf : s.sys.flushFor = none) : s.requestReset k =
      (((s.startSeal .reset).modSys fun x => { x with flushFor := some k }).setBits Reg.SYS_INT_STAT 2) := by
  rcases h with h | h | h <;> simp [State.requestReset, State.needsFlush, h, hf]

theorem State.requestReset_performs
    (h : s.sys.state = .boot ∨ s.sys.state = .warmup ∨ s.sys.state = .load ∨ s.sys.state = .recover)
    (hf : s.sys.flushFor = none) : s.requestReset k = s.performReset k := by
  rcases h with h | h | h | h <;> simp [State.requestReset, State.needsFlush, h, hf]

end

/-! ## The reset inputs -/

section
variable (s : State) (pin : ResetPin) (atNs : Nat)

theorem State.setPin_running (low : Bool) : (s.setPin pin low).running = s.running := by cases pin <;> rfl

theorem State.setPin_state (low : Bool) : (s.setPin pin low).sys.state = s.sys.state := by cases pin <;> rfl

theorem State.setPin_flushFor (low : Bool) : (s.setPin pin low).sys.flushFor = s.sys.flushFor := by cases pin <;> rfl

theorem State.setPin_low : ((s.setPin pin true).sys.sysRstLow || (s.setPin pin true).sys.perstLow) = true := by
  cases pin <;> simp [State.setPin]

theorem ResetPin.kind_ne_diagnostic : pin.kind ≠ .diagnostic := by cases pin <;> decide

theorem ResetPin.kind_isCold : pin.kind.isCold = false := by cases pin <;> rfl

/-- An input that goes low, as the reset it asks for sees the state. -/
def State.pinLow (s : State) (pin : ResetPin) (atNs : Nat) : State := (s.setPin pin true).clockTo atNs

theorem exec_resetInputLow {s : State} (h : s.running = true) :
    exec (.resetInputLow pin atNs) s = .next ((s.pinLow pin atNs).requestReset pin.kind) := by
  change execResetInputLow .. = _
  simp [execResetInputLow, State.setPin_running, h, State.pinLow]

theorem State.pinLow_sys : (s.pinLow pin atNs).sys = (s.setPin pin true).sys := State.clockTo_sys ..

theorem State.pinLow_state : (s.pinLow pin atNs).sys.state = s.sys.state := by
  rw [State.pinLow_sys, State.setPin_state]

theorem State.pinLow_flushFor : (s.pinLow pin atNs).sys.flushFor = s.sys.flushFor := by
  rw [State.pinLow_sys, State.setPin_flushFor]

theorem Foot.pinLow : Touches (parts [.reg 2, .reg 7, .reg 13, .reg 15, .sys, .dtm, .port0, .port1, .pst, .evr, .svy]) s
    (s.pinLow pin atNs) :=
  .clockTo (.modSys (.refl _ s) (by decide)) (by decide)

end

/-- Settles O9, by the four groups of states in which an input goes low. -/
theorem resetInputsActByState : Obligations.ResetInputsActByState := by
  unfold Obligations.ResetInputsActByState
  intro s pin atNs hrun
  have he := exec_resetInputLow pin atNs hrun
  have hst := s.pinLow_state pin atNs
  have hff := s.pinLow_flushFor pin atNs
  have hfoot := Foot.pinLow s pin atNs
  refine ⟨fun h => ?_, fun h => ?_, fun h hf => ?_, fun h hf => ?_⟩
  · rw [he, State.requestReset_braced _ (hst.trans h)]
    rfl
  · rw [he, State.requestReset_discarded _ (by rwa [hst])]
    rfl
  · refine ⟨_, he, ?_⟩
    rw [State.requestReset_flushes _ (by rwa [hst]) (hff.trans hf)]
    have hseal := Foot.startSeal (s.pinLow pin atNs) .reset
    refine ⟨?_, ?_, ?_, ?_, ?_, ?_, ?_⟩
    · rw [State.setBits_pfl, State.modSys_pfl, State.startSeal_phase]
    · rw [State.setBits_pfl, State.modSys_pfl, State.startSeal_kind]
    · rw [State.setBits_sys, State.modSys_sys, hseal.sys rfl, s.pinLow_sys pin atNs]
    · rw [State.setBits_getReg, if_pos rfl, State.modSys_getReg, hseal.regs _ (by decide) (by decide),
        hfoot.regs _ (by decide) (by decide)]
      rfl
    · rw [State.setBits_stg, State.modSys_stg, hseal.stg rfl, hfoot.stg (by decide)]
    · rw [State.setBits_med, State.modSys_med, hseal.med rfl, hfoot.med (by decide)]
    · rw [State.setBits_cds, State.modSys_cds, hseal.cds rfl, hfoot.cds (by decide)]
  · refine ⟨_, he, ?_⟩
    rw [State.requestReset_performs _ (by rwa [hst]) (hff.trans hf)]
    obtain ⟨n, hsys⟩ := (s.pinLow pin atNs).performReset_sys pin.kind_ne_diagnostic
    refine ⟨by rw [hsys], ?_, by rw [hsys], ?_, ?_⟩
    · rw [hsys, s.pinLow_sys pin atNs]
      simp [s.setPin_low pin, pin.kind_isCold]
    · rw [State.performReset_cause _ pin.kind_ne_diagnostic, hst]
    · rw [State.performReset_med, hfoot.med (by decide)]

section
variable {s : State} (atNs : Nat)

theorem exec_resetInputRelease (pin : ResetPin) (hr : s.sys.inReset = true) (hs : s.sys.supplies = true)
    (h1 : (s.setPin pin false).sys.sysRstLow = false) (h2 : (s.setPin pin false).sys.perstLow = false) :
    exec (.resetInputRelease pin atNs) s = .next (((s.setPin pin false).clockTo atNs).modSys fun x =>
      { x with inReset := false, since := ((s.setPin pin false).clockTo atNs).nowNs,
               bootAt := ((s.setPin pin false).clockTo atNs).nowNs }) := by
  have h3 : (s.setPin pin false).sys.inReset = true := by cases pin <;> exact hr
  have h4 : (s.setPin pin false).sys.supplies = true := by cases pin <;> exact hs
  change execResetInputRelease .. = _
  simp [execResetInputRelease, h1, h2, h3, h4]

/-- The end of Rest of a reset flush, as the reset sees the state. -/
def State.restOver (s : State) (atNs : Nat) : State :=
  (((s.clockTo atNs).restLine).setPhase .done).modSys fun x => { x with flushFor := none }

theorem exec_resetFlushDone {k : ResetKind} (hf : s.sys.flushFor = some k) (hp : s.pfl.phase = .rest) :
    exec (.resetFlushDone atNs) s = .next ((s.restOver atNs).performReset k) := by
  change execResetFlushDone .. = _
  simp [execResetFlushDone, hf, hp, State.restOver]

theorem Foot.restOver (s : State) : Touches
    (parts [.reg 2, .reg 7, .reg 13, .reg 15, .sys, .dtm, .port0, .port1, .pfl, .pst, .evr, .svy]) s (s.restOver atNs) :=
  .modSys (.step (.step (.clockTo (.refl _ s) (by decide)) (Foot.restLine ..) (by decide)) (Foot.setPhase ..) (by decide))
    (by decide)

theorem State.restOver_state (s : State) : (s.restOver atNs).sys.state = s.sys.state := by
  unfold State.restOver
  rw [State.modSys_sys, (Foot.setPhase ..).sys rfl, (Foot.restLine _).sys rfl, State.clockTo_sys]

end

/-- Settles O10: a release clears the hold; the end of a reset flush performs the reset. -/
theorem resetsEnd : Obligations.ResetsEnd := by
  unfold Obligations.ResetsEnd
  intro s atNs
  refine ⟨fun pin hr hs h1 h2 => ⟨_, exec_resetInputRelease atNs pin hr hs h1 h2, ?_⟩, fun k hf hp hk =>
    ⟨_, exec_resetFlushDone atNs hf hp, ?_⟩⟩
  · have hfoot : Touches (parts [.reg 2, .reg 7, .reg 13, .reg 15, .sys, .dtm, .port0, .port1, .pst, .evr, .svy]) s
        ((s.setPin pin false).clockTo atNs) := .clockTo (.modSys (.refl _ s) (by decide)) (by decide)
    obtain ⟨_, hpst⟩ := (Recorded.clockTo (R := recReg) (fun _ h => h) (s.setPin pin false) atNs).pst
    refine ⟨?_, rfl, hfoot.med (by decide), hfoot.stg (by decide), ?_⟩
    · rw [State.modSys_sys, State.clockTo_sys]
      rfl
    · rw [State.modSys_pst, hpst]
      rfl
  · have hfoot := Foot.restOver atNs s
    obtain ⟨n, hsys⟩ := (s.restOver atNs).performReset_sys hk
    refine ⟨by rw [hsys], by rw [hsys], ?_, ?_, ?_⟩
    · rw [State.performReset_cause _ hk, State.restOver_state]
    · rw [State.performReset_med, hfoot.med (by decide)]
    · rw [State.performReset_frames _ hk, hfoot.stg (by decide)]

/-! ## Supplies good, and their loss -/

section
variable {s : State}

theorem exec_suppliesGood (straps : BitVec 5) (retained : Bool) (offNs : Nat) (h : s.sys.supplies = false) :
    exec (.suppliesGood straps retained offNs) s =
      .next ((((s.freshStart straps retained offNs).stgLevels).afterResetState .suppliesGood 0).pstBoot) := by
  change execSuppliesGood .. = _
  simp [execSuppliesGood, h]

/-- What BOOT does after the fresh start leaves the parts that supplies good decide. -/
theorem Foot.afterFreshStart (s : State) (k : ResetKind) (from_ : Nat) : Touches
    (parts [.reg 0, .reg 2, .reg 3, .reg 7, .reg 12, .reg 13, .reg 14, .reg 15, .sys, .dtm, .port0, .port1, .cke, .pst, .evr, .thm, .svy]) s
    ((s.stgLevels.afterResetState k from_).pstBoot) :=
  .step (.step (.step (.refl _ s) (Foot.stgLevels _) (by decide)) (Foot.afterResetState ..) (by decide)) (Foot.pstBoot _) (by decide)

theorem exec_supplyLoss (h : s.sys.supplies = true) :
    exec .supplyLoss s = .next (s.cutMonument.pstCut.modSys fun x => { x with supplies := false }) := by
  change execSupplyLoss .. = _
  simp [execSupplyLoss, h]

theorem State.cutMonument_of_ne (h : s.pfl.phase ≠ .monument) : s.cutMonument = s := by
  simp [State.cutMonument, h]

theorem Foot.cutMonument (s : State) : Touches (parts [.saved, .pfl, .free]) s s.cutMonument := by
  unfold State.cutMonument
  split
  · refine .useFree (.useFree (.modPfl ?_ (by decide)) (by decide)) (by decide)
    split
    · exact (Foot.saveMap s).mono (by decide)
    · exact .refl _ s
  · exact .refl _ s

end

/-- Settles O8: a fresh start and the entry to BOOT; a cut-off monument, a cut-off operation of the parameter store, and the end
of supplies good. -/
theorem suppliesComeAndGo : Obligations.SuppliesComeAndGo := by
  unfold Obligations.SuppliesComeAndGo
  intro s
  refine ⟨fun straps retained offNs h => ⟨_, exec_suppliesGood straps retained offNs h, ?_⟩, fun h =>
    ⟨_, exec_supplyLoss h, ?_⟩⟩
  · have hfoot := Foot.afterFreshStart (s.freshStart straps retained offNs) .suppliesGood 0
    have hsys := State.afterResetState_sys (s.freshStart straps retained offNs).stgLevels .suppliesGood 0
    rw [← (Foot.pstBoot _).sys rfl, (Foot.stgLevels _).sys rfl] at hsys
    refine ⟨by rw [hsys]; rfl, by rw [hsys]; rfl, by rw [hsys]; rfl, by rw [hsys]; rfl, ?_, ?_, ?_, hfoot.med (by decide), ?_, ?_, ?_, ?_,
      ?_, hfoot.pending⟩
    · rw [(Foot.pstBoot _).regs _ (by decide) (by decide), State.afterResetState_cause]
      rfl
    · rw [(Foot.pstBoot _).regs _ (by decide) (by decide), State.afterResetState_lastTrans]
      rfl
    · rw [hfoot.pwr (by decide)]
      rfl
    · rw [hfoot.plat (by decide)]
      rfl
    · rw [hfoot.plat (by decide)]
      rfl
    · rw [hfoot.plat (by decide)]
      rfl
    · rw [hfoot.stg (by decide)]
      rfl
    · rw [hfoot.svc (by decide)]
      rfl
  · have hcut := Foot.cutMonument s
    have hpst := Foot.pstCut s.cutMonument
    refine ⟨?_, fun hp => ?_, .modSys (.step (hcut.mono (by decide)) hpst (by decide)) (by decide)⟩
    · rw [State.modSys_sys, hpst.sys rfl, hcut.sys (by decide)]
    · rw [State.modSys_saved, State.modSys_pfl, hpst.saved rfl, hpst.pfl rfl, State.cutMonument_of_ne hp]
      exact ⟨rfl, rfl⟩

end Sys2Proof.Machine
end
section
/-! # The bank: cells, charging and an overdue assay (R278 to R282, R288) -/

namespace Sys2Proof.Machine

/-! ## A cell fault and a degraded bank -/

section
variable (s : State)

theorem State.closeAssay_pwr (result : Nat) (again : Bool) : (s.closeAssay result again).pwr =
    { s.pwr with assay := assayInit, assayResult := result, assayWanted := again, forcedCap := none } := by
  unfold State.closeAssay
  rw [(Foot.endAssayCmd _).pwr rfl, State.raise_pwr, State.clearBits_pwr, State.setBits_pwr, State.modPwr_pwr]

/-- A cell fault ends the assay that measures, if one does. -/
def State.dropAssay (s : State) : State :=
  if s.pwr.assay.phase == .idle || s.pwr.assay.phase == .waitGate then s else s.closeAssay 5 false

theorem State.dropAssay_pwr : s.dropAssay.pwr.conv = s.pwr.conv ∧ s.dropAssay.pwr.faultCell = s.pwr.faultCell ∧
    s.dropAssay.pwr.cellFault = s.pwr.cellFault := by
  unfold State.dropAssay
  split
  · exact ⟨rfl, rfl, rfl⟩
  · rw [State.closeAssay_pwr]
    exact ⟨rfl, rfl, rfl⟩

/-- A cell fault turns the converter off, names the cell, and its cause is in force and latched. -/
theorem State.cellFault_pwr (i : Nat) (c : BankCause) :
    (s.cellFault i c).pwr.conv = .off ∧ (s.cellFault i c).pwr.faultCell = i ∧
    (s.cellFault i c).pwr.cellFault = s.pwr.cellFault ||| 2 ^ i ∧ (s.cellFault i c).pwr.cause = c ∧
    c ∈ (s.cellFault i c).pwr.latched := by
  obtain ⟨hconv, hcell, hfault⟩ := State.dropAssay_pwr (s.modPwr fun p =>
    { p with conv := .off, cellFault := p.cellFault ||| 2 ^ i, faultCell := i, gdIn := p.gdIn })
  refine ⟨?_, ?_, ?_, ?_, State.degrade_latches ..⟩ <;> unfold State.cellFault <;>
    rw [State.degrade_pwr, State.raise_pwr, State.flag_pwr]
  · exact hconv
  · exact hcell
  · exact hfault

theorem State.setBudget_getReg (o : Nat) (h : o ≠ Reg.PWR_INT_STAT) : s.setBudget.getReg o = s.getReg o := by
  unfold State.setBudget
  extract_lets b need fell t
  split
  · rw [State.setBits_getReg, if_neg h]
    rfl
  · rfl

theorem State.setBank_getReg (b : BankState) (o : Nat) (h : o ≠ Reg.PWR_INT_STAT) : (s.setBank b).getReg o = s.getReg o := by
  unfold State.setBank
  extract_lets old t u v
  have ht : t.getReg o = s.getReg o := rfl
  have hu : u.getReg o = t.getReg o := by
    unfold u
    split
    · rw [State.setBits_getReg, if_neg h]
    · rfl
  have hv : v.getReg o = u.getReg o := by
    unfold v
    split
    · rw [State.setBits_getReg, if_neg h]
    · rfl
  split
  · rw [State.setBits_getReg, if_neg h, hv, hu, ht]
  · rw [hv, hu, ht]

/-- A bank becomes DEGRADED without a change of the registers but the recorder's and PWR_INT_STAT. -/
theorem State.degrade_getReg (c : BankCause) (latch : Bool) (o : Nat) (h : recReg o = false)
    (h' : o ≠ Reg.PWR_INT_STAT) : (s.degrade c latch).getReg o = s.getReg o := by
  unfold State.degrade
  dsimp only
  rw [State.setBudget_getReg _ _ h', State.raise_getReg _ _ _ _ _ h]
  split
  · rw [State.setBank_getReg _ _ _ h', State.modPwr_getReg]
  · rw [State.modPwr_getReg]

end

/-! ## The commands -/

section
variable {s : State}

theorem exec_chargeOvervoltStop_none {cells : List Nat} {bankV : Nat} (hn : s.pwr.cells.getD 0 ≠ 0) (hv : 16800 ≤ bankV)
    (hc : s.pwr.overvolt (cells.take (s.pwr.cells.getD 0)) = []) :
    exec (.chargeOvervoltStop bankV cells) s = .next (s.modPwr fun p =>
      { p with bankV := bankV, cellV := cells.take (s.pwr.cells.getD 0),
               conv := if p.conv = .charge ∨ p.conv = .float then .off else p.conv }) := by
  change execChargeOvervoltStop .. = _
  simp [execChargeOvervoltStop, hn, hc, hv, State.modPwr]

theorem exec_chargeOvervoltStop_one {cells : List Nat} {i : Nat} (bankV : Nat) (hn : s.pwr.cells.getD 0 ≠ 0)
    (hc : s.pwr.overvolt (cells.take (s.pwr.cells.getD 0)) = [i]) :
    exec (.chargeOvervoltStop bankV cells) s = .next (((s.modPwr fun p =>
      { p with bankV := bankV, cellV := cells.take (s.pwr.cells.getD 0),
               conv := if p.conv = .charge ∨ p.conv = .float then .off else p.conv })).cellFault i .cellOvervolt) := by
  change execChargeOvervoltStop .. = _
  simp [execChargeOvervoltStop, hn, hc, State.modPwr]

/-- The balancing switches after a measurement (R279). -/
def State.balanceAfter (s : State) (cells : List Nat) : Nat :=
  if s.pwr.conv == .discharge || !s.bit Reg.PWR_CTL 1 then 0
  else listSum (cells.zipIdx.map fun e =>
    if balanceNext (s.pwr.balance.testBit e.2) e.1 (listSum cells) (s.pwr.cells.getD 0) s.pwr.cellMv then 2 ^ e.2 else 0)

theorem State.balanceAfter_discharge (cells : List Nat) (h : s.pwr.conv = .discharge) : s.balanceAfter cells = 0 := by
  simp [State.balanceAfter, h]

/-- A measurement that finds every cell below the overvolt limit and above half the mean, outside CHARGE, makes no fault. -/
theorem exec_cellMeasure_sound {cells : List Nat} (bankI rise : Int) (limit atNs : Nat) (hn : s.pwr.cells.getD 0 ≠ 0)
    (hs : s.sys.supplies = true) (hc : s.pwr.conv ≠ .charge)
    (hv : ∀ v ∈ cells.take (s.pwr.cells.getD 0), v ≤ s.pwr.cellMv + 150 ∧
      listSum (cells.take (s.pwr.cells.getD 0)) ≤ v * 2 * s.pwr.cells.getD 0) :
    exec (.cellMeasure cells bankI rise limit atNs) s = .next ((s.clockTo atNs).modPwr fun p =>
      { p with cellV := cells.take (s.pwr.cells.getD 0), limitCycles := limit,
               balance := (s.clockTo atNs).balanceAfter (cells.take (s.pwr.cells.getD 0)) }) := by
  have hover : ((cells.take (s.pwr.cells.getD 0)).zipIdx.filter fun e => decide (s.pwr.cellMv + 150 < e.1)) = [] := by
    refine List.filter_eq_nil_iff.2 fun e he => ?_
    have := (hv e.1 (List.fst_mem_of_mem_zipIdx he)).1
    simp only [decide_eq_true_eq]
    omega
  have hshort (c : Prop) [Decidable c] : ((cells.take (s.pwr.cells.getD 0)).zipIdx.filter fun e =>
      decide c && decide (e.1 * 2 * s.pwr.cells.getD 0 < listSum (cells.take (s.pwr.cells.getD 0)))) = [] := by
    refine List.filter_eq_nil_iff.2 fun e he => ?_
    have := (hv e.1 (List.fst_mem_of_mem_zipIdx he)).2
    simp only [Bool.and_eq_true, decide_eq_true_eq, not_and]
    omega
  change execCellMeasure .. = _
  simp only [execCellMeasure, hn, hs, decide_false, Bool.not_true, Bool.or_false, Bool.false_eq_true, if_false,
    State.clockTo_pwr, State.modPwr_pwr, Pwr.overvolt, hshort, hover]
  simp only [List.map_nil, List.foldl_nil]
  rw [if_neg (by simp [hc])]
  simp [State.modPwr, State.balanceAfter]

theorem exec_noBankCheck {bankV atNs : Nat} (hb : s.pwr.bank = .charging)
    (he : expired s.pwr.chargeFrom 2000000000 (s.clockTo atNs).nowNs = true) (hv : bankV < s.pwr.chargeV0 + 50)
    (hf : s.pwr.floated = false) : exec (.noBankCheck bankV atNs) s =
      .next (((s.clockTo atNs).modPwr fun p => { p with conv := .off, bankV := bankV }).degrade .noBank true) := by
  change execNoBankCheck .. = _
  simp [execNoBankCheck, hb, he, hv, hf]

theorem exec_chargeTimeout {atNs : Nat} (hb : s.pwr.bank = .charging)
    (he : expired s.pwr.chargeFrom 600000000000 (s.clockTo atNs).nowNs = true) (hf : s.pwr.floated = false) :
    exec (.chargeTimeout atNs) s = .next ((((s.clockTo atNs).modPwr fun p => { p with conv := .off }).flag
      Reg.PWR_ERR_STAT Reg.PWR_ERR_EN 5 false).degrade .chargeFault true) := by
  change execChargeTimeout .. = _
  simp [execChargeTimeout, hb, he, hf]

theorem exec_floatReached {bankV : Nat} (hc : s.pwr.conv = .charge ∨ s.pwr.conv = .float) (hv : s.pwr.floatMv ≤ bankV) :
    exec (.floatReached bankV) s = .next (s.modPwr fun p =>
      { p with bankV := bankV, conv := .float, assayWanted := p.assayWanted || !p.floated, floated := true,
               chargeFrom := none }) := by
  change execFloatReached .. = _
  simp [execFloatReached, hc, hv]

end

/-- Settles O14, clause by clause: the overvolt stop without and with a fault, the sound measurement, the two checks of charging,
and float. -/
theorem cellsAndCharging : Obligations.CellsAndCharging := by
  unfold Obligations.CellsAndCharging
  intro s
  refine ⟨fun bankV cells hn hv hc => exec_chargeOvervoltStop_none hn hv hc, fun bankV cells i hn hc => ?fault,
    fun cells bankI rise limit atNs hn hs hc hv => ?measure, fun bankV atNs hb he hv hf => ?noBank,
    fun atNs hb he hf => ?timeout, fun bankV hc hv => exec_floatReached hc hv⟩
  case fault => exact ⟨_, exec_chargeOvervoltStop_one bankV hn hc, State.cellFault_pwr ..⟩
  case measure =>
    refine ⟨_, exec_cellMeasure_sound bankI rise limit atNs hn hs hc hv, ?_⟩
    beta_reduce
    rw [State.modPwr_stg, State.clockTo_stg, State.modPwr_pwr, State.clockTo_pwr]
    exact ⟨rfl, rfl, rfl, fun hd => State.balanceAfter_discharge _ (by rw [State.clockTo_pwr]; exact hd), rfl, rfl⟩
  case noBank =>
    refine ⟨_, exec_noBankCheck hb he hv hf, ?_, ?_, ?_, State.degrade_latches .., by rw [State.degrade_stg]⟩ <;>
      rw [State.degrade_pwr, State.modPwr_pwr, State.clockTo_pwr]
    exact if_pos (.inl hb)
  case timeout =>
    refine ⟨_, exec_chargeTimeout hb he hf, ?off, ?degraded, ?cause, State.degrade_latches .., ?flagged, by rw [State.degrade_stg]⟩
    case flagged =>
      rw [State.degrade_getReg _ _ _ _ (by decide) (by decide), State.flag_stat _ _ _ _ _ (by decide),
        State.modPwr_getReg, State.clockTo_getReg _ _ _ (by decide)]
      rfl
    all_goals rw [State.degrade_pwr, State.flag_pwr, State.modPwr_pwr, State.clockTo_pwr]
    case degraded => exact if_pos (.inl hb)

/-! ## An assay one day past due -/

section
variable {s : State} {atNs : Nat}

theorem exec_assaySlackExpiry_cannot (ho : s.pwr.assayOverdue = true)
    (hp : s.pwr.assay.phase = .idle ∨ s.pwr.assay.phase = .waitGate)
    (ht : s.pwr.assayTimer + (s.conf.assayDays + 1) * 86400000000000 ≤ (s.clockTo atNs).datumNs)
    (hcan : (s.clockTo atNs).assayCan = false) : exec (.assaySlackExpiry atNs) s =
      .next (((s.clockTo atNs).modPwr fun p => { p with assayWanted := true }).degrade .assayOverdue false) := by
  change execAssaySlackExpiry .. = _
  simp [execAssaySlackExpiry, ho, hp, ht, hcan]

theorem exec_assaySlackExpiry_can (ho : s.pwr.assayOverdue = true)
    (hp : s.pwr.assay.phase = .idle ∨ s.pwr.assay.phase = .waitGate)
    (ht : s.pwr.assayTimer + (s.conf.assayDays + 1) * 86400000000000 ≤ (s.clockTo atNs).datumNs)
    (hcan : (s.clockTo atNs).assayCan = true)
    (he : ((s.clockTo atNs).assayEnergy : Int) ≤
      (meterOf (s.clockTo atNs).usableFrac (s.clockTo atNs).conf.monReserve (s.clockTo atNs).extraMw 0).surplus) :
    exec (.assaySlackExpiry atNs) s = .next ((((s.clockTo atNs).modPwr fun p =>
      { p with forcedCap := some (s.clockTo atNs).assayCap, assayWanted := true }).setBudget).forceWb.assayGate) := by
  simp only [State.clockTo_conf] at he
  change execAssaySlackExpiry .. = _
  simp [execAssaySlackExpiry, ho, hp, ht, hcan, Int.not_lt.2 he]

theorem State.clockTo_extraMw (s : State) (atNs : Nat) : (s.clockTo atNs).extraMw = s.extraMw :=
  congrArg BitVec.toNat (s.clockTo_getReg atNs _ (by decide))

end

/-- Settles O18: the surplus at an empty staging and the state decide between the forced assay and the degraded bank. -/
theorem assayOverdue : Obligations.AssayOverdue := by
  unfold Obligations.AssayOverdue
  intro s atNs ho hp ht
  refine ⟨fun hcan => ⟨_, exec_assaySlackExpiry_cannot ho hp ht hcan, ?_⟩, fun hcan he =>
    exec_assaySlackExpiry_can ho hp ht hcan ?_⟩
  · beta_reduce
    rw [State.degrade_pwr, State.degrade_stg, State.modPwr_pwr, State.clockTo_pwr]
    exact ⟨rfl, rfl, fun hb => if_pos (.inr hb), rfl⟩
  · rw [State.clockTo_conf, State.clockTo_extraMw]
    exact he

end Sys2Proof.Machine
end
section
/-! # Links, link IDE and the HDM decoders (R51, R58, R60, R64 to R70, R380) -/

namespace Sys2Proof.Machine

/-! ## What recording and the passing of time leave of a port -/

section
variable {s t : State} {R : Nat → Bool} {tm : Bool} {α : Type}

/-- Recording changes a port's event logs only. -/
theorem Recorded.port_keeps (r : Recorded R tm s t) {f : Port → α} (h : ∀ x l o, f { x with logs := l, logOvf := o } = f x)
    (q : Nat) : f (t.port q) = f (s.port q) := by
  obtain ⟨_, _, h0⟩ := r.port0
  obtain ⟨_, _, h1⟩ := r.port1
  unfold State.port
  split
  · rw [h0, h]
  · rw [h1, h]

end

section
variable (s : State) {α : Type} {f : Port → α} (h : ∀ x l o, f { x with logs := l, logOvf := o } = f x) (q : Nat)
include h

theorem State.raise_port_keeps (c a b : Nat) : f ((s.raise c a b).port q) = f (s.port q) :=
  (Recorded.raise (tm := false) all_true s c a b).port_keeps h q

theorem State.flag_port_keeps (st en n : Nat) (l : Bool) : f ((s.flag st en n l).port q) = f (s.port q) :=
  (Recorded.flag (tm := false) all_true s en n l rfl).port_keeps h q

theorem State.clockTo_port_keeps (ns : Nat) : f ((s.clockTo ns).port q) = f (s.port q) :=
  (Recorded.clockTo all_true s ns).port_keeps h q

theorem State.portCopy_port_keeps (p : Nat) (r : EvrRec) : f ((s.portCopy p r).port q) = f (s.port q) := by
  unfold State.portCopy
  dsimp only
  split
  · rw [State.modPort_port_keeps fun x => h x x.logs _]
    rfl
  · exact State.modPort_port_keeps (fun x => h x _ x.logOvf) s p q

end

theorem State.setReg_port (s : State) (o : Nat) (v : Word) (q : Nat) : (s.setReg o v).port q = s.port q := rfl

theorem State.setBits_port (s : State) (o n q : Nat) : (s.setBits o n).port q = s.port q := rfl

theorem State.incReg_port (s : State) (o q : Nat) : (s.incReg o).port q = s.port q := rfl

section
variable (s : State) (port : Fin 2)

/-! Registers of a port that recording leaves. -/

theorem recReg_laneFail : recReg (Reg.HPT_LANE_FAIL port.val) = false := by revert port; decide

theorem recReg_retrainCnt : recReg (Reg.HPT_RETRAIN_CNT port.val) = false := by revert port; decide

theorem recReg_errStat : recReg (Reg.HPT_ERR_STAT port.val) = false := by revert port; decide

theorem recReg_intStat : recReg (Reg.HPT_INT_STAT port.val) = false := by revert port; decide

theorem recReg_ideErrCnt : recReg (Reg.HPT_IDE_ERR_CNT port.val) = false := by revert port; decide

theorem State.clockTo_linkable (atNs : Nat) : (s.clockTo atNs).linkable port.val = s.linkable port.val := by
  have hctl : recReg (Reg.HPT_CTL port.val) = false := by revert port; decide
  unfold State.linkable State.bit State.portPresent State.running
  rw [State.clockTo_getReg _ _ _ hctl, State.clockTo_conf, State.clockTo_sys]

end

theorem State.portCopy_errStat (s : State) (port : Fin 2) (r : EvrRec) :
    (s.portCopy port.val r).getReg (Reg.HPT_ERR_STAT port.val) = s.getReg (Reg.HPT_ERR_STAT port.val) := by
  have hne : Reg.HPT_ERR_STAT port.val ≠ Reg.HPT_EVT_OVF port.val := by revert port; decide
  unfold State.portCopy
  dsimp only
  split
  · rw [State.modPort_getReg, State.incReg_getReg, if_neg hne]
  · rw [State.modPort_getReg]

/-! ## Lane groups (R60) -/

section
variable (lanes most failed : Nat)

/-- The group chosen is no wider than the port and the partner, and holds no failed lane. -/
theorem laneGroup_spec : (laneGroup lanes most failed).1 ≤ most ∧ (laneGroup lanes most failed).1 ≤ lanes ∧
    (laneGroup lanes most failed).2 &&& failed = 0 := by
  unfold laneGroup
  extract_lets fits groups
  cases hg : groups.find? fun g => g.2 &&& failed == 0 with
  | none => simp
  | some g =>
    obtain ⟨w, hw, hmem⟩ := List.mem_flatMap.1 (List.mem_of_find?_eq_some hg)
    obtain ⟨k, -, rfl⟩ := List.mem_map.1 hmem
    have hfree := List.find?_some hg
    simp only [fits, List.mem_filter, Bool.and_eq_true, decide_eq_true_eq] at hw
    exact ⟨hw.2.2, hw.2.1, by simpa using hfree⟩

end

/-! ## Training and a lost lane -/

section
variable {s : State} {port : Fin 2}

/-- A link trains: the port's rate, width and lanes, and the flit size. -/
theorem exec_hostLinkTrain {width : Nat} (rate : Fin 4) (flit68 : Bool) (hl : s.linkable port.val = true)
    (hw : (laneGroup s.lanes width (s.regNat (Reg.HPT_LANE_FAIL port.val))).1 ≠ 0) :
    exec (.hostLinkTrain port rate width flit68) s = .next (s.modPort port.val fun x =>
      { x with linkUp := true, rate := min rate.val (s.conf.maxRate - s.regField (Reg.HPT_LINK_CTL port.val) 0 2),
               width := (laneGroup s.lanes width (s.regNat (Reg.HPT_LANE_FAIL port.val))).1,
               laneOk := (laneGroup s.lanes width (s.regNat (Reg.HPT_LANE_FAIL port.val))).2,
               flit256 := min rate.val (s.conf.maxRate - s.regField (Reg.HPT_LINK_CTL port.val) 0 2) == 3 ||
                 !(flit68 && s.conf.flit68 == 1) }) := by
  change execHostLinkTrain .. = _
  simp only [execHostLinkTrain, hl, Bool.not_true, Bool.false_eq_true, if_false]
  rw [if_neg hw]

theorem exec_laneFail_lock {lane : Fin 16} (atNs : Nat) (hl : s.linkable port.val = true)
    (hu : (s.port port.val).linkUp = true) (ho : (s.port port.val).laneOk.testBit lane.val = true) :
    exec (.laneFail port lane true atNs) s = .next ((s.clockTo atNs).laneFails port.val lane.val) := by
  have hu' : ((s.clockTo atNs).port port.val).linkUp = true :=
    (s.clockTo_port_keeps (f := Port.linkUp) (fun _ _ _ => rfl) _ atNs).trans hu
  have ho' : ((s.clockTo atNs).port port.val).laneOk = (s.port port.val).laneOk :=
    s.clockTo_port_keeps (fun _ _ _ => rfl) _ atNs
  change execLaneFail .. = _
  simp [execLaneFail, State.clockTo_linkable, hl, hu', ho', ho]

/-- What a failed lane records, before the width is settled again. -/
def State.laneLost (s : State) (p lane : Nat) : State :=
  (((((s.setBits (Reg.HPT_LANE_FAIL p) (2 ^ lane)).hptFlag p 0 true).setBits (Reg.HPT_INT_STAT p) 8).incReg
    (Reg.HPT_RETRAIN_CNT p)).raise 0x2101 lane p)

/-- A failed lane changes its port in width, lanes and what it holds; the port's rate stays. -/
theorem State.laneFails_eq (p lane : Nat) : ∃ g : Port → Port, (∀ x, (g x).rate = x.rate) ∧
    s.laneFails p lane = (s.laneLost p lane).modPort p g := by
  unfold State.laneFails
  extract_lets t u
  split
  split
  · exact ⟨Port.down, fun _ => rfl, rfl⟩
  next w map _ _ => exact ⟨fun x => { x with width := w, laneOk := map }, fun _ => rfl, rfl⟩

theorem State.laneLost_rate (p lane q : Nat) : ((s.laneLost p lane).port q).rate = (s.port q).rate := by
  unfold State.laneLost State.hptFlag
  rw [State.raise_port_keeps (f := Port.rate) _ (fun _ _ _ => rfl), State.incReg_port, State.setBits_port,
    State.flag_port_keeps (f := Port.rate) _ (fun _ _ _ => rfl), State.setBits_port]

theorem State.laneLost_laneFail (lane : Nat) : (s.laneLost port.val lane).getReg (Reg.HPT_LANE_FAIL port.val) =
    s.getReg (Reg.HPT_LANE_FAIL port.val) ||| BitVec.ofNat 32 (2 ^ lane) := by
  unfold State.laneLost State.hptFlag
  rw [State.raise_getReg _ _ _ _ _ (recReg_laneFail port), State.incReg_getReg, if_neg (by revert port; decide),
    State.setBits_getReg, if_neg (by revert port; decide), State.flag_getReg _ _ _ _ _ _ (recReg_laneFail port)
    (by revert port; decide), State.setBits_getReg, if_pos rfl]

theorem State.laneLost_retrainCnt (lane : Nat) : (s.laneLost port.val lane).getReg (Reg.HPT_RETRAIN_CNT port.val) =
    s.getReg (Reg.HPT_RETRAIN_CNT port.val) + 1 := by
  unfold State.laneLost State.hptFlag
  rw [State.raise_getReg _ _ _ _ _ (recReg_retrainCnt port), State.incReg_getReg, if_pos rfl,
    State.setBits_getReg, if_neg (by revert port; decide), State.flag_getReg _ _ _ _ _ _ (recReg_retrainCnt port)
    (by revert port; decide), State.setBits_getReg, if_neg (by revert port; decide)]

theorem State.laneLost_errStat (lane : Nat) : (s.laneLost port.val lane).getReg (Reg.HPT_ERR_STAT port.val) =
    s.getReg (Reg.HPT_ERR_STAT port.val) ||| 1 := by
  unfold State.laneLost State.hptFlag
  rw [State.raise_getReg _ _ _ _ _ (recReg_errStat port), State.incReg_getReg, if_neg (by revert port; decide),
    State.setBits_getReg, if_neg (by revert port; decide), State.flag_stat _ _ _ _ _ (recReg_errStat port),
    State.setBits_getReg, if_neg (by revert port; decide)]
  rfl

theorem State.laneLost_sys (p lane : Nat) : (s.laneLost p lane).sys = s.sys := by
  simp [State.laneLost, State.hptFlag]

theorem State.laneLost_stg (p lane : Nat) : (s.laneLost p lane).stg = s.stg := by
  simp [State.laneLost, State.hptFlag]

end

/-- Settles O19: the trained width is that of the lane group; a lost lane is recorded, then the width settles. -/
theorem linkTraining : Obligations.LinkTraining := by
  unfold Obligations.LinkTraining
  intro s port
  refine ⟨fun rate width flit68 hl hw => ⟨_, exec_hostLinkTrain rate flit68 hl hw, ?_⟩, fun lane atNs hl hu ho =>
    ⟨_, exec_laneFail_lock atNs hl hu ho, ?_⟩⟩
  · obtain ⟨hmost, hlanes, hfree⟩ := laneGroup_spec s.lanes width (s.regNat (Reg.HPT_LANE_FAIL port.val))
    rw [State.modPort_port_same]
    exact ⟨rfl, rfl, rfl, hmost, hlanes, hfree, .modPort (.refl _ s) (by decide) (by decide)⟩
  · obtain ⟨g, hg, he⟩ := (s.clockTo atNs).laneFails_eq port.val lane.val
    rw [he, State.modPort_getReg, State.modPort_getReg, State.modPort_getReg, State.laneLost_laneFail,
      State.laneLost_retrainCnt, State.laneLost_errStat, State.clockTo_getReg _ _ _ (recReg_laneFail port),
      State.clockTo_getReg _ _ _ (recReg_retrainCnt port), State.clockTo_getReg _ _ _ (recReg_errStat port)]
    refine ⟨rfl, rfl, rfl, ?_, ?_, ?_⟩
    · rw [State.modPort_port_same, hg, State.laneLost_rate, State.clockTo_port_keeps (f := Port.rate) _ (fun _ _ _ => rfl)]
    · rw [State.modPort_sys, State.laneLost_sys, State.clockTo_sys]
    · rw [State.modPort_stg, State.laneLost_stg, State.clockTo_stg]

/-! ## The states of link IDE -/

section
variable {s : State} {port : Fin 2}

theorem State.modIde_eq (p : Nat) (g : Ide → Ide) : s.modIde p g = s.modPort p fun x => { x with ide := g x.ide } := rfl

theorem exec_ideRxFlit_ok (hr : s.running = true) (hu : (s.port port.val).linkUp = true)
    (hc : (s.port port.val).ide.covered = true) :
    exec (.ideRxFlit port true) s = .next (s.modIde port.val fun i => { i with rxIv := (i.rxIv + 1) % 2 ^ 64 }) := by
  change execIdeRxFlit .. = _
  simp [execIdeRxFlit, hr, hu, hc]

theorem exec_ideRxFlit_bad (hr : s.running = true) (hu : (s.port port.val).linkUp = true)
    (hc : (s.port port.val).ide.covered = true) : exec (.ideRxFlit port false) s =
      .next ((((s.modIde port.val fun i => { i with state := .insecure, rxMacFail := true, waitSince := none }).modPort port.val
        fun x => { x with heldOut := [] }).incReg (Reg.HPT_IDE_ERR_CNT port.val)).raise 0x2201 port.val 0) := by
  change execIdeRxFlit .. = _
  simp [execIdeRxFlit, hr, hu, hc]

/-- A report of a bad MAC, as it is flagged and recorded before the port takes its copy. -/
def State.macReported (s : State) (p skid : Nat) : State :=
  ((s.modIde p fun i => { i with state := .error, waitSince := none }).hptFlag p 1 true).raise 0x2204 p skid

theorem exec_ideTxMacFailReport (hr : s.running = true) (hu : (s.port port.val).linkUp = true)
    (hc : (s.port port.val).ide.covered = true) {skid : Nat} (hs : skid = if (s.port port.val).ide.skid then 1 else 0) :
    exec (.ideTxMacFailReport port) s = .next ((s.macReported port.val skid).portCopy port.val
      { (s.macReported port.val skid).mkRec 0x2204 port.val skid with sev := 2 }) := by
  subst hs
  change execIdeTxMacFailReport .. = _
  simp only [execIdeTxMacFailReport, hr, hu, hc, Bool.not_true, Bool.or_self, Bool.false_eq_true, if_false]
  rfl

theorem exec_ideIvThreshold (hr : s.running = true) (hs : (s.port port.val).ide.state = .secure)
    (ht : (s.port port.val).ide.txIv < 2 ^ 63) : exec (.ideIvThreshold port) s =
      .next (((s.modIde port.val fun i => { i with txIv := 2 ^ 63 }).setBits (Reg.HPT_INT_STAT port.val) 4).raise
        0x2202 port.val 0) := by
  change execIdeIvThreshold .. = _
  simp only [execIdeIvThreshold, hr, hs, Bool.not_true, bne_self_eq_false, Bool.or_self, Bool.false_or,
    decide_eq_true_eq, if_neg (Nat.not_le.2 ht)]

theorem State.clockTo_running (s : State) (atNs : Nat) : (s.clockTo atNs).running = s.running := by
  simp [State.running]

theorem State.clockTo_ide (s : State) (atNs q : Nat) : ((s.clockTo atNs).port q).ide = (s.port q).ide :=
  s.clockTo_port_keeps (fun _ _ _ => rfl) q atNs

theorem exec_ideIvExhaust (atNs : Nat) (hr : s.running = true) (hs : (s.port port.val).ide.state = .secure) :
    exec (.ideIvExhaust port atNs) s = .next (((((s.clockTo atNs).modIde port.val fun i =>
      { i with state := .refreshWait, txIv := 2 ^ 64 - 1, waitSince := some (s.clockTo atNs).nowNs, waitMs := 0 }).setBits
        (Reg.HPT_INT_STAT port.val) 4).raise 0x2202 port.val 1)) := by
  change execIdeIvExhaust .. = _
  simp [execIdeIvExhaust, State.clockTo_running, State.clockTo_ide, hr, hs]

theorem exec_ideRefreshTimeout {atNs w : Nat} (hr : s.running = true) (hw : (s.port port.val).ide.waitSince = some w)
    (ht : w + 10000000 < (s.clockTo atNs).nowNs) : exec (.ideRefreshTimeout port atNs) s =
      .next ((((s.clockTo atNs).modIde port.val fun i =>
        { i with state := .insecure, waitSince := none, waitMs := 10 }).modPort port.val fun x =>
          { x with heldOut := [] }).raise 0x2203 port.val 0) := by
  change execIdeRefreshTimeout .. = _
  simp [execIdeRefreshTimeout, State.clockTo_running, State.clockTo_ide, hr, hw, Nat.not_le.2 ht]

/-- The IDE state and the held responses stand as an operation left them when its record is written. -/
theorem State.raise_ide (s : State) (c a b q : Nat) : ((s.raise c a b).port q).ide = (s.port q).ide :=
  s.raise_port_keeps (fun _ _ _ => rfl) q c a b

theorem State.raise_heldOut (s : State) (c a b q : Nat) : ((s.raise c a b).port q).heldOut = (s.port q).heldOut :=
  s.raise_port_keeps (fun _ _ _ => rfl) q c a b

end

/-- Settles O21, one command at a time. -/
theorem linkIdeStates : Obligations.LinkIdeStates := by
  unfold Obligations.LinkIdeStates
  intro s port hr
  refine ⟨fun hu hc => ⟨exec_ideRxFlit_ok hr hu hc, ⟨_, exec_ideRxFlit_bad hr hu hc, ?bad⟩, ?report⟩,
    fun hs ht => ⟨_, exec_ideIvThreshold hr hs ht, ?threshold⟩, fun atNs hs => ⟨_, exec_ideIvExhaust atNs hr hs, ?exhaust⟩,
    fun atNs w hw ht => ⟨_, exec_ideRefreshTimeout hr hw ht, ?timeout⟩⟩
  case bad =>
    beta_reduce
    rw [State.raise_ide, State.raise_heldOut, State.raise_getReg _ _ _ _ _ (recReg_ideErrCnt port), State.incReg_port,
      State.modPort_port_same, State.modIde_eq, State.modPort_port_same, State.incReg_getReg, if_pos rfl, State.modPort_getReg,
      State.modPort_getReg, State.raise_sys, State.incReg_sys, State.modPort_sys, State.modPort_sys]
    exact ⟨rfl, rfl, rfl, rfl, rfl⟩
  case report =>
    refine ⟨_, exec_ideTxMacFailReport hr hu hc rfl, ?_, ?_, ?_⟩
    · rw [State.portCopy_port_keeps (f := fun x => x.ide) _ (fun _ _ _ => rfl), State.macReported, State.raise_ide, State.hptFlag,
        State.flag_port_keeps (f := fun x => x.ide) _ (fun _ _ _ => rfl), State.modIde_eq, State.modPort_port_same]
    · rw [State.portCopy_errStat, State.macReported, State.raise_getReg _ _ _ _ _ (recReg_errStat port), State.hptFlag,
        State.flag_stat _ _ _ _ _ (recReg_errStat port), State.modIde_eq, State.modPort_getReg]
      rfl
    · rw [(Foot.portCopy ..).sys rfl]
      simp [State.macReported, State.hptFlag, State.modIde_eq]
  case threshold =>
    beta_reduce
    rw [State.raise_ide, State.setBits_port, State.modIde_eq, State.modPort_port_same,
      State.raise_getReg _ _ _ _ _ (recReg_intStat port), State.setBits_getReg, if_pos rfl, State.modPort_getReg]
    exact ⟨rfl, rfl⟩
  case exhaust =>
    beta_reduce
    rw [State.raise_ide, State.setBits_port, State.modIde_eq, State.modPort_port_same,
      State.raise_getReg _ _ _ _ _ (recReg_intStat port), State.setBits_getReg, if_pos rfl, State.modPort_getReg,
      State.clockTo_getReg _ _ _ (recReg_intStat port)]
    exact ⟨rfl, rfl, rfl⟩
  case timeout =>
    beta_reduce
    rw [State.raise_ide, State.raise_heldOut, State.modPort_port_same, State.modIde_eq, State.modPort_port_same]
    exact ⟨rfl, rfl, rfl⟩

/-! ## IDE key management: a programmed key draws a value -/

section
variable {s : State} {port : Fin 2}

/-- A key that enters a transit slot takes a free value, the fixed field of its slot (R381). -/
theorem exec_ideKmKeyProg_free (stream dir set : Fin 2) (sub : Fin 8) (key : BitVec 256) {i : Nat}
    (hd : s.doeOn port.val = true) (hi : s.cke.transitSlot = some i) :
    ∃ t, exec (.ideKmKeyProg port stream dir set sub key) s = .next t ∧ t.free = s.free + 1 := by
  refine ⟨_, by change execIdeKmKeyProg .. = _; simp only [execIdeKmKeyProg, hd, hi, Bool.not_true, Bool.false_eq_true, if_false]; rfl, rfl⟩

end

/-- A running device with both transit slots empty. -/
def ideWitness : State := { State.reset with sys := { sysInit with supplies := true } }

/-- Refutes O22: a key that enters an empty transit slot changes more than the cipher engine and the answers, as its slot's fixed
field is drawn from the free values. -/
theorem not_linkIdeKeys : ¬ Obligations.LinkIdeKeys := by
  unfold Obligations.LinkIdeKeys
  intro h
  have hd : ideWitness.doeOn (0 : Fin 2).val = true := by decide
  have hi : ideWitness.cke.transitSlot = some 14 := by decide
  obtain ⟨-, hprog, -⟩ := h ideWitness 0 hd
  obtain ⟨t, ht, -, -, htouch⟩ := hprog 0 0 0 0 0 14 hi
  obtain ⟨u, hu, hfree⟩ := exec_ideKmKeyProg_free 0 0 0 0 0 hd hi
  obtain rfl : t = u := Host.Outcome.next.inj (ht.symm.trans hu)
  have hsame := htouch.free (by decide)
  omega

/-! ## The HDM decoders and the DOE answers -/

section
variable {s : State} {port : Fin 2}

/-- The decoder that a commit with these values makes. -/
def State.newDecoder (s : State) (p n hpa size skip ways gran : Nat) (lock : Bool) : Decoder :=
  { hpaBase := hpa, size := size, skip := skip, ways := ways, granularity := gran, lockOnCommit := lock,
    committed := s.decoderCheck p n hpa size skip ways gran == 0, dpaBase := (s.port p).dpaStart n skip,
    dpaSize := size / max 1 ways, errNotCommitted := s.decoderCheck p n hpa size skip ways gran != 0 }

/-- A decoder of a port takes a value. -/
def State.setDecoder (s : State) (p n : Nat) (d : Decoder) : State :=
  s.modPort p fun x => { x with decoders := listSet x.decoders n d }

theorem State.setDecoder_same {p n : Nat} (d : Decoder) (h : n < (s.port p).decoders.length) :
    ((s.setDecoder p n d).port p).decoders.getD n decoderInit = d := by
  unfold State.setDecoder
  rw [State.modPort_port_same]
  simp [listSet_eq_set, List.getD_eq_getElem?_getD, h]

theorem exec_hdmDecoderCommit (n : Fin 4) (hpa size skip ways gran : Nat) (lock : Bool) (hr : s.running = true)
    (hp : s.portPresent port.val = true) (hn : n.val < s.conf.decoders)
    (hc : ((s.port port.val).decoders.getD n.val decoderInit).committed = false) :
    exec (.hdmDecoderCommit port n hpa size skip ways gran lock) s =
      .next (if s.decoderCheck port.val n.val hpa size skip ways gran = 0 then
          s.setDecoder port.val n.val (s.newDecoder port.val n.val hpa size skip ways gran lock)
        else (s.setDecoder port.val n.val (s.newDecoder port.val n.val hpa size skip ways gran lock)).setNat
          (Reg.HPT_DEC_ERR port.val) (n.val * 16 + s.decoderCheck port.val n.val hpa size skip ways gran)) := by
  change execHdmDecoderCommit .. = _
  simp only [execHdmDecoderCommit, hr, hp, hc, Bool.not_true, Bool.or_false, Bool.false_or, decide_eq_true_eq,
    if_neg (Nat.not_le.2 hn)]
  rfl

theorem exec_hdmDecoderUncommit (n : Fin 4) (hr : s.running = true) (hp : s.portPresent port.val = true)
    (hc : ((s.port port.val).decoders.getD n.val decoderInit).committed = true)
    (hl : ((s.port port.val).decoders.getD n.val decoderInit).lockOnCommit = false) :
    exec (.hdmDecoderUncommit port n) s = .next (s.setDecoder port.val n.val
      { (s.port port.val).decoders.getD n.val decoderInit with committed := false, errNotCommitted := false }) := by
  change execHdmDecoderUncommit .. = _
  simp only [execHdmDecoderUncommit, hr, hp, hc, hl, Bool.not_true, Bool.or_self, Bool.false_eq_true, if_false]
  rfl

theorem State.doeOn_eq_true (hr : s.running = true) (hp : s.portPresent port.val = true) (hd : s.sys.poweredDown = false) :
    s.doeOn port.val = true := by
  simp [State.doeOn, hr, hp, hd]

end

/-- Settles O23: the new decoder is in force exactly when the checks give code 0; the answers of DOE are one output each. -/
theorem decodersAndDoe : Obligations.DecodersAndDoe := by
  unfold Obligations.DecodersAndDoe
  intro s port hr hp
  refine ⟨fun n hpa size skip ways gran lock hn hlen hc => ⟨_, exec_hdmDecoderCommit n hpa size skip ways gran lock hr hp hn hc, ?_⟩,
    fun n hlen hc hl => ⟨_, exec_hdmDecoderUncommit n hr hp hc hl, ?_⟩, fun index hd => ?_, fun hd => ?_⟩
  · have hset : Touches (parts [.reg 2, .port0, .port1]) s
        (s.setDecoder port.val n.val (s.newDecoder port.val n.val hpa size skip ways gran lock)) :=
      .modPort (.refl _ s) (by decide) (by decide)
    have hd := State.setDecoder_same (s.newDecoder port.val n.val hpa size skip ways gran lock) (by rw [hlen]; exact n.isLt)
    by_cases hcode : s.decoderCheck port.val n.val hpa size skip ways gran = 0
    · simp only [if_pos hcode, hd]
      refine ⟨rfl, rfl, rfl, ?_, ?_, rfl, rfl, fun h => absurd hcode h, hset⟩ <;> simp [State.newDecoder, hcode]
    · have hblock : ∀ p : Fin 2, (parts [.reg 2, .port0, .port1]).testBit (Reg.HPT_DEC_ERR p.val / 0x10000) = true := by decide
      have hport : ∀ (t : State) (o v : Nat), (t.setNat o v).port port.val = t.port port.val := fun _ _ _ => rfl
      simp only [if_neg hcode, hport, hd]
      refine ⟨rfl, rfl, rfl, ?_, ?_, rfl, rfl, fun _ => ?_, .setNat hset (hblock port)⟩
      · simp [State.newDecoder, hcode]
      · simp [State.newDecoder, hcode]
      · rw [State.setNat_getReg, if_pos rfl]
  · refine ⟨?_, .modPort (.refl _ s) (by decide) (by decide)⟩
    rw [State.setDecoder_same _ (by rw [hlen]; exact n.isLt)]
  · change execDoeDiscovery .. = _
    simp [execDoeDiscovery, State.doeOn_eq_true hr hp hd]
  · refine ⟨_, by change execCdatTableAccess .. = _; simp only [execCdatTableAccess, State.doeOn_eq_true hr hp hd, Bool.not_true, Bool.false_eq_true, if_false],
      .emit (.refl _ s) (by decide), _, rfl, rfl⟩

end Sys2Proof.Machine
end
section
/-! # The event cursors and event records (R434 to R438, R446, R447) -/

namespace Sys2Proof.Machine

/-! ## Cursors -/

/-- The recorder with a requester's cursor on a record and the record in its window. -/
def Evr.onRecord (e : Evr) (q : Requester) (r : EvrRec) (pend : Bool) (flags : Nat) : Evr :=
  e.setCursor q { seq := r.seq, win := recWords r (if pend then 0xFFFF else 0), stat := winStat r pend flags }

theorem State.cursorTo_some (s : State) (q : Requester) (r : EvrRec) (pend : Bool) (flags : Nat) :
    s.cursorTo q (some (r, pend)) flags = s.modEvr fun _ => s.evr.onRecord q r pend flags := rfl

theorem Evr.cursor_setCursor_same (e : Evr) (q : Requester) (c : Cursor) : (e.setCursor q c).cursor q = c := by
  cases q <;> rfl

/-- WIN_GONE clears and WIN_END sets. -/
theorem winEnd_sets (stat : Word) :
    ((stat &&& ~~~ BitVec.ofNat 32 (winGone + winEnd)) ||| BitVec.ofNat 32 winEnd).getLsbD 28 = true ∧
    ((stat &&& ~~~ BitVec.ofNat 32 (winGone + winEnd)) ||| BitVec.ofNat 32 winEnd).getLsbD 29 = false := by
  constructor <;> simp [winGone, winEnd]

section
variable {s : State} {via : Via} (hv : s.reaches via = true)
include hv

theorem exec_evrCursorOldest : exec (.evrCursorOldest via) s =
    .next ((s.emit (.regWriteDone via Reg.EVR_CUR_CMD)).cursorTo via.requester s.evr.readable.head? 0) := by
  change execEvrCursorOldest .. = _
  simp [execEvrCursorOldest, hv]

theorem exec_evrCursorNewest : exec (.evrCursorNewest via) s =
    .next ((s.emit (.regWriteDone via Reg.EVR_CUR_CMD)).cursorTo via.requester s.evr.readable.getLast? 0) := by
  change execEvrCursorNewest .. = _
  simp [execEvrCursorNewest, hv]

theorem exec_evrCursorNext_gone (hg : s.evr.cursorGone via.requester = true) : exec (.evrCursorNext via) s =
    .next ((s.emit (.regWriteDone via Reg.EVR_CUR_CMD)).cursorTo via.requester s.evr.readable.head? winGone) := by
  change execEvrCursorNext .. = _
  simp [execEvrCursorNext, hv, hg]

theorem exec_evrCursorNext_newer {r : EvrRec × Bool} (hg : s.evr.cursorGone via.requester = false)
    (hr : (s.evr.readable.find? fun x => seqOlder (s.evr.cursor via.requester).seq x.1.seq) = some r) :
    exec (.evrCursorNext via) s =
      .next ((s.emit (.regWriteDone via Reg.EVR_CUR_CMD)).cursorTo via.requester (some r) 0) := by
  change execEvrCursorNext .. = _
  simp [execEvrCursorNext, hv, hg, hr]

theorem exec_evrCursorNext_newest (hg : s.evr.cursorGone via.requester = false)
    (hr : (s.evr.readable.find? fun x => seqOlder (s.evr.cursor via.requester).seq x.1.seq) = none) :
    exec (.evrCursorNext via) s =
      .next ((s.emit (.regWriteDone via Reg.EVR_CUR_CMD)).cursorStay via.requester winEnd) := by
  change execEvrCursorNext .. = _
  simp only [execEvrCursorNext, hv, Bool.not_true, Bool.false_eq_true, if_false, State.emit_evr, hg, hr]

theorem exec_evrCursorPrev_older {r : EvrRec × Bool}
    (hr : (s.evr.readable.filter fun x => seqOlder x.1.seq (s.evr.cursor via.requester).seq).getLast? = some r) :
    exec (.evrCursorPrev via) s =
      .next ((s.emit (.regWriteDone via Reg.EVR_CUR_CMD)).cursorTo via.requester (some r) 0) := by
  change execEvrCursorPrev .. = _
  simp only [execEvrCursorPrev, hv, Bool.not_true, Bool.false_eq_true, if_false, State.emit_evr, hr]

theorem exec_evrCursorPrev_oldest
    (hr : (s.evr.readable.filter fun x => seqOlder x.1.seq (s.evr.cursor via.requester).seq) = []) :
    exec (.evrCursorPrev via) s =
      .next ((s.emit (.regWriteDone via Reg.EVR_CUR_CMD)).cursorTo via.requester s.evr.readable.head? winGone) := by
  change execEvrCursorPrev .. = _
  simp only [execEvrCursorPrev, hv, Bool.not_true, Bool.false_eq_true, if_false, State.emit_evr, hr, List.getLast?_nil]

theorem exec_evrCursorWrite_found {r : EvrRec × Bool} (v : Word)
    (hr : (s.evr.readable.find? fun x => x.1.seq == v.toNat) = some r) : exec (.evrCursorWrite via v) s =
      .next ((s.emit (.regWriteDone via Reg.EVR_CURSOR)).cursorTo via.requester (some r) 0) := by
  change execEvrCursorWrite .. = _
  simp only [execEvrCursorWrite, hv, Bool.not_true, Bool.false_eq_true, if_false, State.emit_evr, hr]

theorem exec_evrCursorWrite_past {r : EvrRec × Bool} (v : Word)
    (hn : (s.evr.readable.find? fun x => x.1.seq == v.toNat) = none)
    (ho : (s.evr.readable.find? fun x => seqOlder v.toNat x.1.seq) = none) (hr : s.evr.readable.getLast? = some r) :
    exec (.evrCursorWrite via v) s =
      .next ((s.emit (.regWriteDone via Reg.EVR_CURSOR)).cursorTo via.requester (some r) winEnd) := by
  change execEvrCursorWrite .. = _
  simp only [execEvrCursorWrite, hv, Bool.not_true, Bool.false_eq_true, if_false, State.emit_evr, hn, ho, hr,
    Option.isSome_some, if_true]

end

/-- Settles O26: each move is its equation with the record that it reaches. -/
theorem cursorMoves : Obligations.CursorMoves := by
  unfold Obligations.CursorMoves
  intro s via r pend hv
  refine ⟨fun h => ?_, fun h => ?_, exec_evrCursorNext_newer hv, fun hg h => ?_, fun hg hr =>
    ⟨_, exec_evrCursorNext_newest hv hg hr, ?_⟩, exec_evrCursorPrev_older hv, fun hr h => ?_,
    exec_evrCursorWrite_found hv, exec_evrCursorWrite_past hv⟩
  · rw [exec_evrCursorOldest hv, h]
    rfl
  · rw [exec_evrCursorNewest hv, h]
    rfl
  · rw [exec_evrCursorNext_gone hv hg, h]
    rfl
  · beta_reduce
    rw [State.cursorStay, State.modEvr_evr, Evr.cursor_setCursor_same]
    exact ⟨rfl, rfl, (winEnd_sets _).1, (winEnd_sets _).2, .modEvr (.emit (.refl _ s) (by decide)) (by decide)⟩
  · rw [exec_evrCursorPrev_oldest hv hr, h]
    rfl

/-! ## Event records -/

/-! The configurations of the counters stand apart from what recording an event writes. -/

section
variable {s t : State}

theorem mapGet_of_find_none {V : Type} {d : Nat → V} {m : SMap V} {k : Nat} (h : mapFind m k = none) : mapGet d m k = d k := by
  induction m with
  | nil => rfl
  | cons e m ih =>
    obtain ⟨j, v⟩ := e
    unfold mapFind at h
    unfold mapGet
    split at h
    · cases h
    next hj =>
      rw [if_neg hj]
      exact ih h

/-- No counter is enabled, read from the configuration registers. -/
theorem State.pmcListed_eq_nil_iff : s.pmcListed = [] ↔ ∀ n < 48, s.bit (Reg.PMC_CFG n) 31 = false := by
  have hreset : ∀ n < 48, (regReset (Reg.PMC_CFG n)).toNat.testBit 31 = false := by decide
  unfold State.pmcListed
  simp only [List.filter_eq_nil_iff, List.mem_range, Bool.and_eq_true, not_and, Bool.not_eq_true]
  refine forall₂_congr fun n hn => ⟨fun h => ?_, fun h _ => h⟩
  cases hf : mapFind s.regs (Reg.PMC_CFG n) with
  | some v => exact h (by rw [hf]; rfl)
  | none =>
    unfold State.bit State.getReg
    rw [mapGet_of_find_none hf]
    exact hreset n hn

theorem State.pmcListed_of_touches {m : Nat} (b : Touches m s t) (hm : m.testBit 15 = false) (h : s.pmcListed = []) :
    t.pmcListed = [] := by
  have hblock : ∀ n < 48, Reg.PMC_CFG n < 0x100000 ∧ Reg.PMC_CFG n / 0x10000 = 15 := by decide
  rw [State.pmcListed_eq_nil_iff] at h ⊢
  intro n hn
  obtain ⟨hlt, hdiv⟩ := hblock n hn
  rw [← h n hn, State.bit, State.bit, b.regs _ hlt (by rw [hdiv]; exact hm)]

/-- With no counter enabled, nothing is counted. -/
theorem State.countRaised_of_unlisted (h : s.pmcListed = []) (seq drops : Nat) : s.countRaised seq drops = s := by
  have hmany : ∀ event occ arg, s.pmcMany event occ arg = s := by
    intro event occ arg
    simp [State.pmcMany, h]
  rw [State.countRaised, State.pmc, State.pmc, hmany, hmany]

end

/-! A record enters the queue. -/

section
variable (s : State) (r : EvrRec)

theorem Foot.portCopies : Touches 0x600004 s (s.portCopies r) := by
  unfold State.portCopies
  extract_lets ports
  refine .foldl (fun t p ht => ?_) (.refl _ s)
  split
  · exact ht
  split
  · split
    · exact .step ht (Foot.portCopy ..) rfl
    · exact ht
  · exact .step ht (Foot.portCopy ..) rfl

theorem Foot.enqueueRec : Touches (parts [.reg 2, .reg 13, .port0, .port1, .pst, .evr]) s (s.enqueueRec r) := by
  unfold State.enqueueRec
  extract_lets r t occ u v w
  have ht : Touches (parts [.reg 2, .reg 13, .port0, .port1, .pst, .evr]) s t := .modEvr (.refl _ s) (by decide)
  have hu : Touches (parts [.reg 2, .reg 13, .port0, .port1, .pst, .evr]) s u := by
    unfold u
    split
    · exact .setField ht (by decide)
    · exact ht
  have hv : Touches (parts [.reg 2, .reg 13, .port0, .port1, .pst, .evr]) s v := by
    unfold v
    split
    · exact .setBits hu (by decide)
    · exact hu
  have hw : Touches (parts [.reg 2, .reg 13, .port0, .port1, .pst, .evr]) s w := .modPst hv (by decide)
  split
  · exact .step hw (Foot.portCopies ..) (by decide)
  · exact hw

/-- The record as it enters the queue: the next SEQ, and the count its code has. -/
def State.numbered (s : State) (r : EvrRec) : EvrRec :=
  { r with seq := s.evr.nextSeq, supp := min (r.supp + s.evr.countOf r.code) 0xFFFF }

theorem State.enqueueRec_evr (h : s.evr.memLost = false) : (s.enqueueRec r).evr =
    { s.evr with queue := s.evr.queue ++ [s.numbered r], nextSeq := (s.evr.nextSeq + 1) % 2 ^ 32,
                 supp := s.evr.supp.map fun x => if x.code == r.code then { x with count := 0 } else x } := by
  unfold State.enqueueRec
  extract_lets r' t occ u v w
  have ht : t.evr = { s.evr with
      queue := s.evr.queue ++ [r'], nextSeq := (s.evr.nextSeq + 1) % 2 ^ 32,
      supp := s.evr.supp.map fun x => if x.code == r.code then { x with count := 0 } else x } := by
    simp only [t, State.modEvr_evr, h, Bool.false_and, Bool.false_eq_true, if_false]
    rfl
  have hw : w.evr = t.evr := by
    have hu : u.evr = t.evr := by unfold u; split <;> rfl
    have hv : v.evr = u.evr := by unfold v; split <;> rfl
    exact hv.trans hu
  split
  · rw [(Foot.portCopies ..).evr rfl, hw, ht]
    rfl
  · rw [hw, ht]
    rfl

end

/-! The suppression table. -/

/-- Changing the entry of a code, its code left, changes what a lookup of the code finds. -/
theorem find?_onSupp {l : List Supp} {code : Nat} {x : Supp} {f : Supp → Supp} (hf : ∀ y, (f y).code = y.code)
    (h : l.find? (fun y => y.code == code) = some x) :
    (l.map fun y => if y.code == code then f y else y).find? (fun y => y.code == code) = some (f x) := by
  induction l with
  | nil => cases h
  | cons y ys ih =>
    by_cases hy : y.code = code
    · rw [List.find?_cons_of_pos (by simp [hy])] at h
      cases h
      rw [List.map_cons, if_pos (by simp [hy]), List.find?_cons_of_pos (by simp [hf, hy])]
    · rw [List.find?_cons_of_neg (by simp [hy])] at h
      rw [List.map_cons, if_neg (by simp [hy]), List.find?_cons_of_neg (by simp [hy])]
      exact ih h

theorem State.suppEntry_of_found {s : State} {code : Nat} {x : Supp} (h : s.evr.supp.find? (fun y => y.code == code) = some x) :
    s.suppEntry code = some s := by
  have hany : (s.evr.supp.any fun y => y.code == code) = true :=
    List.any_eq_true.2 ⟨x, List.mem_of_find?_eq_some h, by simpa using List.find?_some h⟩
  simp [State.suppEntry, hany]

/-! An event meets its bucket. -/

section
variable {s : State} {code : Nat} {x : Supp}

/-- The code's entry takes the time of now. -/
def State.touched (s : State) (code : Nat) : State := s.modEvr (·.onSupp code fun x => { x with raisedAt := s.nowNs })

/-- The code's entry gives a token. -/
def State.paid (s : State) (code : Nat) : State := (s.touched code).modEvr (·.onSupp code fun x => { x with tokens := x.tokens - 1 })

/-- The code's entry counts an event without a record. -/
def State.missed (s : State) (code : Nat) : State :=
  ((s.touched code).modEvr (·.onSupp code fun x => x.miss s.nowNs s.datumNs)).satField Reg.EVR_DROP_CNT 0 16 1

theorem State.paid_queue (code : Nat) : (s.paid code).evr.queue = s.evr.queue := rfl
theorem State.paid_nextSeq (code : Nat) : (s.paid code).evr.nextSeq = s.evr.nextSeq := rfl
theorem State.paid_memLost (code : Nat) : (s.paid code).evr.memLost = s.evr.memLost := rfl
theorem State.paid_datumNs (code : Nat) : (s.paid code).datumNs = s.datumNs := rfl
theorem Foot.paid (s : State) (code : Nat) : Touches (parts [.evr]) s (s.paid code) :=
  .modEvr (.modEvr (.refl _ s) (by decide)) (by decide)

theorem State.missed_queue (code : Nat) : (s.missed code).evr.queue = s.evr.queue := rfl
theorem State.missed_nextSeq (code : Nat) : (s.missed code).evr.nextSeq = s.evr.nextSeq := rfl
theorem Foot.missed (s : State) (code : Nat) : Touches (parts [.reg 13, .evr]) s (s.missed code) :=
  .satField (.modEvr (.modEvr (.refl _ s) (by decide)) (by decide)) (by decide)

theorem State.touched_supp (h : s.evr.supp.find? (fun y => y.code == code) = some x) :
    (s.touched code).evr.supp.find? (fun y => y.code == code) = some { x with raisedAt := s.nowNs } :=
  find?_onSupp (f := fun x => { x with raisedAt := s.nowNs }) (fun _ => rfl) h

theorem State.paid_supp (h : s.evr.supp.find? (fun y => y.code == code) = some x) :
    (s.paid code).evr.supp.find? (fun y => y.code == code) = some { x with raisedAt := s.nowNs, tokens := x.tokens - 1 } :=
  find?_onSupp (f := fun x => { x with tokens := x.tokens - 1 }) (fun _ => rfl) (State.touched_supp h)

theorem State.missed_supp (h : s.evr.supp.find? (fun y => y.code == code) = some x) :
    (s.missed code).evr.supp.find? (fun y => y.code == code) =
      some (Supp.miss { x with raisedAt := s.nowNs } s.nowNs s.datumNs) :=
  find?_onSupp (f := fun x => x.miss s.nowNs s.datumNs) (fun _ => rfl) (State.touched_supp h)

/-- With a token, outside DIAG and with room in the queue, the event is a record. -/
theorem State.raiseBucket_paid (a b : Nat) (h : s.evr.supp.find? (fun y => y.code == code) = some x) (ht : 0 < x.tokens)
    (hq : s.evr.queue.length < 64) (hd : s.sys.state ≠ .diag) : s.raiseBucket code a b = (s.paid code).enqueueRec ((s.paid code).mkRec code a b) := by
  have hfind := State.touched_supp h
  unfold State.touched at hfind
  have hoff : ∀ c : Bool, (s.sys.state == DevState.diag && c) = false := by simp [hd]
  unfold State.raiseBucket
  rw [State.suppEntry_of_found h]
  simp only [State.modEvr_sys, hoff, hfind, Option.map_some, Option.getD_some, Bool.not_false, Bool.and_true,
    decide_eq_true_eq, Bool.false_eq_true, if_false]
  rw [if_neg (by omega), if_pos (by simp [Evr.onSupp, hq])]
  rfl

theorem State.raiseBucket_missed (a b : Nat) (h : s.evr.supp.find? (fun y => y.code == code) = some x) (ht : x.tokens = 0)
    (hd : s.sys.state ≠ .diag) : s.raiseBucket code a b = s.missed code := by
  have hfind := State.touched_supp h
  unfold State.touched at hfind
  have hoff : ∀ c : Bool, (s.sys.state == DevState.diag && c) = false := by simp [hd]
  unfold State.raiseBucket
  rw [State.suppEntry_of_found h]
  simp only [State.modEvr_sys, hoff, hfind, Option.map_some, Option.getD_some, Bool.not_false, Bool.and_true, ht,
    decide_true, if_true]
  rfl

/-- A strobe on a match of the code comes before the record. -/
def State.matched (s : State) (code : Nat) : State :=
  if s.bit Reg.DTM_SVY_CTL 3 && s.regField Reg.DTM_SVY_CTL 16 16 == code then s.strobe 2 else s

theorem State.matched_recorded (s : State) (code : Nat) : Recorded (fun _ => true) false s (s.matched code) :=
  .ite (.strobeAt all_true ..) (.refl _ s)

theorem Foot.matched (s : State) (code : Nat) : Touches (parts [.reg 7, .dtm]) s (s.matched code) := by
  unfold State.matched State.strobe State.strobeAt
  split
  · split
    · exact .refl _ s
    split
    · exact .modDtm (.refl _ s) (by decide)
    · dsimp only
      split
      · exact .modDtm (.refl _ s) (by decide)
      · exact .incReg (.modDtm (.refl _ s) (by decide)) (by decide)
  · exact .refl _ s

theorem State.matched_datumNs (s : State) (code : Nat) : (s.matched code).datumNs = s.datumNs := by
  obtain ⟨_, _, _, _, h, e⟩ := (s.matched_recorded code).dtm
  obtain ⟨_, rfl, _⟩ := e rfl
  rw [State.datumNs, h]
  rfl

theorem State.raiseCore_eq (a b : Nat) (h : eventBlock code ≠ 0xD) :
    s.raiseCore code a b = (s.matched code).raiseBucket code a b := by
  unfold State.raiseCore State.matched
  dsimp only
  rw [if_neg h]

/-- Where nothing is counted, an event is what its bucket makes of it. -/
theorem State.raise_of_unlisted {u : State} {m : Nat} (a b : Nat) (h : eventBlock code ≠ 0xD) (hp : s.pmcListed = [])
    (hu : (s.matched code).raiseBucket code a b = u) (hf : Touches m (s.matched code) u) (hm : m.testBit 15 = false) :
    s.raise code a b = u := by
  have hmatched := State.pmcListed_of_touches (Foot.matched s code) (by decide) hp
  rw [State.raise, State.raiseCore_eq a b h, hu, State.countRaised_of_unlisted (State.pmcListed_of_touches hf hm hmatched)]

end

/-- Settles O28: what a strobe, a bucket and the queue each make of the event. -/
theorem eventsAreRecorded : Obligations.EventsAreRecorded := by
  unfold Obligations.EventsAreRecorded
  intro s code a b x hcode hlisted hx hmem
  have hfoot := Foot.matched s code
  have hevr : (s.matched code).evr = s.evr := hfoot.evr (by decide)
  have hsys : (s.matched code).sys = s.sys := hfoot.sys (by decide)
  have hx' : (s.matched code).evr.supp.find? (fun y => y.code == code) = some x := by rw [hevr]; exact hx
  refine ⟨fun ht hq hd => ?_, fun ht hd => ?_⟩
  · have hbucket := State.raiseBucket_paid a b hx' ht (by rw [hevr]; exact hq) (by rw [hsys]; exact hd)
    have hpaid := Foot.paid (s.matched code) code
    rw [State.raise_of_unlisted a b hcode hlisted hbucket
      (.step (hpaid.mono (m := parts [.reg 2, .reg 13, .port0, .port1, .pst, .evr]) (by decide)) (Foot.enqueueRec ..) (by decide))
      (by decide), State.enqueueRec_evr _ _ (by rw [State.paid_memLost, hevr, hmem])]
    have hqueue : ((s.matched code).paid code).evr.queue = s.evr.queue := by rw [State.paid_queue, hevr]
    have hseq : ((s.matched code).paid code).evr.nextSeq = s.evr.nextSeq := by rw [State.paid_nextSeq, hevr]
    refine ⟨by simp [hqueue], ?_, by rw [hseq], ?_⟩
    · have hstate : ((s.matched code).paid code).sys = s.sys := (hpaid.sys (by decide)).trans hsys
      have hbank : ((s.matched code).paid code).pwr = s.pwr := (hpaid.pwr (by decide)).trans (hfoot.pwr (by decide))
      have hdatum : ((s.matched code).paid code).datumNs = s.datumNs := by rw [State.paid_datumNs, State.matched_datumNs]
      simp [State.numbered, State.mkRec, hstate, hbank, hdatum, hseq]
    · have := find?_onSupp (f := fun x => { x with count := 0 }) (fun _ => rfl) (State.paid_supp hx')
      exact congrArg (Option.map Supp.tokens) this
  · have hbucket := State.raiseBucket_missed a b hx' ht (by rw [hsys]; exact hd)
    have hmissed := Foot.missed (s.matched code) code
    rw [State.raise_of_unlisted a b hcode hlisted hbucket hmissed (by decide), State.missed_queue, State.missed_nextSeq, hevr,
      State.missed_supp hx', hmissed.sys (by decide), hmissed.pst (by decide), hsys, hfoot.pst (by decide)]
    exact ⟨rfl, rfl, rfl, rfl, rfl⟩

end Sys2Proof.Machine
end
section
/-! # Snapshot areas (R467, R471) -/

namespace Sys2Proof.Machine

section
variable (s : State) (q : Requester) (f : SvyBuf → SvyBuf)

theorem State.modBuf_buf_same : (s.modBuf q f).svy.buf q = f (s.svy.buf q) := by cases q <;> rfl

theorem State.modBuf_buf_ne {r : Requester} (h : r ≠ q) : (s.modBuf q f).svy.buf r = s.svy.buf r := by
  cases q <;> cases r
  · exact absurd rfl h
  · rfl
  · rfl
  · exact absurd rfl h

theorem Touches.modBuf {m : Nat} {t : State} (a : Touches m s t) (h : m.testBit 38 = true) : Touches m s (t.modBuf q f) :=
  .modSvy a h

theorem State.modBuf_out : (s.modBuf q f).out = s.out := rfl

/-- A buffer with the latest area of a block, selected at a word. -/
def SvyBuf.filled (x : SvyBuf) (s : State) (v : Word) : SvyBuf :=
  { x with valid := true, gen := s.svy.gen, words := s.area (bitsAt v.toNat 16 4), block := bitsAt v.toNat 16 4,
           word := min 1016 (bitsAt v.toNat 0 10) }

/-- A buffer after a read of its last window register. -/
def SvyBuf.advanced (x : SvyBuf) : SvyBuf := if x.word + 8 ≤ 1016 then { x with word := x.word + 8 } else x

theorem SvyBuf.advanced_word (x : SvyBuf) : x.advanced.word = if x.word ≤ 1008 then x.word + 8 else x.word := by
  unfold SvyBuf.advanced
  split
  · rw [if_pos (by omega)]
  · rw [if_neg (by omega)]

theorem SvyBuf.advanced_words (x : SvyBuf) : x.advanced.words = x.words := by
  unfold SvyBuf.advanced
  split <;> rfl

end

section
variable {s : State} {via : Via} (hv : s.reaches via = true)
include hv

theorem exec_svyWinSelWrite (v : Word) : ∃ t, exec (.svyWinSelWrite via v) s = .next t ∧
    t.svy.buf via.requester = (s.svy.buf via.requester).filled s v ∧
    (∀ q, q ≠ via.requester → t.svy.buf q = s.svy.buf q) ∧ t.out = s.out ++ [.regWriteDone via Reg.SVY_WIN_SEL] ∧
    Touches (parts [.svy, .out]) s t := by
  refine ⟨_, by change execSvyWinSelWrite .. = _; simp only [execSvyWinSelWrite, hv, Bool.not_true, Bool.false_eq_true, if_false]; rfl, ?_, fun q hq => ?_, rfl,
    .modBuf _ _ _ (.step (.emit (.refl _ s) (by decide)) (Foot.copyArea ..) (by decide)) (by decide)⟩
  · rw [State.modBuf_buf_same, State.copyArea, State.modBuf_buf_same]
    rfl
  · rw [State.modBuf_buf_ne _ _ _ hq, State.copyArea, State.modBuf_buf_ne _ _ _ hq]
    rfl

theorem exec_svyWin7Read : exec (.svyWin7Read via) s = .next ((s.modBuf via.requester SvyBuf.advanced).emit
    (.regRead via (Reg.SVY_WIN 7) ((s.svy.buf via.requester).win 7))) := by
  change execSvyWin7Read .. = _
  simp only [execSvyWin7Read, hv, Bool.not_true, Bool.false_eq_true, if_false]
  rfl

end

/-- Settles O30: each access changes its requester's buffer alone. -/
theorem snapshotReads : Obligations.SnapshotReads := by
  unfold Obligations.SnapshotReads
  intro s via hv
  refine ⟨fun v => ?_, ⟨_, exec_svyWin7Read hv, rfl, ?_, ?_, fun q hq => ?_,
    .emit (.modBuf _ _ _ (.refl _ s) (by decide)) (by decide)⟩⟩
  · obtain ⟨t, he, hbuf, hother, hout, htouch⟩ := exec_svyWinSelWrite hv v
    refine ⟨t, he, ?_⟩
    simp only [hbuf]
    exact ⟨rfl, rfl, rfl, rfl, rfl, rfl, hother, hout, htouch⟩
  · rw [State.emit_svy, State.modBuf_buf_same, SvyBuf.advanced_word]
  · rw [State.emit_svy, State.modBuf_buf_same, SvyBuf.advanced_words]
  · rw [State.emit_svy, State.modBuf_buf_ne _ _ _ hq]

end Sys2Proof.Machine
end
section
/-! # Temperature: samples, levels, the boost, quench and warm-up (R450 to R466) -/

namespace Sys2Proof.Machine

/-! ## The applied level -/

section
variable {s t : State}

/-- The applied level depends on the top-level state, THM_CTL, the sensors, the level and the boost alone. -/
theorem State.appliedNow_congr (hsys : t.sys = s.sys) (hctl : t.getReg Reg.THM_CTL = s.getReg Reg.THM_CTL)
    (hsensors : t.thm.sensors = s.thm.sensors) (hlevel : t.thm.level = s.thm.level) (hboost : t.thm.boost = s.thm.boost) :
    t.appliedNow = s.appliedNow := by
  unfold State.appliedNow State.boostOn Thm.failed State.regField State.regNat State.bit
  rw [hsys, hctl, hsensors, hlevel, hboost]

end

section
variable (s : State)

theorem State.thermalTrip_thm : s.thermalTrip.thm = s.thm := (Foot.thermalTrip s).thm rfl

/-- Once settled, the applied level is the one its causes give. -/
theorem State.settleTemper_applied : s.settleTemper.thm.applied = s.settleTemper.appliedNow := by
  unfold State.settleTemper
  extract_lets u new old now v w x
  split
  next h => exact h.symm
  next h =>
    have hxthm : x.thm = v.thm := by unfold x; rw [State.raise_thm]; rfl
    have hxsys : x.sys = u.sys := by unfold x; rw [State.raise_sys]; rfl
    have hxctl : x.getReg Reg.THM_CTL = u.getReg Reg.THM_CTL := by
      unfold x w v
      rw [State.raise_getReg _ _ _ _ _ (by decide), State.setBits_getReg, if_neg (by decide), State.modThm_getReg]
    have hx : x.appliedNow = new := State.appliedNow_congr hxsys hxctl (by rw [hxthm]; rfl) (by rw [hxthm]; rfl) (by rw [hxthm]; rfl)
    have hxa : x.thm.applied = new := by rw [hxthm]; rfl
    split
    · rw [State.thermalTrip_thm, hxa, ← hx]
      exact (State.appliedNow_congr ((Foot.thermalTrip x).sys rfl) ((Foot.thermalTrip x).regs _ (by decide) (by decide))
        (by rw [State.thermalTrip_thm]) (by rw [State.thermalTrip_thm]) (by rw [State.thermalTrip_thm])).symm
    · rw [hxa, hx]

/-- Settling the level keeps the boost where one may apply, and ends it elsewhere. -/
theorem State.settleTemper_boost : s.settleTemper.thm.boost = if s.boostOn then s.thm.boost else 0 := by
  unfold State.settleTemper
  extract_lets u new old now v w x
  have hu : u.thm.boost = if s.boostOn then s.thm.boost else 0 := by
    unfold u
    split <;> rfl
  have hx : x.thm.boost = u.thm.boost := by unfold x; rw [State.raise_thm]; rfl
  split
  · exact hu
  · split
    · rw [State.thermalTrip_thm, hx, hu]
    · exact hx.trans hu

/-! ## A sample -/

/-- Near misses of several timers leave the temperatures. -/
theorem State.nearMisses_thm (l : List (Nat × Bool)) : (l.foldl (fun s e => s.nearMiss e.1) s).thm = s.thm := by
  induction l generalizing s with
  | nil => rfl
  | cons e l ih => rw [List.foldl_cons, ih, State.nearMiss_thm]

/-- The timers of a sample leave the sensors, the level, the boost and the refresh rate. -/
theorem State.thermTimers_thm : ∃ hist rate fall high under quench restart, s.thermTimers.thm =
    { s.thm with hist := hist, rate := rate, fallSince := fall, overSince := high, underSince := under,
                 quenchSince := quench, restartSince := restart } := by
  unfold State.thermTimers
  extract_lets now p v hot cool hist rate rising t near starts fall u w
  have hw : w.thm = u.thm := State.nearMisses_thm u near
  refine ⟨hist, rate, since t.fallSince fall now, since t.overSince rising now, since t.underSince (!rising) now,
    since t.quenchSince hot now, since t.restartSince cool now, ?_⟩
  split
  · rw [State.thermalTrip_thm, hw]; rfl
  · rw [hw]; rfl

/-- Compensation changes only the temperatures of the last one in the thermal state. -/
theorem State.compensate_thm : ∃ b o, s.compensate.thm = { s.thm with bandgapAt := b, oscAt := o } := by
  unfold State.compensate
  extract_lets hv ck c u v w
  obtain ⟨b, hb⟩ : ∃ b, v.thm = { s.thm with bandgapAt := b } := by
    unfold v
    split
    · exact ⟨c, rfl⟩
    · exact ⟨s.thm.bandgapAt, rfl⟩
  split
  · exact ⟨b, w, by change { v.thm with oscAt := w } = _; rw [hb]⟩
  · exact ⟨b, s.thm.oscAt, hb⟩

/-- Compensation writes THM_COMP_STAT alone. -/
theorem State.compensate_getReg (o : Nat) (h : o ≠ Reg.THM_COMP_STAT) : s.compensate.getReg o = s.getReg o := by
  unfold State.compensate
  extract_lets hv ck c u v w
  have hv' : v.getReg o = s.getReg o := by
    unfold v
    split
    · rw [State.setField_getReg, if_neg h, State.setField_getReg, if_neg h]; rfl
    · rfl
  split
  · rw [State.setField_getReg, if_neg h, State.setField_getReg, if_neg h]; exact hv'
  · exact hv'

/-- The conversions, the level and the refresh rate after a sample (R450, R453, R465). -/
def State.sampled (s : State) (readings : List (Option Int)) : State :=
  let s := s.modThm fun _ => (s.thm.sampleAll readings s.nowNs).1
  s.modThm fun t =>
    { t with level := max t.level (s.conf.levelOf (t.maxReading s.conf.crit).1), refresh := refreshNext t.refresh t.dramReading }

/-- A sample in which no sensor fails: the conversions, then the timers, the applied level and compensation. -/
theorem exec_sensorSample (readings : List (Option Int)) (atNs : Nat) (hs : s.sys.supplies = true) (hw : s.sys.state ≠ .warmup)
    (hr : ((s.clockTo atNs).thm.sampleAll readings (s.clockTo atNs).nowNs).2 = []) :
    exec (.sensorSample readings atNs) s =
      .next (((s.clockTo atNs).sampled readings).thermTimers.settleTemper.compensate) := by
  change execSensorSample readings atNs s = _
  have hsys : (((s.clockTo atNs).sampled readings).thermTimers.settleTemper.compensate).sys = s.sys := by
    rw [(Foot.compensate _).sys rfl, State.settleTemper_sys, (Foot.thermTimers _).sys rfl]
    exact State.clockTo_sys s atNs
  unfold execSensorSample
  simp only [hs, Bool.not_true, Bool.false_eq_true, if_false, hr, List.foldl_nil, List.isEmpty_nil, Bool.false_and]
  split
  next h =>
    rw [Bool.and_eq_true, beq_iff_eq] at h
    exact absurd ((congrArg Sys.state hsys).symm.trans h.1) hw
  next => rfl

/-! ## Sensors, the level's fall and the boost -/

theorem Sensor.sample_sound (x : Sensor) (v : Int) (now : Nat) (hf : x.failed = false) (hm : x.misses = 0) (hj : x.jumpAt = none)
    (hlo : -640 ≤ v) (hhi : v ≤ 2400) : (x.sample (some v) now).2 = false ∧ (x.sample (some v) now).1.value = v ∧
    (x.sample none now).2 = false ∧ ((x.sample none now).1.sample none now).2 = true := by
  have h1 : ¬ v < -640 := by omega
  have h2 : ¬ 2400 < v := by omega
  refine ⟨?_, rfl, ?_, ?_⟩
  · simp [Sensor.sample, hf, hj, h1, h2]
  · simp [Sensor.sample, hf, hm]
  · simp [Sensor.sample, hf, hm]

/-- A timer that started at w has expired once its period has passed. -/
theorem expired_of_le {w period now : Nat} (h : w + period ≤ now) : expired (some w) period now = true := decide_eq_true h

/-- The level after it falls by one, before its consequences. -/
def State.fallen (s : State) : State :=
  let u := s.modThm fun t => { t with level := t.level - 1 }
  u.modThm fun t => { t with fallSince := since none u.fallCond s.nowNs }

theorem exec_levelFall (atNs : Nat) (hc : (s.clockTo atNs).fallCond = true)
    (he : expired (s.clockTo atNs).thm.fallSince 100000000 (s.clockTo atNs).nowNs = true) :
    exec (.levelFall atNs) s = .next (s.clockTo atNs).fallen.settleTemper := by
  change execLevelFall atNs s = _
  unfold execLevelFall
  extract_lets u
  rw [if_pos (by rw [hc, he]; rfl)]
  rfl

theorem exec_riseBoost (atNs : Nat) (hb : (s.clockTo atNs).boostOn = true) (h0 : (s.clockTo atNs).thm.boost = 0)
    (he : expired (s.clockTo atNs).thm.overSince 1000000000 (s.clockTo atNs).nowNs = true) :
    exec (.riseBoost atNs) s = .next
      (((s.clockTo atNs).modThm fun t => { t with boost := 2 }).flag Reg.THM_ERR_STAT Reg.THM_ERR_EN 3 false).settleTemper := by
  change execRiseBoost atNs s = _
  unfold execRiseBoost
  extract_lets u
  rw [if_pos (by rw [hb, h0, he]; rfl)]

theorem exec_riseBoostEnd (atNs : Nat) (h0 : (s.clockTo atNs).thm.boost ≠ 0)
    (he : expired (s.clockTo atNs).thm.underSince 10000000000 (s.clockTo atNs).nowNs = true) :
    exec (.riseBoostEnd atNs) s = .next ((s.clockTo atNs).modThm fun t => { t with boost := 0 }).settleTemper := by
  change execRiseBoostEnd atNs s = _
  unfold execRiseBoostEnd
  extract_lets u
  rw [if_pos (by rw [he, Bool.and_true]; exact bne_iff_ne.mpr h0)]

/-- A sample that fails no sensor: what it leaves. -/
theorem sensorSample_runs (readings : List (Option Int)) (atNs : Nat) (hs : s.sys.supplies = true) (hw : s.sys.state ≠ .warmup)
    (hr : ((s.clockTo atNs).thm.sampleAll readings (s.clockTo atNs).nowNs).2 = []) : Runs (.sensorSample readings atNs) s fun t =>
      t.thm.sensors = ((s.clockTo atNs).thm.sampleAll readings (s.clockTo atNs).nowNs).1.sensors ∧
      t.thm.level = max s.thm.level (s.conf.levelOf (t.thm.maxReading s.conf.crit).1) ∧
      t.thm.refresh = refreshNext s.thm.refresh t.thm.dramReading ∧ t.thm.applied = t.appliedNow ∧ t.sys = s.sys ∧
      t.stg = s.stg ∧ t.med = s.med ∧ t.getReg Reg.THM_ERR_STAT = s.getReg Reg.THM_ERR_STAT := by
  refine ⟨_, exec_sensorSample s readings atNs hs hw hr, ?_⟩
  beta_reduce
  generalize hu : (s.clockTo atNs).sampled readings = u
  generalize hv : u.thermTimers.settleTemper = v
  have hfoot := Foot.compensate v
  obtain ⟨b, o, hcomp⟩ := v.compensate_thm
  obtain ⟨hist, rate, fall, high, under, quench, restart, htimers⟩ := u.thermTimers_thm
  have husensors : u.thm.sensors = ((s.clockTo atNs).thm.sampleAll readings (s.clockTo atNs).nowNs).1.sensors := by rw [← hu]; rfl
  have hulevel : u.thm.level = max s.thm.level (s.conf.levelOf (u.thm.maxReading s.conf.crit).1) := by
    rw [← hu, ← State.clockTo_conf s atNs, ← State.clockTo_thm s atNs]; rfl
  have hurefresh : u.thm.refresh = refreshNext s.thm.refresh u.thm.dramReading := by
    rw [← hu, ← State.clockTo_thm s atNs]; rfl
  have hsensors : v.compensate.thm.sensors = u.thm.sensors := by
    rw [hcomp, ← hv, State.settleTemper_thm_sensors, htimers]
  refine ⟨hsensors.trans husensors, ?_, ?_, ?_, ?_, ?_, ?_, ?_⟩
  · rw [show v.compensate.thm.maxReading s.conf.crit = u.thm.maxReading s.conf.crit by unfold Thm.maxReading; rw [hsensors],
      ← hulevel, hcomp, ← hv, State.settleTemper_thm_level, htimers]
  · rw [show v.compensate.thm.dramReading = u.thm.dramReading by unfold Thm.dramReading Thm.sensor; rw [hsensors],
      ← hurefresh, hcomp, ← hv, State.settleTemper_thm_refresh, htimers]
  · rw [State.appliedNow_congr (s := v) (hfoot.sys rfl) (v.compensate_getReg _ (by decide)) (by rw [hcomp]) (by rw [hcomp])
      (by rw [hcomp]), hcomp, ← hv]
    exact State.settleTemper_applied _
  · rw [hfoot.sys rfl, ← hv, State.settleTemper_sys, (Foot.thermTimers _).sys rfl, ← hu]
    exact State.clockTo_sys s atNs
  · rw [hfoot.stg rfl, ← hv, State.settleTemper_stg, (Foot.thermTimers _).stg rfl, ← hu]
    exact State.clockTo_stg s atNs
  · rw [hfoot.med rfl, ← hv, State.settleTemper_med, (Foot.thermTimers _).med rfl, ← hu]
    exact State.clockTo_med s atNs
  · rw [v.compensate_getReg _ (by decide), ← hv, State.settleTemper_getReg _ _ (by decide) (by decide),
      (Foot.thermTimers _).regs _ (by decide) (by decide), ← hu]
    exact State.clockTo_getReg s atNs _ (by decide)

theorem riseBoost_runs (atNs w : Nat) (hb : s.boostOn = true) (h0 : s.thm.boost = 0) (ho : s.thm.overSince = some w)
    (hw : w + 1000000000 ≤ (s.clockTo atNs).nowNs) : Runs (.riseBoost atNs) s fun t =>
      t.thm.boost = 2 ∧ t.thm.level = s.thm.level ∧ t.thm.applied = t.appliedNow ∧
      t.getReg Reg.THM_ERR_STAT = s.getReg Reg.THM_ERR_STAT ||| 8 ∧ t.sys = s.sys := by
  have hon (u : State) (hs : u.sys = s.sys) (hf : u.thm.sensors = s.thm.sensors) : u.boostOn = true := by
    rw [← hb]; unfold State.boostOn Thm.failed; rw [hs, hf]
  refine ⟨_, exec_riseBoost s atNs (hon _ (State.clockTo_sys ..) (by rw [State.clockTo_thm])) (by rw [State.clockTo_thm, h0])
    (by rw [State.clockTo_thm, ho]; exact expired_of_le hw), ?_, ?_, State.settleTemper_applied _, ?_, ?_⟩
  · rw [State.settleTemper_boost, if_pos (hon _ (by simp) (by simp)), State.flag_thm]; rfl
  · simp
  · rw [State.settleTemper_getReg _ _ (by decide) (by decide), State.flag_stat _ _ _ _ _ (by decide), State.modThm_getReg,
      State.clockTo_getReg _ _ _ (by decide)]
    rfl
  · simp

end

/-- Settles O32: each event of the temperature ends in settling the applied level, which leaves the sensors and the level. -/
theorem samplesAndLevels : Obligations.SamplesAndLevels := by
  intro s atNs
  refine ⟨(sensorSample_runs s · atNs), Sensor.sample_sound, fun w hc hf hw => ?_, riseBoost_runs s atNs, fun w h0 hu hw => ?_⟩
  · refine ⟨_, exec_levelFall s atNs hc (by rw [State.clockTo_thm, hf]; exact expired_of_le hw), ?_,
      State.settleTemper_applied _, ?_, ?_⟩
    · rw [State.settleTemper_thm_level, ← State.clockTo_thm s atNs]; rfl
    · rw [State.settleTemper_sys, ← State.clockTo_sys s atNs]; rfl
    · rw [State.settleTemper_stg, ← State.clockTo_stg s atNs]; rfl
  · refine ⟨_, exec_riseBoostEnd s atNs (by rwa [State.clockTo_thm]) (by rw [State.clockTo_thm, hu]; exact expired_of_le hw),
      ?_, ?_, ?_⟩
    · rw [State.settleTemper_boost]
      exact ite_self 0
    · simp
    · simp

end Sys2Proof.Machine
end
section
/-! # Quench, restart and warm-up (R460 to R463, R466) -/

namespace Sys2Proof.Machine

section
variable (s : State)

/-- The state entered and the one left stand in SYS_LAST_TRANS. -/
theorem State.goState_lastTrans (t : DevState) :
    (s.goState t).getReg Reg.SYS_LAST_TRANS = BitVec.ofNat 32 (s.sys.state.code * 16 + t.code) := by
  unfold State.goState
  extract_lets old now u v w
  have hw : w.getReg Reg.SYS_LAST_TRANS = BitVec.ofNat 32 (old.code * 16 + t.code) := by
    unfold w v
    rw [State.raise_getReg _ _ _ _ _ (by decide), State.setBits_getReg, if_neg (by decide), State.incReg_getReg,
      if_neg (by decide), State.setNat_getReg, if_pos rfl]
  rw [State.settleTemper_getReg _ _ (by decide) (by decide)]
  split
  · exact hw
  · exact hw

theorem State.settleTemper_thm_sensorQuenches : s.settleTemper.thm.sensorQuenches = s.thm.sensorQuenches := by
  obtain ⟨_, _, _, _, h⟩ := Recorded.settleTemper (R := fun _ => true) (tm := false) (fun _ _ => rfl) s
  rw [h.thm]
  rfl

/-- Only READY ends the row of quenches that failed sensors caused (R462). -/
theorem State.goState_sensorQuenches (t : DevState) (h : t ≠ .ready) :
    (s.goState t).thm.sensorQuenches = s.thm.sensorQuenches := by
  unfold State.goState
  extract_lets old now u v w
  rw [if_neg (by simpa using h), State.settleTemper_thm_sensorQuenches]
  unfold w
  rw [State.raise_thm]
  rfl

/-! ## A quench from READY -/

/-- A quench that no failed sensor caused is counted, and ends the row of those that one did. -/
theorem State.countQuench_sound : s.countQuench false =
    (s.satField Reg.THM_QUENCH_CNT 0 16 1).modThm fun t => { t with sensorQuenches := 0 } := rfl

/-- A quench from READY with no reset flush running, counted, with no reset held. -/
def State.quenchCounted (s : State) : State :=
  (s.countQuench false).modSys fun x => { x with held := none, flushFor := none }

theorem State.quenchCounted_dirtyNow : s.quenchCounted.dirtyNow = s.dirtyNow := rfl

theorem State.quench_of_ready (h : s.sys.state = .ready) (hf : s.sys.flushFor = none) : s.quench false =
    if s.dirtyNow then (s.quenchCounted.startSeal .quench).goState .quench else (s.quenchCounted.goState .quench).powerDown := by
  have hrun : (s.countQuench false).sys.flushFor.isSome = false := by rw [State.countQuench_sound]; exact congrArg _ hf
  have hclean : DevState.ready.clean = false := rfl
  have hsafe : (DevState.ready == .safe) = false := rfl
  unfold State.quench
  simp only [h, hrun, hclean, hsafe, Bool.false_or, Bool.false_eq_true, if_false]
  rw [← State.quenchCounted, s.quenchCounted_dirtyNow]
  cases s.dirtyNow
  · simp
  · simp

/-- Powered-down QUENCH: the links are down and the Traverse held in reset. -/
theorem State.powerDown_down : s.powerDown.sys.poweredDown = true ∧ s.powerDown.sys.state = s.sys.state ∧
    s.powerDown.port0.linkUp = false ∧ s.powerDown.port1.linkUp = false ∧ s.powerDown.trv.rstLow = true :=
  ⟨rfl, rfl, rfl, rfl, rfl⟩

theorem State.startSeal_pfl (k : MonKind) : (s.startSeal k).pfl.phase = .sealing ∧ (s.startSeal k).pfl.kind = k :=
  ⟨rfl, rfl⟩

theorem exec_quenchHoldExpiry {w : Nat} (atNs : Nat) (hs : s.sys.supplies = true) (hq : s.thm.quenchSince = some w)
    (hw : w + s.conf.quenchMs * 1000000 ≤ (s.clockTo atNs).nowNs) :
    exec (.quenchHoldExpiry atNs) s = .next ((s.clockTo atNs).quench false) := by
  change execQuenchHoldExpiry atNs s = _
  unfold execQuenchHoldExpiry
  rw [hs, if_neg (by decide)]
  extract_lets u
  rw [if_pos]
  rw [State.clockTo_thm, hq, State.clockTo_conf]
  exact expired_of_le hw

end

section
variable {s : State} {atNs w : Nat} (hs : s.sys.supplies = true) (hq : s.thm.quenchSince = some w)
  (hw : w + s.conf.quenchMs * 1000000 ≤ (s.clockTo atNs).nowNs) (hr : s.sys.state = .ready) (hf : s.sys.flushFor = none)
include hs hq hw hr hf

/-- With something to flush the device enters QUENCH and seals. -/
theorem quench_dirty_runs (hd : (s.clockTo atNs).dirtyNow = true) : Runs (.quenchHoldExpiry atNs) s fun t =>
    t.sys.state = .quench ∧ t.sys.poweredDown = s.sys.poweredDown ∧ t.sys.held = none ∧ t.pfl.phase = .sealing ∧
    t.pfl.kind = .quench ∧ t.thm.sensorQuenches = 0 ∧ t.stg = s.stg ∧ t.med = s.med ∧
    t.getReg Reg.SYS_LAST_TRANS = 0x59 := by
  have hsys := State.clockTo_sys s atNs
  refine ⟨_, exec_quenchHoldExpiry s atNs hs hq hw, ?_⟩
  beta_reduce
  rw [State.quench_of_ready _ (by rw [hsys, hr]) (by rw [hsys, hf]), if_pos hd]
  generalize hv : (s.clockTo atNs).quenchCounted = v
  have hvsys : v.sys = { s.sys with held := none, flushFor := none } := by rw [← hv, ← hsys]; rfl
  have hfoot := Foot.startSeal v .quench
  refine ⟨?_, ?_, ?_, ?_, ?_, ?_, ?_, ?_, ?_⟩
  · rw [State.goState_sys]
  · rw [State.goState_sys, hfoot.sys rfl, hvsys]
  · rw [State.goState_sys, hfoot.sys rfl, hvsys]
  · rw [State.goState_pfl]; exact (v.startSeal_pfl _).1
  · rw [State.goState_pfl]; exact (v.startSeal_pfl _).2
  · rw [State.goState_sensorQuenches _ _ (by decide), hfoot.thm rfl, ← hv]; rfl
  · rw [State.goState_stg, hfoot.stg rfl, ← hv]; exact State.clockTo_stg s atNs
  · rw [State.goState_med, hfoot.med rfl, ← hv]; exact State.clockTo_med s atNs
  · rw [State.goState_lastTrans, hfoot.sys rfl, hvsys, hr]; rfl

/-- With nothing to flush the device powers down in QUENCH. -/
theorem quench_clean_runs (hd : (s.clockTo atNs).dirtyNow = false) : Runs (.quenchHoldExpiry atNs) s fun t =>
    t.sys.state = .quench ∧ t.sys.poweredDown = true ∧ t.port0.linkUp = false ∧ t.port1.linkUp = false ∧
    t.trv.rstLow = true ∧ t.stg = s.stg ∧ t.med = s.med := by
  have hsys := State.clockTo_sys s atNs
  refine ⟨_, exec_quenchHoldExpiry s atNs hs hq hw, ?_⟩
  beta_reduce
  rw [State.quench_of_ready _ (by rw [hsys, hr]) (by rw [hsys, hf]), hd, if_neg (by decide)]
  generalize hv : (s.clockTo atNs).quenchCounted.goState .quench = v
  obtain ⟨hdown, hstate, hlink0, hlink1, hrst⟩ := v.powerDown_down
  refine ⟨?_, hdown, hlink0, hlink1, hrst, ?_, ?_⟩
  · rw [hstate, ← hv, State.goState_sys]
  · rw [(Foot.powerDown v).stg rfl, ← hv, State.goState_stg]; exact State.clockTo_stg s atNs
  · rw [(Foot.powerDown v).med rfl, ← hv, State.goState_med]; exact State.clockTo_med s atNs

end

/-! ## Restart, warm-up and the thermal parameter -/

section
variable (s : State)

theorem exec_quenchRestart {w : Nat} (atNs : Nat) (hs : s.sys.supplies = true) (hq : s.sys.state = .quench)
    (hd : s.sys.poweredDown = true) (hk : s.thm.stuck = false) (hr : s.thm.restartSince = some w)
    (hw : w + s.conf.restartS * 1000000000 ≤ (s.clockTo atNs).nowNs) :
    exec (.quenchRestart atNs) s = .next ((s.clockTo atNs).performReset .quenchRestart) := by
  change execQuenchRestart atNs s = _
  unfold execQuenchRestart
  rw [hs, if_neg (by decide)]
  extract_lets u
  rw [if_pos]
  rw [State.clockTo_sys, State.clockTo_thm, State.clockTo_conf, hq, hd, hk, hr, expired_of_le hw]
  rfl

/-- A stuck device takes note of the time alone. -/
theorem exec_quenchRestart_of_stuck (atNs : Nat) (hk : s.thm.stuck = true) :
    exec (.quenchRestart atNs) s = .next (if s.sys.supplies then s.clockTo atNs else s) := by
  change execQuenchRestart atNs s = _
  unfold execQuenchRestart
  cases s.sys.supplies
  · rfl
  · rw [if_neg (by decide)]
    extract_lets u
    rw [if_neg]
    · rfl
    · rw [State.clockTo_thm, hk]; simp

theorem exec_warmupTimeout (atNs : Nat) (hr : s.running = true) (hw : s.sys.state = .warmup)
    (ht : s.sys.since + 120000000000 ≤ (s.clockTo atNs).nowNs) : exec (.warmupTimeout atNs) s = .next
      ((((s.clockTo atNs).modThm fun t => { t with warmTimeout := true }).flag Reg.THM_ERR_STAT Reg.THM_ERR_EN 2 false).goState
        .safe) := by
  change execWarmupTimeout atNs s = _
  unfold execWarmupTimeout
  rw [hr, if_neg (by decide)]
  extract_lets u v
  rw [if_pos]
  rw [State.clockTo_sys, hw, decide_eq_true ht]
  rfl

theorem exec_thmParamWrite (via : Via) (v : Word) (h : s.reaches via = true) : exec (.thmParamWrite via v) s =
    .next (if within (v.toNat % 256) 70 95 then
      (s.emit (.regWriteDone via Reg.THM_MED_LIMIT)).setNat Reg.THM_MED_LIMIT (v.toNat % 256)
      else s.emit (.regWriteDone via Reg.THM_MED_LIMIT)) := by
  change execThmParamWrite via v s = _
  unfold execThmParamWrite
  rw [h, if_neg (by decide)]

end

/-- Settles O33: a quench seals or powers down by `dirtyNow`; the restart is the reset of that kind, and WARMUP's end a transition. -/
theorem quenchAndWarmup : Obligations.QuenchAndWarmup := by
  intro s atNs
  refine ⟨fun w hs hq hw hr hf hd => quench_dirty_runs hs hq hw hr hf hd, fun w hs hq hw hr hf hd => quench_clean_runs hs hq hw hr hf hd,
    fun w hs hq hd hk hr hw => ?_, fun hk => ?_, fun hr hw ht => ?_, fun via v h hlo hhi => ?_, fun via v h hout => ?_⟩
  · have hkind : ResetKind.quenchRestart ≠ .diagnostic := by decide
    obtain ⟨n, hsys⟩ := (s.clockTo atNs).performReset_sys hkind
    refine ⟨_, exec_quenchRestart s atNs hs hq hd hk hr hw, ?_, ?_, ?_, ?_⟩
    · rw [hsys]
    · rw [hsys]
    · rw [State.performReset_cause _ hkind, State.clockTo_sys, hq]; rfl
    · rw [State.performReset_med, State.clockTo_med]
  · refine ⟨_, exec_quenchRestart_of_stuck s atNs hk, ?_⟩
    cases s.sys.supplies
    · exact ⟨rfl, rfl, rfl⟩
    · exact ⟨State.clockTo_sys s atNs, State.clockTo_thm s atNs, State.clockTo_med s atNs⟩
  · refine ⟨_, exec_warmupTimeout s atNs hr hw ht, ?_, ?_, ?_, ?_, ?_⟩
    · rw [State.goState_sys]
    · rw [State.goState_thm_warmTimeout, State.flag_thm]; rfl
    · rw [State.goState_getReg _ _ _ (by decide) (by decide), State.flag_stat _ _ _ _ _ (by decide), State.modThm_getReg,
        State.clockTo_getReg _ _ _ (by decide)]
      rfl
    · rw [State.goState_lastTrans, State.flag_sys, State.modThm_sys, State.clockTo_sys, hw]; rfl
    · simp
  · rw [exec_thmParamWrite s via v h, if_pos]
    unfold within
    simp [hlo, hhi]
  · rw [exec_thmParamWrite s via v h, if_neg]
    unfold within
    simp
    omega

end Sys2Proof.Machine
end
section
/-! # Clocks and the datum (R191, R194 to R197, R205, Table DTM-2) -/

namespace Sys2Proof.Machine

/-! ## The commands -/

section
variable (s : State)

/-- A deed of the datum goes to the end of the parameter store's queue. -/
theorem State.datumDeed_queue : s.datumDeed.pst.queue = s.pst.queue ++ [.deed 0 (.datum s.datumNs s.dtm.everSet)] := rfl

theorem State.datumDeed_getReg (o : Nat) : s.datumDeed.getReg o = s.getReg o := rfl

theorem State.datumDeed_dtm : s.datumDeed.dtm = s.dtm := rfl

theorem exec_xoLoss (ppm : Int) (h : s.dtm.xoLost = false) : exec (.xoLoss ppm) s =
    .next (((((s.setReg Reg.DTM_XO_FREQ (BitVec.ofInt 32 ppm)).modDtm fun t => { t with xoLost := true }).incReg
      Reg.DTM_XO_LOSS_CNT).flag Reg.DTM_ERR_STAT Reg.DTM_ERR_EN 0 true).raise 0x7101 0 0) := by
  change execXoLoss .. = _
  simp [execXoLoss, h]

theorem exec_xoLoss_of_lost (ppm : Int) (h : s.dtm.xoLost = true) : exec (.xoLoss ppm) s =
    .next (s.setReg Reg.DTM_XO_FREQ (BitVec.ofInt 32 ppm)) := by
  change execXoLoss .. = _
  simp [execXoLoss, h]

theorem exec_xoReturn (via : Via) (valid : Nat) (hr : s.reaches via = true) : exec (.xoReturn via valid) s =
    .next (if s.dtm.xoLost && decide (10000000 ≤ valid) then
      (s.emit (.regWriteDone via Reg.DTM_CTL)).modDtm fun t => { t with xoLost := false }
      else s.emit (.regWriteDone via Reg.DTM_CTL)) := by
  change execXoReturn .. = _
  simp [execXoReturn, hr]

theorem exec_datumDeedTimer {w : Nat} (atNs : Nat) (hd : s.dtm.deedAt = some w)
    (ht : w + 3600000000000 ≤ (s.clockTo atNs).nowNs) : exec (.datumDeedTimer atNs) s =
      .next ((s.clockTo atNs).modDtm fun d => { d with deedAt := some (s.clockTo atNs).nowNs }).datumDeed := by
  change execDatumDeedTimer .. = _
  simp only [execDatumDeedTimer, State.clockTo_dtm_deedAt, hd, if_pos ht]

theorem exec_slewComplete (atNs : Nat) (hs : (s.clockTo atNs).dtm.slewing = true) (ho : (s.clockTo atNs).dtm.offset = 0) :
    exec (.slewComplete atNs) s =
      .next (((s.clockTo atNs).modDtm fun t => { t with slewing := false }).setBits Reg.DTM_INT_STAT 2).datumDeed := by
  change execSlewComplete .. = _
  simp only [execSlewComplete, hs, ho, beq_self_eq_true, Bool.and_self, if_true]

theorem exec_dtmParamWrite_slew (via : Via) (v : Word) (hr : s.reaches via = true) : exec (.dtmParamWrite via false v) s =
    .next (if within v.toNat 100 1000 then (s.emit (.regWriteDone via Reg.DTM_SLEW_PPM)).setReg Reg.DTM_SLEW_PPM v
      else s.emit (.regWriteDone via Reg.DTM_SLEW_PPM)) := by
  change execDtmParamWrite .. = _
  simp [execDtmParamWrite, hr]

theorem exec_dtmParamWrite_step (via : Via) (v : Word) (hr : s.reaches via = true) : exec (.dtmParamWrite via true v) s =
    .next (if within v.toNat 100 1000000 then (s.emit (.regWriteDone via Reg.DTM_STEP_US)).setReg Reg.DTM_STEP_US v
      else s.emit (.regWriteDone via Reg.DTM_STEP_US)) := by
  change execDtmParamWrite .. = _
  simp [execDtmParamWrite, hr]

/-- A PLL without lock. -/
def Dtm.unlock (t : Dtm) (pll : Fin 4) : Dtm := match pll with
  | 0 => { t with pllF := false }
  | 1 => { t with pllE := false }
  | 2 => { t with pllT := false }
  | _ => { t with pllH := false }

theorem exec_pllUnlock (pll : Fin 4) : exec (.pllUnlock pll) s =
    .next ((s.modDtm (·.unlock pll)).flag Reg.DTM_ERR_STAT Reg.DTM_ERR_EN 1 false) := rfl

/-- An unlocked PLL is the one that lost its lock, and the clocks stay. -/
theorem Dtm.unlock_pll (t : Dtm) (pll : Fin 4) : (pll = 0 → (t.unlock pll).pllF = false) ∧
    (pll = 1 → (t.unlock pll).pllE = false) ∧ (pll = 2 → (t.unlock pll).pllT = false) ∧
    (pll = 3 → (t.unlock pll).pllH = false) ∧ (t.unlock pll).datum = t.datum ∧ (t.unlock pll).mono = t.mono := by
  match pll with
  | 0 => simp [Dtm.unlock]
  | 1 => simp [Dtm.unlock]
  | 2 => simp [Dtm.unlock]
  | 3 => simp [Dtm.unlock]

theorem within_iff {x lo hi : Nat} : within x lo hi = true ↔ lo ≤ x ∧ x ≤ hi := by
  simp [within]

end

/-- Settles O34: each command's whole next state, read field by field. -/
theorem clocksAndDatum : Obligations.ClocksAndDatum := by
  intro s
  refine ⟨fun ppm h => ⟨_, exec_xoLoss s ppm h, ?_⟩, fun ppm h => exec_xoLoss_of_lost s ppm h, fun via valid hr hl hv => ?_,
    fun via valid hr hv => ?_, fun atNs w hd ht => ⟨_, exec_datumDeedTimer s atNs hd ht, rfl, ?_, State.clockTo_sys s atNs⟩,
    fun atNs hs ho => ⟨_, exec_slewComplete s atNs hs ho, rfl, rfl, ?_, ?_⟩, fun via v hr hlo hhi => ?_,
    fun via v hr hlo hhi => ?_, fun via v hr hout => ?_, fun pll => ⟨_, exec_pllUnlock s pll, ?_⟩⟩
  · refine ⟨by simp, ?_, ?_, ?_, by simp, by simp, by simp, by simp⟩
    · rw [State.raise_getReg _ _ _ _ _ (by decide), State.flag_getReg _ _ _ _ _ _ (by decide) (by decide), State.incReg_getReg,
        if_neg (by decide), State.modDtm_getReg, State.getReg_setReg, if_pos rfl]
    · rw [State.raise_getReg _ _ _ _ _ (by decide), State.flag_getReg _ _ _ _ _ _ (by decide) (by decide), State.incReg_getReg,
        if_pos rfl, State.modDtm_getReg, State.getReg_setReg, if_neg (by decide)]
    · rw [State.raise_getReg _ _ _ _ _ (by decide), State.flag_stat _ _ _ _ _ (by decide), State.incReg_getReg,
        if_neg (by decide), State.modDtm_getReg, State.getReg_setReg, if_neg (by decide)]
      rfl
  · rw [exec_xoReturn s via valid hr, hl, decide_eq_true hv]
    rfl
  · rw [exec_xoReturn s via valid hr, decide_eq_false (by omega), Bool.and_false, if_neg (by decide)]
  · rw [State.datumDeed_queue, ← State.clockTo_dtm_everSet s atNs]
    rfl
  · rw [State.datumDeed_getReg, State.setBits_getReg, if_pos rfl]
    rfl
  · rw [State.datumDeed_queue, ← State.clockTo_dtm_everSet s atNs]
    rfl
  · rw [exec_dtmParamWrite_slew s via v hr, if_pos (within_iff.2 ⟨hlo, hhi⟩)]
  · rw [exec_dtmParamWrite_step s via v hr, if_pos (within_iff.2 ⟨hlo, hhi⟩)]
  · rw [exec_dtmParamWrite_slew s via v hr, if_neg]
    rw [within_iff]
    omega
  · obtain ⟨hF, hE, hT, hH, hdatum, hmono⟩ := s.dtm.unlock_pll pll
    refine ⟨?_, ?_, ?_, ?_, ?_, ?_, ?_, by simp⟩
    · simpa using hF
    · simpa using hE
    · simpa using hT
    · simpa using hH
    · rw [State.flag_stat _ _ _ _ _ (by decide), State.modDtm_getReg]
      rfl
    · simpa using hdatum
    · simpa using hmono

/-! ## The rows of Table DTM-2 -/

section
variable {lock everSet : Bool} {stepUs : Nat} {t d n : Int}

theorem disciplineRow_locked : disciplineRow true everSet stepUs t d n = .refused := rfl

theorem disciplineRow_first (h : n ≤ t + (n - d)) : disciplineRow false false stepUs t d n = .first (t + (n - d) - n) := if_pos h

theorem disciplineRow_step (hlo : (stepUs : Int) * 1000 ≤ t - d) (hhi : t - d ≤ 34560000000000000) :
    disciplineRow false true stepUs t d n = .step (t - d).toNat := if_pos ⟨hlo, hhi⟩

theorem disciplineRow_back (hlt : t - d < 0) (hge : -60000000000 ≤ t - d) :
    disciplineRow false true stepUs t d n = .slew (t - d) := by
  have h1 : ¬((stepUs : Int) * 1000 ≤ t - d ∧ t - d ≤ 34560000000000000) := by omega
  have h2 : ¬34560000000000000 < t - d := by omega
  simp only [disciplineRow, Bool.false_eq_true, if_false, Bool.not_true, if_neg h1, if_neg h2, if_pos hge, ite_self]

theorem disciplineRow_far (h : 34560000000000000 < t - d) : disciplineRow false true stepUs t d n = .refused := by
  have h1 : ¬((stepUs : Int) * 1000 ≤ t - d ∧ t - d ≤ 34560000000000000) := by omega
  simp only [disciplineRow, Bool.false_eq_true, if_false, Bool.not_true, if_neg h1, if_pos h]

end

section
variable (s : State) (t ago : Nat)

/-- The row of Table DTM-2 for a value of `t` that is `ago` ns old. -/
def State.datumRow (s : State) (t ago : Nat) : Discipline :=
  disciplineRow (s.bit Reg.DTM_CTL 0) s.dtm.everSet (s.regNat Reg.DTM_STEP_US) t ((s.datumNs : Int) - ago) s.datumNs

/-- A refusal counts, is flagged and logged, and leaves the datum. -/
theorem State.discipline_refused (h : s.datumRow t ago = .refused) : (s.discipline t ago).2 = false ∧
    (s.discipline t ago).1.getReg Reg.DTM_SET_REFUSED = s.getReg Reg.DTM_SET_REFUSED + 1 ∧
    (s.discipline t ago).1.dtm.datum = s.dtm.datum := by
  have e : s.discipline t ago =
      (((s.incReg Reg.DTM_SET_REFUSED).flag Reg.DTM_ERR_STAT Reg.DTM_ERR_EN 2 true).raise 0x7202 t 0, false) := by
    unfold State.datumRow at h
    unfold State.discipline
    simp only [h]
  rw [e]
  refine ⟨rfl, ?_, by simp⟩
  change State.getReg (State.raise ..) _ = _
  rw [State.raise_getReg _ _ _ _ _ (by decide), State.flag_getReg _ _ _ _ _ _ (by decide) (by decide), State.incReg_getReg,
    if_pos rfl]

/-- A first setting moves the datum forward, and the assay's timer with it. -/
theorem State.discipline_first {delta : Int} (h : s.datumRow t ago = .first delta) : (s.discipline t ago).2 = true ∧
    (s.discipline t ago).1.dtm.datum = s.dtm.datum + delta.toNat * nsUnits ∧ (s.discipline t ago).1.dtm.everSet = true ∧
    (s.discipline t ago).1.pwr.assayTimer = s.pwr.assayTimer + delta.toNat := by
  unfold State.datumRow at h
  unfold State.discipline
  simp only [h]
  refine ⟨trivial, ?_, ?_, ?_⟩
  · rw [State.incReg_dtm, State.setPair_dtm, State.modPwr_dtm, State.modDtm_dtm]
  · rw [State.incReg_dtm, State.setPair_dtm, State.modPwr_dtm, State.modDtm_dtm]
  · rw [State.incReg_pwr, State.setPair_pwr, State.modPwr_pwr, State.modDtm_pwr]

/-- A step moves the datum forward at once and is kept in DTM_GAP. -/
theorem State.discipline_step {ns : Nat} (h : s.datumRow t ago = .step ns) : (s.discipline t ago).2 = true ∧
    (s.discipline t ago).1.dtm.datum = s.dtm.datum + ns * nsUnits ∧ (s.discipline t ago).1.dtm.slewing = false ∧
    (s.discipline t ago).1.pairNat Reg.DTM_GAP_LO = ns % 2 ^ 64 := by
  unfold State.datumRow at h
  unfold State.discipline
  simp only [h]
  refine ⟨trivial, ?_, ?_, ?_⟩
  · rw [State.datumDeed_dtm]; simp
  · rw [State.datumDeed_dtm]; simp
  · unfold State.pairNat State.regNat
    rw [State.datumDeed_getReg, State.datumDeed_getReg, State.raise_getReg _ _ _ _ _ (by decide),
      State.raise_getReg _ _ _ _ _ (by decide), State.setBits_getReg, if_neg (by decide), State.setBits_getReg, if_neg (by decide),
      State.incReg_getReg, if_neg (by decide), State.incReg_getReg, if_neg (by decide), State.setPair_getReg, if_neg (by decide),
      if_pos rfl, State.setPair_getReg, if_pos rfl, BitVec.toNat_ofNat, BitVec.toNat_ofNat]
    omega

/-- A slew leaves the datum and keeps the offset still to go. -/
theorem State.discipline_slew {ns : Int} (h : s.datumRow t ago = .slew ns) : (s.discipline t ago).2 = true ∧
    (s.discipline t ago).1.dtm.datum = s.dtm.datum ∧ (s.discipline t ago).1.dtm.slewing = true ∧
    (s.discipline t ago).1.dtm.offset = ns * (nsUnits : Int) := by
  unfold State.datumRow at h
  unfold State.discipline
  simp only [h]
  simp

end

/-- Settles O35: the row of Table DTM-2 that each case meets, and what that row does. -/
theorem datumDiscipline : Obligations.DatumDiscipline := by
  intro s t ago
  refine ⟨fun hl => ?_, fun hl he hN => ?_, fun hl he ha hlo hhi => ?_, fun hl he ha hlt hge => ?_, fun hl he ha hfar _ => ?_⟩
  · exact s.discipline_refused t ago (by rw [State.datumRow, hl, disciplineRow_locked])
  · have hrow : s.datumRow t ago = .first ((t + ago - s.datumNs : Nat) : Int) := by
      rw [State.datumRow, hl, he, disciplineRow_first (by omega)]
      congr 1
      omega
    obtain ⟨hok, hdatum, hset, htimer⟩ := s.discipline_first t ago hrow
    exact ⟨hok, hdatum, hset, htimer⟩
  · have hrow : s.datumRow t ago = .step (t + ago - s.datumNs) := by
      rw [State.datumRow, hl, he, disciplineRow_step (by omega) (by omega)]
      congr 1
      omega
    exact s.discipline_step t ago hrow
  · have hrow : s.datumRow t ago = .slew (-((s.datumNs - (t + ago) : Nat) : Int)) := by
      rw [State.datumRow, hl, he, disciplineRow_back (by omega) (by omega)]
      congr 1
      omega
    obtain ⟨hok, hdatum, hslew, hoff⟩ := s.discipline_slew t ago hrow
    exact ⟨hok, hdatum, hslew, by rw [hoff, Int.neg_mul]; rfl⟩
  · have hrow : s.datumRow t ago = .refused := by
      rw [State.datumRow, hl, he, disciplineRow_far (by omega)]
    obtain ⟨hok, hcnt, hdatum⟩ := s.discipline_refused t ago hrow
    exact ⟨hok, hdatum, hcnt⟩

end Sys2Proof.Machine
end
section
/-! # The mailbox: when a command runs, firmware, time, logs, labels and health (R72 to R77, R80, R194 to R196, R406, R407, R427) -/

namespace Sys2Proof.Machine

/-! ## A held mailbox, BRACED, a taken background slot, and the reply -/

section
variable {s : State} {via : Via} {op : Nat}

theorem State.mbox_of_held {braced : Option (Nat × Nat)} {bg : Bool} {run : State → State} (hrun : s.running = true)
    (hpower : s.sys.poweredDown = false) (hport : s.portPresent via.port = true) (hbusy : s.mboxBusy via = false)
    (hheld : s.mboxHeld = true) : s.mbox via op braced bg run = .next (s.holdMbox via) := by
  simp [State.mbox, hrun, hpower, hport, hbusy, hheld]

theorem State.mbox_of_braced (h : s.mboxOpen via op = true) (hs : s.sys.state = .braced) {ret ext : Nat} {bg : Bool}
    {run : State → State} : s.mbox via op (some (ret, ext)) bg run = .next (s.mboxReply via op ret ext []) := by
  simp only [State.mboxOpen, Bool.and_eq_true, Bool.not_eq_true'] at h
  obtain ⟨⟨⟨⟨⟨hrun, hpower⟩, hport⟩, hbusy⟩, hheld⟩, hshut⟩ := h
  simp [State.mbox, hrun, hpower, hport, hbusy, hheld, hshut, hs]

theorem State.mbox_of_slotTaken (h : s.mboxOpen via op = true) {braced : Option (Nat × Nat)}
    (hbraced : s.sys.state ≠ .braced ∨ braced = none) (hslot : s.svc.background ≠ none) {run : State → State} :
    s.mbox via op braced true run = .next (s.mboxReply via op 6 0 []) := by
  simp only [State.mboxOpen, Bool.and_eq_true, Bool.not_eq_true'] at h
  obtain ⟨⟨⟨⟨⟨hrun, hpower⟩, hport⟩, hbusy⟩, hheld⟩, hshut⟩ := h
  have htaken : s.svc.background.isSome = true := Option.isSome_iff_ne_none.2 hslot
  simp only [State.mbox, hrun, hpower, hport, hbusy, hheld, hshut, htaken, Bool.not_true, Bool.or_false, Bool.false_eq_true,
    if_false, Bool.and_self, if_true]
  rcases hbraced with h | h
  · rw [beq_false_of_ne h]
  · rw [h]; cases s.sys.state == .braced <;> rfl

end

section
variable (s : State) (p : Fin 2)

/-- A command that waits sets its doorbell; during a parameter-store operation bit 1 of HPT_MBOX_STAT says so too (R427). -/
theorem State.holdMbox_bar2 : ((s.holdMbox (.bar2 p)).port p.val).doorbell = true ∧
    (s.holdMbox (.bar2 p)).getReg (Reg.HPT_MBOX_STAT p.val) =
      s.getReg (Reg.HPT_MBOX_STAT p.val) ||| (if s.pst.run.isSome then 3 else 1) := by
  have hring : ((s.ringMbox (.bar2 p)).port p.val).doorbell = true := congrArg Port.doorbell (State.modPort_port_same ..)
  have hstat : (s.ringMbox (.bar2 p)).getReg (Reg.HPT_MBOX_STAT p.val) = s.getReg (Reg.HPT_MBOX_STAT p.val) ||| 1 := by
    rw [State.ringMbox, State.setBits_getReg, if_pos rfl, State.modPort_getReg]
    rfl
  unfold State.holdMbox
  dsimp only
  cases s.pst.run.isSome
  · exact ⟨hring, hstat⟩
  · refine ⟨hring, ?_⟩
    rw [if_pos rfl, if_pos rfl, State.setBits_getReg, if_pos rfl, hstat, BitVec.or_assoc]
    rfl

variable (op ret ext : Nat) (fields : List Nat)

theorem State.mboxReply_bar2 : ((s.mboxReply (.bar2 p) op ret ext fields).port p.val).doorbell = false ∧
    (s.mboxReply (.bar2 p) op ret ext fields).getReg (Reg.HPT_MBOX_LAST p.val) = BitVec.ofNat 32 (op * 65536 + ret) := by
  have hdoor : (((s.modPort p.val fun x => { x with doorbell := false }).port p.val)).doorbell = false :=
    congrArg Port.doorbell (State.modPort_port_same ..)
  simp only [State.mboxReply]
  split
  · refine ⟨hdoor, ?_⟩
    rw [State.emit_getReg, State.modPst_getReg, State.setNat_getReg, if_pos rfl]
  · refine ⟨hdoor, ?_⟩
    rw [State.emit_getReg, State.setNat_getReg, if_pos rfl]

/-- An answer leaves the parameter store's queue. -/
theorem State.mboxReply_queue (via : Via) : (s.mboxReply via op ret ext fields).pst.queue = s.pst.queue := by
  cases via with
  | mctp => rfl
  | bar2 q => simp only [State.mboxReply]; split <;> simp

end

/-- Settles O36: what `State.mbox` does in each of its cases. -/
theorem mailboxDiscipline : Obligations.MailboxDiscipline := by
  intro s via op braced bg run hrun hpower hport hbusy
  refine ⟨fun hheld => ⟨_, State.mbox_of_held hrun hpower hport hbusy hheld, (Foot.holdMbox ..).out rfl, fun p hp => ?_,
      (Foot.holdMbox ..).mono (by decide), fun hm => by rw [hm]; rfl⟩,
    fun h hs ret ext hb => by rw [hb]; exact State.mbox_of_braced h hs,
    fun h hb hbg hslot => by rw [hbg]; exact State.mbox_of_slotTaken h hb hslot,
    fun h hb hslot => State.mbox_of_open h run hb hslot,
    fun ret ext fields => ⟨s.mboxReply_out .., (Foot.mboxReply ..).mono (by decide), fun p hp => ?_⟩⟩
  · rw [hp]
    exact s.holdMbox_bar2 p
  · rw [hp]
    exact s.mboxReply_bar2 p op ret ext fields

/-! ## Firmware -/

section
variable {s : State} {via : Via}

theorem exec_getFwInfo (h : s.mboxOpen via 0x0200 = true) :
    ∃ fields, exec (.getFwInfo via) s = .next (s.done via 0x0200 fields) ∧ fields.length = 5 := by
  exact ⟨_, show execGetFwInfo via s = _ from State.query_of_open h _, rfl⟩

/-- The state that a chunk of firmware leaves before its answer: the inactive slot as far as it is written, and the chunk on
its way to the parameter store. -/
def State.fwChunk (s : State) (via : Via) (offset : Nat) (bytes : List Byte) (last : Bool) (fw : FwSlot) : State :=
  let slot : FwSlot := { fw with check := if last then fw.check else 1, written := offset + bytes.length }
  let s' := s.setFwSlot s.fwSpare (if offset = 0 then none else some { slot with check := 1, written := offset })
  let s' := s'.modSvc fun v =>
    { v with writing := some { via := via, opcode := 0x0201, failed := false, image := none, fw := some slot } }
  s'.modPst fun p => { p with queue := p.queue ++ chunkOps (if s.fwSpare then 64 else 0) 64 offset (bytes.map (·.toNat)) }

section
variable (h : s.mboxOpen via 0x0201 = true) (hb : s.sys.state ≠ .braced) (hs : s.svc.background = none) {offset : Nat}
  {bytes : List Byte} (last : Bool) (fw : FwSlot) (he : bytes ≠ []) (hl : offset + bytes.length ≤ 4194304)
include h hb hs he hl

theorem exec_transferFw (ho : offset = 0 ∨ offset = ((s.svc.fwSlot s.fwSpare).map (·.written)).getD 0) :
    exec (.transferFw via offset bytes last fw) s = .next ((s.fwChunk via offset bytes last fw).background via 0x0201) := by
  change execTransferFw .. = _
  refine (State.mbox_of_open h _ (.inl hb) (.inr hs)).trans ?_
  dsimp only
  rw [if_neg (by simp [he]; omega), if_neg (by omega)]
  rfl

theorem exec_transferFw_apart (ho : offset ≠ 0) (ho' : offset ≠ ((s.svc.fwSlot s.fwSpare).map (·.written)).getD 0) :
    exec (.transferFw via offset bytes last fw) s = .next (s.mboxReply via 0x0201 9 0 []) := by
  change execTransferFw .. = _
  refine (State.mbox_of_open h _ (.inl hb) (.inr hs)).trans ?_
  dsimp only
  rw [if_neg (by simp [he]; omega), if_pos ⟨ho, ho'⟩]
  rfl

end

theorem exec_activateFw (h : s.mboxOpen via 0x0202 = true) (hb : s.sys.state ≠ .braced) (slot : Fin 2) :
    exec (.activateFw via slot) s = .next (if (slot == 1) == s.fwSpare then
      (s.queueConfig fun c => { c with pendFw := some s.fwSpare }).done via 0x0202 [] else s.mboxReply via 0x0202 0xB 0 []) := by
  change execActivateFw .. = _
  exact State.mbox_of_open h _ (.inl hb) (.inl rfl)

end

/-- A slot of the firmware after one is set. -/
theorem State.setFwSlot_fwSlot (s : State) (b c : Bool) (x : Option FwSlot) :
    (s.setFwSlot b x).svc.fwSlot c = if c = b then x else s.svc.fwSlot c := by
  cases b <;> cases c <;> rfl

/-- A background operation takes the slot; the answer says so. -/
theorem State.background_svc (s : State) (via : Via) (op : Nat) : (s.background via op).svc =
    { s.svc with background := some { via := via, opcode := op } } := (Foot.mboxReply ..).svc rfl

theorem State.background_out (s : State) (via : Via) (op : Nat) : (s.background via op).out = s.out ++ [.mbox via op 1 0 []] :=
  State.mboxReply_out ..

theorem State.background_queue (s : State) (via : Via) (op : Nat) : (s.background via op).pst.queue = s.pst.queue :=
  State.mboxReply_queue ..

/-- A first chunk of firmware: the inactive slot is empty, and the chunk goes behind what waits in the parameter store. -/
theorem transferFw_runs {s : State} {via : Via} (h : s.mboxOpen via 0x0201 = true) (hb : s.sys.state ≠ .braced)
    (hs : s.svc.background = none) {bytes : List Byte} (last : Bool) (fw : FwSlot) (he : bytes ≠ []) (hl : bytes.length ≤ 4194304) :
    Runs (.transferFw via 0 bytes last fw) s fun t =>
      t.svc.fwSlot s.fwSpare = none ∧ t.svc.fwSlot (!s.fwSpare) = s.svc.fwSlot (!s.fwSpare) ∧
      t.svc.background = some { via := via, opcode := 0x0201 } ∧
      t.pst.queue.take s.pst.queue.length = s.pst.queue ∧ t.out = s.out ++ [.mbox via 0x0201 1 0 []] ∧
      Touches (parts [.reg 2, .port0, .port1, .svc, .pst, .out]) s t := by
  refine ⟨_, exec_transferFw h hb hs last fw he (by omega) (.inl rfl), ?_, ?_, ?_, ?_, ?_, ?_⟩
  · rw [State.background_svc]
    exact (s.setFwSlot_fwSlot s.fwSpare s.fwSpare none).trans (if_pos rfl)
  · rw [State.background_svc]
    exact (s.setFwSlot_fwSlot s.fwSpare (!s.fwSpare) none).trans (if_neg (by simp))
  · rw [State.background_svc]
  · rw [State.background_queue]
    exact List.take_left
  · rw [State.background_out, State.fwChunk, State.modPst_out, State.modSvc_out, (Foot.setFwSlot ..).out rfl]
  · exact .step (.modPst (.modSvc (.step (.refl _ s) (Foot.setFwSlot ..) (by decide)) (by decide)) (by decide))
      (Foot.background ..) (by decide)

/-! ## Time -/

section
variable {s : State} {via : Via}

theorem exec_getTimestamp (h : s.mboxOpen via 0x0300 = true) (ago : Nat) :
    exec (.getTimestamp via ago) s = .next (s.done via 0x0300 [s.datumNs - ago]) := by
  change execGetTimestamp .. = _
  exact State.query_of_open h _

theorem exec_setTimestamp (h : s.mboxOpen via 0x0301 = true) (t : Quad) (ago : Nat) : exec (.setTimestamp via t ago) s =
    .next (if (s.discipline t.toNat ago).2 then
      (if s.dtm.everSet && decide (s.datumNs < (s.discipline t.toNat ago).1.datumNs) then
        (s.discipline t.toNat ago).1.ageGap ((s.discipline t.toNat ago).1.datumNs - s.datumNs)
        else (s.discipline t.toNat ago).1).done via 0x0301 []
      else (s.discipline t.toNat ago).1.mboxReply via 0x0301 2 0 []) := by
  change execSetTimestamp .. = _
  exact State.query_of_open h _

/-! ## Logs -/

theorem exec_getSupportedLogs (h : s.mboxOpen via 0x0400 = true) : ∃ fields, exec (.getSupportedLogs via) s =
    .next (s.done via 0x0400 fields) ∧ fields.length = 6 ∧ fields.getD 3 0 = s.evr.readable.length * 32 := by
  exact ⟨_, show execGetSupportedLogs via s = _ from State.query_of_open h _, rfl, rfl⟩

theorem exec_getLog_events (h : s.mboxOpen via 0x0401 = true) (offset length : Nat) : exec (.getLog via 1 offset length) s =
    .next (if offset % 32 ≠ 0 ∨ length % 32 ≠ 0 then s.mboxReply via 0x0401 2 0 []
      else s.done via 0x0401 (((s.evr.readable.drop (offset / 32)).take (length / 32)).flatMap fun r =>
        recBytes r.1 (if r.2 then 0xFFFF else 0))) := by
  change execGetLog via 1 offset length s = _
  exact State.query_of_open h _

theorem exec_getLog_report (h : s.mboxOpen via 0x0401 = true) (offset length : Nat) : exec (.getLog via 2 offset length) s =
    .next (s.done via 0x0401 ((s.pfl.report.bytes.drop offset).take length)) := by
  change execGetLog via 2 offset length s = _
  exact State.query_of_open h _

end

/-- Settles O38: each command's next state, with the mailbox open. -/
theorem mailboxFirmwareTimeLogs : Obligations.MailboxFirmwareTimeLogs := by
  intro s via
  refine ⟨exec_getFwInfo, fun bytes last fw h hb hs he hl => transferFw_runs h hb hs last fw he hl,
    fun offset bytes last fw h hb hs he hl ho ho' => exec_transferFw_apart h hb hs last fw he hl ho ho',
    fun slot h hb he => ?_, fun slot h hb he => ?_, fun ago h => exec_getTimestamp h ago, fun t ago h hr => ?_,
    fun t ago h hr hn => ?_, fun t ago h hr hset hlt => ?_, exec_getSupportedLogs, fun offset length h ho hl => ?_,
    fun offset length h ho => ?_, fun offset length h => exec_getLog_report h offset length⟩
  · rw [exec_activateFw h hb, he, beq_self_eq_true, if_pos rfl]
  · rw [exec_activateFw h hb, beq_false_of_ne he, if_neg (by decide)]
  · rw [exec_setTimestamp h, hr, if_neg (by decide)]
  · rw [exec_setTimestamp h, hr, if_pos rfl, if_neg]
    rcases hn with hn | hn
    · simp [hn]
    · simp [Nat.not_lt.2 hn]
  · rw [exec_setTimestamp h, hr, if_pos rfl, hset, decide_eq_true hlt]
    rfl
  · rw [exec_getLog_events h, if_neg (by omega)]
  · rw [exec_getLog_events h, if_pos ho]

end Sys2Proof.Machine
end
section
/-! # Label storage, health and shutdown state (R75, R76, R80) -/

namespace Sys2Proof.Machine

/-! ## Bytes written and read back -/

theorem memByte_memWrite_of_lt (bytes : List Byte) (m : SMap Byte) {a k : Nat} (h : k < a) :
    memByte (memWrite m a bytes) k = memByte m k := by
  induction bytes generalizing m a with
  | nil => rfl
  | cons b rest ih =>
    rw [memWrite, ih _ (by omega)]
    exact mapGet_set_ne _ _ _ (by omega)

theorem memByte_memWrite (bytes : List Byte) (m : SMap Byte) (a : Nat) {i : Nat} (h : i < bytes.length) :
    memByte (memWrite m a bytes) (a + i) = bytes[i] := by
  induction bytes generalizing m a i with
  | nil => exact absurd h (Nat.not_lt_zero _)
  | cons b rest ih =>
    cases i with
    | zero =>
      rw [memWrite, Nat.add_zero, memByte_memWrite_of_lt rest _ (by omega)]
      exact mapGet_set_same ..
    | succ i =>
      rw [memWrite, show a + (i + 1) = a + 1 + i by omega, ih _ _ (by simpa using h)]
      rfl

theorem memRead_memWrite (m : SMap Byte) (a : Nat) (bytes : List Byte) :
    memRead (memWrite m a bytes) a bytes.length = bytes := by
  refine List.ext_getElem (by simp [memRead]) fun i h1 h2 => ?_
  simp only [memRead, List.getElem_map, List.getElem_range, memByte_memWrite bytes m a h2]

theorem memRead_memWrite_below (m : SMap Byte) {a k : Nat} (bytes : List Byte) (h : k < a) :
    memRead (memWrite m a bytes) k 1 = memRead m k 1 := by
  change [memByte (memWrite m a bytes) k] = [memByte m k]
  rw [memByte_memWrite_of_lt bytes m h]

/-! ## The commands -/

section
variable {s : State} {via : Via}

theorem exec_identifyMemoryDevice (h : s.mboxOpen via 0x4000 = true) : exec (.identifyMemoryDevice via) s =
    .next (s.done via 0x4000
      [s.conf.portBytes via.port / 268435456, s.conf.portBytes via.port / 268435456, 0, 0, 131072, 256, 64, 1, 1]) := by
  change execIdentifyMemoryDevice .. = _
  exact State.query_of_open h _

theorem exec_getLsa (h : s.mboxOpen via 0x4102 = true) (offset length : Nat) : exec (.getLsa via offset length) s =
    .next (if 131072 < offset + length then s.mboxReply via 0x4102 2 0 []
      else if !s.mapReady then s.mboxReply via 0x4102 5 0 []
      else s.done via 0x4102 ((memRead (s.port via.port).lsa offset length).map (·.toNat))) := by
  change execGetLsa .. = _
  exact State.query_of_open h _

/-- Both copies of a port's labels with bytes written. -/
def Port.writeLsa (x : Port) (offset : Nat) (bytes : List Byte) : Port :=
  { x with lsa := memWrite x.lsa offset bytes, lsaCopy := memWrite x.lsaCopy offset bytes }

theorem exec_setLsa (h : s.mboxOpen via 0x4103 = true) (offset : Nat) (bytes : List Byte) : exec (.setLsa via offset bytes) s =
    .next (if 131072 < offset + bytes.length then s.mboxReply via 0x4103 2 0 []
      else if !s.mapReady then s.mboxReply via 0x4103 5 0 []
      else (s.modPort via.port (·.writeLsa offset bytes)).done via 0x4103 []) := by
  change execSetLsa .. = _
  exact State.query_of_open h _

theorem exec_getHealthInfo (h : s.mboxOpen via 0x4200 = true) : ∃ fields, exec (.getHealthInfo via) s =
    .next (s.done via 0x4200 fields) ∧ fields.length = 7 ∧ fields.getD 0 0 = s.healthBits ∧
      fields.getD 4 0 = s.pst.counter 0 :=
  ⟨_, show execGetHealthInfo via s = _ from State.query_of_open h _, rfl, rfl, rfl⟩

theorem exec_getShutdownState (h : s.mboxOpen via 0x4203 = true) : exec (.getShutdownState via) s =
    .next (s.done via 0x4203 [if s.svc.shutdownDirty then 1 else 0]) := by
  change execGetShutdownState .. = _
  exact State.query_of_open h _

theorem exec_setShutdownState (h : s.mboxOpen via 0x4204 = true) (hb : s.sys.state ≠ .braced) (dirty : Bool) :
    exec (.setShutdownState via dirty) s = .next ((s.queueDeed 0 (.shutdown dirty)).done via 0x4204 []) := by
  change execSetShutdownState .. = _
  exact State.mbox_of_open h _ (.inl hb) (.inl rfl)

theorem exec_setShutdownState_braced (h : s.mboxOpen via 0x4204 = true) (hb : s.sys.state = .braced) (dirty : Bool) :
    exec (.setShutdownState via dirty) s = .next (s.mboxReply via 0x4204 5 0 []) := by
  change execSetShutdownState .. = _
  exact State.mbox_of_braced h hb

end

/-- An answer leaves the labels of the port. -/
theorem State.modPort_done_lsa (s : State) (via : Via) (op : Nat) (fields : List Nat) (p : Nat) (g : Port → Port) :
    (((s.modPort p g).done via op fields).port p).lsa = (g (s.port p)).lsa ∧
    (((s.modPort p g).done via op fields).port p).lsaCopy = (g (s.port p)).lsaCopy := by
  constructor
  · rw [State.done, State.mboxReply_port_keeps (f := Port.lsa) (h := fun _ => rfl), State.modPort_port_same]
  · rw [State.done, State.mboxReply_port_keeps (f := Port.lsaCopy) (h := fun _ => rfl), State.modPort_port_same]

/-- Settles O39: each command's next state, and bytes read back from where they were written. -/
theorem mailboxLabelsAndHealth : Obligations.MailboxLabelsAndHealth := by
  intro s via
  refine ⟨exec_identifyMemoryDevice, fun offset length h hm hl => ?_, fun offset length h hl => ?_,
    fun offset bytes h hm hl => ?_, fun offset bytes h hl => ?_, exec_getHealthInfo, exec_getShutdownState,
    fun dirty h hb => exec_setShutdownState h hb dirty, fun dirty h hb => exec_setShutdownState_braced h hb dirty⟩
  · rw [exec_getLsa h, if_neg (by omega), hm]
    rfl
  · rw [exec_getLsa h, if_pos hl]
  · obtain ⟨hlsa, hcopy⟩ := s.modPort_done_lsa via 0x4103 [] via.port (·.writeLsa offset bytes)
    refine ⟨(s.modPort via.port (·.writeLsa offset bytes)).done via 0x4103 [], ?_, ?_, ?_, fun k hk => ?_,
      State.modPort_done_out .., State.modPort_done_touches ..⟩
    · rw [exec_setLsa h, if_neg (by omega), hm]
      rfl
    · rw [hlsa]
      exact memRead_memWrite ..
    · rw [hcopy]
      exact memRead_memWrite ..
    · rw [hlsa]
      exact memRead_memWrite_below _ bytes hk
  · rw [exec_setLsa h, if_pos hl]

end Sys2Proof.Machine
end
section
/-! # Erasing: Sanitize, Secure Erase and crypto-erase (R79, R84, R310) -/

namespace Sys2Proof.Machine

theorem mem_insertUniq {m n : Nat} {l : List Nat} : m ∈ insertUniq n l ↔ m = n ∨ m ∈ l := by
  induction l with
  | nil => simp [insertUniq]
  | cons x xs ih =>
    unfold insertUniq
    split
    · simp
    · split
      next h => simp [h]
      next => simp only [List.mem_cons, ih]; tauto

/-! ## Fresh keys in the parameter store's queue -/

section
variable (s : State)

/-- A use of the key-encryption key may queue a tally behind what waits. -/
theorem State.useKek_queue : s.pst.queue <+: s.useKek.pst.queue := by
  unfold State.useKek
  extract_lets u asked
  split
  · exact List.prefix_append ..
  · exact List.prefix_refl _

theorem State.wrapKey_queue (keyRef gen : Nat) (pass key : Option (BitVec 256)) :
    s.pst.queue <+: (s.wrapKey keyRef gen pass key).1.pst.queue := by
  change s.pst.queue <+: (if pass.isSome then s.useFree else s.useKek).pst.queue
  split
  · exact List.prefix_refl _
  · exact s.useKek_queue

theorem State.freshKey_queue (h : Holding) (gen : Nat) : s.pst.queue <+: (s.freshKey h gen).1.pst.queue :=
  State.wrapKey_queue ((s.modCke fun c => { c with rngRequests := c.rngRequests + 1 }).useFree) ..

/-- The record of a fresh key names its holding and generation and holds a key. -/
theorem State.freshKey_record (h : Holding) (gen : Nat) : (s.freshKey h gen).2.keyRef = h.keyRef ∧
    (s.freshKey h gen).2.gen = gen ∧ (s.freshKey h gen).2.present = true := ⟨rfl, rfl, rfl⟩

theorem State.queueWrap_queue (w : WrapRec) :
    (s.queueWrap w).pst.queue = s.pst.queue ++ [.deed (wrapIndex w) (.keyWrap w)] := rfl

/-- A record without a key is queued for one generation of a holding's key. -/
def State.queueDead (s : State) (keyRef gen : Nat) : State :=
  (s.wrapKey keyRef gen none none).1.queueWrap (s.wrapKey keyRef gen none none).2

theorem State.queueDead_queue (keyRef gen : Nat) : s.pst.queue <+: (s.queueDead keyRef gen).pst.queue :=
  (s.wrapKey_queue keyRef gen none none).trans (List.prefix_append ..)

/-- The holding as the fresh key of an erase is wrapped for it: without its passphrase while it is locked. -/
def State.eraseHolding (s : State) (h : Holding) : Holding :=
  if (s.ime.rekey h.id).locked then { h with passlock := false } else h

/-- The fresh key of an erase is queued. -/
def State.eraseFresh (s : State) (h : Holding) : State :=
  (s.freshKey (s.eraseHolding h) ((s.ime.rekey h.id).cur + 2)).1.queueWrap
    (s.freshKey (s.eraseHolding h) ((s.ime.rekey h.id).cur + 2)).2

theorem State.eraseKeys_eq (h : Holding) : s.eraseKeys h =
    if (s.ime.rekey h.id).active then
      ((s.eraseFresh h).queueDead h.keyRef (s.ime.rekey h.id).cur).queueDead h.keyRef ((s.ime.rekey h.id).cur + 1)
    else (s.eraseFresh h).queueDead h.keyRef (s.ime.rekey h.id).cur := rfl

/-- An erase of a holding's keys queues behind its fresh key. -/
theorem State.eraseKeys_queue (h : Holding) : (s.eraseFresh h).pst.queue <+: (s.eraseKeys h).pst.queue := by
  rw [State.eraseKeys_eq]
  split
  · exact (State.queueDead_queue ..).trans (State.queueDead_queue ..)
  · exact State.queueDead_queue ..

theorem State.eraseFresh_queue (h : Holding) : s.pst.queue <+: (s.eraseFresh h).pst.queue :=
  (s.freshKey_queue ..).trans (List.prefix_append ..)

/-- A fresh key for a holding is queued: the generation after the one that may be in use. -/
def FreshKeyQueued (rekey : Nat → Rekey) (h : Holding) (q : List PstOp) : Prop :=
  ∃ w : WrapRec, w.keyRef = h.keyRef ∧ w.gen = (rekey h.id).cur + 2 ∧ w.present = true ∧ .deed (wrapIndex w) (.keyWrap w) ∈ q

theorem FreshKeyQueued.mono {rekey : Nat → Rekey} {h : Holding} {q r : List PstOp} (a : FreshKeyQueued rekey h q) (b : q <+: r) :
    FreshKeyQueued rekey h r :=
  have ⟨w, href, hgen, hkey, hmem⟩ := a
  ⟨w, href, hgen, hkey, b.subset hmem⟩

theorem State.eraseKeys_fresh (h : Holding) : FreshKeyQueued s.ime.rekey h (s.eraseKeys h).pst.queue := by
  obtain ⟨href, hgen, hkey⟩ := s.freshKey_record (s.eraseHolding h) ((s.ime.rekey h.id).cur + 2)
  refine ⟨_, href.trans ?_, hgen, hkey, (s.eraseKeys_queue h).subset (List.mem_append_right _ (List.mem_singleton.2 rfl))⟩
  unfold State.eraseHolding
  split <;> rfl

/-- Fresh keys are queued for every holding of a list, behind what waits. -/
theorem State.eraseAll_fresh (l : List Holding) : s.pst.queue <+: (l.foldl State.eraseKeys s).pst.queue ∧
    ∀ h ∈ l, FreshKeyQueued s.ime.rekey h (l.foldl State.eraseKeys s).pst.queue := by
  induction l generalizing s with
  | nil => exact ⟨List.prefix_refl _, fun h hh => absurd hh List.not_mem_nil⟩
  | cons x l ih =>
    obtain ⟨hpre, hall⟩ := ih (s.eraseKeys x)
    have hime : (s.eraseKeys x).ime = s.ime := (Foot.eraseKeys s x).ime rfl
    refine ⟨((s.eraseFresh_queue x).trans (s.eraseKeys_queue x)).trans hpre, fun h hh => ?_⟩
    rcases List.mem_cons.1 hh with rfl | hl
    · exact (s.eraseKeys_fresh h).mono hpre
    · rw [← hime]
      exact hall h hl

/-- Erasing the keys of holdings draws values, uses the cipher engine and queues deeds. -/
theorem Foot.eraseAll (l : List Holding) : Touches 0x10a00000000 s (l.foldl State.eraseKeys s) :=
  .foldl (fun h _ a => a.step (Foot.eraseKeys _ h) (by decide)) (.refl _ s)

/-- The state in which an erase of the device has begun. -/
def State.erasing (s : State) : State := s.conf.holdings.foldl State.eraseKeys (s.modSvc fun v => { v with erasing := true })

theorem State.erasing_svc : s.erasing.svc = { s.svc with erasing := true } := (Foot.eraseAll ..).svc rfl

theorem State.erasing_fresh : ∀ h ∈ s.conf.holdings, FreshKeyQueued s.ime.rekey h s.erasing.pst.queue :=
  (State.eraseAll_fresh (s.modSvc fun v => { v with erasing := true }) s.conf.holdings).2

theorem Foot.erasing : Touches (parts [.svc, .cke, .pst, .free]) s s.erasing :=
  .step (.modSvc (.refl _ s) (by decide)) (Foot.eraseAll ..) (by decide)

theorem State.drawn_of_random (via : Via) (op : Nat) (run : State → State) (h : s.cke.rngFail = false) :
    s.drawn via op run = run s := if_neg (by simp [h])

theorem State.drawn_of_rngFail (via : Via) (op : Nat) (run : State → State) (h : s.cke.rngFail = true) :
    s.drawn via op run = s.mboxReply via op 4 0 [] := if_pos h

end

/-! ## The commands -/

section
variable {s : State} {via : Via}

theorem exec_sanitize (h : s.mboxOpen via 0x4400 = true) (hb : s.sys.state ≠ .braced) (hs : s.svc.background = none)
    (hm : s.mapReady = true) : exec (.sanitize via) s =
      .next (s.drawn via 0x4400 fun s => (s.erasing.pstQueue (.tally 3 1)).background via 0x4400) := by
  change execSanitize .. = _
  refine (State.mbox_of_open h _ (.inl hb) (.inr hs)).trans ?_
  dsimp only
  rw [hm, if_neg (by simp)]
  rfl

theorem exec_secureErase (h : s.mboxOpen via 0x4401 = true) (hb : s.sys.state ≠ .braced) (hs : s.svc.background = none)
    (hm : s.mapReady = true) :
    exec (.secureErase via) s = .next (s.drawn via 0x4401 fun s => s.erasing.background via 0x4401) := by
  change execSecureErase .. = _
  refine (State.mbox_of_open h _ (.inl hb) (.inr hs)).trans ?_
  dsimp only
  rw [hm, if_neg (by simp)]
  rfl

/-- The state in which an erase of one holding has begun. -/
def State.erasingOne (s : State) (h : Holding) : State :=
  (s.modSvc fun v => { v with erasingHoldings := insertUniq h.id v.erasingHoldings }).eraseKeys h

/-- With no committed decoder none covers the holding. -/
theorem exec_holdingCryptoErase (ho : s.mboxOpen via 0xC020 = true) (hb : s.sys.state ≠ .braced) (hs : s.svc.background = none)
    (hm : s.mapReady = true) (hr : s.cke.rngFail = false) {id base n : Nat} {h : Holding}
    (hf : (holdingBases 0 s.conf.holdings).find? (fun e => e.1.id == id) = some (h, base, n))
    (hd : ∀ d ∈ s.port0.decoders ++ s.port1.decoders, d.committed = false) :
    exec (.holdingCryptoErase via id true) s = .next ((s.erasingOne h).background via 0xC020) := by
  have hport (p : Nat) : ∀ d ∈ (s.port p).decoders, d.committed = false := by
    intro d hmem
    unfold State.port at hmem
    split at hmem
    · exact hd d (List.mem_append_left _ hmem)
    · exact hd d (List.mem_append_right _ hmem)
  have hcover (p lo hi : Nat) : ((s.port p).decoders.any fun x =>
      x.committed && decide (lo < x.dpaBase + x.dpaSize) && decide (x.dpaBase < hi)) = false := by
    rw [List.any_eq_false]
    intro x hx
    simp [hport p x hx]
  change execHoldingCryptoErase .. = _
  refine (State.mbox_of_open ho _ (.inl hb) (.inr hs)).trans ?_
  simp only [hf, hcover, hm, Bool.not_true, Bool.false_eq_true, if_false]
  rw [if_neg (by split <;> split <;> decide), s.drawn_of_random _ _ _ hr]
  rfl

/-- The end of a Secure Erase before its background slot is free. -/
def State.secureErased (s : State) : State :=
  let t := s.forgetData.mapCommit [] fun c => c.releaseAll s.conf s.mdc.retired
  (t.modSaved fun v => { v with ctr := [], quar := [] }).afterRetire s.cds.bands 0

theorem Foot.secureErased (s : State) : Touches 0x793f6ce2fd s.forgetData s.secureErased :=
  .step (.modSaved (.step (.refl _ _) (Foot.mapCommit ..) (by decide)) (by decide)) (Foot.afterRetire ..) (by decide)

theorem exec_secureEraseComplete (atNs : Nat) (h : (s.clockTo atNs).eraseEnds 0x4401 = true) :
    exec (.secureEraseComplete atNs) s = .next ((s.clockTo atNs).secureErased.endBackground 0) := by
  change execSecureEraseComplete .. = _
  unfold execSecureEraseComplete
  extract_lets u
  rw [if_neg (by rw [h]; decide)]
  rfl

theorem exec_sanitizeComplete (atNs : Nat) (hm : s.cds.mig = none) (hl : s.pfl.report.lost = false)
    (h : (s.clockTo atNs).eraseEnds 0x4400 = true) :
    exec (.sanitizeComplete atNs) s = .next ((s.clockTo atNs).sanitizeMap.endBackground 0).checkReadonly := by
  change execSanitizeComplete .. = _
  unfold execSanitizeComplete
  extract_lets u
  have hmig : u.cds.mig = none := by unfold u; rw [State.clockTo_cds, hm]
  have hlost : u.pfl.report.lost = false := by unfold u; rw [State.clockTo_pfl, hl]
  rw [hmig]
  dsimp only
  rw [if_neg (by rw [h]; decide), hlost, if_neg (by decide)]

end

section
variable (s : State)

/-- An erase ends only where its operation holds the background slot. -/
theorem State.background_of_eraseEnds {op : Nat} (h : s.eraseEnds op = true) : ∃ b, s.svc.background = some b ∧ b.opcode = op := by
  simp only [State.eraseEnds, Bool.and_eq_true, beq_iff_eq] at h
  exact Option.map_eq_some_iff.1 h.2

theorem State.forgetData_svc : s.forgetData.svc =
    { s.svc with poison := [], injected := [], erasing := false, erasingHoldings := [] } := rfl

theorem State.endBackground_svc {b : Background} (ret : Nat) (h : s.svc.background = some b) : (s.endBackground ret).svc =
    { s.svc with background := none, lastBackground := some (b.opcode, ret) } := by
  unfold State.endBackground
  rw [State.modSvc_svc, h]

theorem State.sanitizeMap_svc : s.sanitizeMap.svc = s.forgetData.svc := rfl

/-- After a Sanitize no counter and no quarantine is left, and the device's keys are those of the new root. -/
theorem State.sanitizeMap_ime : s.sanitizeMap.ime.ctr = [] ∧ s.sanitizeMap.ime.quar = [] ∧
    s.sanitizeMap.ime.devKeys = some (s.pst.counter 3) := by
  unfold State.sanitizeMap
  extract_lets p keep held u v w x y
  have himex : x.ime = s.forgetData.ime := by
    unfold x w v u
    rw [State.modMdc_ime, State.modTrv_ime, State.modMed_ime, State.modCds_ime]
  have hpstx : x.pst = s.pst := by
    unfold x w v u
    rw [State.modMdc_pst, State.modTrv_pst, State.modMed_pst, State.modCds_pst, (Foot.forgetData s).pst rfl]
  rw [(Foot.saveMap y).ime rfl]
  unfold y
  rw [State.modIme_ime, himex, hpstx]
  exact ⟨rfl, rfl, rfl⟩

/-- A Sanitize takes lines from the medium and adds none. -/
theorem State.sanitizeMap_med : ∀ e ∈ s.sanitizeMap.med, e ∈ s.med := fun _ h => (List.mem_filter.1 h).1

theorem secureEraseComplete_runs (atNs : Nat) (h : (s.clockTo atNs).eraseEnds 0x4401 = true) :
    Runs (.secureEraseComplete atNs) s fun t =>
      t.svc.poison = [] ∧ t.svc.injected = [] ∧ t.svc.erasing = false ∧ t.svc.background = none ∧
      t.svc.lastBackground = some (0x4401, 0) ∧ t.pfl = s.pfl ∧ t.cke = s.cke := by
  obtain ⟨b, hb, hop⟩ := State.background_of_eraseEnds _ h
  generalize hu : s.clockTo atNs = u at h hb
  have hfoot := Foot.secureErased u
  have hsvc : u.secureErased.svc = u.forgetData.svc := hfoot.svc rfl
  refine ⟨u.secureErased.endBackground 0, by rw [← hu]; exact exec_secureEraseComplete atNs (by rw [hu]; exact h), ?_⟩
  have hend := State.endBackground_svc u.secureErased 0 (b := b) (by rw [hsvc]; exact hb)
  beta_reduce
  rw [hend, hsvc, hop]
  refine ⟨rfl, rfl, rfl, rfl, rfl, ?_, ?_⟩
  · rw [(Foot.endBackground ..).pfl rfl, hfoot.pfl rfl, (Foot.forgetData u).pfl rfl, ← hu]
    exact State.clockTo_pfl s atNs
  · rw [(Foot.endBackground ..).cke rfl, hfoot.cke rfl, (Foot.forgetData u).cke rfl, ← hu]
    exact State.clockTo_cke s atNs

theorem sanitizeComplete_runs (atNs : Nat) (hm : s.cds.mig = none) (hl : s.pfl.report.lost = false)
    (h : (s.clockTo atNs).eraseEnds 0x4400 = true) : Runs (.sanitizeComplete atNs) s fun t =>
      t.svc.poison = [] ∧ t.svc.erasing = false ∧ t.svc.background = none ∧ t.ime.ctr = [] ∧ t.ime.quar = [] ∧
      t.ime.devKeys = some ((s.clockTo atNs).pst.counter 3) ∧ (∀ e ∈ t.med, e ∈ s.med) ∧ t.pfl = s.pfl := by
  refine ⟨_, exec_sanitizeComplete atNs hm hl h, ?_⟩
  beta_reduce
  generalize hu : s.clockTo atNs = u
  have hfoot := Foot.checkReadonly (u.sanitizeMap.endBackground 0)
  obtain ⟨hctr, hquar, hkeys⟩ := u.sanitizeMap_ime
  rw [hfoot.svc rfl, hfoot.ime rfl, hfoot.med rfl, hfoot.pfl rfl, (Foot.endBackground ..).ime rfl,
    (Foot.endBackground ..).med rfl, (Foot.endBackground ..).pfl rfl, (Foot.sanitizeMap u).pfl rfl]
  refine ⟨rfl, rfl, rfl, hctr, hquar, hkeys, ?_, ?_⟩
  · rw [← State.clockTo_med s atNs, hu]
    exact u.sanitizeMap_med
  · rw [← hu]
    exact State.clockTo_pfl s atNs

end

/-- Settles O41: an erase queues a fresh key for each holding, and its end forgets what the old keys protected. -/
theorem erasing : Obligations.Erasing := by
  intro s via
  refine ⟨fun h hb hs hm hr => ?_, fun h hb hs hm hr => ?_, fun h hb hs hm hr => ?_, fun id h base n ho hb hs hm hr hf hd => ?_,
    secureEraseComplete_runs s, sanitizeComplete_runs s⟩
  · refine ⟨(s.erasing.pstQueue (.tally 3 1)).background via 0x4400,
      by rw [exec_sanitize h hb hs hm, s.drawn_of_random _ _ _ hr], ?_, ?_, ?_, fun x hx => ?_, ?_, ?_, ?_⟩
    · rw [State.background_svc]
      exact congrArg Svc.erasing s.erasing_svc
    · rw [State.background_svc]
    · rw [State.background_queue]
      exact List.mem_append_right _ (List.mem_singleton.2 rfl)
    · rw [State.background_queue]
      exact (s.erasing_fresh x hx).mono (List.prefix_append ..)
    · rw [State.background_out]
      exact congrArg (· ++ _) ((Foot.erasing s).out rfl)
    · rw [(Foot.background ..).med rfl]
      exact (Foot.erasing s).med rfl
    · rw [(Foot.background ..).cds rfl]
      exact (Foot.erasing s).cds rfl
  · rw [exec_sanitize h hb hs hm, s.drawn_of_rngFail _ _ _ hr]
  · refine ⟨s.erasing.background via 0x4401, by rw [exec_secureErase h hb hs hm, s.drawn_of_random _ _ _ hr],
      ?_, ?_, fun x hx => ?_, ?_, ?_, ?_⟩
    · rw [State.background_svc, State.erasing_svc]
    · rw [State.background_svc]
    · rw [State.background_queue]
      exact s.erasing_fresh x hx
    · rw [State.background_out, (Foot.erasing s).out rfl]
    · rw [(Foot.background ..).med rfl, (Foot.erasing s).med rfl]
    · rw [(Foot.background ..).cds rfl, (Foot.erasing s).cds rfl]
  · have hfoot := Foot.eraseKeys (s.modSvc fun v => { v with erasingHoldings := insertUniq h.id v.erasingHoldings }) h
    refine ⟨_, exec_holdingCryptoErase ho hb hs hm hr hf hd, ?_, ?_, ?_, ?_, ?_⟩
    · rw [State.background_svc, State.erasingOne, hfoot.svc rfl]
      exact mem_insertUniq.2 (.inl rfl)
    · rw [State.background_svc]
    · rw [State.background_out, State.erasingOne, hfoot.out rfl]
      rfl
    · rw [(Foot.background ..).cds rfl, State.erasingOne, hfoot.cds rfl]
      rfl
    · rw [(Foot.background ..).med rfl, State.erasingOne, hfoot.med rfl]
      rfl

end Sys2Proof.Machine
end
section
/-! # The passphrase (R377 to R379) -/

namespace Sys2Proof.Machine

/-! ## When a security command runs -/

section
variable (s : State) (via : Via) (op : Nat) (counted : Bool) (run : State → State)

theorem State.secured_of_frozen (h : s.svc.security.frozen = true) :
    s.secured via op counted run = s.mboxReply via op 0x13 0 [] := if_pos (by rw [h]; rfl)

theorem State.secured_of_open (hf : s.svc.security.frozen = false) (hx : (counted && s.svc.security.exhausted) = false)
    (hw : s.pst.wrapQueued = false) : s.secured via op counted run = run s := by
  unfold State.secured
  dsimp only
  rw [hf, hx, if_neg (by decide), hw, if_neg (by decide)]

end

/-! ## The passphrase and the records under it -/

section
variable (s : State)

/-- With no holding under the passphrase there is nothing to wrap again. -/
theorem State.rewrap_of_none (h : s.conf.passHoldings = []) (old new : Option (BitVec 256)) : s.rewrap old new = s := by
  unfold State.rewrap
  rw [h]
  rfl

/-- With no record under a passphrase key the passphrase itself is compared. -/
theorem State.passOk_of_none (h : s.conf.passHoldings = []) (pass : BitVec 256) :
    s.passOk pass = (s.svc.security.passphrase == some pass) := by
  unfold State.passOk State.pkRecs
  rw [h]
  rfl

theorem State.settlePass_of_some {p : Option (BitVec 256)} (hn : s.svc.security.next = some p) (hw : s.pst.wrapQueued = false) :
    s.settlePass = s.modSvc fun v => { v with security := { v.security with passphrase := p, next := none } } := by
  unfold State.settlePass
  rw [hn]
  exact if_neg (by rw [hw]; decide)

/-- A new passphrase is in force once no wrap record waits. -/
theorem State.setPass_svc (p : Option (BitVec 256)) (h : s.pst.wrapQueued = false) : (s.setPass p).svc =
    { s.svc with security := { s.svc.security with passphrase := p, next := none } } := by
  rw [State.setPass, State.settlePass_of_some (p := p) _ rfl (by exact h)]
  rfl

theorem State.passRight_svc : s.passRight.svc = { s.svc with security := { s.svc.security with fails := 0 } } := rfl

theorem State.passFail_security : s.passFail.svc.security =
    { s.svc.security with fails := s.svc.security.fails + 1,
                          exhausted := s.svc.security.exhausted || decide (5 ≤ s.svc.security.fails + 1) } := rfl

/-- A wrong passphrase is counted. -/
theorem State.passWrong_svc (via : Via) (op : Nat) : (s.passWrong via op).svc = s.passFail.svc := by
  unfold State.passWrong
  rw [(Foot.fails ..).svc rfl, State.flag_svc, State.incReg_svc]

theorem State.passWrong_tagFail (via : Via) (op : Nat) :
    (s.passWrong via op).getReg Reg.CKE_TAG_FAIL_CNT = s.getReg Reg.CKE_TAG_FAIL_CNT + 1 := by
  unfold State.passWrong
  rw [(Foot.fails ..).regs _ (by decide) (by decide), State.flag_getReg _ _ _ _ _ _ (by decide) (by decide), State.incReg_getReg,
    if_pos rfl]
  rfl

/-- The holdings whose locked keys a right passphrase frees. -/
def State.lockedIds (s : State) : List Nat :=
  (s.ime.rekeys.filter fun e => e.2.locked && (s.conf.holding e.1).any (·.passlock)).map (·.1)

theorem State.unlockKeys_rekeys : s.unlockKeys.ime.rekeys =
    s.ime.rekeys.map fun e => (e.1, { e.2 with locked := e.2.locked && !s.lockedIds.contains e.1 }) := rfl

theorem State.unlockKeys_svc : s.unlockKeys.svc =
    { s.svc with security := { s.svc.security with unlocked := true } } := rfl

/-- No PASSLOCK holding stays locked. -/
theorem State.unlockKeys_unlocked : ∀ e ∈ s.unlockKeys.ime.rekeys, (s.conf.holding e.1).any (·.passlock) = true →
    e.2.locked = false := by
  rw [State.unlockKeys_rekeys]
  intro e he hp
  obtain ⟨x, hx, rfl⟩ := List.mem_map.1 he
  dsimp only at hp ⊢
  cases hl : x.2.locked
  · rfl
  · have hid : x.1 ∈ s.lockedIds := List.mem_map.2 ⟨x, List.mem_filter.2 ⟨hx, by rw [hl, hp]; rfl⟩, rfl⟩
    rw [List.contains_iff_mem.2 hid]
    rfl

/-! ## Leaving LOCKED -/

theorem State.goReady_state : s.goReady.sys.state = .ready := by
  have hwork : ((s.goState .ready).readyWork).sys.state = .ready := by
    rw [(Foot.readyWork _).sys rfl, State.goState_sys]
  unfold State.goReady
  extract_lets boot u
  split
  · exact hwork
  · exact hwork

theorem State.enterReadonly_state : s.enterReadonly.sys.state = .readonly := by
  unfold State.enterReadonly
  extract_lets cause free u v w x
  rw [State.raise_sys, State.setBits_sys]
  unfold x w
  rw [State.modStg_sys, State.goState_sys]

theorem State.checkReadonly_state (h : s.sys.state = .ready) :
    s.checkReadonly.sys.state = .ready ∨ s.checkReadonly.sys.state = .readonly := by
  unfold State.checkReadonly
  rw [h]
  dsimp only
  split
  · exact .inl h
  · exact .inr s.enterReadonly_state

/-- The state after a right passphrase, before the device leaves LOCKED. -/
def State.unlocked (s : State) (pass : BitVec 256) : State :=
  s.passRight.unlockKeys.modSvc fun v => { v with security := { v.security with passphrase := some pass } }

/-- A device in LOCKED becomes READY, or READONLY where it has to be. -/
def State.leaveLocked (s : State) : State := if s.sys.state == .locked then s.goReady.checkReadonly else s

theorem Foot.leaveLocked : Touches 0x78036ce09d s s.leaveLocked := by
  unfold State.leaveLocked
  split
  · exact .step (.step (.refl _ s) (Foot.goReady s) (by decide)) (Foot.checkReadonly _) (by decide)
  · exact .refl _ s

theorem State.leaveLocked_state (h : s.sys.state = .locked) :
    s.leaveLocked.sys.state = .ready ∨ s.leaveLocked.sys.state = .readonly := by
  rw [State.leaveLocked, h, if_pos (by decide)]
  exact State.checkReadonly_state _ s.goReady_state

end

/-! ## The commands -/

section
variable {s : State} {via : Via}

theorem exec_getSecurityState (h : s.mboxOpen via 0x4500 = true) : exec (.getSecurityState via) s = .next (s.done via 0x4500
    [(if s.svc.security.passphrase.isSome then 1 else 0) + (if s.ime.rekeys.any fun e => e.2.locked then 2 else 0) +
      (if s.svc.security.frozen then 4 else 0) + if s.svc.security.exhausted then 8 else 0]) := by
  change execGetSecurityState .. = _
  exact State.query_of_open h _

theorem exec_freezeSecurityState (h : s.mboxOpen via 0x4504 = true) (hf : s.svc.security.frozen = false)
    (hw : s.pst.wrapQueued = false) : exec (.freezeSecurityState via) s =
      .next ((s.modSvc fun v => { v with security := { v.security with frozen := true } }).done via 0x4504 []) := by
  change execFreezeSecurityState .. = _
  refine (State.query_of_open h _).trans ?_
  rw [State.secured_of_open _ _ _ _ _ hf rfl hw]

section
variable (hf : s.svc.security.frozen = true)
include hf

theorem exec_setPassphrase_frozen (h : s.mboxOpen via 0x4501 = true) (hb : s.sys.state ≠ .braced) (master : Bool)
    (cur new : BitVec 256) : exec (.setPassphrase via master cur new) s = .next (s.mboxReply via 0x4501 0x13 0 []) := by
  change execSetPassphrase .. = _
  refine (State.mbox_of_open h _ (.inl hb) (.inl rfl)).trans ?_
  rw [State.secured_of_frozen _ _ _ _ _ hf]

theorem exec_disablePassphrase_frozen (h : s.mboxOpen via 0x4502 = true) (hb : s.sys.state ≠ .braced) (cur : BitVec 256) :
    exec (.disablePassphrase via cur) s = .next (s.mboxReply via 0x4502 0x13 0 []) := by
  change execDisablePassphrase .. = _
  refine (State.mbox_of_open h _ (.inl hb) (.inl rfl)).trans ?_
  rw [State.secured_of_frozen _ _ _ _ _ hf]

theorem exec_unlock_frozen (h : s.mboxOpen via 0x4503 = true) (pass : BitVec 256) :
    exec (.unlock via pass) s = .next (s.mboxReply via 0x4503 0x13 0 []) := by
  change execUnlock .. = _
  refine (State.mbox_of_open h _ (.inr rfl) (.inl rfl)).trans ?_
  rw [State.secured_of_frozen _ _ _ _ _ hf]

end

section
variable (hf : s.svc.security.frozen = false) (hx : s.svc.security.exhausted = false) (hw : s.pst.wrapQueued = false)
include hf hx hw

theorem exec_setPassphrase_first (h : s.mboxOpen via 0x4501 = true) (hb : s.sys.state ≠ .braced) (cur new : BitVec 256)
    (hp : s.svc.security.passphrase = none) : exec (.setPassphrase via false cur new) s =
      .next (((s.passRight.rewrap (some cur) (some new)).setPass (some new)).done via 0x4501 []) := by
  change execSetPassphrase .. = _
  refine (State.mbox_of_open h _ (.inl hb) (.inl rfl)).trans ?_
  rw [State.secured_of_open _ _ _ true _ hf hx hw, if_neg (by decide), if_neg (by rw [hp]; exact Bool.false_ne_true)]

theorem exec_disablePassphrase (h : s.mboxOpen via 0x4502 = true) (hb : s.sys.state ≠ .braced) (cur : BitVec 256)
    (hp : s.svc.security.passphrase ≠ none) (hok : s.passOk cur = true) : exec (.disablePassphrase via cur) s =
      .next (((s.passRight.rewrap (some cur) none).setPass none).done via 0x4502 []) := by
  change execDisablePassphrase .. = _
  refine (State.mbox_of_open h _ (.inl hb) (.inl rfl)).trans ?_
  rw [State.secured_of_open _ _ _ true _ hf hx hw, if_neg (by simpa using hp), hok, if_neg (by decide)]

theorem exec_unlock (h : s.mboxOpen via 0x4503 = true) (pass : BitVec 256) (hl : (s.ime.rekeys.any fun e => e.2.locked) = true) :
    exec (.unlock via pass) s =
      .next (if s.passOk pass then (s.unlocked pass).leaveLocked.done via 0x4503 [] else s.passWrong via 0x4503) := by
  change execUnlock .. = _
  refine (State.mbox_of_open h _ (.inr rfl) (.inl rfl)).trans ?_
  rw [State.secured_of_open _ _ _ true _ hf hx hw, hl, if_neg (by decide)]
  cases s.passOk pass
  · rfl
  · rfl

theorem disablePassphrase_runs (h : s.mboxOpen via 0x4502 = true) (hb : s.sys.state ≠ .braced) (cur : BitVec 256)
    (hp : s.svc.security.passphrase = some cur) (hn : s.conf.passHoldings = []) : Runs (.disablePassphrase via cur) s fun t =>
      t.svc.security.passphrase = none ∧ t.svc.security.fails = 0 ∧ t.out = s.out ++ [.mbox via 0x4502 0 0 []] := by
  have hok : s.passOk cur = true := by rw [s.passOk_of_none hn, hp, beq_self_eq_true]
  have hrewrap : s.passRight.rewrap (some cur) none = s.passRight := State.rewrap_of_none s.passRight hn ..
  refine ⟨_, exec_disablePassphrase hf hx hw h hb cur (by rw [hp]; simp) hok, ?_, ?_, ?_⟩
  · rw [(Foot.done ..).svc rfl, hrewrap, State.setPass_svc s.passRight _ hw]
  · rw [(Foot.done ..).svc rfl, hrewrap, State.setPass_svc s.passRight _ hw]
    rfl
  · rw [State.done, State.mboxReply_out, hrewrap, (Foot.setPass ..).out rfl]
    rfl

theorem unlock_wrong_runs (h : s.mboxOpen via 0x4503 = true) (pass : BitVec 256)
    (hl : (s.ime.rekeys.any fun e => e.2.locked) = true) (hok : s.passOk pass = false) : Runs (.unlock via pass) s fun t =>
      t.svc.security.fails = s.svc.security.fails + 1 ∧ (t.svc.security.exhausted = true ↔ 5 ≤ s.svc.security.fails + 1) ∧
      t.ime = s.ime ∧ t.sys = s.sys ∧ t.getReg Reg.CKE_TAG_FAIL_CNT = s.getReg Reg.CKE_TAG_FAIL_CNT + 1 := by
  have hfoot := Foot.passWrong s via 0x4503
  refine ⟨s.passWrong via 0x4503, by rw [exec_unlock hf hx hw h pass hl, hok]; rfl, ?_, ?_, hfoot.ime rfl, hfoot.sys rfl,
    s.passWrong_tagFail ..⟩
  · rw [State.passWrong_svc, State.passFail_security]
  · rw [State.passWrong_svc, State.passFail_security, hx, Bool.false_or, decide_eq_true_iff]

theorem unlock_right_runs (h : s.mboxOpen via 0x4503 = true) (pass : BitVec 256)
    (hl : (s.ime.rekeys.any fun e => e.2.locked) = true) (hok : s.passOk pass = true) : Runs (.unlock via pass) s fun t =>
      t.svc.security.unlocked = true ∧ t.svc.security.passphrase = some pass ∧ t.svc.security.fails = 0 ∧
      (∀ e ∈ t.ime.rekeys, (s.conf.holding e.1).any (·.passlock) = true → e.2.locked = false) ∧
      (s.sys.state = .locked → t.sys.state = .ready ∨ t.sys.state = .readonly) ∧
      t.out = s.out ++ [.mbox via 0x4503 0 0 []] := by
  have hfoot := Foot.leaveLocked (s.unlocked pass)
  have hsvc : ((s.unlocked pass).leaveLocked.done via 0x4503 []).svc = (s.unlocked pass).svc := by
    rw [(Foot.done ..).svc rfl, hfoot.svc rfl]
  refine ⟨(s.unlocked pass).leaveLocked.done via 0x4503 [], by rw [exec_unlock hf hx hw h pass hl, hok]; rfl, ?_, ?_, ?_, ?_,
    fun hlocked => ?_, ?_⟩
  · rw [hsvc]; rfl
  · rw [hsvc]; rfl
  · rw [hsvc]; rfl
  · rw [(Foot.done ..).ime rfl, hfoot.ime rfl]
    exact s.passRight.unlockKeys_unlocked
  · rw [(Foot.done ..).sys rfl]
    exact State.leaveLocked_state _ hlocked
  · rw [State.done, State.mboxReply_out, hfoot.out rfl]
    rfl

end

/-- The state in which a passphrase erase has begun. -/
def State.passErasing (s : State) : State :=
  s.conf.passHoldings.foldl (fun s h => s.eraseKeys { h with passlock := false }) (s.modSvc fun v =>
    { v with erasingHoldings := s.conf.passHoldings.foldl (fun l h => insertUniq h.id l) v.erasingHoldings,
             security := { v.security with next := some none } })

theorem Foot.passErasing (s : State) : Touches 0x10a00000000 (s.modSvc fun v =>
    { v with erasingHoldings := s.conf.passHoldings.foldl (fun l h => insertUniq h.id l) v.erasingHoldings,
             security := { v.security with next := some none } }) s.passErasing :=
  .foldl (fun _ _ a => a.step (Foot.eraseKeys ..) (by decide)) (.refl _ _)

/-- Every holding of a list is among those it is put into. -/
theorem mem_foldl_insertUniq (l : List Holding) (a : List Nat) :
    (∀ n ∈ a, n ∈ l.foldl (fun a h => insertUniq h.id a) a) ∧ ∀ h ∈ l, h.id ∈ l.foldl (fun a h => insertUniq h.id a) a := by
  induction l generalizing a with
  | nil => exact ⟨fun _ h => h, fun h hh => absurd hh List.not_mem_nil⟩
  | cons x l ih =>
    obtain ⟨hkeep, hall⟩ := ih (insertUniq x.id a)
    refine ⟨fun n hn => hkeep n (mem_insertUniq.2 (.inr hn)), fun h hh => ?_⟩
    rcases List.mem_cons.1 hh with rfl | hl
    · exact hkeep _ (mem_insertUniq.2 (.inl rfl))
    · exact hall h hl

section
variable (h : s.mboxOpen via 0x4505 = true) (hb : s.sys.state ≠ .braced) (hs : s.svc.background = none)
  (hf : s.svc.security.frozen = false) (hw : s.pst.wrapQueued = false)
include h hb hs hf hw

theorem exec_passphraseSecureErase_master :
    exec (.passphraseSecureErase via true) s = .next (s.mboxReply via 0x4505 2 0 []) := by
  change execPassphraseSecureErase .. = _
  refine (State.mbox_of_open h _ (.inl hb) (.inr hs)).trans ?_
  rw [State.secured_of_open _ _ _ _ _ hf rfl hw, if_pos rfl]
  rfl

theorem exec_passphraseSecureErase (hm : s.mapReady = true) (hr : s.cke.rngFail = false) (hp : s.conf.passHoldings ≠ []) :
    exec (.passphraseSecureErase via false) s = .next (s.passErasing.background via 0x4505) := by
  change execPassphraseSecureErase .. = _
  refine (State.mbox_of_open h _ (.inl hb) (.inr hs)).trans ?_
  rw [State.secured_of_open _ _ _ _ _ hf rfl hw, if_neg (by decide), hm, if_neg (by decide), s.drawn_of_random _ _ _ hr]
  extract_lets l u v
  rw [if_neg (by simpa [l] using hp)]
  rfl

theorem passphraseSecureErase_runs (hm : s.mapReady = true) (hr : s.cke.rngFail = false) (hp : s.conf.passHoldings ≠ []) :
    Runs (.passphraseSecureErase via false) s fun t =>
      (∀ h ∈ s.conf.passHoldings, h.id ∈ t.svc.erasingHoldings) ∧ t.svc.security.next = some none ∧
      t.svc.background = some { via := via, opcode := 0x4505 } ∧ t.out = s.out ++ [.mbox via 0x4505 1 0 []] := by
  have hfoot := Foot.passErasing s
  refine ⟨_, exec_passphraseSecureErase h hb hs hf hw hm hr hp, ?_, ?_, ?_, ?_⟩
  · rw [State.background_svc, hfoot.svc rfl]
    exact (mem_foldl_insertUniq _ _).2
  · rw [State.background_svc, hfoot.svc rfl]
    rfl
  · rw [State.background_svc]
  · rw [State.background_out, hfoot.out rfl]
    rfl

end

end

/-- Settles O42: each command by whether the security state is frozen, the attempts are used up, and the passphrase is right. -/
theorem passphrase : Obligations.Passphrase := by
  intro s via
  refine ⟨exec_getSecurityState, fun h hf hw => ?_, fun hf => ⟨fun master cur new h hb => ?_, fun cur h hb => ?_, fun pass h => ?_⟩,
    fun hf hx hw => ⟨fun cur new h hb hp => ?_, fun cur new h hb hp hn => ?_, fun cur h hb hp hn => ?_, fun pass h hl hok => ?_,
      fun pass h hl hok => ?_⟩, fun hf hw h hb hs => ⟨?_, fun hm hr hp => ?_⟩⟩
  · refine ⟨_, exec_freezeSecurityState h hf hw, (Foot.done ..).svc rfl, ?_, ?_⟩
    · rw [State.done, State.mboxReply_out]
      rfl
    · exact .step (.modSvc (.refl _ s) (by decide)) (Foot.done ..) (by decide)
  · exact exec_setPassphrase_frozen hf h hb master cur new
  · exact exec_disablePassphrase_frozen hf h hb cur
  · exact exec_unlock_frozen hf h pass
  · exact exec_setPassphrase_first hf hx hw h hb cur new hp
  · refine ⟨_, exec_setPassphrase_first hf hx hw h hb cur new hp, ?_⟩
    beta_reduce
    rw [(Foot.done ..).svc rfl, State.rewrap_of_none s.passRight hn, State.setPass_svc s.passRight _ hw]
  · exact disablePassphrase_runs hf hx hw h hb cur hp hn
  · exact unlock_wrong_runs hf hx hw h pass hl hok
  · exact unlock_right_runs hf hx hw h pass hl hok
  · exact exec_passphraseSecureErase_master h hb hs hf hw
  · exact passphraseSecureErase_runs h hb hs hf hw hm hr hp

end Sys2Proof.Machine
end
section
/-! # Replat by command (R48, R50, R51, R85) -/

namespace Sys2Proof.Machine

/-! ## A field of a register -/

theorem testBit_bitsAt (n lo w i : Nat) : (bitsAt n lo w).testBit i = (decide (i < w) && n.testBit (i + lo)) := by
  rw [bitsAt, Nat.testBit_mod_two_pow, Nat.testBit_div_two_pow]

section
variable (s : State) {o lo w : Nat} (v : Nat)

theorem State.testBit_regField (i : Nat) :
    (s.regField o lo w).testBit i = (decide (i < w) && (s.getReg o).getLsbD (i + lo)) := testBit_bitsAt ..

/-- The bits of a register after a field of it is set. -/
theorem State.getLsbD_setField (i : Nat) : ((s.setField o lo w v).getReg o).getLsbD i =
    if decide (i < 32) && decide (lo ≤ i) && decide (i < lo + w) then v.testBit (i - lo) else (s.getReg o).getLsbD i := by
  rw [State.setField_getReg, if_pos rfl, BitVec.getLsbD_or, BitVec.getLsbD_and, BitVec.getLsbD_not, BitVec.getLsbD_ofNat,
    BitVec.getLsbD_ofNat, Nat.testBit_mul_two_pow, Nat.testBit_mul_two_pow, Nat.testBit_two_pow_sub_one, Nat.testBit_mod_two_pow]
  by_cases h32 : i < 32
  · by_cases hlo : lo ≤ i
    · by_cases hw : i < lo + w
      · have : i - lo < w := by omega
        simp [h32, hlo, hw, this]
      · have : ¬i - lo < w := by omega
        simp [h32, hlo, hw, this]
    · simp [h32, hlo]
  · simp [h32, BitVec.getLsbD_of_ge _ _ (Nat.le_of_not_lt h32)]

theorem State.regField_setField (h : lo + w ≤ 32) : (s.setField o lo w v).regField o lo w = v % 2 ^ w := by
  refine Nat.eq_of_testBit_eq fun i => ?_
  rw [State.testBit_regField, State.getLsbD_setField, Nat.testBit_mod_two_pow]
  by_cases hi : i < w
  · have h32 : i + lo < 32 := by omega
    have hlt : i + lo < lo + w := by omega
    simp [hi, h32, hlt]
  · simp [hi]

/-- Setting one field leaves another beside it. -/
theorem State.regField_setField_apart {lo' w' : Nat} (h : lo' + w' ≤ lo ∨ lo + w ≤ lo') :
    (s.setField o lo w v).regField o lo' w' = s.regField o lo' w' := by
  refine Nat.eq_of_testBit_eq fun i => ?_
  rw [State.testBit_regField, State.testBit_regField, State.getLsbD_setField]
  by_cases hi : i < w'
  · have : ¬(lo ≤ i + lo' ∧ i + lo' < lo + w) := by omega
    rw [if_neg (by simpa [and_assoc] using fun _ h1 h2 => this ⟨h1, h2⟩)]
  · simp [hi]

/-- Setting bits below a field leaves the field. -/
theorem State.regField_setBits_below {mask : Nat} (h : mask < 2 ^ lo) :
    (s.setBits o mask).regField o lo w = s.regField o lo w := by
  refine Nat.eq_of_testBit_eq fun i => ?_
  rw [State.testBit_regField, State.testBit_regField, State.setBits_getReg, if_pos rfl, BitVec.getLsbD_or, BitVec.getLsbD_ofNat,
    Nat.testBit_lt_two_pow (Nat.lt_of_lt_of_le h (Nat.pow_le_pow_right (by decide) (Nat.le_add_left lo i)))]
  simp

/-- Clearing bits below a field leaves the field. -/
theorem State.regField_clearBits_below {mask : Nat} (h : mask < 2 ^ lo) :
    (s.clearBits o mask).regField o lo w = s.regField o lo w := by
  refine Nat.eq_of_testBit_eq fun i => ?_
  rw [State.testBit_regField, State.testBit_regField, State.clearBits_getReg, if_pos rfl, BitVec.getLsbD_and, BitVec.getLsbD_not,
    BitVec.getLsbD_ofNat,
    Nat.testBit_lt_two_pow (Nat.lt_of_lt_of_le h (Nat.pow_le_pow_right (by decide) (Nat.le_add_left lo i)))]
  by_cases h32 : i + lo < 32
  · simp [h32]
  · simp [BitVec.getLsbD_of_ge _ _ (Nat.le_of_not_lt h32)]

theorem State.regField_congr {t : State} (h : t.getReg o = s.getReg o) : t.regField o lo w = s.regField o lo w := by
  rw [State.regField, State.regNat, h]
  rfl

end

/-! ## An error of the plat image -/

/-- An error as PLT_ERR holds it: code, phase and section. -/
def PlatErr.stored (e : PlatErr) : Word := BitVec.ofNat 32 (e.code * 2 ^ 24 + e.phase * 2 ^ 20 + e.sec)

section
variable (s : State)

theorem State.setPlatErr_getReg (e : PlatErr) : (s.setPlatErr e).getReg Reg.PLT_ERR =
    e.stored := by
  unfold State.setPlatErr PlatErr.stored
  rw [State.setNat_getReg, if_neg (by decide), State.setNat_getReg, if_pos rfl]

/-- A refused write of an image answers the error. -/
theorem State.writeFails_err (via : Via) (code : Nat) :
    (s.writeFails via code).getReg Reg.PLT_ERR = (stateErr code).stored ∧
    (s.writeFails via code).out = s.out ++ [.mbox via 0xC030 2 5 [(stateErr code).stored.toNat, 0]] := by
  have herr := s.setPlatErr_getReg (stateErr code)
  unfold State.writeFails
  refine ⟨?_, ?_⟩
  · rw [(Foot.mboxReply ..).regs _ (by decide) (by decide), herr]
  · rw [State.mboxReply_out, State.regNat, herr, (Foot.setPlatErr ..).out rfl]

/-- A refused apply answers the error with its class, logs it, and the replat is in phase 0xB. -/
theorem State.replatFails_err (via : Via) (cls : Nat) (e : PlatErr) (hb : s.replatBusy = false) :
    (s.replatFails via cls e).getReg Reg.PLT_ERR = e.stored ∧ (s.replatFails via cls e).platPhase = 0xB ∧
    (s.replatFails via cls e).out = s.out ++ [.mbox via 0xC030 2 5 [e.stored.toNat, cls]] := by
  have herr := s.setPlatErr_getReg e
  unfold State.replatFails
  rw [hb]
  extract_lets busy u v w
  have hv : v = u.setPlatPhase 0xB := rfl
  have hverr : v.getReg Reg.PLT_ERR = e.stored := by
    rw [hv, State.setPlatPhase, State.setField_getReg, if_neg (by decide), herr]
  have hreg (o : Nat) (h : recReg o = false) (h' : o ≠ Reg.PLT_INT_STAT) : w.getReg o = v.getReg o := by
    unfold w
    rw [State.raise_getReg _ _ _ _ _ h, State.setBits_getReg, if_neg h']
  have hwerr : w.getReg Reg.PLT_ERR = e.stored := by
    rw [hreg _ (by decide) (by decide), hverr]
  refine ⟨?_, ?_, ?_⟩
  · rw [(Foot.mboxReply ..).regs _ (by decide) (by decide), hwerr]
  · unfold State.platPhase
    rw [w.regField_congr ((Foot.mboxReply ..).regs _ (by decide) (by decide)),
      v.regField_congr (hreg _ (by decide) (by decide)), hv, State.setPlatPhase]
    exact State.regField_setField _ _ (by decide)
  · rw [State.mboxReply_out, State.regNat, hwerr]
    unfold w
    rw [State.raise_out, State.setBits_out, hv, (Foot.setPlatPhase ..).out rfl, (Foot.setPlatErr ..).out rfl]

/-! ## Writing an image -/

/-- The plat state with a chunk on its way; a first one empties the inactive slot. -/
def PlatState.chunk (p : PlatState) (inB : Bool) (offset n : Nat) : PlatState :=
  let p := { p with written := offset + n }
  if offset ≠ 0 then p else if inB then { p with slotB := none } else { p with slotA := none }

/-- The state after a chunk of an image is accepted. -/
def State.replatChunk (s : State) (via : Via) (offset : Nat) (bytes : List Byte) (last : Bool) (image : Image) : State :=
  let u := (s.modPlat (·.chunk (!s.config.slotB) offset bytes.length)).clearBits Reg.PLT_STAT 0x40
  let u := u.modSvc fun v =>
    { v with writing := some { via := via, opcode := 0xC030, failed := false, image := if last then some image else none, fw := none } }
  (u.modPst fun p =>
    { p with queue := p.queue ++ chunkOps (if !s.config.slotB then 136 else 128) 8 offset (bytes.map (·.toNat)) }).ringMbox via

section
variable (via : Via) (offset : Nat) (bytes : List Byte) (last : Bool) (image : Image)

theorem State.replatChunk_plat : (s.replatChunk via offset bytes last image).plat =
    s.plat.chunk (!s.config.slotB) offset bytes.length := (Foot.ringMbox ..).plat rfl

theorem State.replatChunk_queue : (s.replatChunk via offset bytes last image).pst.queue =
    s.pst.queue ++ chunkOps (if !s.config.slotB then 136 else 128) 8 offset (bytes.map (·.toNat)) :=
  congrArg Pst.queue ((Foot.ringMbox ..).pst rfl)

theorem State.replatChunk_config : (s.replatChunk via offset bytes last image).config = s.config := by
  unfold State.config
  rw [State.replatChunk, (Foot.ringMbox ..).pst rfl]
  rfl

theorem State.replatChunk_svc : (s.replatChunk via offset bytes last image).svc = { s.svc with
    writing := some { via := via, opcode := 0xC030, failed := false, image := if last then some image else none, fw := none } } :=
  (Foot.ringMbox ..).svc rfl

theorem State.replatChunk_out : (s.replatChunk via offset bytes last image).out = s.out := (Foot.ringMbox ..).out rfl

/-- A first chunk leaves the inactive slot without an image. -/
theorem State.replatChunk_spareImage : (s.replatChunk via 0 bytes last image).spareImage = none := by
  unfold State.spareImage
  rw [State.replatChunk_config, State.replatChunk_plat]
  cases s.config.slotB <;> rfl

end

end

section
variable {s : State} {via : Via} (h : s.mboxOpen via 0xC030 = true)
include h

section
variable (hs : s.sys.state ≠ .braced)
include hs

theorem exec_replatWrite_locked (hl : s.bit Reg.PLT_CTL 0 = true) (offset : Nat) (bytes : List Byte) (last : Bool) (image : Image)
    (rsvOk : Bool) : exec (.replatWrite via offset bytes last image rsvOk) s = .next (s.writeFails via 0x56) := by
  change execReplatWrite .. = _
  refine (State.mbox_of_open h _ (.inl hs) (.inl rfl)).trans ?_
  simp only [hl, if_true]

section
variable (hl : s.bit Reg.PLT_CTL 0 = false) (hb : s.replatBusy = false) (hw : s.svc.writing = none) {offset : Nat}
  {bytes : List Byte} (last : Bool) (image : Image) (ho : offset % 8 = 0) (hne : bytes ≠ []) (hlen : bytes.length ≤ 32768)
  (h8 : bytes.length % 8 = 0)
include hl hb hw ho hne hlen h8

theorem exec_replatWrite : exec (.replatWrite via offset bytes last image true) s =
    .next (if decide (524288 < offset + bytes.length) || (offset ≠ 0 && offset ≠ s.plat.written) then s.mboxReply via 0xC030 2 7 []
      else s.replatChunk via offset bytes last image) := by
  have hn : bytes.length ≠ 0 := fun e => hne (List.length_eq_zero_iff.1 e)
  have hn' : ¬32768 < bytes.length := by omega
  change execReplatWrite .. = _
  refine (State.mbox_of_open h _ (.inl hs) (.inl rfl)).trans ?_
  simp only [hl, hb, hw, ho, hn, hn', h8, Option.isSome_none, Bool.or_self, Bool.false_eq_true, if_false, Bool.not_true,
    decide_false, ne_eq, not_true_eq_false, Bool.false_and]
  rfl

end

end

/-! ## Applying an image -/

/-- The image in the inactive slot is sound, and the device may apply it. -/
theorem exec_replatApply (hs : s.sys.state = .ready) (hbg : s.svc.background = none) (hl : s.bit Reg.PLT_CTL 0 = false)
    (hb : s.replatBusy = false) (hw : s.svc.writing = none) {im : Image} (hi : s.spareImage = some im)
    (hv : validateErr (s.platEnv true) im = none) (sanitizeOk raiseSvn : Bool) :
    exec (.replatApply via sanitizeOk raiseSvn true) s = .next (
      if s.replatClass (platOfImage im) = 1 then
        (s.applyLight im (if raiseSvn then some im.svn else none)).done via 0xC030 [0, 1]
      else if (s.port0.decoders ++ s.port1.decoders).any (·.committed) then
        s.replatFails via (s.replatClass (platOfImage im)) (stateErr 0x51)
      else if s.replatClass (platOfImage im) ≠ 4 && s.unreleased (platOfImage im) then
        s.replatFails via (s.replatClass (platOfImage im)) (stateErr 0x52)
      else
        let cls := if s.migFits (platOfImage im) (s.replatClass (platOfImage im)) then s.replatClass (platOfImage im) else 4
        if cls = 4 && !sanitizeOk then s.replatFails via cls (stateErr 0x53)
        else ((s.pendReplat im cls (if raiseSvn then some im.svn else none)).modSvc fun v =>
          { v with background := some { via := via, opcode := 0xC030 } }).mboxReply via 0xC030 1 0 [0, cls]) := by
  change execReplatApply .. = _
  refine (State.mbox_of_open h _ (.inr rfl) (.inr hbg)).trans ?_
  simp only [hl, hb, hw, hs, hi, hv, Option.isSome_none, Bool.or_self, Bool.false_eq_true, if_false, Bool.not_true,
    bne_self_eq_false]

end

section
variable (s : State)

/-- A light image is in force at once; the deed of it is on its way. -/
theorem State.applyLight_plat (im : Image) (svn : Option Nat) : (s.applyLight im svn).plat =
    { s.plat with active := some (platOfImage im), image := some im, lightDeed := true, raiseSvn := svn } := by
  unfold State.applyLight
  extract_lets p u v w
  have hw : w.plat = v.plat := by
    unfold w
    rw [(Foot.setPlatPhase ..).plat rfl, (Foot.queueConfig ..).plat rfl]
  exact hw

theorem State.applyLight_platPhase (im : Image) (svn : Option Nat) : (s.applyLight im svn).platPhase = 0xA := by
  unfold State.applyLight State.platPhase
  extract_lets p u v w
  rw [State.regField_setBits_below _ (by decide)]
  exact State.regField_setField _ _ (by decide)

/-- A replat that needs work pends, with its class in PLT_STAT. -/
theorem State.pendReplat_plat (im : Image) (cls : Nat) (svn : Option Nat) : (s.pendReplat im cls svn).plat =
    { s.plat with pend := some (im, cls), raiseSvn := svn } := rfl

theorem State.pendReplat_stat (im : Image) (cls : Nat) (svn : Option Nat) : (s.pendReplat im cls svn).platPhase = 9 ∧
    (s.pendReplat im cls svn).regField Reg.PLT_STAT 20 4 = cls % 16 := by
  unfold State.pendReplat State.platPhase
  extract_lets u v
  have hv (lo w : Nat) : (v.modCds (·.addWork .migrate 7 none)).regField Reg.PLT_STAT lo w = v.regField Reg.PLT_STAT lo w :=
    State.regField_congr v (State.modCds_getReg ..)
  constructor
  · rw [hv, State.regField_setBits_below _ (by decide), State.regField_setField_apart _ _ (.inl (by decide))]
    exact State.regField_setField _ _ (by decide)
  · rw [hv, State.regField_setBits_below _ (by decide)]
    exact State.regField_setField _ _ (by decide)

theorem Cds.addWork_mem (c : Cds) (k : WorkKind) (prio : Nat) (deadline : Option Nat) :
    ∃ w ∈ (c.addWork k prio deadline).work, w.kind = k := by
  unfold Cds.addWork
  split
  next h =>
    obtain ⟨w, hw, hk⟩ := List.any_eq_true.1 h
    refine ⟨_, List.mem_map.2 ⟨w, hw, rfl⟩, ?_⟩
    rw [if_pos hk]
    exact eq_of_beq hk
  next => exact ⟨_, List.mem_append_right _ (List.mem_singleton.2 rfl), rfl⟩

theorem State.pendReplat_work (im : Image) (cls : Nat) (svn : Option Nat) :
    ∃ w ∈ (s.pendReplat im cls svn).cds.work, w.kind = .migrate := Cds.addWork_mem ..

/-! ## Discarding a pending replat -/

/-- The state after a pending replat is discarded. -/
theorem State.abortReplat_pending (hp : s.platPhase = 9) (hq : s.plat.pend ≠ none) : s.abortReplat.plat.pend = none ∧
    s.abortReplat.platPhase = 0 ∧ s.abortReplat.svc.background = none ∧ (∀ w ∈ s.abortReplat.cds.work, w.kind ≠ .migrate) ∧
    s.abortReplat.plat.active = s.plat.active := by
  unfold State.abortReplat
  rw [if_pos (by simpa [hp] using Option.isSome_iff_ne_none.2 hq)]
  refine ⟨rfl, ?_, rfl, fun w hw => ?_, rfl⟩
  · change State.regField (State.clearBits ..) .. = _
    rw [State.regField_clearBits_below _ (by decide), State.regField_setField_apart _ _ (.inl (by decide))]
    exact State.regField_setField _ _ (by decide)
  · exact bne_iff_ne.1 (List.mem_filter.1 hw).2

theorem State.abortReplat_of_ne (hp : s.platPhase ≠ 9) : s.abortReplat = s := if_neg (by simp [hp])

theorem exec_replatAbort {via : Via} (h : s.mboxOpen via 0xC030 = true) (rsvOk : Bool) : exec (.replatAbort via rsvOk) s =
    .next (if rsvOk then s.abortReplat.done via 0xC030 [s.regNat Reg.PLT_ERR, 0] else s.mboxReply via 0xC030 2 8 []) := by
  change execReplatAbort .. = _
  exact State.query_of_open h _

theorem exec_pltAbort {via : Via} (h : s.reaches via = true) :
    exec (.pltAbort via) s = .next (s.abortReplat.emit (.regWriteDone via Reg.PLT_CTL)) := by
  change execPltAbort .. = _
  exact if_neg (by rw [h]; decide)

theorem exec_replatLock {via : Via} (h : s.reaches via = true) :
    exec (.replatLock via) s = .next ((s.setBits Reg.PLT_CTL 1).emit (.regWriteDone via Reg.PLT_CTL)) := by
  change execReplatLock .. = _
  exact if_neg (by rw [h]; decide)

end

/-! ## The three outcomes of an apply -/

section
variable {s : State} {via : Via} (h : s.mboxOpen via 0xC030 = true) (hs : s.sys.state = .ready) (hbg : s.svc.background = none)
  (hl : s.bit Reg.PLT_CTL 0 = false) (hb : s.replatBusy = false) (hw : s.svc.writing = none) {im : Image}
  (hi : s.spareImage = some im) (hv : validateErr (s.platEnv true) im = none) (sanitizeOk raiseSvn : Bool)
include h hs hbg hl hb hw hi hv

theorem replatApply_light_runs (hc : s.replatClass (platOfImage im) = 1) :
    Runs (.replatApply via sanitizeOk raiseSvn true) s fun t =>
      t.plat.active = some (platOfImage im) ∧ t.plat.lightDeed = true ∧ t.platPhase = 0xA ∧
      t.out = s.out ++ [.mbox via 0xC030 0 0 [0, 1]] ∧ t.cds = s.cds ∧ t.med = s.med ∧ t.sys = s.sys := by
  have hfoot := Foot.applyLight s im (if raiseSvn then some im.svn else none)
  refine ⟨_, exec_replatApply h hs hbg hl hb hw hi hv sanitizeOk raiseSvn, ?_⟩
  rw [if_pos hc]
  refine ⟨?_, ?_, ?_, ?_, ?_, ?_, ?_⟩
  · rw [(Foot.done ..).plat rfl, State.applyLight_plat]
  · rw [(Foot.done ..).plat rfl, State.applyLight_plat]
  · exact (State.regField_congr _ ((Foot.done ..).regs _ (by decide) (by decide))).trans (s.applyLight_platPhase ..)
  · rw [State.done, State.mboxReply_out, hfoot.out rfl]
  · rw [(Foot.done ..).cds rfl, hfoot.cds rfl]
  · rw [(Foot.done ..).med rfl, hfoot.med rfl]
  · rw [(Foot.done ..).sys rfl, hfoot.sys rfl]

theorem replatApply_committed_runs {d : Decoder} (hc : s.replatClass (platOfImage im) = 2)
    (hd : d ∈ s.port0.decoders ++ s.port1.decoders) (hcom : d.committed = true) :
    Runs (.replatApply via sanitizeOk raiseSvn true) s fun t =>
      t.getReg Reg.PLT_ERR = BitVec.ofNat 32 0x51800000 ∧ t.platPhase = 0xB ∧ t.plat = s.plat ∧
      t.out = s.out ++ [.mbox via 0xC030 2 5 [0x51800000, 2]] := by
  obtain ⟨herr, hphase, hout⟩ := s.replatFails_err via 2 (stateErr 0x51) hb
  refine ⟨_, exec_replatApply h hs hbg hl hb hw hi hv sanitizeOk raiseSvn, ?_⟩
  rw [hc, if_neg (by decide), if_pos (List.any_eq_true.2 ⟨d, hd, hcom⟩)]
  exact ⟨herr, hphase, (Foot.replatFails ..).plat rfl, hout⟩

theorem replatApply_pending_runs (hc : s.replatClass (platOfImage im) = 2)
    (hd : ∀ d ∈ s.port0.decoders ++ s.port1.decoders, d.committed = false) (hu : s.unreleased (platOfImage im) = false) :
    Runs (.replatApply via sanitizeOk raiseSvn true) s fun t =>
      t.plat.pend = some (im, 2) ∧ t.plat.active = s.plat.active ∧ t.platPhase = 9 ∧
      t.regField Reg.PLT_STAT 20 4 = 2 ∧ t.svc.background = some { via := via, opcode := 0xC030 } ∧
      (∃ w ∈ t.cds.work, w.kind = .migrate) ∧ t.out = s.out ++ [.mbox via 0xC030 1 0 [0, 2]] ∧ t.med = s.med := by
  have hnone : (s.port0.decoders ++ s.port1.decoders).any (·.committed) = false := by
    rw [List.any_eq_false]
    intro d hmem
    simp [hd d hmem]
  have hfits : s.migFits (platOfImage im) 2 = true := rfl
  refine ⟨_, exec_replatApply h hs hbg hl hb hw hi hv sanitizeOk raiseSvn, ?_⟩
  rw [hc, if_neg (by decide), hnone, if_neg (by decide), hu, hfits, if_neg (by decide), if_pos rfl, if_neg (by simp)]
  generalize (if raiseSvn then some im.svn else none) = svn
  have hfoot := Foot.pendReplat s im 2 svn
  obtain ⟨hphase, hcls⟩ := s.pendReplat_stat im 2 svn
  refine ⟨?_, ?_, ?_, ?_, ?_, ?_, ?_, ?_⟩
  · rw [(Foot.mboxReply ..).plat rfl, State.modSvc_plat, State.pendReplat_plat]
  · rw [(Foot.mboxReply ..).plat rfl, State.modSvc_plat, State.pendReplat_plat]
  · exact (State.regField_congr _ ((Foot.mboxReply ..).regs _ (by decide) (by decide))).trans hphase
  · exact (State.regField_congr _ ((Foot.mboxReply ..).regs _ (by decide) (by decide))).trans hcls
  · rw [(Foot.mboxReply ..).svc rfl]
    rfl
  · rw [(Foot.mboxReply ..).cds rfl]
    exact s.pendReplat_work im 2 svn
  · rw [State.mboxReply_out, State.modSvc_out, hfoot.out rfl]
  · rw [(Foot.mboxReply ..).med rfl, State.modSvc_med, hfoot.med rfl]

end

/-- Settles O44: each command's next state; the phase and the class of a replat are fields of PLT_STAT. -/
theorem replat : Obligations.Replat := by
  intro s via
  refine ⟨fun bytes last image h hs hl hb hw hne hlen h8 => ?_, fun offset bytes last image rsvOk h hs hl => ?_,
    fun offset bytes last image h hs hl hb hw ho hne hlen h8 ho' hat => ?_,
    fun im sanitizeOk raiseSvn h hs hbg hl hb hw hi hv => ⟨fun hc => ?_, fun d hc hd hcom => ?_, fun hc hd hu => ?_⟩,
    fun h hp hq => ?_, fun h => exec_replatAbort s h false, fun h hp hq => ?_, fun h hp => ?_, fun h => exec_replatLock s h⟩
  · refine ⟨s.replatChunk via 0 bytes last image, ?_, ?_, s.replatChunk_spareImage .., ?_, ?_, ?_, s.replatChunk_out ..⟩
    · rw [exec_replatWrite h hs hl hb hw last image rfl hne hlen h8, if_neg (by simp; omega)]
    · rw [State.replatChunk_plat]
      cases s.config.slotB <;> simp [PlatState.chunk]
    · rw [State.replatChunk_plat]
      cases s.config.slotB <;> rfl
    · rw [State.replatChunk_svc]
      rfl
    · rw [State.replatChunk_queue]
      exact List.take_left
  · obtain ⟨herr, hout⟩ := s.writeFails_err via 0x56
    exact ⟨_, exec_replatWrite_locked h hs hl offset bytes last image rsvOk, herr, hout, (Foot.writeFails ..).plat rfl⟩
  · rw [exec_replatWrite h hs hl hb hw last image ho hne hlen h8, if_pos (by simp [ho', hat])]
  · exact replatApply_light_runs h hs hbg hl hb hw hi hv sanitizeOk raiseSvn hc
  · exact replatApply_committed_runs h hs hbg hl hb hw hi hv sanitizeOk raiseSvn hc hd hcom
  · exact replatApply_pending_runs h hs hbg hl hb hw hi hv sanitizeOk raiseSvn hc hd hu
  · obtain ⟨hpend, hphase, hbg, hwork, hactive⟩ := s.abortReplat_pending hp hq
    refine ⟨s.abortReplat.done via 0xC030 [s.regNat Reg.PLT_ERR, 0], exec_replatAbort s h true, ?_, ?_, ?_, ?_, ?_⟩
    · rw [(Foot.done ..).plat rfl, hpend]
    · exact (State.regField_congr _ ((Foot.done ..).regs _ (by decide) (by decide))).trans hphase
    · rw [(Foot.done ..).svc rfl, hbg]
    · rw [(Foot.done ..).cds rfl]
      exact hwork
    · rw [(Foot.done ..).plat rfl, hactive]
  · obtain ⟨hpend, hphase, -, -, -⟩ := s.abortReplat_pending hp hq
    refine ⟨_, exec_pltAbort s h, hpend, hphase, ?_⟩
    rw [State.emit_out, (Foot.abortReplat s).out rfl]
  · rw [exec_pltAbort s h, s.abortReplat_of_ne hp]

end Sys2Proof.Machine
end
